-- ==== Sys2Proof/Word.lean ====
section
/-! DEFINITION. The words of the hub: bytes, 32-bit register words, and the 24-bit host address (R13).
All multi-byte fields are little-endian (R13). -/

namespace Sys2Proof

/-- One byte of a sentence, record, mailbox or memory. -/
abbrev Byte := BitVec 8

/-- One 32-bit register or message word (R13). -/
abbrev Word := BitVec 32

end Sys2Proof
end

