-- ==== Sys2Proof/Syntax.lean ====
section
/-! DEFINITION. The commands of the hub: one constructor of `Instr` per row of spec/opcode_table.json, with
the operands the outside world (the host, a pin, a port, a peer, a timer or a sampled line) brings to that step. -/

namespace Sys2Proof

/-- The register blocks of the spec; an object number (lane, source, stall, port …) picks one of several equal blocks. -/
inductive Blk where
  | host | laneRx | laneTx | parse | router | vote | stall | yard | farrierMap | time | pulse | cap
  | pixel | pixelCue | encLane | encGlobal | encGroup | meas | measCh | measLin | twin | stream | eth
  | panel | power | sec
deriving DecidableEq, Repr

/-- A register: its block, the number of the block, and the byte offset in the block. -/
structure RegAddr where
  blk : Blk
  inst : Nat
  off : Nat
deriving DecidableEq, Repr

/-- The transport a mailbox message came by (R467, R475); a session carries its number. -/
inductive Transport where
  | spi
  | session (n : Nat)
  | sideband
deriving DecidableEq, Repr

/-- A mailbox request as firmware takes it from its queue: the header fields of R468 and the body.
The opcode is the row's own, LENGTH is the body's length. -/
structure Req where
  mbox : Nat
  via : Transport
  tag : BitVec 16
  fence : Bool
  quiet : Bool
  genCheck : Bool
  cfgGen : Word
  body : List Byte
deriving DecidableEq, Repr

/-- An input edge as the time unit sees it: how many ticks ago the latest tick at or before it was, and the LBC cycle 0 to 7
within 20 ns (R289). -/
structure EdgeAt where
  ago : Nat
  m : Nat
deriving DecidableEq, Repr

/-- What the receiver samples of one character (R62): the data bits (LSB first), the parity sample, the stop
sample, and the last falling edge before the stop sample (R66). -/
structure CharSample where
  data : Byte
  parity : Bool
  stop : Bool
  edge : EdgeAt
deriving DecidableEq, Repr

/-- What an HDX lane samples of its own echo (R103). -/
structure Echo where
  started : Bool
  data : Byte
  parity : Bool
  stop : Bool
deriving DecidableEq, Repr

/-- A judge's vote word (R192). -/
structure VoteWord where
  digest : Word
  bad : Bool
  miss : Bool
  entry : Nat
  forward : Bool
  cls : Nat
  group : Nat
  hookKind : Nat
  hookTarget : Nat
deriving DecidableEq, Repr

/-- A transient fault on a sentence's work (R148, R191): none, a completion check, a word of the tables read during
classification, or a judge replica's check. -/
inductive Transient where
  | none
  | check
  | table (word : Nat)
  | judge (j : Nat)
deriving DecidableEq, Repr

/-- A fault met while a copy is written (R148): none, a completion failure, or a pointer mismatch with the bits of R235. -/
inductive CopyFault where
  | none
  | check
  | mismatch (bits : BitVec 4)
deriving DecidableEq, Repr

/-- One access of a yard port (R249, R255): a read or a write of 1 to 8 bytes. -/
inductive YardOp where
  | read (len : Nat)
  | write (bytes : List Byte)
deriving DecidableEq, Repr

/-- One request of a port at a bank in one step. -/
structure YardReq where
  port : Nat
  addr : Nat
  op : YardOp
deriving DecidableEq, Repr

/-- What has come about in the yard since the access before: symbol errors as (word, symbol, difference), the P7 turns that the
groom's pass in progress has taken (R264), and what its MARCH found if it ended in them (R267). -/
structure YardSince where
  flips : List (Nat × Nat × Byte)
  groom : Nat := 0
  march : List Nat := []
deriving DecidableEq, Repr

/-- A stall that a reader command reaches, and the bits of R235 in which the copies of its pointers have come to differ (R216). -/
structure StallAt where
  q : Nat
  mis : BitVec 4
deriving DecidableEq, Repr

/-- One beat of the stream port (R432): 16 bytes as four words, and whether a code or disparity error was seen. -/
structure Beat where
  w0 : Word
  w1 : Word
  w2 : Word
  w3 : Word
  err : Bool
deriving DecidableEq, Repr

/-- The averaged samples of one calibration pass (R378): at point A and, for internal mode, at point B. -/
structure CalPass where
  a : List Int
  b : List Int
deriving DecidableEq, Repr

/-- An entry of an INTENT message (R397). -/
structure IntentEntry where
  role : Nat
  item : Nat
  source : Nat
  key : Nat
  value : Nat
deriving DecidableEq, Repr

/-- An entry of a TXC report (R397). -/
structure TxcEntry where
  listener : Nat
  cls : Nat
  source : Nat
  seqn : Nat
deriving DecidableEq, Repr

/-- A heartbeat's payload (R395). -/
structure Heartbeat where
  role : Bool
  owns : Bool
  alive : Bool
  qualified : Bool
  unit : Nat
  gen : Nat
  cfgGen : Word
deriving DecidableEq, Repr

/-- A PTP message, as far as R298 to R300 look at it: its TLVs as (type, value), what an Announce says of its sender, and
how many 0.8 ns bits ago its first symbol came (R299). -/
structure PtpMsg where
  version : Nat
  domain : Nat
  kind : Nat
  profile : Nat
  transport : Nat
  tlvs : List (Nat × List Byte)
  identity : Nat
  rank : Nat
  ago : Nat
deriving DecidableEq, Repr

/-- The straps and pins latched at the release of PORST_N (R551, R565, R276). -/
structure Straps where
  role : Bool
  tamper : BitVec 3
  bypass : Bool
  vaonRose : Bool
deriving DecidableEq, Repr

/-- The commands. Every constructor is one row of the table; its docstring-free name is the row's mnemonic. -/
inductive Instr where
  -- host port (R456 to R486)
  | spiWrite (addr : BitVec 24) (words : List Word) (commit : Nat) (ovf : List Nat)
  | spiQwrite (addr : BitVec 24) (words : List Word) (commit : Nat) (ovf : List Nat)
  | spiRead (addr : BitVec 24) (count : Nat) (late : List Nat)
  | spiQread (addr : BitVec 24) (count : Nat) (late : List Nat)
  | badInstr (code : Byte)
  | registerWrite (r : RegAddr) (v : Word)
  | w1cWrite (r : RegAddr) (v : Word) (latched : Word)
  | doorbell (ring : Byte)
  | mboRel (rel : Byte)
  | swReset (key : Byte)
  | fwRestart (key : Byte)
  | mailboxAck (k : Nat)
  | commandBegin (k : Nat)
  | spillRecordWrite
  | sessionDatagram (port : Nat) (bytes : List Byte)
  | sidebandPacket (mbox : Nat) (beats : Nat) (msg : List Byte) (whole : Bool)
  | eventFire (e : Nat)
  | eventRecordWrite (e : Nat)
  | warmRestart (cause : Nat)
  | warmRestartEnd (due : List Nat)
  | watchdogExpiry
  -- mailbox commands (R494 to R513)
  | nop (r : Req)
  | identGet (r : Req)
  | echo (r : Req)
  | imageWrite (r : Req)
  | imageCommit (r : Req)
  | overlayWrite (r : Req)
  | overlaySeal (r : Req)
  | modeSet (r : Req)
  | emergencySet (r : Req)
  | streamSet (r : Req)
  | streamStatusGet (r : Req)
  | ethSet (r : Req)
  | ethStatusGet (r : Req)
  | laneModeSet (r : Req)
  | laneRxSet (r : Req)
  | laneTxSet (r : Req)
  | laneStatusGet (r : Req)
  | laneCntClr (r : Req)
  | laneEvenSet (r : Req)
  | laneRearm (r : Req)
  | lanePaddockSet (r : Req)
  | laneRoleMove (r : Req)
  | routerSentenceSend (r : Req)
  | routerEntryWrite (r : Req)
  | routerActionWrite (r : Req)
  | routerGroupWrite (r : Req)
  | routerCommit (r : Req)
  | routerEligibleSet (r : Req)
  | routerBind (r : Req)
  | routerRead (r : Req)
  | routerStatusGet (r : Req)
  | routerHitsGet (r : Req)
  | parseSet (r : Req)
  | parseStatusGet (r : Req)
  | voteJudgeOut (r : Req)
  | voteJudgeIn (r : Req)
  | voteCfgSet (r : Req)
  | voteStatusGet (r : Req)
  | stallConfig (r : Req)
  | stallReset (r : Req)
  | stallStatusGet (r : Req)
  | timePtpCfg (r : Req)
  | timeStatusGet (r : Req)
  | timeRefSet (r : Req)
  | timeStep (r : Req)
  | timeFrameSet (r : Req)
  | timePulseArm (r : Req)
  | timePulseDisarm (r : Req)
  | timeCapCfg (r : Req)
  | pixelSegmentWrite (r : Req)
  | pixelProfileWrite (r : Req)
  | pixelZoneWrite (r : Req)
  | pixelSourceWrite (r : Req)
  | pixelCfgSet (r : Req)
  | pixelCurveWrite (r : Req)
  | pixelCommit (r : Req)
  | pixelLevelSet (r : Req)
  | pixelZoneInput (r : Req)
  | pixelEncSet (r : Req)
  | pixelGroupSet (r : Req)
  | pixelStatusGet (r : Req)
  | measChSet (r : Req)
  | measRead (r : Req)
  | measTableSet (r : Req)
  | measCalStart (r : Req)
  | measCalAbort (r : Req)
  | measCoefSet (r : Req)
  | measParamSet (r : Req)
  | twinStatusGet (r : Req)
  | twinCfgSet (r : Req)
  | twinSwap (r : Req)
  | twinClearFault (r : Req)
  | sessionOpen (r : Req)
  | sessionClose (r : Req)
  | keyEnroll (r : Req)
  | lifeSet (r : Req)
  | tamperLogGet (r : Req)
  | yardStatusGet (r : Req)
  | groomSet (r : Req)
  | farrierMapGet (r : Req)
  | judgeTest (r : Req) (failStep : Nat)
  | bypassSet (r : Req)
  | countersClear (r : Req)
  | shedSet (r : Req)
  | powerStatusGet (r : Req)
  -- register writes with an effect of their own
  | laneRxCntClr (lane : Nat)
  | rearm (lane : Nat)
  | laneTxCntClr (lane : Nat)
  | parseCntClr (src : Nat)
  | seqClr (src : Nat)
  | routerCntClr
  | voteCntClr
  | yardCntClr
  | snap
  | pixelCntClr
  | encCntClr (lane : Nat)
  | measCntClr
  | strCntClr
  | ethCntClr (port : Nat)
  | keep
  | claim
  | release
  | laneModeWrite (lane : Nat) (mode : Nat)
  | laneRxBaudWrite (lane : Nat) (v : Word)
  | laneTxBaudWrite (lane : Nat) (v : Word)
  | addendWrite (v : Word)
  | groomEnWrite (en : Bool)
  -- stall reader commands (R232)
  | stallNext (q : Nat) (mis : BitVec 4)
  | stallMark (c : StallAt)
  | stallRewind (c : StallAt)
  | stallRelease (q : Nat) (mis : BitVec 4)
  | stallDrop (c : StallAt)
  | stallRun (c : StallAt)
  | stallTest (c : StallAt)
  | stallCntClr (c : StallAt)
  | stallNextRelease (c : StallAt)
  -- lane receivers (R60 to R83)
  | startBit (lane : Nat) (level : Bool) (edge : EdgeAt)
  | laneCharacter (lane : Nat) (smp : CharSample) (wave : List Nat)
  | breakEnd (lane : Nat)
  | lineStuckLow (lane : Nat)
  | laneArm (lane : Nat)
  | talkerSilent (lane : Nat)
  | fragment (lane : Nat)
  | laneModeBoundary (lane : Nat)
  -- lane transmitters (R93 to R112)
  | listenerGrant (listener : Nat)
  | hdxTurnReady (lane : Nat)
  | txLeadEnd (lane : Nat)
  | txCharacterEnd (lane : Nat) (echo : Echo)
  | deTailEnd (lane : Nat)
  | backoffEnd (lane : Nat)
  | echoGuardEnd (lane : Nat)
  | dmxBreak (lane : Nat)
  | dmxRxBreak (lane : Nat) (low : Nat) (mab : Nat) (edge : EdgeAt)
  | dmxRxPacketEnd (lane : Nat)
  | senseEdge (lane : Nat) (rising : Bool) (cycles : Nat) (edge : EdgeAt)
  | senseOvf (lane : Nat)
  | noSignal (lane : Nat)
  -- parser, router, voter, stalls (R124 to R247)
  | parserByte (src : Nat)
  | sentenceClose (src : Nat) (fault : Transient)
  | classify (fault : Transient)
  | enqueueCopy (src : Nat) (fault : CopyFault)
  | stallRecordWrite (q : Nat) (kind : Nat) (src : Nat) (seqn : Nat) (body : List Byte) (mis : BitVec 4)
  | creditRequest (q : Nat) (n : Nat)
  | creditHandback (q : Nat) (n : Nat)
  | stallResetRun (q : Nat)
  | routerSwap
  | routerCopybackDone
  | vote (upset : List (Nat × VoteWord))
  | judgeInComplete
  | overrideApply (lane : Nat) (atBoundary : Bool)
  -- yard (R248 to R284)
  | yardAccess (reqs : List YardReq) (since : YardSince)
  | groomPassStart
  | groomPassEnd (march : List Nat) (verify : List Nat)
  | farrierRemap (bank : Nat) (row : Nat) (cause : Nat)
  | farrierPersist
  | tackAccess (secure : Bool) (addr : Nat) (op : YardOp) (flips : List (Nat × Byte))
  -- time unit (R285 to R317)
  | frameTick
  | pulseEdge (n : Nat)
  | timeCapEdge (n : Nat) (rising : Bool) (edge : EdgeAt)
  | ptpMessage (port : Nat) (msg : PtpMsg)
  | ptpTransmit (kind : Nat)
  | servoMeasurement (offset : Int) (rate : Int)
  | lockLost
  | refclkReturn
  -- pixel pipeline and lamp outputs (R318 to R371)
  | streamCommit
  | seedDone
  | laneFrameStart (lane : Nat) (ready : Bool)
  | segmentBoundary (lane : Nat)
  | underrun (lane : Nat)
  | lampBitsEnd (lane : Nat) (late : Bool)
  | latchWordStart (lane : Nat)
  | frameLatched (lane : Nat)
  | pwmPeriodStart (lane : Nat)
  | pwmActiveEnd (lane : Nat)
  -- measurement (R372 to R388)
  | measSample (ch : Nat) (raw : Int) (spare : Int)
  | calSpareCheckDone (ch : Nat) (p1 : CalPass) (p2 : CalPass)
  | calSwitch (ch : Nat)
  | calPassEnd (ch : Nat) (p : CalPass)
  | calGapEnd (ch : Nat)
  | calReturn (ch : Nat)
  | measCoefPersist
  -- stream port and Ethernet (R432 to R455)
  | streamLinkUp
  | streamLinkDown (errors : Nat)
  | streamSof (b : Beat)
  | streamSol (b : Beat)
  | streamDataBeat (b : Beat)
  | streamEol (b : Beat)
  | streamEof (b : Beat)
  | creditReturn
  | ethLinkChange (port : Nat) (up : Bool) (speedOk : Bool)
  | ethFrameReceived (port : Nat) (bytes : List Byte) (ago : Nat)
  | e131SourceTimeout (univ : Nat)
  | e131SyncTimeout (sync : Nat)
  | ethTxFrameEnd (port : Nat) (otherWaits : Bool)
  -- twin (R389 to R431)
  | heartbeatSend
  | tetherFrameReceived (header : Word) (payload : List Word) (crc : Word) (clean : Bool)
  | heartbeatReceived (hb : Heartbeat)
  | peerLost
  | keepAliveLapse
  | holdInChange (level : Bool)
  | claimWindowEnd
  | replayEnd
  | intentWindowEnd
  | intentReceived (last : Bool) (part : Nat) (window : Nat) (items : List IntentEntry)
  | compareWaitExpiry (window : Nat) (line : List (Option Nat))
  | yieldReceived (verdict : Nat) (role : Nat)
  | txcReport
  | txcReceived (final : Bool) (more : Bool) (tickN : Nat) (items : List TxcEntry)
  | snapshotCopy
  | snapshotChunkReceived (gen : Nat) (index : Nat) (data : List Byte)
  | snapshotCommitReceived (gen : Nat) (count : Nat) (crc : Word) (markN : Nat) (len : Nat)
  | handoverMessageReceived (stepNo : Nat) (revert : Bool) (reason : Nat) (cfgGen : Word)
  | handoverDrained
  | handoverLane (lane : Nat)
  | twinSwapTimeout
  | autoRevert
  | cfgCheckSend
  | cfgCheckReceived (issue : Nat) (cfgGen : Word) (imageId : Word) (modeState : Nat)
  | faultReceived (code : Nat) (role : Nat) (windows : Nat)
  | modeReqReceived (slot : Nat) (req : Nat)
  | resyncReceived
  -- power, reset, security, panel, modes (R514 to R575)
  | porstN (straps : Straps)
  | firmwareStart
  | baseImageLoad
  | romRecovery (r : Req) (opcode : Nat)
  | recoveryReset
  | brownout (rail : Nat)
  | railFault (rail : Nat)
  | railRestored (rail : Nat)
  | economy (millivolts : Nat)
  | shedRaiseDone (shed : Nat)
  | shedFault (shed : Nat)
  | tamperDetect (cause : Nat)
  | tamperClear (cause : Nat)
  | serviceExpiry
  | retireReset
  | bypassPin (level : Bool)
  | bypassHandback (pair : Nat)
  | modeSwitch
  | scheduleFire (n : Nat)
  | keyDebounce (key : Nat) (level : Bool)
  | keyAction (key : Nat)
  | keyStuck (key : Nat)
  | encoderTransition (enc : Nat) (ab : BitVec 2)
  | pixelCopybackDone
  | leadCollision (lane : Nat)
  | brownoutEnd
  | tetherAlignment (aligned : Bool)
  | spareValidExpiry (spare : Nat)
  | secondaryStartupClaim
deriving DecidableEq, Repr

end Sys2Proof
end

