-- ==== Sys2Proof/Machine/Regs.lean ====
section
/-! DEFINITION. The register fields of the spec, one constant each, as its register tables give them: block, byte
offset, lowest bit, width, access code (R15) and Reset value (R17). `fieldsOf` lists the fields of a block; the words
software reads, the bits a write may reach (R15, R16) and the words after reset are computed from these lists. A field
repeated at even spacing (EVT_EN, GROOM_PROT, the panel encoders, the linearisation table) is named once and shifted
with `Field.at`. -/

namespace Sys2Proof.Machine

/-- The access codes of R15 (a reserved field has no constant: it reads 0 and ignores writes). -/
inductive Acc where
  | ro
  | rw
  | wo
  | w1c
deriving DecidableEq, Repr

/-- A register field: R15 to R17. -/
structure Field where
  blk : Blk
  off : Nat
  lo : Nat
  width : Nat
  acc : Acc
  reset : Nat
deriving DecidableEq, Repr

/-- The same field `n` bytes further on, for a field the spec repeats. -/
def Field.at (f : Field) (n : Nat) : Field := { f with off := f.off + n }

/-- The mask of a field within its word. -/
def Field.mask (f : Field) : Nat := (2 ^ f.width - 1) * 2 ^ f.lo

namespace F

-- laneRx: spec/03_lane_receiver.md
/-- R85 -/ def rx_DATA7 : Field := ⟨.laneRx, 0x0, 0, 1, .rw, 0⟩
/-- R85 -/ def rx_PARITY : Field := ⟨.laneRx, 0x0, 1, 2, .rw, 0⟩
/-- R85 -/ def rx_FE_TOLERATE : Field := ⟨.laneRx, 0x0, 3, 1, .rw, 0⟩
/-- R85 -/ def rx_AB_EN : Field := ⟨.laneRx, 0x0, 4, 1, .rw, 0⟩
/-- R85 -/ def rx_CNT_CLR : Field := ⟨.laneRx, 0x0, 5, 1, .wo, 0⟩
/-- R85 -/ def rx_REARM : Field := ⟨.laneRx, 0x0, 6, 1, .wo, 0⟩
/-- R86 -/ def rx_DIV_FRAC : Field := ⟨.laneRx, 0x4, 0, 8, .rw, 85⟩
/-- R86 -/ def rx_DIV_INT : Field := ⟨.laneRx, 0x4, 8, 24, .rw, 5208⟩
/-- R87 -/ def rx_PROG_KEY : Field := ⟨.laneRx, 0x8, 0, 8, .rw, 0⟩
/-- R87 -/ def rx_PROG_LOW : Field := ⟨.laneRx, 0x8, 8, 4, .rw, 0⟩
/-- R87 -/ def rx_PROG_HIGH : Field := ⟨.laneRx, 0x8, 12, 4, .rw, 0⟩
/-- R87 -/ def rx_KEY_DOLLAR : Field := ⟨.laneRx, 0x8, 16, 1, .rw, 1⟩
/-- R87 -/ def rx_KEY_BANG : Field := ⟨.laneRx, 0x8, 17, 1, .rw, 0⟩
/-- R87 -/ def rx_KEY_PCT : Field := ⟨.laneRx, 0x8, 18, 1, .rw, 0⟩
/-- R87 -/ def rx_KEY_PROG : Field := ⟨.laneRx, 0x8, 19, 1, .rw, 0⟩
/-- R87 -/ def rx_LOCKED : Field := ⟨.laneRx, 0x8, 20, 1, .ro, 0⟩
/-- R87 -/ def rx_LOCKED_KEY : Field := ⟨.laneRx, 0x8, 21, 3, .ro, 0⟩
/-- R88 -/ def rx_STUCK_TO : Field := ⟨.laneRx, 0xc, 0, 16, .rw, 100⟩
/-- R88 -/ def rx_REARM_HIGH : Field := ⟨.laneRx, 0xc, 16, 16, .rw, 100⟩
/-- R88 -/ def rx_SILENT_TO : Field := ⟨.laneRx, 0x10, 0, 16, .rw, 2000⟩
/-- R88 -/ def rx_ICT : Field := ⟨.laneRx, 0x10, 16, 16, .rw, 200⟩
/-- R89 -/ def rx_LINE : Field := ⟨.laneRx, 0x14, 0, 1, .ro, 0⟩
/-- R89 -/ def rx_OPEN : Field := ⟨.laneRx, 0x14, 1, 1, .ro, 0⟩
/-- R89 -/ def rx_STUCK : Field := ⟨.laneRx, 0x14, 2, 1, .ro, 0⟩
/-- R89 -/ def rx_SILENT : Field := ⟨.laneRx, 0x14, 3, 1, .ro, 0⟩
/-- R89 -/ def rx_HOLD_FULL : Field := ⟨.laneRx, 0x14, 4, 1, .ro, 0⟩
/-- R89 -/ def rx_STATE : Field := ⟨.laneRx, 0x14, 5, 3, .ro, 0⟩
/-- R90 -/ def rx_FLAGS : Field := ⟨.laneRx, 0x18, 0, 12, .w1c, 0⟩
/-- R90 -/ def rx_EVEN : Field := ⟨.laneRx, 0x1c, 0, 12, .rw, 976⟩
/-- R91 -/ def rx_LEVEL : Field := ⟨.laneRx, 0x20, 0, 12, .ro, 0⟩
/-- R91 -/ def rx_PEAK : Field := ⟨.laneRx, 0x20, 16, 12, .ro, 0⟩
/-- R92 -/ def rx_CHARS : Field := ⟨.laneRx, 0x24, 0, 32, .ro, 0⟩
/-- R92 -/ def rx_N_FALSE_START : Field := ⟨.laneRx, 0x28, 0, 32, .ro, 0⟩
/-- R92 -/ def rx_N_FRAMING : Field := ⟨.laneRx, 0x2c, 0, 32, .ro, 0⟩
/-- R92 -/ def rx_N_PARITY : Field := ⟨.laneRx, 0x30, 0, 32, .ro, 0⟩
/-- R92 -/ def rx_N_BREAK : Field := ⟨.laneRx, 0x34, 0, 32, .ro, 0⟩
/-- R92 -/ def rx_N_OVERRUN : Field := ⟨.laneRx, 0x38, 0, 32, .ro, 0⟩
/-- R92 -/ def rx_N_FRAGMENT : Field := ⟨.laneRx, 0x3c, 0, 32, .ro, 0⟩
/-- R92 -/ def rx_N_AB_REJECT : Field := ⟨.laneRx, 0x40, 0, 32, .ro, 0⟩
/-- R91 -/ def rx_STUCK_CNT : Field := ⟨.laneRx, 0x44, 0, 16, .ro, 0⟩
/-- R91 -/ def rx_SILENT_CNT : Field := ⟨.laneRx, 0x44, 16, 16, .ro, 0⟩

-- laneTx: spec/04_lane_transmitter.md
/-- R117 -/ def tx_MODE : Field := ⟨.laneTx, 0x0, 0, 4, .rw, 0⟩
/-- R117 -/ def tx_ACTIVE : Field := ⟨.laneTx, 0x0, 4, 4, .ro, 0⟩
/-- R117 -/ def tx_PENDING : Field := ⟨.laneTx, 0x0, 8, 1, .ro, 0⟩
/-- R117 -/ def tx_PADDOCK : Field := ⟨.laneTx, 0x0, 9, 1, .ro, 0⟩
/-- R117 -/ def tx_ROLE : Field := ⟨.laneTx, 0x0, 10, 7, .ro, 0⟩
/-- R118 -/ def tx_DATA7 : Field := ⟨.laneTx, 0x4, 0, 1, .rw, 0⟩
/-- R118 -/ def tx_PARITY : Field := ⟨.laneTx, 0x4, 1, 2, .rw, 0⟩
/-- R118 -/ def tx_STOP2 : Field := ⟨.laneTx, 0x4, 3, 1, .rw, 0⟩
/-- R118 -/ def tx_ECHO_CHECK : Field := ⟨.laneTx, 0x4, 4, 1, .rw, 0⟩
/-- R118 -/ def tx_DRAIN : Field := ⟨.laneTx, 0x4, 5, 1, .rw, 0⟩
/-- R118 -/ def tx_ICG : Field := ⟨.laneTx, 0x4, 6, 8, .rw, 0⟩
/-- R118 -/ def tx_RETRY : Field := ⟨.laneTx, 0x4, 14, 3, .rw, 3⟩
/-- R118 -/ def tx_CNT_CLR : Field := ⟨.laneTx, 0x4, 17, 1, .wo, 0⟩
/-- R96 -/ def tx_DIV_FRAC : Field := ⟨.laneTx, 0x8, 0, 8, .rw, 85⟩
/-- R96 -/ def tx_DIV_INT : Field := ⟨.laneTx, 0x8, 8, 24, .rw, 5208⟩
/-- R119 -/ def tx_LEAD : Field := ⟨.laneTx, 0xc, 0, 12, .rw, 16⟩
/-- R119 -/ def tx_TAIL : Field := ⟨.laneTx, 0xc, 16, 12, .rw, 16⟩
/-- R119 -/ def tx_TURN : Field := ⟨.laneTx, 0x10, 0, 8, .rw, 2⟩
/-- R119 -/ def tx_ECHO_GUARD : Field := ⟨.laneTx, 0x10, 8, 12, .rw, 16⟩
/-- R119 -/ def tx_BACKOFF : Field := ⟨.laneTx, 0x10, 20, 12, .rw, 64⟩
/-- R120 -/ def tx_DMX_BREAK : Field := ⟨.laneTx, 0x14, 0, 16, .rw, 176⟩
/-- R120 -/ def tx_DMX_MAB : Field := ⟨.laneTx, 0x14, 16, 8, .rw, 16⟩
/-- R120 -/ def tx_DMX_ISG : Field := ⟨.laneTx, 0x14, 24, 8, .rw, 0⟩
/-- R120 -/ def tx_DMX_MBB : Field := ⟨.laneTx, 0x18, 0, 16, .rw, 0⟩
/-- R120 -/ def tx_DMX_SLOTS : Field := ⟨.laneTx, 0x18, 16, 10, .rw, 512⟩
/-- R120 -/ def tx_DMX_SYNC_TICK : Field := ⟨.laneTx, 0x18, 26, 1, .rw, 0⟩
/-- R120 -/ def tx_BREAK_MIN : Field := ⟨.laneTx, 0x1c, 0, 8, .rw, 88⟩
/-- R120 -/ def tx_MAB_MIN : Field := ⟨.laneTx, 0x1c, 8, 8, .rw, 8⟩
/-- R120 -/ def tx_OUT : Field := ⟨.laneTx, 0x1c, 16, 2, .rw, 1⟩
/-- R120 -/ def tx_CHANGE_ONLY : Field := ⟨.laneTx, 0x1c, 18, 1, .rw, 0⟩
/-- R120 -/ def tx_NULL_ONLY : Field := ⟨.laneTx, 0x1c, 19, 1, .rw, 0⟩
/-- R121 -/ def tx_CAPT_EDGE : Field := ⟨.laneTx, 0x20, 0, 2, .rw, 0⟩
/-- R121 -/ def tx_MEAS_EN : Field := ⟨.laneTx, 0x20, 2, 1, .rw, 0⟩
/-- R121 -/ def tx_GATE : Field := ⟨.laneTx, 0x20, 3, 16, .rw, 16⟩
/-- R121 -/ def tx_CAPT_STALL : Field := ⟨.laneTx, 0x20, 19, 8, .rw, 0⟩
/-- R121 -/ def tx_PERIOD_SUM : Field := ⟨.laneTx, 0x24, 0, 32, .ro, 0⟩
/-- R121 -/ def tx_HIGH_SUM : Field := ⟨.laneTx, 0x28, 0, 32, .ro, 0⟩
/-- R121 -/ def tx_GATES : Field := ⟨.laneTx, 0x2c, 0, 32, .ro, 0⟩
/-- R122 -/ def tx_FLAGS : Field := ⟨.laneTx, 0x30, 0, 10, .w1c, 0⟩
/-- R122 -/ def tx_EVEN : Field := ⟨.laneTx, 0x34, 0, 10, .rw, 834⟩
/-- R123 -/ def tx_SENT : Field := ⟨.laneTx, 0x38, 0, 32, .ro, 0⟩
/-- R123 -/ def tx_N_COLLISION : Field := ⟨.laneTx, 0x3c, 0, 32, .ro, 0⟩
/-- R123 -/ def tx_N_TX_DROP : Field := ⟨.laneTx, 0x40, 0, 32, .ro, 0⟩
/-- R123 -/ def tx_N_TX_ABORT : Field := ⟨.laneTx, 0x44, 0, 32, .ro, 0⟩
/-- R123 -/ def tx_DMX_PKTS : Field := ⟨.laneTx, 0x48, 0, 32, .ro, 0⟩
/-- R123 -/ def tx_N_DMX_SHORT : Field := ⟨.laneTx, 0x4c, 0, 32, .ro, 0⟩
/-- R123 -/ def tx_N_DMX_UPD_ERR : Field := ⟨.laneTx, 0x50, 0, 32, .ro, 0⟩
/-- R123 -/ def tx_EDGES : Field := ⟨.laneTx, 0x54, 0, 32, .ro, 0⟩

-- parse: spec/05_sentences.md
/-- R153 -/ def parse_NMEA_EN : Field := ⟨.parse, 0x0, 0, 1, .rw, 1⟩
/-- R153 -/ def parse_LONG_EN : Field := ⟨.parse, 0x0, 1, 1, .rw, 1⟩
/-- R153 -/ def parse_CK_OPTIONAL : Field := ⟨.parse, 0x0, 2, 1, .rw, 0⟩
/-- R153 -/ def parse_HEX_LOWER : Field := ⟨.parse, 0x0, 3, 1, .rw, 1⟩
/-- R153 -/ def parse_CNT_CLR : Field := ⟨.parse, 0x0, 4, 1, .wo, 0⟩
/-- R153 -/ def parse_SEQ_CLR : Field := ⟨.parse, 0x0, 5, 1, .wo, 0⟩
/-- R153 -/ def parse_SOURCE : Field := ⟨.parse, 0x4, 0, 16, .ro, 0⟩
/-- R153 -/ def parse_NEXT : Field := ⟨.parse, 0x8, 0, 32, .ro, 0⟩
/-- R153 -/ def parse_RERUN : Field := ⟨.parse, 0xc, 0, 16, .ro, 0⟩
/-- R153 -/ def parse_RERUN_FAIL : Field := ⟨.parse, 0xc, 16, 16, .ro, 0⟩
/-- R154 -/ def parse_ACCEPTED : Field := ⟨.parse, 0x10, 0, 32, .ro, 0⟩
/-- R154 -/ def parse_RUNT : Field := ⟨.parse, 0x14, 0, 32, .ro, 0⟩
/-- R154 -/ def parse_OVERLONG : Field := ⟨.parse, 0x18, 0, 32, .ro, 0⟩
/-- R154 -/ def parse_BAD_CHECK : Field := ⟨.parse, 0x1c, 0, 32, .ro, 0⟩
/-- R154 -/ def parse_MALFORMED : Field := ⟨.parse, 0x20, 0, 32, .ro, 0⟩
/-- R154 -/ def parse_RESTART : Field := ⟨.parse, 0x24, 0, 32, .ro, 0⟩
/-- R154 -/ def parse_STRAY : Field := ⟨.parse, 0x28, 0, 32, .ro, 0⟩
/-- R154 -/ def parse_DAMAGED : Field := ⟨.parse, 0x2c, 0, 32, .ro, 0⟩
/-- R154 -/ def parse_DMG_STUCK : Field := ⟨.parse, 0x30, 0, 16, .ro, 0⟩
/-- R154 -/ def parse_DMG_BREAK : Field := ⟨.parse, 0x30, 16, 16, .ro, 0⟩
/-- R154 -/ def parse_DMG_OVERRUN : Field := ⟨.parse, 0x34, 0, 16, .ro, 0⟩
/-- R154 -/ def parse_DMG_FLAG : Field := ⟨.parse, 0x34, 16, 16, .ro, 0⟩
/-- R154 -/ def parse_DMG_ICT : Field := ⟨.parse, 0x38, 0, 16, .ro, 0⟩
/-- R154 -/ def parse_DMG_MODE : Field := ⟨.parse, 0x38, 16, 16, .ro, 0⟩

-- router: spec/06_router.md
/-- R185 -/ def router_CNT_CLR : Field := ⟨.router, 0x0, 0, 1, .wo, 0⟩
/-- R185 -/ def router_ACTIVE : Field := ⟨.router, 0x4, 0, 1, .ro, 0⟩
/-- R185 -/ def router_COPYBACK : Field := ⟨.router, 0x4, 1, 1, .ro, 0⟩
/-- R185 -/ def router_ELIGIBLE : Field := ⟨.router, 0x4, 8, 6, .ro, 0⟩
/-- R186 -/ def router_FLAGS : Field := ⟨.router, 0x8, 0, 8, .w1c, 0⟩
/-- R186 -/ def router_EVEN : Field := ⟨.router, 0xc, 0, 8, .rw, 242⟩
/-- R187 -/ def router_CLASSIFIED : Field := ⟨.router, 0x10, 0, 32, .ro, 0⟩
/-- R187 -/ def router_MISS : Field := ⟨.router, 0x14, 0, 32, .ro, 0⟩
/-- R187 -/ def router_DROPPED : Field := ⟨.router, 0x18, 0, 32, .ro, 0⟩
/-- R187 -/ def router_BAD_DROPPED : Field := ⟨.router, 0x1c, 0, 32, .ro, 0⟩
/-- R187 -/ def router_CLASS0_REFUSED : Field := ⟨.router, 0x20, 0, 32, .ro, 0⟩
/-- R187 -/ def router_DECIMATED : Field := ⟨.router, 0x24, 0, 32, .ro, 0⟩
/-- R187 -/ def router_RATE_DROP : Field := ⟨.router, 0x28, 0, 32, .ro, 0⟩
/-- R187 -/ def router_EMPTY_GROUP : Field := ⟨.router, 0x2c, 0, 32, .ro, 0⟩
/-- R187 -/ def router_COPIES : Field := ⟨.router, 0x30, 0, 32, .ro, 0⟩
/-- R187 -/ def router_COPY_ABANDONED : Field := ⟨.router, 0x34, 0, 32, .ro, 0⟩
/-- R187 -/ def router_HOOKS : Field := ⟨.router, 0x38, 0, 32, .ro, 0⟩
/-- R187 -/ def router_HOOK_ERR : Field := ⟨.router, 0x3c, 0, 32, .ro, 0⟩
/-- R187 -/ def router_SWAPS : Field := ⟨.router, 0x40, 0, 32, .ro, 0⟩

-- vote: spec/07_voting.md
/-- R206 -/ def vote_SUSPECT_N : Field := ⟨.vote, 0x0, 0, 4, .rw, 4⟩
/-- R206 -/ def vote_AUTO_OUT : Field := ⟨.vote, 0x0, 4, 1, .rw, 0⟩
/-- R206 -/ def vote_EGRESS_LATCH : Field := ⟨.vote, 0x0, 5, 1, .rw, 1⟩
/-- R206 -/ def vote_OVR_EN : Field := ⟨.vote, 0x0, 6, 4, .rw, 15⟩
/-- R206 -/ def vote_CNT_CLR : Field := ⟨.vote, 0x0, 10, 1, .wo, 0⟩
/-- R206 -/ def vote_IN : Field := ⟨.vote, 0x4, 0, 3, .ro, 7⟩
/-- R206 -/ def vote_OUT_JUDGE : Field := ⟨.vote, 0x4, 3, 2, .ro, 3⟩
/-- R206 -/ def vote_DEGRADED : Field := ⟨.vote, 0x4, 5, 1, .ro, 0⟩
/-- R206 -/ def vote_PENDING_IN : Field := ⟨.vote, 0x4, 6, 1, .ro, 0⟩
/-- R206 -/ def vote_SUSPECT : Field := ⟨.vote, 0x4, 7, 3, .ro, 0⟩
/-- R208 -/ def vote_FLAGS : Field := ⟨.vote, 0x8, 0, 8, .w1c, 0⟩
/-- R208 -/ def vote_EVEN : Field := ⟨.vote, 0xc, 0, 8, .rw, 254⟩
/-- R209 -/ def vote_VOTED : Field := ⟨.vote, 0x10, 0, 32, .ro, 0⟩
/-- R209 -/ def vote_COPIES0 : Field := ⟨.vote, 0x14, 0, 32, .ro, 0⟩
/-- R209 -/ def vote_DISSENTS : Field := ⟨.vote, 0x18, 0, 32, .ro, 0⟩
/-- R209 -/ def vote_NO_MAJORITY : Field := ⟨.vote, 0x1c, 0, 32, .ro, 0⟩
/-- R209 -/ def vote_PRIMARY_MISMATCH : Field := ⟨.vote, 0x20, 0, 32, .ro, 0⟩
/-- R209 -/ def vote_OVERRIDES : Field := ⟨.vote, 0x24, 0, 32, .ro, 0⟩
/-- R209 -/ def vote_OVR_ERR : Field := ⟨.vote, 0x28, 0, 32, .ro, 0⟩
/-- R209 -/ def vote_DEGRADED_VOTES : Field := ⟨.vote, 0x2c, 0, 32, .ro, 0⟩
/-- R206 -/ def vote_SCORE_0 : Field := ⟨.vote, 0x30, 0, 4, .ro, 0⟩
/-- R206 -/ def vote_SCORE_1 : Field := ⟨.vote, 0x30, 4, 4, .ro, 0⟩
/-- R206 -/ def vote_SCORE_2 : Field := ⟨.vote, 0x30, 8, 4, .ro, 0⟩
/-- R207 -/ def vote_TYPE0_LO : Field := ⟨.vote, 0x40, 0, 32, .rw, 0x46524745⟩
/-- R207 -/ def vote_TYPE0_HI : Field := ⟨.vote, 0x44, 0, 32, .rw, 0x4c4c55⟩
/-- R207 -/ def vote_TYPE1_LO : Field := ⟨.vote, 0x48, 0, 32, .rw, 0x43414c42⟩
/-- R207 -/ def vote_TYPE1_HI : Field := ⟨.vote, 0x4c, 0, 32, .rw, 0x54554f4b⟩
/-- R207 -/ def vote_TYPE2_LO : Field := ⟨.vote, 0x50, 0, 32, .rw, 0x444c4f48⟩
/-- R207 -/ def vote_TYPE2_HI : Field := ⟨.vote, 0x54, 0, 32, .rw, 0⟩
/-- R207 -/ def vote_TYPE3_LO : Field := ⟨.vote, 0x58, 0, 32, .rw, 0x454c4552⟩
/-- R207 -/ def vote_TYPE3_HI : Field := ⟨.vote, 0x5c, 0, 32, .rw, 0x455341⟩

-- stall: spec/08_stalls.md
/-- R241 -/ def stall_SIZE_LOG2 : Field := ⟨.stall, 0x0, 0, 5, .ro, 0⟩
/-- R241 -/ def stall_MODE : Field := ⟨.stall, 0x0, 5, 1, .ro, 0⟩
/-- R241 -/ def stall_READER : Field := ⟨.stall, 0x0, 6, 3, .ro, 0⟩
/-- R241 -/ def stall_WM : Field := ⟨.stall, 0x0, 10, 22, .ro, 0⟩
/-- R242 -/ def stall_EMPTY : Field := ⟨.stall, 0x4, 0, 1, .ro, 1⟩
/-- R242 -/ def stall_FULL : Field := ⟨.stall, 0x4, 1, 1, .ro, 0⟩
/-- R242 -/ def stall_WM_LIVE : Field := ⟨.stall, 0x4, 2, 1, .ro, 0⟩
/-- R242 -/ def stall_STATE : Field := ⟨.stall, 0x4, 3, 3, .ro, 0⟩
/-- R242 -/ def stall_OVTK : Field := ⟨.stall, 0x4, 8, 8, .ro, 0⟩
/-- R242 -/ def stall_UNREAD : Field := ⟨.stall, 0x4, 16, 16, .ro, 0⟩
/-- R242 -/ def stall_LEVEL : Field := ⟨.stall, 0x8, 0, 22, .ro, 0⟩
/-- R243 -/ def stall_WR : Field := ⟨.stall, 0xc, 0, 22, .ro, 0⟩
/-- R243 -/ def stall_REL : Field := ⟨.stall, 0x10, 0, 22, .ro, 0⟩
/-- R243 -/ def stall_RD : Field := ⟨.stall, 0x14, 0, 22, .ro, 0⟩
/-- R243 -/ def stall_MARK : Field := ⟨.stall, 0x18, 0, 22, .ro, 0⟩
/-- R244 -/ def stall_OFFS : Field := ⟨.stall, 0x1c, 3, 18, .rw, 0⟩
/-- R244 -/ def stall_CMD : Field := ⟨.stall, 0x20, 0, 4, .wo, 0⟩
/-- R246 -/ def stall_FLAGS : Field := ⟨.stall, 0x24, 0, 9, .w1c, 0⟩
/-- R246 -/ def stall_EVEN : Field := ⟨.stall, 0x28, 0, 9, .rw, 242⟩
/-- R247 -/ def stall_LOST : Field := ⟨.stall, 0x2c, 0, 32, .ro, 0⟩
/-- R247 -/ def stall_RESETS : Field := ⟨.stall, 0x30, 0, 16, .ro, 0⟩
/-- R247 -/ def stall_WM_CROSS : Field := ⟨.stall, 0x30, 16, 16, .ro, 0⟩
/-- R247 -/ def stall_GRANTED : Field := ⟨.stall, 0x34, 0, 22, .ro, 0⟩
/-- R247 -/ def stall_RECORDS : Field := ⟨.stall, 0x38, 0, 32, .ro, 0⟩

-- yard: spec/09_yard.md
/-- R279 -/ def yard_CE_REPEAT : Field := ⟨.yard, 0x0, 0, 4, .rw, 3⟩
/-- R279 -/ def yard_CNT_CLR : Field := ⟨.yard, 0x0, 4, 1, .wo, 0⟩
/-- R280 -/ def yard_FLAGS : Field := ⟨.yard, 0x4, 0, 7, .w1c, 0⟩
/-- R280 -/ def yard_EVEN : Field := ⟨.yard, 0x8, 0, 7, .rw, 94⟩
/-- R279 -/ def yard_DUE_ADDR : Field := ⟨.yard, 0xc, 3, 22, .ro, 0⟩
/-- R279 -/ def yard_DUE_PORT : Field := ⟨.yard, 0xc, 25, 3, .ro, 0⟩
/-- R279 -/ def yard_DUE_VALID : Field := ⟨.yard, 0xc, 31, 1, .ro, 0⟩
/-- R279 -/ def yard_CE_ADDR : Field := ⟨.yard, 0x10, 3, 22, .ro, 0⟩
/-- R279 -/ def yard_CE_PORT : Field := ⟨.yard, 0x10, 25, 3, .ro, 0⟩
/-- R279 -/ def yard_CE_VALID : Field := ⟨.yard, 0x10, 31, 1, .ro, 0⟩
/-- R281 -/ def yard_N_CE : Field := ⟨.yard, 0x14, 0, 32, .ro, 0⟩
/-- R281 -/ def yard_N_DUE : Field := ⟨.yard, 0x18, 0, 32, .ro, 0⟩
/-- R281 -/ def yard_N_WRITE_LOST : Field := ⟨.yard, 0x1c, 0, 32, .ro, 0⟩
/-- R281 -/ def yard_N_RANGE : Field := ⟨.yard, 0x20, 0, 32, .ro, 0⟩
/-- R281 -/ def yard_N_TACK_CE : Field := ⟨.yard, 0x24, 0, 32, .ro, 0⟩
/-- R282 -/ def yard_GROOM_EN : Field := ⟨.yard, 0x30, 0, 1, .rw, 0⟩
/-- R282 -/ def yard_VOID_MAX : Field := ⟨.yard, 0x30, 1, 3, .rw, 4⟩
/-- R282 -/ def yard_PACE : Field := ⟨.yard, 0x30, 16, 16, .rw, 100⟩
/-- R282 -/ def yard_REGION : Field := ⟨.yard, 0x34, 0, 16, .ro, 0⟩
/-- R282 -/ def yard_PHASE : Field := ⟨.yard, 0x34, 16, 3, .ro, 0⟩
/-- R282 -/ def yard_WRITTEN : Field := ⟨.yard, 0x34, 19, 1, .ro, 0⟩
/-- R280 -/ def yard_GROOM_FLAGS : Field := ⟨.yard, 0x38, 0, 4, .w1c, 0⟩
/-- R280 -/ def yard_GROOM_EVEN : Field := ⟨.yard, 0x3c, 0, 4, .rw, 13⟩
/-- R282 -/ def yard_FAILS : Field := ⟨.yard, 0x40, 0, 16, .ro, 0⟩
/-- R282 -/ def yard_VOIDS : Field := ⟨.yard, 0x40, 16, 16, .ro, 0⟩
/-- R282 -/ def yard_SWEEPS : Field := ⟨.yard, 0x44, 0, 32, .ro, 0⟩
/-- R282 -/ def yard_PROT_BASE : Field := ⟨.yard, 0x48, 9, 16, .rw, 0⟩
/-- R282 -/ def yard_PROT_LIMIT : Field := ⟨.yard, 0x4c, 9, 16, .rw, 0⟩
/-- R283 -/ def yard_FREE_MIN : Field := ⟨.yard, 0x68, 0, 7, .ro, 64⟩
/-- R283 -/ def yard_BANK_MIN : Field := ⟨.yard, 0x68, 7, 4, .ro, 0⟩
/-- R283 -/ def yard_FULL : Field := ⟨.yard, 0x68, 11, 1, .ro, 0⟩
/-- R283 -/ def yard_DIRTY : Field := ⟨.yard, 0x68, 12, 1, .ro, 0⟩

-- farrierMap: spec/09_yard.md
/-- R283 -/ def map_ROW : Field := ⟨.farrierMap, 0x0, 0, 18, .rw, 0⟩
/-- R283 -/ def map_VALID : Field := ⟨.farrierMap, 0x0, 18, 1, .rw, 0⟩
/-- R283 -/ def map_POISON : Field := ⟨.farrierMap, 0x0, 19, 1, .ro, 0⟩
/-- R283 -/ def map_CAUSE : Field := ⟨.farrierMap, 0x0, 20, 2, .rw, 0⟩
/-- R283 -/ def map_RETIRED : Field := ⟨.farrierMap, 0x0, 22, 1, .ro, 0⟩

-- time: spec/10_time.md
/-- R311 -/ def time_SNAP : Field := ⟨.time, 0x0, 0, 1, .wo, 0⟩
/-- R311 -/ def time_REF : Field := ⟨.time, 0x0, 1, 2, .rw, 0⟩
/-- R311 -/ def time_PTP_PORT : Field := ⟨.time, 0x0, 3, 1, .rw, 0⟩
/-- R311 -/ def time_ROLE : Field := ⟨.time, 0x0, 4, 2, .rw, 0⟩
/-- R311 -/ def time_PTP_EN : Field := ⟨.time, 0x0, 6, 1, .rw, 0⟩
/-- R311 -/ def time_PPS_PIN : Field := ⟨.time, 0x0, 7, 3, .rw, 0⟩
/-- R311 -/ def time_PPS_NEXT : Field := ⟨.time, 0x0, 10, 1, .rw, 0⟩
/-- R312 -/ def time_SERVO : Field := ⟨.time, 0x4, 0, 3, .rw, 0⟩
/-- R312 -/ def time_TS_STATE : Field := ⟨.time, 0x4, 3, 2, .ro, 2⟩
/-- R312 -/ def time_EVER_LOCKED : Field := ⟨.time, 0x4, 5, 1, .ro, 0⟩
/-- R312 -/ def time_AT_LIMIT : Field := ⟨.time, 0x4, 6, 1, .ro, 0⟩
/-- R312 -/ def time_STEPS : Field := ⟨.time, 0x4, 16, 16, .ro, 0⟩
/-- R312 -/ def time_ADJ : Field := ⟨.time, 0x8, 0, 32, .rw, 0⟩
/-- R315 -/ def time_FLAGS : Field := ⟨.time, 0xc, 0, 8, .w1c, 0⟩
/-- R315 -/ def time_EVEN : Field := ⟨.time, 0x10, 0, 8, .rw, 95⟩
/-- R312 -/ def time_SNAP_NS : Field := ⟨.time, 0x14, 0, 30, .ro, 0⟩
/-- R312 -/ def time_SNAP_SEC_LO : Field := ⟨.time, 0x18, 0, 32, .ro, 0⟩
/-- R312 -/ def time_SNAP_SEC_HI : Field := ⟨.time, 0x1c, 0, 16, .ro, 0⟩
/-- R312 -/ def time_SNAP_FRAC : Field := ⟨.time, 0x20, 0, 32, .ro, 0⟩
/-- R314 -/ def time_NUM : Field := ⟨.time, 0x24, 0, 20, .rw, 60⟩
/-- R314 -/ def time_DEN : Field := ⟨.time, 0x28, 0, 16, .rw, 1⟩
/-- R314 -/ def time_FRAME_PHASE : Field := ⟨.time, 0x2c, 0, 32, .rw, 0⟩
/-- R314 -/ def time_FRAME_N : Field := ⟨.time, 0x30, 0, 32, .ro, 0⟩
/-- R313 -/ def time_STEP_TH : Field := ⟨.time, 0x34, 0, 16, .rw, 1000⟩
/-- R313 -/ def time_LOCK_TH : Field := ⟨.time, 0x34, 16, 16, .rw, 1000⟩
/-- R313 -/ def time_JUMP_TH : Field := ⟨.time, 0x38, 0, 16, .rw, 10⟩
/-- R313 -/ def time_SYNC_LOSS : Field := ⟨.time, 0x38, 16, 8, .rw, 8⟩

-- pulse: spec/10_time.md
/-- R316 -/ def pulse_ARMED : Field := ⟨.pulse, 0x0, 0, 1, .ro, 0⟩
/-- R316 -/ def pulse_POLARITY : Field := ⟨.pulse, 0x0, 1, 1, .rw, 0⟩
/-- R316 -/ def pulse_FRAME : Field := ⟨.pulse, 0x0, 2, 1, .rw, 0⟩
/-- R316 -/ def pulse_DIVIDE : Field := ⟨.pulse, 0x0, 4, 8, .rw, 1⟩
/-- R316 -/ def pulse_START_NS : Field := ⟨.pulse, 0x4, 0, 30, .rw, 0⟩
/-- R316 -/ def pulse_START_SEC_LO : Field := ⟨.pulse, 0x8, 0, 32, .rw, 0⟩
/-- R316 -/ def pulse_START_SEC_HI : Field := ⟨.pulse, 0xc, 0, 16, .rw, 0⟩
/-- R316 -/ def pulse_PERIOD : Field := ⟨.pulse, 0x10, 0, 32, .rw, 0⟩
/-- R316 -/ def pulse_WIDTH : Field := ⟨.pulse, 0x14, 0, 32, .rw, 0⟩
/-- R316 -/ def pulse_COUNT : Field := ⟨.pulse, 0x18, 0, 32, .rw, 0⟩
/-- R316 -/ def pulse_PINFLAGS : Field := ⟨.pulse, 0x1c, 0, 4, .w1c, 0⟩
/-- R316 -/ def pulse_PINEN : Field := ⟨.pulse, 0x1c, 8, 4, .rw, 7⟩

-- cap: spec/10_time.md
/-- R317 -/ def cap_EDGE : Field := ⟨.cap, 0x0, 0, 2, .rw, 0⟩
/-- R317 -/ def cap_STALL : Field := ⟨.cap, 0x0, 2, 8, .rw, 0⟩
/-- R317 -/ def cap_LAST_NS : Field := ⟨.cap, 0x4, 0, 30, .ro, 0⟩
/-- R317 -/ def cap_LAST_SEC_LO : Field := ⟨.cap, 0x8, 0, 32, .ro, 0⟩
/-- R317 -/ def cap_LAST_SEC_HI : Field := ⟨.cap, 0xc, 0, 16, .ro, 0⟩
/-- R317 -/ def cap_LAST_SUB : Field := ⟨.cap, 0xc, 16, 4, .ro, 0⟩
/-- R317 -/ def cap_LAST_POL : Field := ⟨.cap, 0xc, 20, 1, .ro, 0⟩
/-- R317 -/ def cap_VALID : Field := ⟨.cap, 0xc, 21, 1, .ro, 0⟩

-- pixel: spec/11_pixel_pipeline.md
/-- R348 -/ def pixel_RUN : Field := ⟨.pixel, 0x0, 0, 1, .rw, 0⟩
/-- R348 -/ def pixel_SRC : Field := ⟨.pixel, 0x0, 1, 1, .rw, 0⟩
/-- R348 -/ def pixel_CNT_CLR : Field := ⟨.pixel, 0x0, 2, 1, .wo, 0⟩
/-- R348 -/ def pixel_ACTIVE : Field := ⟨.pixel, 0x4, 0, 1, .ro, 0⟩
/-- R348 -/ def pixel_COPYBACK : Field := ⟨.pixel, 0x4, 1, 1, .ro, 0⟩
/-- R348 -/ def pixel_COMMIT_PENDING : Field := ⟨.pixel, 0x4, 2, 1, .ro, 0⟩
/-- R348 -/ def pixel_SHOW : Field := ⟨.pixel, 0x4, 3, 2, .ro, 3⟩
/-- R348 -/ def pixel_READY : Field := ⟨.pixel, 0x4, 5, 2, .ro, 3⟩
/-- R348 -/ def pixel_FILL : Field := ⟨.pixel, 0x4, 7, 2, .ro, 0⟩
/-- R348 -/ def pixel_SEEDING : Field := ⟨.pixel, 0x4, 9, 1, .ro, 0⟩
/-- R349 -/ def pixel_FLAGS : Field := ⟨.pixel, 0x8, 0, 8, .w1c, 0⟩
/-- R349 -/ def pixel_EVEN : Field := ⟨.pixel, 0xc, 0, 8, .rw, 92⟩
/-- R350 -/ def pixel_SHOWN : Field := ⟨.pixel, 0x10, 0, 32, .ro, 0⟩
/-- R350 -/ def pixel_REPEATS : Field := ⟨.pixel, 0x14, 0, 32, .ro, 0⟩
/-- R350 -/ def pixel_SKIPPED : Field := ⟨.pixel, 0x18, 0, 32, .ro, 0⟩
/-- R350 -/ def pixel_COMMITS : Field := ⟨.pixel, 0x1c, 0, 32, .ro, 0⟩
/-- R350 -/ def pixel_DUE_PIXELS : Field := ⟨.pixel, 0x20, 0, 32, .ro, 0⟩
/-- R350 -/ def pixel_DUE_SEGMENTS : Field := ⟨.pixel, 0x24, 0, 32, .ro, 0⟩
/-- R350 -/ def pixel_N_SRC_IGNORED : Field := ⟨.pixel, 0x28, 0, 32, .ro, 0⟩
/-- R350 -/ def pixel_SEED_WAITS : Field := ⟨.pixel, 0x2c, 0, 32, .ro, 0⟩
/-- R348 -/ def pixel_MASTER : Field := ⟨.pixel, 0x30, 0, 16, .ro, 65535⟩

-- pixelCue: spec/11_pixel_pipeline.md
/-- R348 -/ def cue_C_LO : Field := ⟨.pixelCue, 0x0, 0, 16, .ro, 65535⟩
/-- R348 -/ def cue_C_HI : Field := ⟨.pixelCue, 0x0, 16, 16, .ro, 65535⟩

-- encLane: spec/12_lamp_output.md
/-- R367 -/ def enc_POL : Field := ⟨.encLane, 0x0, 0, 1, .rw, 0⟩
/-- R367 -/ def enc_LATCH_MODE : Field := ⟨.encLane, 0x0, 1, 1, .rw, 0⟩
/-- R367 -/ def enc_PAUSE : Field := ⟨.encLane, 0x0, 2, 1, .rw, 0⟩
/-- R367 -/ def enc_GROUP : Field := ⟨.encLane, 0x0, 3, 6, .rw, 0⟩
/-- R367 -/ def enc_SLOT : Field := ⟨.encLane, 0x0, 9, 7, .rw, 0⟩
/-- R367 -/ def enc_OVR_MASK : Field := ⟨.encLane, 0x0, 16, 15, .rw, 0⟩
/-- R367 -/ def enc_CNT_CLR : Field := ⟨.encLane, 0x0, 31, 1, .wo, 0⟩
/-- R367 -/ def enc_T0H : Field := ⟨.encLane, 0x4, 0, 12, .rw, 120⟩
/-- R367 -/ def enc_T1H : Field := ⟨.encLane, 0x4, 16, 12, .rw, 240⟩
/-- R367 -/ def enc_TBIT : Field := ⟨.encLane, 0x8, 0, 12, .rw, 500⟩
/-- R367 -/ def enc_RESET : Field := ⟨.encLane, 0x8, 16, 12, .rw, 300⟩
/-- R368 -/ def enc_CLK_DIV : Field := ⟨.encLane, 0xc, 0, 8, .rw, 20⟩
/-- R368 -/ def enc_HDR_LEN : Field := ⟨.encLane, 0xc, 8, 6, .rw, 0⟩
/-- R368 -/ def enc_PREFIX_LEN : Field := ⟨.encLane, 0xc, 16, 4, .rw, 0⟩
/-- R368 -/ def enc_PREFIX_BITS : Field := ⟨.encLane, 0xc, 20, 8, .rw, 0⟩
/-- R368 -/ def enc_HDR : Field := ⟨.encLane, 0x10, 0, 32, .rw, 0⟩
/-- R368 -/ def enc_LATCH_LEN : Field := ⟨.encLane, 0x14, 0, 7, .rw, 0⟩
/-- R368 -/ def enc_LATCH_ONES : Field := ⟨.encLane, 0x14, 7, 1, .rw, 0⟩
/-- R368 -/ def enc_LATCH_IDLE : Field := ⟨.encLane, 0x14, 8, 8, .rw, 1⟩
/-- R368 -/ def enc_LATCH_AT : Field := ⟨.encLane, 0x14, 16, 16, .rw, 0⟩
/-- R369 -/ def enc_PERIOD : Field := ⟨.encLane, 0x18, 0, 24, .rw, 0x61a80⟩
/-- R369 -/ def enc_EGRESS_VAL : Field := ⟨.encLane, 0x1c, 0, 16, .rw, 65535⟩
/-- R369 -/ def enc_OVR : Field := ⟨.encLane, 0x20, 0, 2, .ro, 0⟩
/-- R369 -/ def enc_SENDING : Field := ⟨.encLane, 0x20, 2, 1, .ro, 0⟩
/-- R369 -/ def enc_PAUSED : Field := ⟨.encLane, 0x20, 3, 1, .ro, 0⟩
/-- R370 -/ def enc_FRAMES : Field := ⟨.encLane, 0x24, 0, 32, .ro, 0⟩
/-- R370 -/ def enc_N_START_LATE : Field := ⟨.encLane, 0x28, 0, 32, .ro, 0⟩
/-- R370 -/ def enc_N_UNDERRUN : Field := ⟨.encLane, 0x2c, 0, 32, .ro, 0⟩
/-- R370 -/ def enc_N_LATCH_MISS : Field := ⟨.encLane, 0x30, 0, 32, .ro, 0⟩
/-- R370 -/ def enc_N_FRAME_SKIP : Field := ⟨.encLane, 0x34, 0, 32, .ro, 0⟩

-- encGlobal: spec/12_lamp_output.md
/-- R371 -/ def encg_START_DELAY : Field := ⟨.encGlobal, 0x0, 0, 16, .rw, 4000⟩
/-- R371 -/ def encg_FLAGS : Field := ⟨.encGlobal, 0x4, 0, 4, .w1c, 0⟩
/-- R371 -/ def encg_EVEN : Field := ⟨.encGlobal, 0x8, 0, 4, .rw, 14⟩

-- encGroup: spec/12_lamp_output.md
/-- R371 -/ def grp_SIZE : Field := ⟨.encGroup, 0x0, 0, 7, .rw, 1⟩

-- meas: spec/13_measurement.md
/-- R386 -/ def meas_CNT_CLR : Field := ⟨.meas, 0x0, 0, 1, .wo, 0⟩
/-- R386 -/ def meas_CAL_AVG : Field := ⟨.meas, 0x0, 1, 8, .rw, 64⟩
/-- R386 -/ def meas_OVERLAP : Field := ⟨.meas, 0x0, 9, 7, .rw, 8⟩
/-- R386 -/ def meas_SLEW_MS : Field := ⟨.meas, 0x0, 16, 16, .rw, 1000⟩
/-- R388 -/ def meas_FLAGS : Field := ⟨.meas, 0x4, 0, 7, .w1c, 0⟩
/-- R388 -/ def meas_EVEN : Field := ⟨.meas, 0x8, 0, 7, .rw, 61⟩
/-- R386 -/ def meas_OFFS_TOL : Field := ⟨.meas, 0xc, 0, 8, .rw, 8⟩
/-- R386 -/ def meas_GAIN_TOL : Field := ⟨.meas, 0xc, 8, 8, .rw, 5⟩
/-- R386 -/ def meas_SPREAD_MAX : Field := ⟨.meas, 0xc, 16, 16, .rw, 64⟩
/-- R386 -/ def meas_PLAUS_OFFS : Field := ⟨.meas, 0x10, 0, 16, .rw, 1024⟩
/-- R386 -/ def meas_PLAUS_GAIN : Field := ⟨.meas, 0x10, 16, 16, .rw, 1311⟩
/-- R386 -/ def meas_CAL_GAP : Field := ⟨.meas, 0x14, 0, 16, .rw, 100⟩
/-- R386 -/ def meas_PLAUS_STEP : Field := ⟨.meas, 0x14, 16, 16, .rw, 256⟩
/-- R386 -/ def meas_HANDOVER_TOL : Field := ⟨.meas, 0x18, 0, 16, .rw, 16⟩
/-- R386 -/ def meas_SPARE_VALID : Field := ⟨.meas, 0x18, 16, 16, .rw, 600⟩
/-- R386 -/ def meas_CH_MS0 : Field := ⟨.meas, 0x1c, 0, 5, .ro, 31⟩
/-- R386 -/ def meas_ST_MS0 : Field := ⟨.meas, 0x1c, 5, 3, .ro, 0⟩
/-- R386 -/ def meas_VALID_MS0 : Field := ⟨.meas, 0x1c, 8, 1, .ro, 0⟩
/-- R386 -/ def meas_CH_MS1 : Field := ⟨.meas, 0x1c, 16, 5, .ro, 31⟩
/-- R386 -/ def meas_ST_MS1 : Field := ⟨.meas, 0x1c, 21, 3, .ro, 0⟩
/-- R386 -/ def meas_VALID_MS1 : Field := ⟨.meas, 0x1c, 24, 1, .ro, 0⟩
/-- R386 -/ def meas_CAL_LOG_LOST : Field := ⟨.meas, 0x20, 0, 16, .ro, 0⟩

-- measCh: spec/13_measurement.md
/-- R387 -/ def ch_KIND : Field := ⟨.measCh, 0x0, 0, 3, .rw, 0⟩
/-- R387 -/ def ch_RATE : Field := ⟨.measCh, 0x0, 3, 3, .rw, 0⟩
/-- R387 -/ def ch_LIN_EN : Field := ⟨.measCh, 0x0, 6, 1, .rw, 0⟩
/-- R387 -/ def ch_PRIVILEGED : Field := ⟨.measCh, 0x0, 7, 1, .rw, 0⟩
/-- R387 -/ def ch_LIM_COUNT : Field := ⟨.measCh, 0x0, 8, 4, .rw, 0⟩
/-- R387 -/ def ch_OFFSET : Field := ⟨.measCh, 0x4, 0, 16, .rw, 0⟩
/-- R387 -/ def ch_GAIN : Field := ⟨.measCh, 0x4, 16, 16, .rw, 32768⟩
/-- R387 -/ def ch_T_OFFSET : Field := ⟨.measCh, 0x8, 0, 16, .ro, 0⟩
/-- R387 -/ def ch_T_GAIN : Field := ⟨.measCh, 0x8, 16, 16, .ro, 32768⟩
/-- R387 -/ def ch_LIM_LO : Field := ⟨.measCh, 0xc, 0, 16, .rw, 0⟩
/-- R387 -/ def ch_LIM_HI : Field := ⟨.measCh, 0xc, 16, 16, .rw, 65535⟩
/-- R387 -/ def ch_VALUE : Field := ⟨.measCh, 0x10, 0, 16, .ro, 0⟩
/-- R387 -/ def ch_FROM_SPARE : Field := ⟨.measCh, 0x10, 16, 1, .ro, 0⟩
/-- R387 -/ def ch_OVER : Field := ⟨.measCh, 0x10, 17, 1, .ro, 0⟩
/-- R387 -/ def ch_SAMPLE_N : Field := ⟨.measCh, 0x10, 18, 14, .ro, 0⟩
/-- R387 -/ def ch_STATE : Field := ⟨.measCh, 0x14, 0, 3, .ro, 0⟩
/-- R387 -/ def ch_LIM_ACTIVE : Field := ⟨.measCh, 0x14, 3, 1, .ro, 0⟩
/-- R387 -/ def ch_OVERRANGE : Field := ⟨.measCh, 0x18, 0, 16, .ro, 0⟩
/-- R387 -/ def ch_LIMIT : Field := ⟨.measCh, 0x18, 16, 16, .ro, 0⟩

-- measLin: spec/13_measurement.md
/-- R385 -/ def lin_L_EVEN : Field := ⟨.measLin, 0x0, 0, 16, .rw, 0⟩
/-- R385 -/ def lin_L_ODD : Field := ⟨.measLin, 0x0, 16, 16, .rw, 0⟩

-- twin: spec/14_twin.md
/-- R427 -/ def twin_OWN : Field := ⟨.twin, 0x0, 0, 1, .ro, 0⟩
/-- R427 -/ def twin_HOLD_OUT : Field := ⟨.twin, 0x0, 1, 1, .ro, 0⟩
/-- R427 -/ def twin_HOLD_IN : Field := ⟨.twin, 0x0, 2, 1, .ro, 0⟩
/-- R427 -/ def twin_ROLE : Field := ⟨.twin, 0x0, 3, 1, .ro, 0⟩
/-- R427 -/ def twin_ILK_STATE : Field := ⟨.twin, 0x0, 4, 3, .ro, 0⟩
/-- R427 -/ def twin_KEEP : Field := ⟨.twin, 0x0, 7, 1, .wo, 0⟩
/-- R427 -/ def twin_CLAIM : Field := ⟨.twin, 0x0, 8, 1, .wo, 0⟩
/-- R427 -/ def twin_RELEASE : Field := ⟨.twin, 0x0, 9, 1, .wo, 0⟩
/-- R427 -/ def twin_KEEP_TO : Field := ⟨.twin, 0x4, 0, 16, .rw, 100⟩
/-- R427 -/ def twin_TAKE_UNQUAL : Field := ⟨.twin, 0x4, 16, 1, .rw, 1⟩
/-- R427 -/ def twin_PAIRED : Field := ⟨.twin, 0x4, 17, 1, .rw, 0⟩
/-- R428 -/ def twin_HB_TIMEOUT : Field := ⟨.twin, 0x8, 0, 16, .rw, 2000⟩
/-- R428 -/ def twin_CONFIRM : Field := ⟨.twin, 0x8, 16, 4, .rw, 3⟩
/-- R428 -/ def twin_AUTO_REVERT : Field := ⟨.twin, 0x8, 20, 1, .rw, 1⟩
/-- R428 -/ def twin_SNAP_MS : Field := ⟨.twin, 0x8, 21, 11, .rw, 100⟩
/-- R428 -/ def twin_MATCH_TOL : Field := ⟨.twin, 0xc, 0, 12, .rw, 250⟩
/-- R428 -/ def twin_PWM_TOL : Field := ⟨.twin, 0xc, 12, 4, .rw, 4⟩
/-- R428 -/ def twin_REVERT_S : Field := ⟨.twin, 0xc, 16, 8, .rw, 10⟩
/-- R428 -/ def twin_COMPARE_WAIT : Field := ⟨.twin, 0xc, 24, 8, .rw, 5⟩
/-- R429 -/ def twin_UNIT : Field := ⟨.twin, 0x10, 0, 3, .ro, 0⟩
/-- R429 -/ def twin_TETHER_UP : Field := ⟨.twin, 0x10, 3, 1, .ro, 0⟩
/-- R429 -/ def twin_PEER_ALIVE : Field := ⟨.twin, 0x10, 4, 1, .ro, 0⟩
/-- R429 -/ def twin_PEER_OWNS : Field := ⟨.twin, 0x10, 5, 1, .ro, 0⟩
/-- R429 -/ def twin_SHORT : Field := ⟨.twin, 0x10, 6, 1, .ro, 0⟩
/-- R429 -/ def twin_QUAL_TIME : Field := ⟨.twin, 0x10, 16, 8, .ro, 0⟩
/-- R429 -/ def twin_GEN : Field := ⟨.twin, 0x14, 0, 32, .ro, 0⟩
/-- R430 -/ def twin_FLAGS : Field := ⟨.twin, 0x18, 0, 8, .w1c, 0⟩
/-- R430 -/ def twin_EVEN : Field := ⟨.twin, 0x1c, 0, 8, .rw, 255⟩
/-- R431 -/ def twin_TAKEOVERS : Field := ⟨.twin, 0x20, 0, 32, .ro, 0⟩
/-- R431 -/ def twin_CLAIM_FAILS : Field := ⟨.twin, 0x24, 0, 32, .ro, 0⟩
/-- R431 -/ def twin_V_DRIVERS : Field := ⟨.twin, 0x28, 0, 32, .ro, 0⟩
/-- R431 -/ def twin_V_ACTIVE : Field := ⟨.twin, 0x2c, 0, 32, .ro, 0⟩
/-- R431 -/ def twin_V_STANDBY : Field := ⟨.twin, 0x30, 0, 32, .ro, 0⟩
/-- R431 -/ def twin_V_UNDECIDED : Field := ⟨.twin, 0x34, 0, 32, .ro, 0⟩
/-- R431 -/ def twin_SNAP_DISCARDED : Field := ⟨.twin, 0x38, 0, 32, .ro, 0⟩
/-- R431 -/ def twin_DUP_SENT : Field := ⟨.twin, 0x3c, 0, 32, .ro, 0⟩
/-- R431 -/ def twin_TETHER_ERR : Field := ⟨.twin, 0x40, 0, 32, .ro, 0⟩

-- stream: spec/15_stream_and_network.md
/-- R454 -/ def str_EN : Field := ⟨.stream, 0x0, 0, 1, .rw, 0⟩
/-- R454 -/ def str_CNT_CLR : Field := ⟨.stream, 0x0, 1, 1, .wo, 0⟩
/-- R454 -/ def str_SB_EN : Field := ⟨.stream, 0x0, 2, 1, .rw, 0⟩
/-- R454 -/ def str_LINKED : Field := ⟨.stream, 0x4, 0, 1, .ro, 0⟩
/-- R454 -/ def str_IN_FRAME : Field := ⟨.stream, 0x4, 1, 1, .ro, 0⟩
/-- R454 -/ def str_CREDITS : Field := ⟨.stream, 0x4, 2, 5, .ro, 0⟩
/-- R454 -/ def str_LAST_ID : Field := ⟨.stream, 0x8, 0, 32, .ro, 0⟩
/-- R454 -/ def str_FLAGS : Field := ⟨.stream, 0xc, 0, 4, .w1c, 0⟩
/-- R454 -/ def str_EVEN : Field := ⟨.stream, 0x10, 0, 4, .rw, 15⟩
/-- R454 -/ def str_FRAMES : Field := ⟨.stream, 0x14, 0, 32, .ro, 0⟩
/-- R454 -/ def str_BAD_FRAMES : Field := ⟨.stream, 0x18, 0, 32, .ro, 0⟩
/-- R454 -/ def str_CODE_ERR : Field := ⟨.stream, 0x1c, 0, 32, .ro, 0⟩
/-- R454 -/ def str_N_CRD_VIOL : Field := ⟨.stream, 0x20, 0, 32, .ro, 0⟩
/-- R454 -/ def str_LINK_DOWNS : Field := ⟨.stream, 0x24, 0, 32, .ro, 0⟩
/-- R454 -/ def str_SB_MSGS : Field := ⟨.stream, 0x28, 0, 32, .ro, 0⟩
/-- R454 -/ def str_N_SB_ERR : Field := ⟨.stream, 0x2c, 0, 32, .ro, 0⟩
/-- R454 -/ def str_STRAY : Field := ⟨.stream, 0x30, 0, 32, .ro, 0⟩

-- eth: spec/15_stream_and_network.md
/-- R455 -/ def eth_EN : Field := ⟨.eth, 0x0, 0, 1, .rw, 0⟩
/-- R455 -/ def eth_CNT_CLR : Field := ⟨.eth, 0x0, 1, 1, .wo, 0⟩
/-- R455 -/ def eth_PREVIEW_IGNORE : Field := ⟨.eth, 0x0, 2, 1, .rw, 1⟩
/-- R455 -/ def eth_VID : Field := ⟨.eth, 0x0, 16, 12, .rw, 0⟩
/-- R455 -/ def eth_MAC_LO : Field := ⟨.eth, 0x4, 0, 32, .rw, 0⟩
/-- R455 -/ def eth_MAC_HI : Field := ⟨.eth, 0x8, 0, 16, .rw, 0⟩
/-- R455 -/ def eth_IP : Field := ⟨.eth, 0xc, 0, 32, .rw, 0⟩
/-- R455 -/ def eth_SENT_UDP : Field := ⟨.eth, 0x10, 0, 16, .rw, 47000⟩
/-- R455 -/ def eth_MBX_UDP : Field := ⟨.eth, 0x10, 16, 16, .rw, 47001⟩
/-- R455 -/ def eth_DEST_IP : Field := ⟨.eth, 0x14, 0, 32, .rw, 0⟩
/-- R455 -/ def eth_DEST_MAC_LO : Field := ⟨.eth, 0x18, 0, 32, .rw, 0⟩
/-- R455 -/ def eth_DEST_MAC_HI : Field := ⟨.eth, 0x1c, 0, 16, .rw, 0⟩
/-- R455 -/ def eth_DEST_UDP : Field := ⟨.eth, 0x1c, 16, 16, .rw, 47000⟩
/-- R455 -/ def eth_DEST_VALID : Field := ⟨.eth, 0x20, 0, 1, .rw, 0⟩
/-- R455 -/ def eth_DSCP : Field := ⟨.eth, 0x20, 1, 6, .rw, 0⟩
/-- R455 -/ def eth_TTL : Field := ⟨.eth, 0x20, 8, 8, .rw, 16⟩
/-- R455 -/ def eth_LINK : Field := ⟨.eth, 0x24, 0, 1, .ro, 0⟩
/-- R455 -/ def eth_BAD_SPEED : Field := ⟨.eth, 0x24, 1, 1, .ro, 0⟩
/-- R455 -/ def eth_RXBUF_FREE : Field := ⟨.eth, 0x24, 16, 16, .ro, 32768⟩
/-- R455 -/ def eth_FLAGS : Field := ⟨.eth, 0x28, 0, 5, .w1c, 0⟩
/-- R455 -/ def eth_EVEN : Field := ⟨.eth, 0x2c, 0, 5, .rw, 31⟩
/-- R455 -/ def eth_RX_FRAMES : Field := ⟨.eth, 0x30, 0, 32, .ro, 0⟩
/-- R455 -/ def eth_N_RX_ERR : Field := ⟨.eth, 0x34, 0, 32, .ro, 0⟩
/-- R455 -/ def eth_RX_NOTME : Field := ⟨.eth, 0x38, 0, 32, .ro, 0⟩
/-- R455 -/ def eth_RX_OTHER : Field := ⟨.eth, 0x3c, 0, 32, .ro, 0⟩
/-- R455 -/ def eth_N_RX_NOBUF : Field := ⟨.eth, 0x40, 0, 32, .ro, 0⟩
/-- R455 -/ def eth_TX_FRAMES : Field := ⟨.eth, 0x44, 0, 32, .ro, 0⟩
/-- R455 -/ def eth_N_E131_DROP : Field := ⟨.eth, 0x48, 0, 32, .ro, 0⟩
/-- R455 -/ def eth_N_AUTH_FAIL : Field := ⟨.eth, 0x4c, 0, 32, .ro, 0⟩

-- panel: spec/18_configuration.md
/-- R535 -/ def panel_DEBOUNCE : Field := ⟨.panel, 0x0, 0, 8, .rw, 8⟩
/-- R535 -/ def panel_ENC_FILT : Field := ⟨.panel, 0x0, 8, 8, .rw, 5⟩
/-- R535 -/ def panel_ENC_MASK : Field := ⟨.panel, 0x0, 16, 8, .rw, 0⟩
/-- R535 -/ def panel_LEVEL : Field := ⟨.panel, 0x4, 0, 16, .ro, 65535⟩
/-- R535 -/ def panel_STUCK : Field := ⟨.panel, 0x4, 16, 16, .rw, 0⟩
/-- R535 -/ def panel_LED : Field := ⟨.panel, 0x8, 0, 8, .rw, 0⟩
/-- R535 -/ def panel_ENC_COUNT : Field := ⟨.panel, 0xc, 0, 16, .ro, 0⟩
/-- R535 -/ def panel_ENC_ERR : Field := ⟨.panel, 0xc, 16, 16, .ro, 0⟩

-- power: spec/19_power_reset.md
/-- R555 -/ def pwr_UP : Field := ⟨.power, 0x0, 0, 12, .ro, 1⟩
/-- R555 -/ def pwr_SWITCHING : Field := ⟨.power, 0x0, 12, 1, .ro, 0⟩
/-- R555 -/ def pwr_TJ : Field := ⟨.power, 0x4, 0, 16, .ro, 0⟩
/-- R555 -/ def pwr_VCORE : Field := ⟨.power, 0x4, 16, 16, .ro, 0⟩
/-- R556 -/ def pwr_FLAGS : Field := ⟨.power, 0x8, 0, 4, .w1c, 0⟩
/-- R556 -/ def pwr_EVEN : Field := ⟨.power, 0xc, 0, 4, .rw, 13⟩
/-- R555 -/ def pwr_IN_RANGE : Field := ⟨.power, 0x10, 0, 7, .ro, 0⟩
/-- R555 -/ def pwr_VANA_OK : Field := ⟨.power, 0x10, 7, 1, .ro, 0⟩
/-- R555 -/ def pwr_ECON : Field := ⟨.power, 0x10, 8, 1, .ro, 0⟩

-- sec: spec/20_service_security.md
/-- R574 -/ def sec_ARMED : Field := ⟨.sec, 0x0, 0, 3, .ro, 0⟩
/-- R574 -/ def sec_ACTIVE : Field := ⟨.sec, 0x0, 3, 3, .ro, 0⟩
/-- R574 -/ def sec_KEYS_USED : Field := ⟨.sec, 0x0, 8, 3, .ro, 0⟩
/-- R574 -/ def sec_SERVICE_LEFT : Field := ⟨.sec, 0x0, 16, 16, .ro, 0⟩
/-- R575 -/ def sec_FLAGS : Field := ⟨.sec, 0x4, 0, 4, .w1c, 0⟩
/-- R574 -/ def sec_EVEN : Field := ⟨.sec, 0x8, 0, 4, .rw, 15⟩
/-- R574 -/ def sec_MASK_LO : Field := ⟨.sec, 0xc, 0, 32, .ro, 0⟩
/-- R574 -/ def sec_MASK_HI : Field := ⟨.sec, 0x10, 0, 16, .ro, 0⟩

-- host: spec/16_host_port.md
/-- R464 -/ def host_ISSUE : Field := ⟨.host, 0x4, 0, 16, .ro, 0⟩
/-- R464 -/ def host_RUNNING : Field := ⟨.host, 0x4, 16, 1, .ro, 0⟩
/-- R464 -/ def host_BOOT_DONE : Field := ⟨.host, 0x4, 17, 1, .ro, 0⟩
/-- R464 -/ def host_COPY : Field := ⟨.host, 0x4, 18, 2, .ro, 0⟩
/-- R466 -/ def host_SW_RESET : Field := ⟨.host, 0x10, 0, 1, .wo, 0⟩
/-- R466 -/ def host_FW_RESTART : Field := ⟨.host, 0x10, 1, 1, .wo, 0⟩
/-- R466 -/ def host_KEY : Field := ⟨.host, 0x10, 8, 8, .wo, 0⟩
/-- R466 -/ def host_PORST : Field := ⟨.host, 0x14, 0, 1, .ro, 1⟩
/-- R466 -/ def host_SW : Field := ⟨.host, 0x14, 1, 1, .ro, 0⟩
/-- R466 -/ def host_WDOG : Field := ⟨.host, 0x14, 2, 1, .ro, 0⟩
/-- R466 -/ def host_TAMPER : Field := ⟨.host, 0x14, 3, 1, .ro, 0⟩
/-- R466 -/ def host_FW_RESTARTS : Field := ⟨.host, 0x14, 8, 8, .ro, 0⟩
/-- R466 -/ def host_BYP_PIN : Field := ⟨.host, 0x18, 0, 1, .ro, 0⟩
/-- R466 -/ def host_ENGAGED : Field := ⟨.host, 0x18, 1, 1, .ro, 0⟩
/-- R466 -/ def host_BYP_CAUSE : Field := ⟨.host, 0x18, 2, 2, .ro, 0⟩
/-- R466 -/ def host_ERR : Field := ⟨.host, 0x1c, 0, 9, .w1c, 0⟩
/-- R467 -/ def host_RING : Field := ⟨.host, 0x20, 0, 8, .wo, 0⟩
/-- R467 -/ def host_STATE : Field := ⟨.host, 0x24, 0, 16, .ro, 0⟩
/-- R467 -/ def host_ACKS : Field := ⟨.host, 0x24, 16, 16, .ro, 0⟩
/-- R467 -/ def host_FULL : Field := ⟨.host, 0x28, 0, 8, .ro, 0⟩
/-- R467 -/ def host_SPILLING : Field := ⟨.host, 0x28, 8, 8, .ro, 0⟩
/-- R467 -/ def host_REL : Field := ⟨.host, 0x2c, 0, 8, .wo, 0⟩
/-- R467 -/ def host_OWNER : Field := ⟨.host, 0x30, 0, 16, .ro, 0⟩
/-- R467 -/ def host_NOTICE : Field := ⟨.host, 0x30, 16, 3, .ro, 0⟩
/-- R486 -/ def host_PEND_EVT : Field := ⟨.host, 0x34, 0, 1, .ro, 0⟩
/-- R486 -/ def host_PEND_MBO : Field := ⟨.host, 0x34, 1, 1, .ro, 0⟩
/-- R486 -/ def host_PEND_SPILL : Field := ⟨.host, 0x34, 2, 1, .ro, 0⟩
/-- R486 -/ def host_PEND_W1C : Field := ⟨.host, 0x34, 3, 2, .w1c, 0⟩
/-- R486 -/ def host_PEND_ERR : Field := ⟨.host, 0x34, 5, 1, .ro, 0⟩
/-- R486 -/ def host_IRQ_EN : Field := ⟨.host, 0x38, 0, 6, .rw, 63⟩
/-- R483 -/ def host_EVT_EN : Field := ⟨.host, 0x40, 0, 32, .rw, 0⟩

end F

/-- The fields of a block. -/
def fieldsOf : Blk → List Field
  | .laneRx =>
      [F.rx_DATA7, F.rx_PARITY, F.rx_FE_TOLERATE, F.rx_AB_EN, F.rx_CNT_CLR, F.rx_REARM, F.rx_DIV_FRAC, F.rx_DIV_INT, F.rx_PROG_KEY, F.rx_PROG_LOW] ++
      [F.rx_PROG_HIGH, F.rx_KEY_DOLLAR, F.rx_KEY_BANG, F.rx_KEY_PCT, F.rx_KEY_PROG, F.rx_LOCKED, F.rx_LOCKED_KEY, F.rx_STUCK_TO, F.rx_REARM_HIGH, F.rx_SILENT_TO] ++
      [F.rx_ICT, F.rx_LINE, F.rx_OPEN, F.rx_STUCK, F.rx_SILENT, F.rx_HOLD_FULL, F.rx_STATE, F.rx_FLAGS, F.rx_EVEN, F.rx_LEVEL] ++
      [F.rx_PEAK, F.rx_CHARS, F.rx_N_FALSE_START, F.rx_N_FRAMING, F.rx_N_PARITY, F.rx_N_BREAK, F.rx_N_OVERRUN, F.rx_N_FRAGMENT, F.rx_N_AB_REJECT, F.rx_STUCK_CNT] ++
      [F.rx_SILENT_CNT]
  | .laneTx =>
      [F.tx_MODE, F.tx_ACTIVE, F.tx_PENDING, F.tx_PADDOCK, F.tx_ROLE, F.tx_DATA7, F.tx_PARITY, F.tx_STOP2, F.tx_ECHO_CHECK, F.tx_DRAIN] ++
      [F.tx_ICG, F.tx_RETRY, F.tx_CNT_CLR, F.tx_DIV_FRAC, F.tx_DIV_INT, F.tx_LEAD, F.tx_TAIL, F.tx_TURN, F.tx_ECHO_GUARD, F.tx_BACKOFF] ++
      [F.tx_DMX_BREAK, F.tx_DMX_MAB, F.tx_DMX_ISG, F.tx_DMX_MBB, F.tx_DMX_SLOTS, F.tx_DMX_SYNC_TICK, F.tx_BREAK_MIN, F.tx_MAB_MIN, F.tx_OUT, F.tx_CHANGE_ONLY] ++
      [F.tx_NULL_ONLY, F.tx_CAPT_EDGE, F.tx_MEAS_EN, F.tx_GATE, F.tx_CAPT_STALL, F.tx_PERIOD_SUM, F.tx_HIGH_SUM, F.tx_GATES, F.tx_FLAGS, F.tx_EVEN] ++
      [F.tx_SENT, F.tx_N_COLLISION, F.tx_N_TX_DROP, F.tx_N_TX_ABORT, F.tx_DMX_PKTS, F.tx_N_DMX_SHORT, F.tx_N_DMX_UPD_ERR, F.tx_EDGES]
  | .parse =>
      [F.parse_NMEA_EN, F.parse_LONG_EN, F.parse_CK_OPTIONAL, F.parse_HEX_LOWER, F.parse_CNT_CLR, F.parse_SEQ_CLR, F.parse_SOURCE, F.parse_NEXT, F.parse_RERUN, F.parse_RERUN_FAIL] ++
      [F.parse_ACCEPTED, F.parse_RUNT, F.parse_OVERLONG, F.parse_BAD_CHECK, F.parse_MALFORMED, F.parse_RESTART, F.parse_STRAY, F.parse_DAMAGED, F.parse_DMG_STUCK, F.parse_DMG_BREAK] ++
      [F.parse_DMG_OVERRUN, F.parse_DMG_FLAG, F.parse_DMG_ICT, F.parse_DMG_MODE]
  | .router =>
      [F.router_CNT_CLR, F.router_ACTIVE, F.router_COPYBACK, F.router_ELIGIBLE, F.router_FLAGS, F.router_EVEN, F.router_CLASSIFIED, F.router_MISS, F.router_DROPPED, F.router_BAD_DROPPED] ++
      [F.router_CLASS0_REFUSED, F.router_DECIMATED, F.router_RATE_DROP, F.router_EMPTY_GROUP, F.router_COPIES, F.router_COPY_ABANDONED, F.router_HOOKS, F.router_HOOK_ERR, F.router_SWAPS]
  | .vote =>
      [F.vote_SUSPECT_N, F.vote_AUTO_OUT, F.vote_EGRESS_LATCH, F.vote_OVR_EN, F.vote_CNT_CLR, F.vote_IN, F.vote_OUT_JUDGE, F.vote_DEGRADED, F.vote_PENDING_IN, F.vote_SUSPECT] ++
      [F.vote_FLAGS, F.vote_EVEN, F.vote_VOTED, F.vote_COPIES0, F.vote_DISSENTS, F.vote_NO_MAJORITY, F.vote_PRIMARY_MISMATCH, F.vote_OVERRIDES, F.vote_OVR_ERR, F.vote_DEGRADED_VOTES] ++
      [F.vote_SCORE_0, F.vote_SCORE_1, F.vote_SCORE_2, F.vote_TYPE0_LO, F.vote_TYPE0_HI, F.vote_TYPE1_LO, F.vote_TYPE1_HI, F.vote_TYPE2_LO, F.vote_TYPE2_HI, F.vote_TYPE3_LO] ++
      [F.vote_TYPE3_HI]
  | .stall =>
      [F.stall_SIZE_LOG2, F.stall_MODE, F.stall_READER, F.stall_WM, F.stall_EMPTY, F.stall_FULL, F.stall_WM_LIVE, F.stall_STATE, F.stall_OVTK, F.stall_UNREAD] ++
      [F.stall_LEVEL, F.stall_WR, F.stall_REL, F.stall_RD, F.stall_MARK, F.stall_OFFS, F.stall_CMD, F.stall_FLAGS, F.stall_EVEN, F.stall_LOST] ++
      [F.stall_RESETS, F.stall_WM_CROSS, F.stall_GRANTED, F.stall_RECORDS]
  | .yard =>
      [F.yard_CE_REPEAT, F.yard_CNT_CLR, F.yard_FLAGS, F.yard_EVEN, F.yard_DUE_ADDR, F.yard_DUE_PORT, F.yard_DUE_VALID, F.yard_CE_ADDR, F.yard_CE_PORT, F.yard_CE_VALID] ++
      [F.yard_N_CE, F.yard_N_DUE, F.yard_N_WRITE_LOST, F.yard_N_RANGE, F.yard_N_TACK_CE, F.yard_GROOM_EN, F.yard_VOID_MAX, F.yard_PACE, F.yard_REGION, F.yard_PHASE] ++
      [F.yard_WRITTEN, F.yard_GROOM_FLAGS, F.yard_GROOM_EVEN, F.yard_FAILS, F.yard_VOIDS, F.yard_SWEEPS] ++
      (List.range 4).map (fun i => F.yard_PROT_BASE.at (8 * i)) ++
      (List.range 4).map (fun i => F.yard_PROT_LIMIT.at (8 * i)) ++
      [F.yard_FREE_MIN, F.yard_BANK_MIN, F.yard_FULL, F.yard_DIRTY]
  | .farrierMap =>
      [F.map_ROW, F.map_VALID, F.map_POISON, F.map_CAUSE, F.map_RETIRED]
  | .time =>
      [F.time_SNAP, F.time_REF, F.time_PTP_PORT, F.time_ROLE, F.time_PTP_EN, F.time_PPS_PIN, F.time_PPS_NEXT, F.time_SERVO, F.time_TS_STATE, F.time_EVER_LOCKED] ++
      [F.time_AT_LIMIT, F.time_STEPS, F.time_ADJ, F.time_FLAGS, F.time_EVEN, F.time_SNAP_NS, F.time_SNAP_SEC_LO, F.time_SNAP_SEC_HI, F.time_SNAP_FRAC, F.time_NUM] ++
      [F.time_DEN, F.time_FRAME_PHASE, F.time_FRAME_N, F.time_STEP_TH, F.time_LOCK_TH, F.time_JUMP_TH, F.time_SYNC_LOSS]
  | .pulse =>
      [F.pulse_ARMED, F.pulse_POLARITY, F.pulse_FRAME, F.pulse_DIVIDE, F.pulse_START_NS, F.pulse_START_SEC_LO, F.pulse_START_SEC_HI, F.pulse_PERIOD, F.pulse_WIDTH, F.pulse_COUNT] ++
      [F.pulse_PINFLAGS, F.pulse_PINEN]
  | .cap =>
      [F.cap_EDGE, F.cap_STALL, F.cap_LAST_NS, F.cap_LAST_SEC_LO, F.cap_LAST_SEC_HI, F.cap_LAST_SUB, F.cap_LAST_POL, F.cap_VALID]
  | .pixel =>
      [F.pixel_RUN, F.pixel_SRC, F.pixel_CNT_CLR, F.pixel_ACTIVE, F.pixel_COPYBACK, F.pixel_COMMIT_PENDING, F.pixel_SHOW, F.pixel_READY, F.pixel_FILL, F.pixel_SEEDING] ++
      [F.pixel_FLAGS, F.pixel_EVEN, F.pixel_SHOWN, F.pixel_REPEATS, F.pixel_SKIPPED, F.pixel_COMMITS, F.pixel_DUE_PIXELS, F.pixel_DUE_SEGMENTS, F.pixel_N_SRC_IGNORED, F.pixel_SEED_WAITS] ++
      [F.pixel_MASTER]
  | .pixelCue =>
      [F.cue_C_LO, F.cue_C_HI]
  | .encLane =>
      [F.enc_POL, F.enc_LATCH_MODE, F.enc_PAUSE, F.enc_GROUP, F.enc_SLOT, F.enc_OVR_MASK, F.enc_CNT_CLR, F.enc_T0H, F.enc_T1H, F.enc_TBIT] ++
      [F.enc_RESET, F.enc_CLK_DIV, F.enc_HDR_LEN, F.enc_PREFIX_LEN, F.enc_PREFIX_BITS, F.enc_HDR, F.enc_LATCH_LEN, F.enc_LATCH_ONES, F.enc_LATCH_IDLE, F.enc_LATCH_AT] ++
      [F.enc_PERIOD, F.enc_EGRESS_VAL, F.enc_OVR, F.enc_SENDING, F.enc_PAUSED, F.enc_FRAMES, F.enc_N_START_LATE, F.enc_N_UNDERRUN, F.enc_N_LATCH_MISS, F.enc_N_FRAME_SKIP]
  | .encGlobal =>
      [F.encg_START_DELAY, F.encg_FLAGS, F.encg_EVEN]
  | .encGroup =>
      [F.grp_SIZE]
  | .meas =>
      [F.meas_CNT_CLR, F.meas_CAL_AVG, F.meas_OVERLAP, F.meas_SLEW_MS, F.meas_FLAGS, F.meas_EVEN, F.meas_OFFS_TOL, F.meas_GAIN_TOL, F.meas_SPREAD_MAX, F.meas_PLAUS_OFFS] ++
      [F.meas_PLAUS_GAIN, F.meas_CAL_GAP, F.meas_PLAUS_STEP, F.meas_HANDOVER_TOL, F.meas_SPARE_VALID, F.meas_CH_MS0, F.meas_ST_MS0, F.meas_VALID_MS0, F.meas_CH_MS1, F.meas_ST_MS1] ++
      [F.meas_VALID_MS1, F.meas_CAL_LOG_LOST]
  | .measCh =>
      [F.ch_KIND, F.ch_RATE, F.ch_LIN_EN, F.ch_PRIVILEGED, F.ch_LIM_COUNT, F.ch_OFFSET, F.ch_GAIN, F.ch_T_OFFSET, F.ch_T_GAIN, F.ch_LIM_LO] ++
      [F.ch_LIM_HI, F.ch_VALUE, F.ch_FROM_SPARE, F.ch_OVER, F.ch_SAMPLE_N, F.ch_STATE, F.ch_LIM_ACTIVE, F.ch_OVERRANGE, F.ch_LIMIT]
  | .measLin =>
      (List.range 9).map (fun i => F.lin_L_EVEN.at (4 * i)) ++
      (List.range 8).map (fun i => F.lin_L_ODD.at (4 * i))
  | .twin =>
      [F.twin_OWN, F.twin_HOLD_OUT, F.twin_HOLD_IN, F.twin_ROLE, F.twin_ILK_STATE, F.twin_KEEP, F.twin_CLAIM, F.twin_RELEASE, F.twin_KEEP_TO, F.twin_TAKE_UNQUAL] ++
      [F.twin_PAIRED, F.twin_HB_TIMEOUT, F.twin_CONFIRM, F.twin_AUTO_REVERT, F.twin_SNAP_MS, F.twin_MATCH_TOL, F.twin_PWM_TOL, F.twin_REVERT_S, F.twin_COMPARE_WAIT, F.twin_UNIT] ++
      [F.twin_TETHER_UP, F.twin_PEER_ALIVE, F.twin_PEER_OWNS, F.twin_SHORT, F.twin_QUAL_TIME, F.twin_GEN, F.twin_FLAGS, F.twin_EVEN, F.twin_TAKEOVERS, F.twin_CLAIM_FAILS] ++
      [F.twin_V_DRIVERS, F.twin_V_ACTIVE, F.twin_V_STANDBY, F.twin_V_UNDECIDED, F.twin_SNAP_DISCARDED, F.twin_DUP_SENT, F.twin_TETHER_ERR]
  | .stream =>
      [F.str_EN, F.str_CNT_CLR, F.str_SB_EN, F.str_LINKED, F.str_IN_FRAME, F.str_CREDITS, F.str_LAST_ID, F.str_FLAGS, F.str_EVEN, F.str_FRAMES] ++
      [F.str_BAD_FRAMES, F.str_CODE_ERR, F.str_N_CRD_VIOL, F.str_LINK_DOWNS, F.str_SB_MSGS, F.str_N_SB_ERR, F.str_STRAY]
  | .eth =>
      [F.eth_EN, F.eth_CNT_CLR, F.eth_PREVIEW_IGNORE, F.eth_VID, F.eth_MAC_LO, F.eth_MAC_HI, F.eth_IP, F.eth_SENT_UDP, F.eth_MBX_UDP, F.eth_DEST_IP] ++
      [F.eth_DEST_MAC_LO, F.eth_DEST_MAC_HI, F.eth_DEST_UDP, F.eth_DEST_VALID, F.eth_DSCP, F.eth_TTL, F.eth_LINK, F.eth_BAD_SPEED, F.eth_RXBUF_FREE, F.eth_FLAGS] ++
      [F.eth_EVEN, F.eth_RX_FRAMES, F.eth_N_RX_ERR, F.eth_RX_NOTME, F.eth_RX_OTHER, F.eth_N_RX_NOBUF, F.eth_TX_FRAMES, F.eth_N_E131_DROP, F.eth_N_AUTH_FAIL]
  | .panel =>
      [F.panel_DEBOUNCE, F.panel_ENC_FILT, F.panel_ENC_MASK, F.panel_LEVEL, F.panel_STUCK, F.panel_LED] ++
      (List.range 8).map (fun i => F.panel_ENC_COUNT.at (4 * i)) ++
      (List.range 8).map (fun i => F.panel_ENC_ERR.at (4 * i))
  | .power =>
      [F.pwr_UP, F.pwr_SWITCHING, F.pwr_TJ, F.pwr_VCORE, F.pwr_FLAGS, F.pwr_EVEN, F.pwr_IN_RANGE, F.pwr_VANA_OK, F.pwr_ECON]
  | .sec =>
      [F.sec_ARMED, F.sec_ACTIVE, F.sec_KEYS_USED, F.sec_SERVICE_LEFT, F.sec_FLAGS, F.sec_EVEN, F.sec_MASK_LO, F.sec_MASK_HI]
  | .host =>
      [F.host_ISSUE, F.host_RUNNING, F.host_BOOT_DONE, F.host_COPY, F.host_SW_RESET, F.host_FW_RESTART, F.host_KEY, F.host_PORST, F.host_SW, F.host_WDOG] ++
      [F.host_TAMPER, F.host_FW_RESTARTS, F.host_BYP_PIN, F.host_ENGAGED, F.host_BYP_CAUSE, F.host_ERR, F.host_RING, F.host_STATE, F.host_ACKS, F.host_FULL] ++
      [F.host_SPILLING, F.host_REL, F.host_OWNER, F.host_NOTICE, F.host_PEND_EVT, F.host_PEND_MBO, F.host_PEND_SPILL, F.host_PEND_W1C, F.host_PEND_ERR, F.host_IRQ_EN] ++
      (List.range 8).map (fun i => F.host_EVT_EN.at (4 * i))

/-- The number of bytes of a block's registers, as the spec sizes it; a repeated register is a block of its own here. -/
def blkBytes : Blk → Nat
  | .laneRx => 128 | .laneTx => 128 | .parse => 64 | .router => 128 | .vote => 128 | .stall => 256
  | .yard => 4096 | .farrierMap => 4 | .time => 128 | .pulse => 32 | .cap => 16 | .pixel => 256
  | .pixelCue => 4 | .encLane => 64 | .encGlobal => 256 | .encGroup => 4 | .meas => 256 | .measCh => 32
  | .measLin => 64 | .twin => 128 | .stream => 64 | .eth => 128 | .panel => 64 | .power => 32 | .sec => 32
  | .host => 4096

/-- A number for each block, for the keys of the register file. -/
def blkCode : Blk → Nat
  | .host => 0 | .laneRx => 1 | .laneTx => 2 | .parse => 3 | .router => 4 | .vote => 5 | .stall => 6
  | .yard => 7 | .farrierMap => 8 | .time => 9 | .pulse => 10 | .cap => 11 | .pixel => 12 | .pixelCue => 13
  | .encLane => 14 | .encGlobal => 15 | .encGroup => 16 | .meas => 17 | .measCh => 18 | .measLin => 19
  | .twin => 20 | .stream => 21 | .eth => 22 | .panel => 23 | .power => 24 | .sec => 25

/-- The key of a register in the register file: block, object and offset each in a place of its own. -/
def regKey (r : RegAddr) : Nat := (blkCode r.blk * 65536 + r.inst % 65536) * 65536 + r.off % 65536

/-- The block number of a key. -/
def keyBlk (k : Nat) : Nat := k / 4294967296

/-- The object number of a key. -/
def keyInst (k : Nat) : Nat := k / 65536 % 65536

/-- The fields of a register. -/
def regFields (r : RegAddr) : List Field := (fieldsOf r.blk).filter (fun f => f.off == r.off)

/-- The bits of a register with an access code among `accs`. -/
def regMask (r : RegAddr) (p : Acc → Bool) : Word :=
  BitVec.ofNat 32 (((regFields r).filter (fun f => p f.acc)).foldl (fun m f => m + f.mask) 0)

/-- The word of a register after the reset that reaches it (R17): the fields' Reset values; PARSE_SRC.SOURCE is the
block's own source ID (R153), ROLE of lane n is n (R117); a reserved bit reads 0 (R15). -/
def resetWord (r : RegAddr) : Word :=
  let base := (regFields r).foldl (fun m f => m + f.reset * 2 ^ f.lo) 0
  match r.blk, r.off with
  | .parse, 4 => BitVec.ofNat 32 r.inst
  | .laneTx, 0 => BitVec.ofNat 32 (r.inst * 1024)
  | _, _ => BitVec.ofNat 32 base

end Sys2Proof.Machine
end

