-- ==== Sys2Proof/Machine/State.lean ====
section
/-! DEFINITION. The machine's state as plain data, the reasons a step can stop, and the state after reset.
Register fields live in `regs` (a register not listed holds its Reset value, R17); everything the spec gives
the hub beside its registers has a field of its own here. A sparse table (`Tbl`) lists the objects that differ
from their default, in rising order. -/

namespace Sys2Proof.Machine

/-- A sparse table: (number, value) pairs, numbers strictly rising, no entry equal to the default. -/
abbrev Tbl (α : Type) := List (Nat × α)

/-- The variants of R4. -/
inductive Part where
  | plv9664
  | plv9648
  | plv9624
deriving DecidableEq, Repr

/-- A character in a lane's holding register (R75), with its flags (R68, R69), its edge time in 1/16 ns (R64) and the
TS_STATE of that instant (R144). -/
structure HoldChar where
  data : Byte
  parityBad : Bool
  framingBad : Bool
  stamp : Nat
  tsState : Nat := 2
deriving DecidableEq, Repr

/-- What a lane's receiver, DMX receiver and SENSE unit hold beside their registers (R60 to R83, R106 to R112). -/
structure LaneRx where
  edge : Nat := 0
  /-- TS_STATE at that edge (R144) -/
  edgeTs : Nat := 2
  hold : Option HoldChar := none
  baud : Word := 0x00145855#32
  ignoring : Bool := false
  silentDue : Bool := false
  dmxOpen : Bool := false
  dmxSlots : List Byte := []
  dmxStamp : Nat := 0
  dmxTs : Nat := 2
  dmxCount : Nat := 0
  dmxLast : Option (List Byte) := none
  gateOpen : Bool := false
  gateHigh : Bool := false
  gatePeriods : Nat := 0
  gateCycles : Nat := 0
  gateHighCycles : Nat := 0
  noSignal : Bool := false
  edgeRecorded : Option Nat := none
  /-- inside a character, its start bit is confirmed (R63) -/
  confirmed : Bool := false
  /-- the silence timer runs (R77) -/
  heard : Bool := false
  /-- where the next byte goes in the lane's staging ring (R75) -/
  ringWr : Nat := 0
deriving DecidableEq, Repr

/-- Where a lane transmitter stands (R97 to R103); `next`: DE is still high and a record waits for its first start bit
(R99). -/
inductive TxPhase where
  | idle
  | waiting
  | lead
  | next
  | sending
  | tail
  | backoff
deriving DecidableEq, Repr

/-- A record granted to a listener (R171, R223): its stall, the class served, whether it is a gap marker, and the head buffer's bytes. -/
structure Granted where
  q : Nat
  cls : Nat
  marker : Bool
  source : Nat
  seqn : Nat
  dup : Bool
  bytes : List Byte
  /-- the record has left the stall (a reset or OVERWRITE discarded it), so its release moves no pointer (R223) -/
  gone : Bool := false
deriving DecidableEq, Repr

/-- What a lane's transmitter holds beside its registers (R93 to R105, R113 to R115). -/
structure LaneTx where
  phase : TxPhase := .idle
  granted : Option Granted := none
  pos : Nat := 0
  tries : Nat := 0
  collided : Bool := false
  de : Bool := false
  baud : Word := 0x00145855#32
  dmxImage : Tbl Byte := []
  dmxNext : Tbl Byte := []
  dmxRunning : Bool := false
  moveTo : Option Nat := none
  parked : Option Nat := none
  /-- the levels of the last character sent, bit by bit (R97) -/
  driven : List Bool := []
  /-- a frame tick has come for the next packet (R105, SYNC_TICK) -/
  tickDue : Bool := false
  /-- SEQUENCE of the last DMXS sentence applied to each image (R405) -/
  dmxSeq : Nat := 0
  dmxNextSeq : Nat := 0
deriving DecidableEq, Repr

/-- What a classification decided (R155 to R166): MISS, ENTRY and the action record's fields. -/
structure Verdict where
  miss : Bool
  entry : Nat
  forward : Bool
  cls : Nat
  group : Nat
  hookKind : Nat
  hookTarget : Nat
deriving DecidableEq, Repr

/-- What a classification captured for reruns (R149): its result, the action number and record, the table copy it was
made under, and the group's stalls. -/
structure Captured where
  verdict : Verdict
  num : Nat
  action : List Word
  copy : Nat
  stalls : List Nat
deriving DecidableEq, Repr

/-- A sentence in a parser context or after it (R124 to R151). `bytes` holds what has been stored of it; for a lane or an
Ethernet port the staging copy itself stands in the yard, byte k at address `spots[k]` (R30, R75, R126). -/
structure Sentence where
  source : Nat
  long : Bool := false
  bytes : List Byte := []
  spots : List Nat := []
  count : Nat := 0
  stage : Nat := 0
  digits : Nat := 0
  addr : Nat := 0
  esc : Bool := false
  malformed : Bool := false
  overlong : Bool := false
  runt : Bool := false
  dmxr : Bool := false
  causes : List Nat := []
  feSeen : Bool := false
  cfg : Word := 0x0000000b#32
  stamp : Nat := 0
  tsSrc : Nat := 0
  tsState : Nat := 2
  /-- its index within its Ethernet frame (R416), and that frame's number in the receive buffer -/
  idx : Nat := 0
  frame : Nat := 0
  /-- it has its sequence number (R145), and its outcome is counted (R134) -/
  numbered : Bool := false
  offered : Bool := false
  seqn : Nat := 0
  seqStart : Bool := false
  bad : Bool := false
  nock : Bool := false
  dup : Bool := false
  reruns : Nat := 0
  /-- judges whose return (R197) came after this sentence's start character: they do not vote on it -/
  pre : Bool := false
  /-- its place in its source's closing order (R150, R180) -/
  no : Nat := 0
  /-- the inbound mailbox that stays HELD until the staging bytes are freed (R471, R500) -/
  mbox : Option Nat := none
  /-- the classification completed before a fault (R149) -/
  cap : Option Captured := none
deriving DecidableEq, Repr

/-- One byte waiting at a source's entry to the parser, with the timestamp and TS_STATE a start character takes (R142, R144). -/
structure InByte where
  data : Byte
  stamp : Nat
  tsSrc : Nat
  tsState : Nat := 2
  dmxr : Bool := false
  /-- the last byte of a UDP payload (R135), the number of its frame, and where it stands in the receive buffer -/
  last : Bool := false
  frame : Nat := 0
  spot : Option Nat := none
deriving DecidableEq, Repr

/-- A source's parser context (R124): its open sentence, sentences closing in the 14 st after LF, closed
sentences waiting for the classifier, bytes not yet taken, and the SEQ_START due (R145). -/
structure Source where
  sent : Option Sentence := none
  closing : List Sentence := []
  closed : List Sentence := []
  input : List InByte := []
  seqStart : Bool := true
  /-- sentences opened in the Ethernet frame in progress -/
  idx : Nat := 0
  /-- sentences numbered so far, whatever SEQUENCE says -/
  closes : Nat := 0
  /-- of the last sentence classified (R410, R411): the number after its own, its timestamp in 1/16 ns, its index in
  its Ethernet frame -/
  lastNext : Nat := 0
  lastTs : Nat := 0
  lastIdx : Nat := 0
deriving DecidableEq, Repr

/-- A sentence whose copies are being enqueued (R48, R166): the stalls still to write, and whether it waits for its rerun (R148). -/
structure Enqueue where
  sent : Sentence
  verdict : Verdict
  agree : Nat := 0
  degraded : Bool := false
  stalls : List Nat := []
  rerun : Bool := false
deriving DecidableEq, Repr

/-- A sentence the judges took (R190), awaiting its vote; its `cap` holds the primary's result and `dropped` says that
the primary dropped it at steps 2 to 6 of R162 or gave it a class other than 0. -/
structure Ballot where
  sent : Sentence
  dropped : Bool
deriving DecidableEq, Repr

/-- An action's decimation counter and token bucket (R163, R164); tokens in 1/65,536, `last` in 1/16 ns. -/
structure ActState where
  dcnt : Nat := 0
  tokens : Nat := 0
  last : Option Nat := none
deriving DecidableEq, Repr

/-- A latched hook or level write (R172 to R174, R339). -/
structure Latch where
  kind : Nat
  target : Nat
  value : Nat
deriving DecidableEq, Repr

/-- One copy of a stall's four pointers (R214). -/
structure Ptrs where
  wr : Nat := 0
  rel : Nat := 0
  rd : Nat := 0
  mark : Nat := 0
deriving DecidableEq, Repr

/-- A stall reset in progress (R234): its cause, mismatch bits, and the SIZE_LOG2, MODE and base address taken at 8 st. -/
structure ResetRun where
  cause : Nat
  mismatch : BitVec 4 := 0
  newCfg : Option (Nat × Nat × Nat) := none
deriving DecidableEq, Repr

/-- What the stall engine holds for a stall beside its window registers (R210 to R238): base address, two copies
of the pointers (R216), the record list of R261 (lengths from REL to WR), refused credit requests, the counts of R237, and the
record in a listener's head buffer (R49). -/
structure Stall where
  base : Nat := 0
  a : Ptrs := {}
  b : Ptrs := {}
  lens : List Nat := []
  refused : List Nat := []
  reset : Option ResetRun := none
  /-- the counts of R237, modulo 2^16: completed records and releases as published, and what an island reader has read -/
  published : Nat := 0
  releases : Nat := 0
  taken : Nat := 0
  /-- the bytes of the record at RD that the engine holds for the stall's listener -/
  head : List Byte := []
deriving DecidableEq, Repr

/-- The groom's pass in progress (R262 to R267): its region, whether it marches, the P7 turns it has taken (R264), its
WRITTEN mark (R266), and the region words that have failed MARCH and VERIFY so far. -/
structure GroomPass where
  region : Nat
  march : Bool
  turn : Nat := 0
  written : Bool := false
  found : List Nat := []
  differ : List Nat := []
deriving DecidableEq, Repr

/-- One entry of a bank's tracker (R270): a row, its corrections in this sweep, and when it came. -/
structure Track where
  row : Nat
  count : Nat
  age : Nat
deriving DecidableEq, Repr

/-- A TIME_PULSE output beside its block (R301 to R304): the next rising instant in ns, a frame-mode pulse due now, and
the pulse in progress with what waits for its end. -/
structure Pulse where
  next : Nat := 0
  frameDue : Bool := false
  high : Bool := false
  /-- the falling instant, in units of the counter -/
  endAt : Nat := 0
  last : Bool := false
  disarm : Bool := false
  stepOff : Bool := false
  rearm : Option (List Word) := none
deriving DecidableEq, Repr

/-- A TIME_CAP input's own count and last recorded edge (R305). -/
structure Capture where
  count : Nat := 0
  recorded : Option Nat := none
deriving DecidableEq, Repr

/-- The frame-tick generator (R307, R308): T whole ns, remainder, n, the instant of the last fired tick, and a staged setting. -/
structure FrameGen where
  t : Nat := 0
  r : Nat := 0
  n : Nat := 0
  lastFired : Option Nat := none
  staged : Option (Nat × Nat × Nat) := none
  fresh : Bool := true
deriving DecidableEq, Repr

/-- A PTP message that the port has sent (R300): what it wrote into it as it left (an origin timestamp and a correction in
1/16 ns), whether the timestamp follows in another message, the UDP checksum (`none` over IEEE 802.3, where the frame check
sequence is computed again), and its TLVs. -/
structure PtpSent where
  kind : Nat
  origin : Option Nat := none
  correction : Option Int := none
  twoStep : Bool := false
  udpSum : Option Nat := none
  tlvs : List (Nat × List Byte) := []
deriving DecidableEq, Repr

/-- The servo's memory (R290 to R296), the PTP settings (R504) and the PPS label (R290). -/
structure Servo where
  offset : Option Int := none
  measuredAt : Option Nat := none
  inRun : Nat := 0
  outRun : Nat := 0
  history : List Int := []
  first : Bool := true
  /-- a jump is being closed with ADJ at its limit (R294) -/
  jumped : Bool := false
  ptpCfg : List Word := [0#32, 0x03808080#32, 0xFEF88080#32, 0#32, 0#32, 0#32, 0#32]
  master : Option Nat := none
  masterRank : Nat := 0
  utcOffset : Nat := 0
  ppsSource : Nat := 0
  ppsType : List Word := [0#32, 0#32]
  ppsEdge : Option Nat := none
  /-- the second, on the PTP scale, that a sentence has given the edge (R290) -/
  ppsLabel : Option Int := none
  ptpSent : Nat := 0
  ptpDiscarded : Nat := 0
  /-- other clocks heard in the best master clock algorithm: identity and rank (R298) -/
  foreign : List (Nat × Nat) := []
  /-- TLVs passed to firmware (R298) -/
  tlvs : List (List Byte) := []
  /-- the last message sent, the captured timestamps of event messages sent, by kind, and of the last Sync and Pdelay_Req
  received, at the pins in 1/16 ns (R299, R300) -/
  ptpOut : Option PtpSent := none
  captured : Tbl Nat := []
  syncRx : Nat := 0
  pdelayRx : Nat := 0
  /-- when TS_STATE last changed, in 1/16 ns, and what it was before (R144) -/
  tsSince : Nat := 0
  tsBefore : Nat := 2
deriving DecidableEq, Repr

/-- The latest reading of a measurement channel or a SENSE lane role since S5 was raised, and its age in ticks (R334, R335): a
sample as the channel delivers it and its c, or the duty D of a gate. -/
structure Reading where
  value : Option Int := none
  light : Nat := 0
  age : Nat := 0
  /-- the SENSE lane has lost its signal and completed no gate since (R334) -/
  noSig : Bool := false
deriving DecidableEq, Repr

/-- A zone's run-time values (R332 to R337): firmware's latest readings for it and their age in ticks; GT under each profile
whose gains are not all 1.0, F and TR as the latest update left them; and the hooked target. -/
structure Zone where
  fwTemp : Option Int := none
  fwTempAge : Nat := 0
  fwLight : List Nat := []
  fwLightAge : Nat := 0
  gt : Tbl (List Nat) := []
  f : Nat := 32768
  tr : List Nat := [32768, 32768, 32768, 32768]
  hooked : Option Nat := none
deriving DecidableEq, Repr

/-- A segment as an encoder sends it (R327, R354): wire slots, value bits, and each lamp's slot values. -/
structure SegOut where
  slots : Nat
  depth : Nat
  lamps : List (List Nat)
deriving DecidableEq, Repr

/-- Where a pixel lane's frame stands (R354 to R356, R360). -/
inductive EncPhase where
  | idle
  | late
  | sending
  | bitsDone
  | latching
deriving DecidableEq, Repr

/-- An encoder lane beside its block (R351 to R365): override words on their way, the override shown, the rendered
frame, the frame being sent, the last frame latched, and the PWM output. -/
structure EncLane where
  ovrQ : List Nat := []
  /-- the override state that the pixel lane's last segment boundary took -/
  shown : Nat := 0
  /-- the state before a word that came in the same LBC cycle as a boundary (R56, R363) -/
  before : Option Nat := none
  /-- the rendered frames that no S_n has taken yet, oldest first, with their numbers: where START_DELAY + OFFSET reaches the
  frame period, S_n comes after F_(n+1) (R351) -/
  frames : List (List SegOut × Nat) := []
  phase : EncPhase := .idle
  segs : List SegOut := []
  sent : List SegOut := []
  /-- the eight encoder words under which the frame in progress began: it finishes under them (R365) -/
  cfg : List Word := []
  /-- bits of the frame were cut off on a one-wire lane (R360) -/
  cut : Bool := false
  latched : List SegOut := []
  latchedCut : Bool := false
  /-- HOLD stopped the frame in progress (R363, R364) -/
  holdStop : Bool := false
  h : Nat := 0
  hNext : Option Nat := none
  active : Bool := false
  /-- the PERIOD of the period in progress -/
  period : Nat := 0
  /-- the number of the frame being sent, and the index since Z of the PWM period in progress (R362, R405) -/
  sendNo : Nat := 0
  periodNo : Nat := 0
  /-- LATCH_IDLE of the frame before lasts until then (R355, R360) -/
  idleUntil : Nat := 0
  /-- when the PWM period in progress began, and Z (R362): instants of the counter without its steps -/
  since : Nat := 0
  z : Nat := 0
deriving DecidableEq, Repr

/-- A calibration in progress (R377 to R382). `phase` is the phase number of R379; `p1`, `p2` and `result` are OFFSET and
GAIN; `handover` is the largest difference of phase 2, `back` that of the overlap of phase 8. -/
structure Cal where
  spare : Nat
  system : Bool
  expect : Nat
  phase : Nat
  oldOffset : Int
  oldGain : Nat
  p1 : Option (Int × Int) := none
  p2 : Option (Int × Int) := none
  result : Option (Int × Int) := none
  spread : Nat := 0
  spreadBad : Bool := false
  handover : Nat := 0
  back : Nat := 0
  diff : Bool := false
  settle : Nat := 2
  overlap : Nat := 0
  outcome : Nat := 0
  /-- the instant of the judgement (R384) -/
  judged : Nat := 0
deriving DecidableEq, Repr

/-- A slew of coefficients (R381). -/
structure Slew where
  o0 : Int
  g0 : Nat
  o1 : Int
  g1 : Nat
  j : Nat
  s : Nat
deriving DecidableEq, Repr

/-- A measurement channel beside its block (R372 to R383). -/
structure Channel where
  settle : Nat := 0
  outRun : Nat := 0
  inRun : Nat := 0
  sampledAt : Nat := 0
  slew : Option Slew := none
  cal : Option Cal := none
deriving DecidableEq, Repr

/-- A spare converter's own coefficients, and the KIND and RATE they are valid for (R379). -/
structure Spare where
  offset : Int := 0
  gain : Nat := 32768
  kind : Nat := 0
  rate : Nat := 0
deriving DecidableEq, Repr

/-- A window of INTENT messages at the standby (R397, R406). -/
structure IntentWindow where
  window : Nat
  parts : Nat
  complete : Bool
  /-- a PART is missing: the window yields no verdict -/
  broken : Bool := false
  items : List IntentEntry
deriving DecidableEq, Repr

/-- A handover in progress (R424). `giving`: this unit is the owner. `stage`: 1 asked, 2 draining, 3 the final report
sent or received, 4 after F_n. -/
structure Handover where
  giving : Bool
  revert : Bool
  stage : Nat
  tickN : Nat := 0
deriving DecidableEq, Repr

/-- The twin unit beside its registers (R389 to R425). The first four fields belong to S0, the rest to S7. -/
structure Twin where
  alive : Bool := false
  /-- when the filtered HOLD_IN last rose, on the counter without its steps (R403) -/
  holdRise : Nat := 0
  claiming : Bool := false
  /-- the unit owned as one of a pair when the warm restart began (R404) -/
  ownedBefore : Bool := false
  -- the tether
  aligned : Bool := false
  hbSeq : Nat := 0
  /-- frames sent on the tether: header, payload, CRC -/
  sent : List (List Word) := []
  /-- FSEQ of the next frame sent, and one more than the last received, by channel; 4 is the heartbeats (R393) -/
  outSeq : Tbl Nat := []
  inSeq : Tbl Nat := []
  /-- SEQUENCE of the next record of a channel (R396) -/
  recSeq : Tbl Nat := []
  -- the peer
  peer : Option Heartbeat := none
  /-- valid heartbeats arrive; when the latest one came, on the counter without its steps (R400) -/
  hbValid : Bool := false
  hbAt : Nat := 0
  peerLost : Bool := false
  /-- a secondary at start-up that has not yet claimed or heard a living peer (R404) -/
  startup : Bool := false
  /-- the start-up claim is past: a unit that does not own is a standby -/
  joined : Bool := false
  /-- the peer's latest FAULT record, its latest CFG_CHECK's issue and mode state, and its latest reason to refuse (R398) -/
  peerFault : Option (Nat × Nat × Nat) := none
  peerCheck : Option (Nat × Nat) := none
  refuseReason : Nat := 0
  -- comparison
  items : List IntentEntry := []
  windows : List IntentWindow := []
  runs : Tbl (Nat × Nat) := []
  /-- non-MATCH windows of a lane since the last FAULT record -/
  lineFault : Tbl Nat := []
  faulted : Bool := false
  /-- the lane of the YIELD that made the unit FAULTED -/
  faultLane : Option Nat := none
  resyncing : Bool := false
  resyncAt : Option Nat := none
  /-- since when the unit is qualified with every window MATCH (R415) -/
  cleanSince : Option Nat := none
  -- releases
  released : List TxcEntry := []
  txc : List TxcEntry := []
  -- snapshots
  snapAt : Option Nat := none
  snapNow : Bool := false
  /-- the mark of a snapshot captured and not yet sent -/
  snapMark : Option Nat := none
  chunks : List Nat := []
  chunkGen : Nat := 0
  /-- the committed buffer of a standby (R413); the active captures into buffer 0 -/
  snapBuf : Nat := 0
  commitMark : Option Nat := none
  /-- the last committed generation (R413) -/
  commitGen : Option Nat := none
  /-- FRAME_N when the standby's journal began (R415) -/
  journalFrom : Option Nat := none
  adopt : Bool := false
  -- journal and replay
  journal : Nat := 252
  replaying : Bool := false
  replayQ : List Sentence := []
  /-- the replay follows an exact final report (R424) -/
  exact : Bool := false
  markMiss : Nat := 0
  -- handover
  handover : Option Handover := none
  /-- lanes that the releasing unit still finishes, and lanes that the taking unit does not drive yet -/
  finishing : List Nat := []
  taking : List Nat := []
deriving DecidableEq, Repr

/-- A stream frame being received (R434 to R437). -/
structure StreamFrame where
  id : Word
  pixels : Nat
  lines : Nat
  sum : Nat := 0
  line : Nat := 0
  inLine : Bool := false
  dest : Nat := 0
  count : Nat := 0
  beats : Nat := 0
  bytes : List Byte := []
  /-- pixels of it stand in the FILL buffer: some of it came while the stream was the source (R320) -/
  stored : Bool := false
deriving DecidableEq, Repr

/-- The stream port beside its block (R432 to R441). -/
structure Stream where
  frame : Option StreamFrame := none
  fifo : Nat := 0
  /-- a frame was declared bad: beats are ignored up to the next SOF (R437) -/
  skipping : Bool := false
  /-- non-idle beats the sender may still send on the credits it holds (R438) -/
  allowance : Nat := 0
  /-- frames that wait for their commit: FRAME_ID, and whether pixels of it were stored -/
  toCommit : List (Word × Bool) := []
  sideOut : List (Nat × List Byte) := []
deriving DecidableEq, Repr

/-- The E1.31 state of a universe (R448 to R450). -/
structure Univ where
  cid : Option Nat := none
  priority : Nat := 0
  seqn : Nat := 0
  held : Option (Nat × List Byte) := none
deriving DecidableEq, Repr

/-- A UDP datagram a port has sent: destination address and port, payload. -/
structure Dgram where
  ip : Word
  udp : Nat
  payload : List Byte
deriving DecidableEq, Repr

/-- An Ethernet port beside its block (R442 to R447): datagrams sent, the listener record in transmission, which kind it
sent last (R443), other frames that wait to be sent, the frames written to its receive buffer (number, and the buffer words each occupies, R444), the
session payloads that firmware has still to take, and the frames handed to firmware (ARP, ICMP, universe discovery). -/
structure EthPort where
  out : List Dgram := []
  sending : Bool := false
  sentListener : Bool := false
  granted : Option Granted := none
  waiting : Nat := 0
  frames : List (Nat × List Nat) := []
  frameNo : Nat := 0
  inbox : List (Nat × List Byte) := []
  others : List (List Byte) := []
deriving DecidableEq, Repr

/-- A message as it lies in a mailbox or in the command record (R468). -/
structure Msg where
  opcode : Nat
  tag : BitVec 16
  length : Nat
  flags : BitVec 16
  cfgGen : Word
  crc : Word
  body : List Byte
deriving DecidableEq, Repr

/-- The state of a command-record entry (R480). -/
inductive EntryState where
  | acked
  | started
  | done
deriving DecidableEq, Repr

/-- An entry of the command record (R471, R476, R480, R493). -/
structure Entry where
  id : Nat
  mbox : Nat
  via : Transport
  msg : Msg
  st : EntryState := .acked
  replayed : Bool := false
  /-- the response of a command that was done while firmware was stopped (R480, R493): whether it steps the generation,
  status, DETAIL and data -/
  saved : Option (Bool × Nat × Nat × List Byte) := none
deriving DecidableEq, Repr

/-- What a W command waits for (R491, R492). -/
inductive WaitFor where
  | routerSwap
  | pixelCommit
  | roleMove (lane : Nat) (old : Nat)
  | sentence (started : Bool)
  | stallReset (q : Nat)
  | frameSet (sent : Bool)
  | disarm (mask : Nat)
  | modeSwitch
  | modeTick (swaps : Nat)
  | twinSwap
  | sheds
  | held
deriving DecidableEq, Repr

/-- A W command that has run and whose response is still to come; `entry` is its command-record entry. -/
structure Wait where
  entry : Option Nat
  opcode : Nat
  req : Req
  on : WaitFor
deriving DecidableEq, Repr

/-- An event that has fired and that firmware has not yet taken (R35, R482): its number, the time in 1/16 ns, LATE
(R483), and the DETAIL of an event without a flags register (E253 to E255, R484). -/
structure Firing where
  event : Nat
  stamp : Nat
  tsState : Nat := 2
  late : Bool := false
  detail : Word := 0
deriving DecidableEq, Repr

/-- A pending host event record (R482, R483). -/
structure EvtRec where
  count : Nat := 0
  detail : Word := 0
  stamp : Nat := 0
  tsState : Nat := 2
  late : Bool := false
deriving DecidableEq, Repr

/-- A message that waits for room in Q243 (R474), with the command it completes (its acknowledgement number). -/
structure Spilled where
  mbo : Nat
  bytes : List Byte
  entry : Option Nat
deriving DecidableEq, Repr

/-- An authenticated session (R451, R452, R573); its key stands for the one in the tack room. -/
structure Session where
  number : Nat
  port : Nat
  ip : Word
  udp : Nat
  key : List Byte
  peerCounter : Nat
  ownCounter : Nat
deriving DecidableEq, Repr

/-- A mode request (R524). `what`: 0 mode SLOT, 1 EMERGENCY SLOT on, 2 EMERGENCY off. -/
structure ModeReq where
  origin : Nat
  what : Nat
  slot : Nat
deriving DecidableEq, Repr

/-- A panel key's binding (R532) and its press (R530, R531). -/
structure Key where
  action : Nat := 0
  slot : Nat := 0
  report : Bool := false
  holdMs : Nat := 0
  value : Nat := 0
  cue : Nat := 0
  pressed : Bool := false
  acted : Bool := false
deriving DecidableEq, Repr

/-- A panel encoder's binding (R533) and its position. -/
structure PanelEnc where
  bound : Bool := false
  cueTarget : Bool := false
  cue : Nat := 0
  div : Nat := 0
  report : Bool := false
  stepBy : Int := 0
  state : BitVec 2 := 3
  trans : Int := 0
  detents : Int := 0
deriving DecidableEq, Repr

/-- A schedule entry (R529). -/
structure Sched where
  daily : Bool
  slot : Nat
  emerg : Bool
  time : Nat
  seen : Option Nat := none
deriving DecidableEq, Repr

/-- Where the boot stands (R551, R552). -/
inductive Boot where
  | waitS4
  | waitS1
  | rom
  | recovery
  | firmware
  | loaded
  | held
deriving DecidableEq, Repr

/-- A SHED_SET or a boot that is switching sheds (R513, R542): sheds still to raise. -/
structure ShedPlan where
  raise : List Nat
  fromCommand : Bool
deriving DecidableEq, Repr

/-- The base image in use (R518, R519). -/
structure Image where
  id : Word := 0
  gen : Word := 0
  defaultMode : Option Nat := none
  localOffset : Int := 0
  entries : List (Nat × List Byte) := []
deriving DecidableEq, Repr

/-- The reasons a step stops with a fault. No meaning of this model ends in one: where the spec names a failure the
hub records it in a flag or a counter and goes on; the constructor stands for a state no command reaches. -/
inductive Fault where
  /-- Raised by nothing: kept so that the type says a hub command never stops the machine. Safe. -/
  | stopped
deriving DecidableEq, Repr

/-- The reasons a command is refused. -/
inductive Refusal where
  /-- Raised by `exec` for a row of the table that has no meaning yet. Safe: nothing can be proved of it. -/
  | notModelled (mnemonic : String)
deriving DecidableEq, Repr

set_option maxRecDepth 2048 in
/-- The hub. -/
structure State where
  /-- the commands waiting, first in first out (the block's queue) -/
  pending : List Instr := []
  /-- the variant (R4) -/
  part : Part := .plv9664
  stepping : Nat := 0
  /-- every register field of the spec; a register not listed holds its Reset value (R15, R17) -/
  regs : Tbl Word := []
  /-- time of day in units of 2^-32 ns: SEC, NS and FRAC of R285 -/
  tod : Nat := 0
  /-- the sum of all steps of the counter since PORST_N, in ns (R297): elapsed times are measured without them -/
  stepped : Int := 0
  refclk : Bool := true
  /-- how many free values have been drawn (the model's own field: see the free values of Config) -/
  drawn : Nat := 0
  -- memories
  yard : List Host.Cell := []
  /-- firmware has written the pixel tables' initial values (R341) -/
  tablesReady : Bool := false
  /-- responses of the latest yard accesses (R256): port, response (0 OK, 1 WRITE_LOST, 2 DUE, 3 RANGE), bytes read -/
  yardOut : List (Nat × Nat × List Byte) := []
  /-- symbol errors of yard words (R257, R258): the word's place (a spare word e of the farrier stands at 4,194,304 + e) to
  an 88-bit error pattern over D0–D7, C0–C2 -/
  yardErr : Tbl Nat := []
  /-- FARRIER_MAP entries whose spare holds an uncorrectable word, their POISON bits (R271) -/
  poison : List Nat := []
  flash : List Host.Cell := []
  /-- the tack room, 64 KiB (R275); the log header's NEXT is 1 (R568) -/
  tack : List Host.Cell := [(0xFC0A, 1)]
  tackErr : Tbl Nat := []
  mbi : List Host.Cell := []
  mbo : List Host.Cell := []
  -- lanes
  rx : Tbl LaneRx := []
  tx : Tbl LaneTx := []
  enc : Tbl EncLane := []
  -- parser, router, voter
  srcs : Tbl Source := []
  eligible : List Nat := []
  lastElig : Option Nat := none
  lastOther : Option Nat := none
  entries : Tbl (List Word) := []
  actions : Tbl (List Word) := []
  groups : Tbl (List Word) := []
  bindings : Tbl (List Word) := []
  /-- stalls a binding write left out, until their listener's next choice (R179) -/
  unbound : Tbl (List Nat) := []
  hits : Tbl Nat := []
  acts : Tbl ActState := []
  commitAsked : Bool := false
  /-- the groom's sweep asks for a commit of unchanged tables (R263) -/
  sweepDue : Bool := false
  routerStaged : Bool := false
  routerQ : List Enqueue := []
  voterQ : List Enqueue := []
  ballots : List Ballot := []
  agreeRun : Tbl Nat := []
  latches : List Latch := []
  -- stalls
  stalls : Tbl Stall := []
  logSeq : Tbl Nat := []
  -- yard services
  groomPass : Option GroomPass := none
  groomNext : Nat := 0
  voidRun : Nat := 0
  trackers : Tbl (List Track) := []
  trackAge : Nat := 0
  persistMap : Tbl Word := []
  -- time unit
  pulses : Tbl Pulse := []
  caps : Tbl Capture := []
  frame : FrameGen := {}
  servo : Servo := {}
  -- pixel pipeline
  zones : Tbl Zone := []
  /-- the latest readings: channel n under n, SENSE lane role n under 32 + n -/
  readings : Tbl Reading := []
  /-- words of pixel table records that a pipe met as DUE and firmware has not rewritten (R345) -/
  pixDue : List Nat := []
  /-- a frame tick has come since S5 was raised: lanes show PAUSED from there -/
  pixTicked : Bool := false
  stagedEnc : Tbl (List Word) := []
  stagedGroup : Tbl Nat := []
  stagedDelay : Option Nat := none
  /-- RUN and SRC in force: a write applies at the next tick (R320, R506) -/
  runNow : Bool := false
  srcNow : Bool := false
  curves : Tbl Word := []
  /-- entries of the working store that read DUE (R345) -/
  curveDue : List Nat := []
  /-- source records whose seeding has not finished (R325) -/
  seedLeft : List Nat := []
  seedHeld : List (Nat × List Byte) := []
  univs : Tbl Univ := []
  syncOff : List Nat := []
  -- measurement
  channels : Tbl Channel := []
  spares : Tbl Spare := []
  calSeq : Nat := 0
  calHeld : List (List Byte) := []
  calSaved : Tbl (Int × Nat) := []
  /-- accepted coefficients that firmware has not yet written to boot flash (R383) -/
  calUnsaved : List (Nat × Int × Nat) := []
  -- twin, stream, Ethernet
  twin : Twin := {}
  stream : Stream := {}
  eth : Tbl EthPort := []
  -- host port, mailboxes, events
  spiOut : List (Option Word) := []
  ackNo : Nat := 0
  /-- which write rang each FULL mailbox, and how many writes have rung (R471) -/
  rungBy : Tbl Nat := []
  ringNo : Nat := 0
  /-- the transport that brought each FULL mailbox's message, and session and sideband messages whose mailbox is not EMPTY -/
  mbFrom : Tbl Transport := []
  mbWait : List (Nat × Transport × List Byte) := []
  cmds : List Entry := []
  waits : List Wait := []
  spill : List Spilled := []
  spillCount : Tbl Nat := []
  /-- firings not yet taken by firmware, oldest first (R35, R482) -/
  fired : List Firing := []
  evts : Tbl EvtRec := []
  evtSeq : Nat := 0
  spillSeq : Nat := 0
  gen : Word := 0
  fwStarted : Nat := 0
  restartCause : Nat := 0
  restarting : Bool := false
  sessions : List Session := []
  -- image, overlays, modes, panel
  image : Image := {}
  imageTouched : Bool := false
  erased : List Nat := []
  fellBack : Bool := false
  sealed : List Nat := []
  mode : Option Nat := none
  emerg : Option Nat := none
  modeReqs : List ModeReq := []
  /-- the switch under way (R525): its request, 0 until the router has switched and 1 until the pixel tick, and the entries
  that step 5 still applies -/
  modeWait : Option (ModeReq × Nat) := none
  modePost : List (Nat × List Byte) := []
  switched : Bool := false
  /-- the first lock after boot has been seen (R529) -/
  caughtUp : Bool := false
  keys : Tbl Key := []
  panelEncs : Tbl PanelEnc := []
  leds : Tbl (Nat × Nat) := []
  sched : List Sched := []
  -- power, boot, security
  boot : Boot := .waitS4
  shedPlan : Option ShedPlan := none
  railDown : List (Nat × Nat) := []
  brownRails : List Nat := []
  tamperOn : List Nat := []
  recoveryDue : Bool := false
  bypassPin : Bool := false
  bypassCmd : Bool := false
  pairs : List Nat := []
  fuseSealed : Bool := false
  fuseRetired : Bool := false
  fuseKeys : List (Nat × Nat) := []
  fuseArmed : BitVec 3 := 0
  fuseMask : Nat := 0
  service : Bool := false
  retireDue : Bool := false
  enrolled : Option (Nat × Nat) := none
deriving DecidableEq, Repr

/-- The hub right after PORST_N (R17, R548): every register at its Reset value, S0 alone up, the boot at its start, no command waiting. -/
def State.reset : State := {}

end Sys2Proof.Machine
end

