-- ==== Sys2Proof/Machine/Ops.lean ====
section
/-! DEFINITION. The named operations over tables, memories, bytes and registers that every meaning is written with,
and what the variant fits and which shed holds a block (R4, R5, R24, R37). -/

namespace Sys2Proof.Machine

/-! ### Sparse tables and memories -/

/-- The value at `k`; `d` where nothing is listed. -/
def tget {α : Type} (t : Tbl α) (k : Nat) (d : α) : α :=
  match t with
  | [] => d
  | (a, v) :: r => if a = k then v else tget r k d

/-- The table without `k`. -/
def tdrop {α : Type} (t : Tbl α) (k : Nat) : Tbl α :=
  match t with
  | [] => []
  | (a, v) :: r => if a = k then tdrop r k else (a, v) :: tdrop r k

/-- The table with `v` at `k`, in rising order. -/
def tins {α : Type} (t : Tbl α) (k : Nat) (v : α) : Tbl α :=
  match t with
  | [] => [(k, v)]
  | (a, w) :: r => if k < a then (k, v) :: (a, w) :: r else if k = a then (k, v) :: r else (a, w) :: tins r k v

/-- Write `v` at `k`, keeping the canonical form: the default `d` is not listed. -/
def tput {α : Type} [DecidableEq α] (t : Tbl α) (k : Nat) (v d : α) : Tbl α :=
  if v = d then tdrop t k else tins t k v

/-- Every key of the table is above `b`, keys strictly rise, and no entry is the default. -/
def tblWfFrom {α : Type} [DecidableEq α] (d : α) (b : Nat) : Tbl α → Bool
  | [] => true
  | (a, v) :: r => decide (b ≤ a) && decide (v ≠ d) && tblWfFrom d (a + 1) r

/-- The canonical form of a table with default `d`. -/
def tblWf {α : Type} [DecidableEq α] (d : α) (t : Tbl α) : Bool := tblWfFrom d 0 t

/-- The canonical form of a memory whose unlisted bytes read `d`. -/
def Memory.wf (d : Byte) (m : List Host.Cell) : Bool := tblWf d m

/-- One byte of a memory. -/
def memByte (m : List Host.Cell) (d : Byte) (a : Nat) : Byte := tget m a d

/-- `n` bytes of a memory from `a`. -/
def memRead (m : List Host.Cell) (d : Byte) (a : Nat) : Nat → List Byte
  | 0 => []
  | n + 1 => memByte m d a :: memRead m d (a + 1) n

/-- Write bytes from `a`. -/
def memWrite (m : List Host.Cell) (d : Byte) (a : Nat) : List Byte → List Host.Cell
  | [] => m
  | b :: r => memWrite (tput m a b d) d (a + 1) r

/-! ### Bytes, bits and numbers -/

/-- The low `n` bytes of a number, least significant first (R13). -/
def le (n v : Nat) : List Byte :=
  match n with
  | 0 => []
  | k + 1 => BitVec.ofNat 8 v :: le k (v / 256)

/-- The number that bytes spell, least significant first (R13). -/
def ofLe : List Byte → Nat
  | [] => 0
  | b :: r => b.toNat + 256 * ofLe r

/-- Big-endian bytes (network order). -/
def ofBe (bs : List Byte) : Nat := bs.foldl (fun a b => a * 256 + b.toNat) 0

/-- Byte `o` of a body; 0 beyond its end. -/
def byteAt (b : List Byte) (o : Nat) : Byte := b.getD o 0

/-- `n` bytes of a body from `o`. -/
def slice (b : List Byte) (o n : Nat) : List Byte := (b.drop o).take n

/-- The 16-bit number at offset `o`. -/
def u16 (b : List Byte) (o : Nat) : Nat := ofLe (slice b o 2)

/-- The 32-bit number at offset `o`. -/
def u32 (b : List Byte) (o : Nat) : Nat := ofLe (slice b o 4)

/-- The field of `w` bits from bit `lo` of a number. -/
def bits (v lo w : Nat) : Nat := v / 2 ^ lo % 2 ^ w

/-- A field of the 32-bit word at offset `o` of a body. -/
def fld (b : List Byte) (o lo w : Nat) : Nat := bits (u32 b o) lo w

/-- One bit of the 32-bit word at offset `o` of a body. -/
def flag (b : List Byte) (o lo : Nat) : Bool := fld b o lo 1 == 1

/-- A `w`-bit number read as signed. -/
def sx (w v : Nat) : Int := if v % 2 ^ w < 2 ^ (w - 1) then (v % 2 ^ w : Int) else (v % 2 ^ w : Int) - 2 ^ w

/-- A signed number as `w` bits. -/
def ux (w : Nat) (i : Int) : Nat := (i % (2 ^ w : Int)).toNat

/-- A number clamped to a range. -/
def clampI (lo hi i : Int) : Int := if i < lo then lo else if hi < i then hi else i

/-- Bool as a number. -/
def b2n (b : Bool) : Nat := if b then 1 else 0

/-- The bits of `v` that are set, below `n`. -/
def setBits (n v : Nat) : List Nat := (List.range n).filter (fun i => v.testBit i)

/-- A mask of the numbers in a list. -/
def maskOf (l : List Nat) : Nat := l.foldl (fun m i => m ||| 2 ^ i) 0

/-- Words as bytes. -/
def wordsBytes (ws : List Word) : List Byte := ws.flatMap (fun w => le 4 w.toNat)

/-- The words that bytes spell, four at a time. -/
def toWords (b : List Byte) (n : Nat) : List Word := (List.range n).map (fun i => BitVec.ofNat 32 (u32 b (4 * i)))

/-- Bytes padded with 0x00 to a multiple of 8 (R217). -/
def pad8 (b : List Byte) : List Byte := b ++ List.replicate ((8 - b.length % 8) % 8) 0

/-- A list with one position replaced. -/
def setAt {α : Type} (l : List α) (i : Nat) (v : α) : List α := l.set i v

/-! ### What the variant fits (R4) and the sheds (R24, R37) -/

/-- Lanes fitted (R4). -/
def Part.lanes : Part → Nat
  | .plv9664 => 96
  | .plv9648 => 48
  | .plv9624 => 24

/-- Ethernet ports fitted (R4). -/
def Part.ports : Part → Nat
  | .plv9624 => 1
  | _ => 2

/-- Stream port, pixel pipeline and encoders fitted (R4). -/
def Part.hasPixel : Part → Bool
  | .plv9624 => false
  | _ => true

/-- Tether and interlock fitted (R4). -/
def Part.hasTwin : Part → Bool
  | .plv9664 => true
  | _ => false

/-- HOST_CAP1.SHEDS (R465): the sheds present. -/
def Part.sheds : Part → Nat
  | .plv9664 => 0xFFF
  | .plv9648 => 0x3FF
  | .plv9624 => 0x1DF

/-- The part code (R4, R464). -/
def Part.code : Part → Nat
  | .plv9664 => 0x9664
  | .plv9648 => 0x9648
  | .plv9624 => 0x9624

/-- HOST_CAP0 (R465). -/
def Part.cap0 : Part → Word
  | .plv9664 => 0x00601FFF
  | .plv9648 => 0x00301EF3
  | .plv9624 => 0x00180E11

/-- HOST_CAP1 (R465). -/
def Part.cap1 : Part → Word
  | .plv9664 => 0x00300FFF
  | .plv9648 => 0x003003FF
  | .plv9624 => 0x003001DF

/-- A source ID names a fitted source (R125): lane roles, Ethernet ports, host, processor. -/
def Part.hasSource (p : Part) (src : Nat) : Bool :=
  decide (src < p.lanes) || (decide (0x1000 ≤ src) && decide (src < 0x1000 + p.ports)) || src == 0x2000 || src == 0x3000

/-- A block number exists on this variant (R4, R5). -/
def blkFitted (p : Part) (b : Blk) (i : Nat) : Bool :=
  match b with
  | .host | .router | .vote | .yard | .time | .meas | .panel | .power | .sec => i == 0
  | .laneRx | .laneTx => decide (i < p.lanes)
  | .parse => p.hasSource i
  | .stall => decide (i < 256)
  | .farrierMap => decide (i < 1024)
  | .pulse | .cap => decide (i < 8)
  | .pixel | .encGlobal => p.hasPixel && i == 0
  | .pixelCue => p.hasPixel && decide (i < 128)
  | .encLane => p.hasPixel && decide (i < p.lanes)
  | .encGroup => p.hasPixel && decide (1 ≤ i) && decide (i < 64)
  | .measCh | .measLin => decide (i < 24)
  | .twin => p.hasTwin && i == 0
  | .stream => p.hasPixel && i == 0
  | .eth => decide (i < p.ports)

/-- The shed of lane n's bank (R37). -/
def laneShed (n : Nat) : Nat := 8 + n / 24

/-- The shed that holds a register (R24; the chapters' register sections). -/
def regShed (r : RegAddr) : Nat :=
  match r.blk with
  | .host | .time | .pulse | .cap | .panel | .power | .sec => 0
  | .laneRx | .laneTx => laneShed r.inst
  | .parse | .router => 2
  | .vote => 3
  | .stall | .yard | .farrierMap => 4
  | .pixel | .pixelCue | .encLane | .encGlobal | .encGroup => 5
  | .meas | .measCh | .measLin => 6
  | .twin => if r.off < 8 then 0 else 7
  | .stream | .eth => 7

/-! ### Registers -/

/-- The stored word of a register. -/
def State.reg (s : State) (r : RegAddr) : Word := tget s.regs (regKey r) (resetWord r)

/-- Store a register's word. -/
def State.setReg (s : State) (r : RegAddr) (w : Word) : State :=
  { s with regs := tput s.regs (regKey r) w (resetWord r) }

/-- A field's register in block number `i`. -/
def Field.addr (f : Field) (i : Nat) : RegAddr := ⟨f.blk, i, f.off⟩

/-- A field's value (of the stored word). -/
def State.get (s : State) (f : Field) (i : Nat) : Nat := bits (s.reg (f.addr i)).toNat f.lo f.width

/-- A one-bit field. -/
def State.on (s : State) (f : Field) (i : Nat) : Bool := s.get f i == 1

/-- Put a value into a field of a word. -/
def putField (w : Word) (f : Field) (v : Nat) : Word :=
  (w &&& ~~~ BitVec.ofNat 32 f.mask) ||| BitVec.ofNat 32 (v % 2 ^ f.width * 2 ^ f.lo)

/-- Set a field. -/
def State.set (s : State) (f : Field) (i v : Nat) : State :=
  s.setReg (f.addr i) (putField (s.reg (f.addr i)) f v)

/-- Set a one-bit field. -/
def State.setB (s : State) (f : Field) (i : Nat) (b : Bool) : State := s.set f i (b2n b)

/-- Add to a counter that holds at its maximum and does not wrap (R92 and its like). -/
def State.addTo (s : State) (f : Field) (i n : Nat) : State :=
  s.set f i (min (s.get f i + n) (2 ^ f.width - 1))

/-- Add 1 to a counter that holds at its maximum. -/
def State.inc (s : State) (f : Field) (i : Nat) : State := s.addTo f i 1

/-- Add 1 to a counter that wraps. -/
def State.incWrap (s : State) (f : Field) (i : Nat) : State := s.set f i (s.get f i + 1)

/-- Clear several fields of one block. -/
def State.clear (s : State) (fs : List Field) (i : Nat) : State := fs.foldl (fun t f => t.set f i 0) s

/-- A signed field. -/
def State.getI (s : State) (f : Field) (i : Nat) : Int := sx f.width (s.get f i)

/-- Set a signed field. -/
def State.setI (s : State) (f : Field) (i : Nat) (v : Int) : State := s.set f i (ux f.width v)

/-- Set the software-written bits (RW) of a register from a word: the plain write of R15; reserved bits stay 0. -/
def State.putRw (s : State) (r : RegAddr) (w : Word) : State :=
  let m := regMask r (fun a => a == .rw)
  s.setReg r ((s.reg r &&& ~~~ m) ||| (w &&& m))

/-- Return every register that a predicate on (block number, object) picks to its Reset value (R17). -/
def State.resetBlks (s : State) (p : Nat → Nat → Nat → Bool) : State :=
  { s with regs := s.regs.filter (fun e => !p (keyBlk e.1) (keyInst e.1) (e.1 % 65536)) }

/-- A shed is up (POWER_SHEDS.UP). -/
def State.shedUp (s : State) (n : Nat) : Bool := (s.get F.pwr_UP 0).testBit n

/-- A lane is fitted and its bank powered. -/
def State.laneUp (s : State) (n : Nat) : Bool := decide (n < s.part.lanes) && s.shedUp (laneShed n)

/-- An Ethernet port is fitted and works: S7 is up, and S4, without which only the tether's heartbeat and the interlock run on
S7 (R38). -/
def ethOn (s : State) (p : Nat) : Bool := decide (p < s.part.ports) && s.shedUp 7 && s.shedUp 4

/-- Firmware runs and takes commands (HOST_FW.RUNNING). -/
def State.running (s : State) : Bool := s.on F.host_RUNNING 0

/-! ### Time (R285, R143) -/

/-- One second, and one nanosecond, in units of the counter (2^-32 ns). -/
def nsUnit : Nat := 4294967296

def secUnit : Nat := 1000000000 * nsUnit

/-- The counter truncated to 1/16 ns (R143). -/
def State.stamp (s : State) : Nat := s.tod / 268435456

/-- The counter without its steps: what elapsed times are measured on. -/
def State.ran (s : State) : Nat := ((s.tod : Int) - s.stepped * (nsUnit : Int)).toNat

/-- Whole nanoseconds since second 0. -/
def State.nowNs (s : State) : Nat := s.tod / nsUnit

/-- Seconds of a stamp in 1/16 ns. -/
def stampSec (t : Nat) : Nat := t / 16000000000

/-- Nanoseconds of a stamp in 1/16 ns. -/
def stampNs (t : Nat) : Nat := t / 16 % 1000000000

/-- TS_STATE that TIME_STATE.SERVO gives (R144, R291); values 5 to 7 behave as FREE (R312). -/
def tsState (servo : Nat) : Nat :=
  match servo with
  | 2 => 0
  | 3 => 1
  | 4 => 1
  | _ => 2

/-- TS_STATE now. -/
def State.tsState (s : State) : Nat := Machine.tsState (s.get F.time_SERVO 0)

/-- TS_STATE at an instant (R144): what it was before its last change, or is since. -/
def State.tsAt (s : State) (stamp : Nat) : Nat := if stamp < s.servo.tsSince then s.servo.tsBefore else s.tsState

/-! ### Records (R146, R217) -/

/-- What a record's header carries beside LENGTH. -/
structure Hdr where
  kind : Nat
  source : Nat
  seqn : Nat
  stamp : Nat
  tsSrc : Nat
  tsState : Nat
  /-- the flag bits 0x00 [21:16] -/
  flags : Nat := 0
  cls : Nat := 0
  agree : Nat := 0
  degraded : Bool := false
  entry : Nat := 0
deriving DecidableEq, Repr

/-- A record's bytes: the 24-byte header of R146 and the body padded to a multiple of 8 (R217). -/
def mkRecord (h : Hdr) (body : List Byte) : List Byte :=
  le 4 (body.length % 65536 + h.flags % 64 * 65536 + h.tsSrc % 4 * 4194304 + h.tsState % 4 * 16777216) ++
  le 4 (h.source % 65536 + h.cls % 4 * 65536 + h.kind % 16 * 1048576 + h.agree % 8 * 16777216 +
    b2n h.degraded * 134217728) ++
  le 4 (h.seqn) ++
  le 4 (stampNs h.stamp) ++ le 4 (stampSec h.stamp) ++
  le 4 (stampSec h.stamp / 4294967296 % 65536 + h.entry % 4096 * 65536 + h.stamp % 16 * 268435456) ++
  pad8 body

/-- Record bytes for a body of n bytes (R217). -/
def recordSize (n : Nat) : Nat := 24 + 8 * ((n + 7) / 8)

/-- The header of a record the hub writes for itself: SOURCE 0x3000, TS_SRC 2, the time of writing (R203, R236, R483). -/
def State.ownHdr (s : State) (kind seqn : Nat) : Hdr :=
  { kind := kind, source := 0x3000, seqn := seqn, stamp := s.stamp, tsSrc := 2, tsState := s.tsState }

end Sys2Proof.Machine
end

