-- ==== Sys2Proof/Machine/Flags.lean ====
section
/-! DEFINITION. Event flags: every flag register of the spec with its bits by name, raising a flag and firing its
event (R16, R35), the snapshot firmware takes of a source and the bits it writes back (R482, R484). -/

namespace Sys2Proof.Machine

/-- An event fires (R35): it waits for firmware to take it. -/
def fire (s : State) (e : Nat) : State := { s with fired := s.fired ++ [{ event := e, stamp := s.stamp, tsState := s.tsState }] }

/-- An event of R485 that carries its own DETAIL fires. -/
def fireDetail (s : State) (e : Nat) (d : Nat) : State :=
  { s with fired := s.fired ++ [{ event := e, stamp := s.stamp, tsState := s.tsState, detail := BitVec.ofNat 32 d }] }

/-- Latch a flag bit; its event `e` fires when the bit goes from 0 to 1 while its enable is 1. -/
def raise (s : State) (fl ev : Field) (i bit e : Nat) : State :=
  let v := s.get fl i
  if v.testBit bit then s
  else
    let s1 := s.set fl i (v ||| 2 ^ bit)
    if (s.get ev i).testBit bit then fire s1 e else s1

/-! Bits of the flag registers. -/

namespace Bit

-- LANE_RX_FLAGS (R90)
def rxFalseStart : Nat := 0
def rxFraming : Nat := 1
def rxParity : Nat := 2
def rxBreak : Nat := 3
def rxOverrun : Nat := 4
def rxFragment : Nat := 5
def rxStuckSet : Nat := 6
def rxStuckClear : Nat := 7
def rxSilentSet : Nat := 8
def rxTalkerBack : Nat := 9
def rxAbLock : Nat := 10
def rxAbReject : Nat := 11
-- LANE_TX_FLAGS (R122)
def txCollision : Nat := 0
def txDrop : Nat := 1
def txAbort : Nat := 2
def txDmxShort : Nat := 3
def txDmxUpdErr : Nat := 4
def txSenseOvf : Nat := 5
def txNoSignal : Nat := 6
def txSignalBack : Nat := 7
def txModeDone : Nat := 8
def txRoleMoved : Nat := 9
-- ROUTER_FLAGS (R186)
def rtMiss : Nat := 0
def rtClass0Refused : Nat := 1
def rtRateDrop : Nat := 2
def rtEmptyGroup : Nat := 3
def rtCopyAbandoned : Nat := 4
def rtHookErr : Nat := 5
def rtSwapDone : Nat := 6
def rtCntHeld : Nat := 7
-- VOTE_FLAGS (R208)
def vtDissent : Nat := 0
def vtSuspect : Nat := 1
def vtNoMajority : Nat := 2
def vtPrimaryMismatch : Nat := 3
def vtDegradedSet : Nat := 4
def vtDegradedClear : Nat := 5
def vtOverride : Nat := 6
def vtOvrErr : Nat := 7
-- STALL_FLAGS (R246)
def stNotice : Nat := 0
def stWm : Nat := 1
def stLoss : Nat := 2
def stOvertaken : Nat := 3
def stReset : Nat := 4
def stMismatch : Nat := 5
def stTooBig : Nat := 6
def stCreditViol : Nat := 7
def stCmdRefused : Nat := 8
-- YARD_FLAGS and GROOM_FLAGS (R280)
def ydCe : Nat := 0
def ydWriteLost : Nat := 1
def ydDue : Nat := 2
def ydRange : Nat := 3
def ydSpareLow : Nat := 4
def ydTackCe : Nat := 5
def ydTackDue : Nat := 6
def gmMarchFail : Nat := 0
def gmSweepDone : Nat := 1
def gmRemap : Nat := 2
def gmFarrierFull : Nat := 3
-- TIME_FLAGS (R315) and the pin flags (R316)
def tmLocked : Nat := 0
def tmLockLost : Nat := 1
def tmMasterJump : Nat := 2
def tmStepped : Nat := 3
def tmMasterChange : Nat := 4
def tmAtLimit : Nat := 5
def tmTickSuppressed : Nat := 6
def tmPtpDiscard : Nat := 7
def pnPulseDone : Nat := 0
def pnPulseLate : Nat := 1
def pnStepOff : Nat := 2
def pnCapEdge : Nat := 3
-- PIXEL_FLAGS (R349) and ENC_FLAGS (R371)
def pxLate : Nat := 0
def pxSkip : Nat := 1
def pxCommitDone : Nat := 2
def pxTempStale : Nat := 3
def pxFoldActive : Nat := 4
def pxTrimAtLimit : Nat := 5
def pxDue : Nat := 6
def pxSrcIgnored : Nat := 7
def enStartLate : Nat := 0
def enUnderrun : Nat := 1
def enLatchMiss : Nat := 2
def enFrameSkip : Nat := 3
-- MEAS_FLAGS (R388)
def msLimit : Nat := 0
def msOverrange : Nat := 1
def msCalDone : Nat := 2
def msCalReject : Nat := 3
def msSpareBad : Nat := 4
def msHandoverDiff : Nat := 5
def msCalAbort : Nat := 6
-- TWIN_FLAGS (R430)
def twPeerLost : Nat := 0
def twOwned : Nat := 1
def twClaimFail : Nat := 2
def twReleased : Nat := 3
def twVerdict : Nat := 4
def twSnapBad : Nat := 5
def twJournalShort : Nat := 6
def twPairMismatch : Nat := 7
-- STR_FLAGS (R454) and ETH_FLAGS (R455)
def srLinkChange : Nat := 0
def srBadFrame : Nat := 1
def srCrdViol : Nat := 2
def srSbErr : Nat := 3
def etLinkChange : Nat := 0
def etRxNobuf : Nat := 1
def etRxErr : Nat := 2
def etE131Drop : Nat := 3
def etAuthFail : Nat := 4
-- POWER_FLAGS (R556) and SEC_FLAGS (R575)
def pwBrownout : Nat := 0
def pwEconomy : Nat := 1
def pwShedFault : Nat := 2
def pwSupplyLimit : Nat := 3
def scTamper : Nat := 0
def scLife : Nat := 1
def scSigFail : Nat := 2
def scAccess : Nat := 3
-- HOST_ERR (R466)
def erBadInstr : Nat := 0
def erAddr : Nat := 1
def erBurst : Nat := 2
def erShortCommit : Nat := 3
def erTimeout : Nat := 4
def erMbBusy : Nat := 5
def erDbBusy : Nat := 6
def erKey : Nat := 7
def erWrOvf : Nat := 8

end Bit

/-! Raising a flag of each unit: register, enable and event as R35 and the chapters allocate them. -/

def raiseRx (s : State) (lane bit : Nat) : State := raise s F.rx_FLAGS F.rx_EVEN lane bit lane

def raiseTx (s : State) (lane bit : Nat) : State := raise s F.tx_FLAGS F.tx_EVEN lane bit lane

def raiseStall (s : State) (q bit : Nat) : State := raise s F.stall_FLAGS F.stall_EVEN q bit (96 + q / 4)

def raiseYard (s : State) (bit : Nat) : State := raise s F.yard_FLAGS F.yard_EVEN 0 bit (160 + bit)

def raiseGroom (s : State) (bit : Nat) : State := raise s F.yard_GROOM_FLAGS F.yard_GROOM_EVEN 0 bit (168 + bit)

def raiseRouter (s : State) (bit : Nat) : State := raise s F.router_FLAGS F.router_EVEN 0 bit (172 + bit)

def raiseVote (s : State) (bit : Nat) : State := raise s F.vote_FLAGS F.vote_EVEN 0 bit (180 + bit)

def raiseTime (s : State) (bit : Nat) : State := raise s F.time_FLAGS F.time_EVEN 0 bit (188 + bit)

def raisePin (s : State) (n bit : Nat) : State := raise s F.pulse_PINFLAGS F.pulse_PINEN n bit (196 + n)

def raisePixel (s : State) (bit : Nat) : State := raise s F.pixel_FLAGS F.pixel_EVEN 0 bit (204 + bit)

def raiseEnc (s : State) (bit : Nat) : State := raise s F.encg_FLAGS F.encg_EVEN 0 bit (212 + bit)

def raiseMeas (s : State) (bit : Nat) : State := raise s F.meas_FLAGS F.meas_EVEN 0 bit (216 + bit)

def raiseTwin (s : State) (bit : Nat) : State := raise s F.twin_FLAGS F.twin_EVEN 0 bit (228 + bit)

def raiseStr (s : State) (bit : Nat) : State := raise s F.str_FLAGS F.str_EVEN 0 bit (236 + bit)

def raiseEth (s : State) (port bit : Nat) : State :=
  raise s F.eth_FLAGS F.eth_EVEN port bit (240 + 2 * port + b2n (bit != 0))

def raisePower (s : State) (bit : Nat) : State := raise s F.pwr_FLAGS F.pwr_EVEN 0 bit (244 + bit)

def raiseSec (s : State) (bit : Nat) : State := raise s F.sec_FLAGS F.sec_EVEN 0 bit (248 + bit)

/-- A HOST_ERR bit is set; E252 fires when it goes from 0 to 1 (R466, R485). -/
def hostErr (s : State) (bit : Nat) : State :=
  let v := s.get F.host_ERR 0
  if v.testBit bit then s else fire (s.set F.host_ERR 0 (v ||| 2 ^ bit)) 252

/-- The unit that raises a bit of a flag register, as the raises above do. -/
def raiseOf (f : Field) : State → Nat → Nat → State :=
  match f.blk with
  | .laneRx => raiseRx
  | .laneTx => raiseTx
  | .stall => raiseStall
  | .yard => if f.off == 4 then fun s _ => raiseYard s else fun s _ => raiseGroom s
  | .router => fun s _ => raiseRouter s
  | .vote => fun s _ => raiseVote s
  | .time => fun s _ => raiseTime s
  | .pulse => raisePin
  | .pixel => fun s _ => raisePixel s
  | .encGlobal => fun s _ => raiseEnc s
  | .meas => fun s _ => raiseMeas s
  | .twin => fun s _ => raiseTwin s
  | .stream => fun s _ => raiseStr s
  | .eth => raiseEth
  | .power => fun s _ => raisePower s
  | .sec => fun s _ => raiseSec s
  | _ => fun s _ => hostErr s

/-- Bits `w` of a W1C register that read 0 are latched: each as its unit raises it, with its event (R16, R35). -/
def latchFlags (s : State) (r : RegAddr) (w : Word) : State :=
  ((fieldsOf r.blk).filter (fun f => f.off == r.off && f.acc == .w1c)).foldl (fun t f =>
    (List.range f.width).foldl (fun u b =>
      if !w.getLsbD (f.lo + b) then u
      else if f.blk = .host ∧ f.off = 0x34 then u.set f 0 (u.get f 0 ||| 2 ^ b)
      else raiseOf f u r.inst b) t) s

/-- A router counter adds 1 and CNT_HELD is raised when it reaches its maximum (R186, R187). -/
def routerInc (s : State) (f : Field) : State :=
  let s1 := s.inc f 0
  if s1.get f 0 == 0xFFFFFFFF && s.get f 0 != 0xFFFFFFFF then raiseRouter s1 Bit.rtCntHeld else s1

/-! Taking an event: the flag registers behind it (R35, R484). -/

/-- The flag registers an event reads: field, object and the place of its bits in DETAIL. -/
def eventFlags (e : Nat) : List (Field × Nat × Nat) :=
  if e < 96 then [(F.rx_FLAGS, e, 0), (F.tx_FLAGS, e, 16)]
  else if e < 160 then (List.range 4).map (fun j => (F.stall_FLAGS, 4 * (e - 96) + j, 8 * j))
  else if e < 168 then [(F.yard_FLAGS, 0, 0)]
  else if e < 172 then [(F.yard_GROOM_FLAGS, 0, 0)]
  else if e < 180 then [(F.router_FLAGS, 0, 0)]
  else if e < 188 then [(F.vote_FLAGS, 0, 0)]
  else if e < 196 then [(F.time_FLAGS, 0, 0)]
  else if e < 204 then [(F.pulse_PINFLAGS, e - 196, 0)]
  else if e < 212 then [(F.pixel_FLAGS, 0, 0)]
  else if e < 216 then [(F.encg_FLAGS, 0, 0)]
  else if e < 228 then [(F.meas_FLAGS, 0, 0)]
  else if e < 236 then [(F.twin_FLAGS, 0, 0)]
  else if e < 240 then [(F.str_FLAGS, 0, 0)]
  else if e < 244 then [(F.eth_FLAGS, (e - 240) / 2, 0)]
  else if e < 248 then [(F.pwr_FLAGS, 0, 0)]
  else if e < 252 then [(F.sec_FLAGS, 0, 0)]
  else if e == 252 then [(F.host_ERR, 0, 0)]
  else []

/-- The enable field beside a flag field, for the sources that have one. -/
def enableOf (f : Field) : Option Field :=
  match f.blk, f.off with
  | .laneRx, _ => some F.rx_EVEN
  | .laneTx, _ => some F.tx_EVEN
  | .stall, _ => some F.stall_EVEN
  | .yard, 4 => some F.yard_EVEN
  | .yard, _ => some F.yard_GROOM_EVEN
  | .router, _ => some F.router_EVEN
  | .vote, _ => some F.vote_EVEN
  | .time, _ => some F.time_EVEN
  | .pulse, _ => some F.pulse_PINEN
  | .pixel, _ => some F.pixel_EVEN
  | .encGlobal, _ => some F.encg_EVEN
  | .meas, _ => some F.meas_EVEN
  | .twin, _ => some F.twin_EVEN
  | .stream, _ => some F.str_EVEN
  | .eth, _ => some F.eth_EVEN
  | .power, _ => some F.pwr_EVEN
  | .sec, _ => some F.sec_EVEN
  | _, _ => none

/-- DETAIL of an event (R484): a stall's byte takes its flags [7:0]. -/
def eventDetail (s : State) (fi : Firing) : Nat :=
  if fi.event < 253 then
    (eventFlags fi.event).foldl (fun d (f, i, sh) =>
      d ||| (if f.blk = .stall then s.get f i % 256 else s.get f i) * 2 ^ sh) 0
  else fi.detail.toNat

/-- Firmware writes back the bits it read: the flags are cleared, for every source but E252 (R482). -/
def eventTake (s : State) (e : Nat) : State :=
  if e == 252 then s else (eventFlags e).foldl (fun t (f, i, _) => t.set f i 0) s

/-- An event has an enabled flag set (R481, R483: forwarded LATE after a warm restart). A pair of the lane, ETH and
yard flag registers is read under its own event. -/
def eventStanding (s : State) (e : Nat) : Bool :=
  (eventFlags e).any (fun (f, i, _) =>
    let v := match enableOf f with
      | some ev => s.get f i &&& s.get ev i
      | none => s.get f i
    if f.blk = .eth then (if e % 2 == 0 then v % 2 != 0 else v / 2 != 0)
    else if e < 160 || (decide (196 ≤ e) && decide (e < 204)) || e == 252 then v != 0
    else v.testBit ((e - (if e < 168 then 160 else if e < 172 then 168 else if e < 180 then 172
      else if e < 188 then 180 else if e < 196 then 188 else if e < 212 then 204 else if e < 216 then 212
      else if e < 228 then 216 else if e < 236 then 228 else if e < 240 then 236 else if e < 248 then 244 else 248))))

end Sys2Proof.Machine
end

