-- ==== Sys2Proof/Machine/YardCode.lean ====
section
/-! DEFINITION. The word code of the yard and the tack room (R257, R258, R276): the field GF(256), the syndrome of an
error pattern, what it shows, and the bytes of a yard word as the hub reads them. -/

namespace Sys2Proof.Machine

/-- Multiplication by α in GF(256) with polynomial 0x11D (R257). -/
def gfStep (a : Nat) : Nat := if a < 128 then 2 * a else (2 * a) ^^^ 0x11D

/-- a × α^n. -/
def gfShift (a : Nat) : Nat → Nat
  | 0 => a
  | n + 1 => gfShift (gfStep a) n

/-- A symbol's exponent in the code word: D0 to D7 are symbols 0 to 7 at x^3 to x^10, C0 to C2 symbols 8 to 10 at x^0
to x^2 (R257). -/
def symExp (i : Nat) : Nat := if i < 8 then i + 3 else i - 8

/-- Symbol `i` of an 88-bit pattern. -/
def symOf (e i : Nat) : Nat := e / 256 ^ i % 256

/-- Syndrome j: the pattern's polynomial at α^j (the roots of g are 1, α and α^2). -/
def syndrome (e j : Nat) : Nat :=
  (List.range 11).foldl (fun s i => s ^^^ gfShift (symOf e i) (j * symExp i)) 0

/-- What a read finds (R258). -/
inductive WordState where
  | clean
  | single (sym : Nat) (mask : Nat)
  | due
deriving DecidableEq, Repr

/-- The syndrome of an error pattern, and what the hub concludes from it (R258). -/
def wordState (e : Nat) : WordState :=
  let s0 := syndrome e 0
  let s1 := syndrome e 1
  let s2 := syndrome e 2
  if s0 == 0 && s1 == 0 && s2 == 0 then .clean
  else
    match (List.range 11).find? (fun i => s0 != 0 && gfShift s0 (symExp i) == s1 && gfShift s0 (2 * symExp i) == s2) with
    | some i => .single i s0
    | none => .due

/-- The check bytes C0, C1, C2 of a word's data bytes (R257): the remainder that makes all three syndromes zero. -/
def checkBytes (d : List Byte) : List Byte :=
  let r := d.reverse.foldl (fun (t : Nat × Nat × Nat) b =>
    let f := t.2.2 ^^^ b.toNat
    let m := fun k => (List.range 8).foldl (fun s i => if k.testBit i then s ^^^ gfShift f i else s) 0
    (m 0x08, t.1 ^^^ m 0x0E, t.2.1 ^^^ m 0x07)) (0, 0, 0)
  [BitVec.ofNat 8 r.1, BitVec.ofNat 8 r.2.1, BitVec.ofNat 8 r.2.2]

/-! ### The pixel tables' initial values (R341) -/

/-- Where the pixel tables lie (R341): copy 0, copy 1, the curves. -/
def pixelCopy (c : Nat) : Nat := 0x1AA8000 + c * 0x2C000

def curveBase : Nat := 0x1B00000

def curveEnd : Nat := 0x1C00000

/-- A byte of a segment record's reset value (R327): DEPTH 8, SLOTS 3. -/
def segInit (o : Nat) : Byte := if o == 0x0B then 0x80#8 else if o == 0x0D then 0x03#8 else 0

/-- A byte of a profile's reset value (R331): the unit matrix, gains of 1.0. -/
def profInit (o : Nat) : Byte :=
  if decide (o < 0x20) then (if o % 2 == 1 && o / 8 == o % 8 / 2 then 0x40#8 else 0)
  else if decide (0x30 ≤ o) && decide (o < 0x70) && o % 2 == 1 then 0x80#8 else 0

/-- A byte of a zone record's reset value (R333): FOLD_MIN 32,768, shares 65,535, STALE 16. -/
def zoneInit (o : Nat) : Byte :=
  if o == 0x11 then 0x80#8 else if decide (0x14 ≤ o) && decide (o < 0x1C) then 0xFF#8 else if o == 0x1E then 16#8 else 0

/-- A byte of a pixel table copy at offset `o` after firmware has initialised it (R341). -/
def copyInit (o : Nat) : Byte :=
  if o < 0x18000 then segInit (o % 16)
  else if o < 0x20000 then profInit ((o - 0x18000) % 128)
  else if o < 0x28000 then zoneInit ((o - 0x20000) % 32)
  else 0

/-- A byte of the identity curves: entry i holds 256 × i (R341). -/
def curveInit (o : Nat) : Byte :=
  let i := o / 4 % 4096
  if o % 4 == 1 then BitVec.ofNat 8 (i % 256) else if o % 4 == 2 then BitVec.ofNat 8 (i / 256) else 0

/-- What a yard byte that nothing has written reads as (R341, R543): zero, but in the pixel tables their initial values
once firmware has written them. -/
def yardInit (ready : Bool) (a : Nat) : Byte :=
  if !ready || decide (a < 0x1AA8000) || decide (curveEnd ≤ a) then 0
  else if a < 0x1AD4000 then copyInit (a - 0x1AA8000)
  else if a < curveBase then copyInit (a - 0x1AD4000)
  else curveInit (a - curveBase)

/-! ### Where a word stands (R264, R265, R269) -/

/-- The place of a spare word of the farrier: outside the yard's addresses (R269). -/
def spareWord (e : Nat) : Nat := 4194304 + e

/-- A FARRIER_MAP register word in force for a row of a bank, under its register key (R269, R283). -/
def mapsRow (b row : Nat) (e : Nat × Word) : Bool :=
  keyBlk e.1 == blkCode .farrierMap && keyInst e.1 / 64 == b && e.2.getLsbD 18 && e.2.toNat % 262144 == row

/-- Map entry `e` redirects a row of a bank (R269). -/
def mapsHere (s : State) (b row e : Nat) : Bool := e / 64 == b && s.get F.map_ROW e == row && s.on F.map_VALID e

/-- The valid map entry of a row (R269): one that some register word names, and that redirects the row as the registers read. -/
def mapEntry (s : State) (b row : Nat) : Option Nat :=
  ((s.regs.filter (mapsRow b row)).map (fun e => keyInst e.1)).find? (mapsHere s b row)

/-- The phase of a pass (R264, R282): 1 COPY, 2 MARCH, 3 RESTORE, 4 VERIFY, 5 SCRUB. -/
def GroomPass.phase (g : GroomPass) : Nat :=
  if !g.march then 5 else if g.turn < 128 then 1 else if g.turn < 768 then 2 else if g.turn < 896 then 3 else 4

/-- Save word `i` of the region that is borrowed (R264): buffer A, or B for A's own region. -/
def saveWord (r i : Nat) : Nat := (if r == 65534 then 0x3FFFC0 else 0x3FFF80) + i

/-- Word `w` is away in the save buffer (R265): COPY has written its save word and RESTORE has not written it back. -/
def GroomPass.away (g : GroomPass) (w : Nat) : Bool :=
  g.march && w / 64 == g.region && decide (2 * (w % 64) + 2 ≤ g.turn) && decide (g.turn < 768 + (2 * (w % 64) + 2))

/-- The word that serves an access to word `w`: its save word while it is away (R265). -/
def State.home (s : State) (w : Nat) : Nat :=
  match s.groomPass with
  | some g => if g.away w then saveWord g.region (w % 64) else w
  | none => w

/-- The cells of a word: its row's spare where the farrier has redirected the row (R269). -/
def State.cells (s : State) (w : Nat) : Nat := ((mapEntry s (w % 16) (w / 16)).map spareWord).getD w

/-- Where an access to word `w` is served. -/
def State.loc (s : State) (w : Nat) : Nat := s.cells (s.home w)

/-- The place of a yard byte. -/
def State.place (s : State) (a : Nat) : Nat := 8 * s.loc (a / 8) + a % 8

/-- The words that another place serves (R265, R269): rows on a spare, and the region that a pass borrows. -/
def State.displaced (s : State) : List Nat :=
  (s.regs.filter (fun e => keyBlk e.1 == blkCode .farrierMap && e.2.getLsbD 18)).map
      (fun e => 16 * (e.2.toNat % 262144) + keyInst e.1 / 64) ++
    (match s.groomPass with
     | some g => (List.range 64).map (fun i => 64 * g.region + i)
     | none => [])

/-! ### Yard bytes -/

/-- Every address is above `b`, addresses rise, and no entry is what an unlisted address reads as. -/
def yardWfFrom (ready : Bool) (b : Nat) : List Host.Cell → Bool
  | [] => true
  | (a, v) :: r => decide (b ≤ a) && decide (v ≠ yardInit ready a) && yardWfFrom ready (a + 1) r

/-- The canonical form of the yard. -/
def State.yardWf (s : State) : Bool := yardWfFrom s.tablesReady 0 s.yard

/-- The byte last written at an address. -/
def State.yardCell (s : State) (a : Nat) : Byte := tget s.yard (s.place a) (yardInit s.tablesReady (s.place a))

/-- The error pattern standing in the word of an address. -/
def State.yardPattern (s : State) (a : Nat) : Nat := tget s.yardErr (s.loc (a / 8)) 0

/-- The word of an address reads detected-uncorrectable (R258). -/
def State.wordDue (s : State) (a : Nat) : Bool := !s.yardErr.isEmpty && decide (wordState (s.yardPattern a) = .due)

/-- A byte at place `p` under error pattern `e` as a read returns it (R258): corrected where one symbol is in error, as
stored otherwise. -/
def readByte (v : Byte) (e p : Nat) : Byte :=
  if e == 0 then v
  else match wordState e with
    | .single i m => v ^^^ BitVec.ofNat 8 (symOf e (p % 8) ^^^ (if i == p % 8 then m else 0))
    | _ => v ^^^ BitVec.ofNat 8 (symOf e (p % 8))

/-- A yard byte as a read returns it (R258). -/
def State.yardByte (s : State) (a : Nat) : Byte :=
  if s.yardErr.isEmpty then s.yardCell a else readByte (s.yardCell a) (s.yardPattern a) a

/-- A write into the region that the groom marches sets WRITTEN (R266). -/
def State.markWritten (s : State) (a : Nat) : State :=
  match s.groomPass with
  | some g => if g.march && a / 512 == g.region then { s with groomPass := some { g with written := true } } else s
  | none => s

/-- Store one yard byte. -/
def State.yardPut (s : State) (a : Nat) (b : Byte) : State :=
  { s.markWritten a with yard := tput s.yard (s.place a) b (yardInit s.tablesReady (s.place a)) }

/-- Store bytes from an address. -/
def State.yardStore (s : State) (a : Nat) : List Byte → State
  | [] => s
  | b :: r => (s.yardPut a b).yardStore (a + 1) r

/-- The words that `n` bytes from an address cover whole. -/
def fullWords (a n : Nat) : List Nat := (List.range ((a + n) / 8 - (a + 7) / 8)).map (fun k => (a + 7) / 8 + k)

/-- The words that `n` bytes from an address touch. -/
def touchedWords (a n : Nat) : List Nat :=
  if n == 0 then [] else (List.range ((a + n - 1) / 8 + 1 - a / 8)).map (fun k => a / 8 + k)

/-- Words written whole hold fresh check bytes: the symbol errors standing in them and their POISON go (R259, R271). -/
def State.freshen (s : State) (ws : List Nat) : State :=
  { s with
    yardErr := s.yardErr.filter (fun e => !ws.any (fun w => s.loc w == e.1))
    poison := s.poison.filter (fun e => !ws.any (fun w => s.loc w == spareWord e)) }

/-- Store bytes in the yard; a word written whole loses any symbol error standing in it (R257, R259). -/
def State.poke (s : State) (a : Nat) (bs : List Byte) : State := (s.yardStore a bs).freshen (fullWords a bs.length)

/-- The words of a span that may hold an error: those with one at their place, and those that another place serves. -/
def State.errWords (s : State) (lo hi : Nat) : List Nat :=
  if s.yardErr.isEmpty then []
  else ((s.yardErr.map (·.1) ++ s.displaced).filter (fun w => decide (lo ≤ 8 * w) && decide (8 * w < hi))).eraseDups

/-- The words of a span that read DUE. -/
def State.dueWords (s : State) (lo hi : Nat) : List Nat := (s.errWords lo hi).filter (fun w => s.wordDue (8 * w))

/-- The bytes of a span of whole words become what they read as when nothing has written them. -/
def State.blankSpan (s : State) (lo hi : Nat) : State :=
  let s1 : State := { s with
    yard := s.yard.filter (fun e => decide (e.1 < lo) || decide (hi ≤ e.1))
    yardErr := s.yardErr.filter (fun e => decide (8 * e.1 < lo) || decide (hi ≤ 8 * e.1)) }
  ((s.displaced.filter (fun w => decide (lo ≤ 8 * w) && decide (8 * w < hi) && s.loc w != w)).eraseDups).foldl (fun t w =>
    t.poke (8 * w) ((List.range 8).map (fun i => yardInit t.tablesReady (8 * w + i)))) s1

/-- Bytes of the yard from an address. -/
def State.peek (s : State) (a : Nat) : Nat → List Byte
  | 0 => []
  | n + 1 => s.yardByte a :: s.peek (a + 1) n

/-- The bytes last written from an address, whatever errors stand in them. -/
def State.cellsOf (s : State) (a : Nat) : Nat → List Byte
  | 0 => []
  | n + 1 => s.yardCell a :: s.cellsOf (a + 1) n

end Sys2Proof.Machine
end

