-- ==== Sys2Proof/Machine/Stall.lean ====
section
/-! DEFINITION. The stall engine (R210 to R247): placement, pointers, writing and discarding records, credit, the
reader's moves, reset with its gap marker, and the words of the stall window. Every producer and every reader of the
hub goes through these operations. Records lie in the yard at BASE + (p mod 2^k) (R214). -/

namespace Sys2Proof.Machine

/-- A stall's engine state. -/
def State.stall (s : State) (q : Nat) : Stall := tget s.stalls q {}

/-- Store a stall's engine state. -/
def State.putStall (s : State) (q : Nat) (x : Stall) : State := { s with stalls := tput s.stalls q x {} }

/-- 2^k: a stall's size in bytes (R210). -/
def stallSize (s : State) (q : Nat) : Nat := 2 ^ s.get F.stall_SIZE_LOG2 q

/-- A stall is allocated and its engine powered (R210, R231). -/
def stallOn (s : State) (q : Nat) : Bool := s.get F.stall_SIZE_LOG2 q != 0 && s.shedUp 4

/-- Pointer arithmetic runs modulo 2^(k+1) (R214). -/
def stallWrap (s : State) (q p : Nat) : Nat := p % (2 * stallSize s q)

/-- The forward distance from one pointer to another (R214). -/
def stallDist (s : State) (q a b : Nat) : Nat := (b + 2 * stallSize s q - a) % (2 * stallSize s q)

/-- LEVEL (R214). -/
def stallLevel (s : State) (q : Nat) : Nat :=
  if s.get F.stall_SIZE_LOG2 q == 0 then 0 else stallDist s q (s.stall q).a.rel (s.stall q).a.wr

/-- Free bytes (R222). -/
def stallFree (s : State) (q : Nat) : Nat := stallSize s q - stallLevel s q

/-- The pointers whose two copies differ (R216), in the bits of R235: WR, REL, RD, MARK. -/
def mismatchOf (x : Stall) : BitVec 4 :=
  BitVec.ofNat 4 (b2n (x.a.wr != x.b.wr) + b2n (x.a.rel != x.b.rel) * 2 + b2n (x.a.rd != x.b.rd) * 4 +
    b2n (x.a.mark != x.b.mark) * 8)

/-- A fault strikes the second copy of the pointers that `mis` names (R216). -/
def corruptPtrs (s : State) (q : Nat) (mis : BitVec 4) : State :=
  if mis == 0 then s
  else
    let x := s.stall q
    let f := fun (i p : Nat) => if mis.getLsbD i then p ^^^ 8 else p
    s.putStall q { x with b := { wr := f 0 x.b.wr, rel := f 1 x.b.rel, rd := f 2 x.b.rd, mark := f 3 x.b.mark } }

/-- Set both copies of a stall's pointers (R216). -/
def setPtrs (s : State) (q : Nat) (p : Ptrs) : State :=
  s.putStall q { s.stall q with a := p, b := p }

/-- The record lengths that remain after the first `d` bytes. -/
def lensFrom : List Nat → Nat → List Nat
  | [], _ => []
  | l :: r, d => if d = 0 then l :: r else lensFrom r (d - l)

/-- The lengths of the unread records, from RD to WR. -/
def unreadLens (s : State) (q : Nat) : List Nat :=
  lensFrom (s.stall q).lens (stallDist s q (s.stall q).a.rel (s.stall q).a.rd)

/-- Bytes of a ring from pointer `p` (R214, R215). -/
def ringRead (s : State) (q p : Nat) : Nat → List Byte
  | 0 => []
  | n + 1 => s.yardByte ((s.stall q).base + p % stallSize s q) :: ringRead s q (p + 1) n

/-- Write bytes into a ring from pointer `p` (R214, R215): up to its end, then on from its base. Records are whole words
(R217), so errors standing there go (R259). -/
def ringWrite (s : State) (q p : Nat) (bs : List Byte) : State :=
  let o := p % stallSize s q
  let k := stallSize s q - o
  (s.poke ((s.stall q).base + o) (bs.take k)).poke (s.stall q).base (bs.drop k)

/-- The record at RD, if any is unread. -/
def recordAtRd (s : State) (q : Nat) : Option (List Byte) :=
  match unreadLens s q with
  | [] => none
  | l :: _ => some (ringRead s q (s.stall q).a.rd l)

/-- The head buffer of a listener's stall holds the record that is now at RD (R49). -/
def fillHead (s : State) (q : Nat) : State :=
  s.putStall q { s.stall q with head := if s.get F.stall_READER q == 3 then (recordAtRd s q).getD [] else [] }

/-- The watermark after an update that left LEVEL at `before` (R228). -/
def wmCheck (s : State) (q before : Nat) : State :=
  let wm := s.get F.stall_WM q
  if wm != 0 && decide (before < wm) && decide (wm ≤ stallLevel s q) then
    raiseStall (s.incWrap F.stall_WM_CROSS q) q Bit.stWm
  else s

/-- A record completes (R220, R227): its bytes, WR in one update, the notice and the watermark. A record that is the head of
a listener's stall goes into its head buffer as it is written (R49). -/
def stallPut (s : State) (q : Nat) (rec : List Byte) : State :=
  let before := stallLevel s q
  let p := (s.stall q).a
  let s1 := ringWrite s q p.wr rec
  let x := s1.stall q
  let p1 := { p with wr := stallWrap s q (p.wr + rec.length) }
  let s2 := s1.putStall q { x with
    a := p1, b := p1, lens := x.lens ++ [rec.length], published := (x.published + 1) % 65536
    head := if (unreadLens s q).isEmpty && s.get F.stall_READER q == 3 then rec else x.head }
  wmCheck (raiseStall (s2.incWrap F.stall_RECORDS q) q Bit.stNotice) q before

/-- A listener's granted record from stall `q` has left it: its release moves no pointer (R223). -/
def markGone (s : State) (q : Nat) : State :=
  { s with
    tx := s.tx.map (fun e => (e.1, { e.2 with granted := e.2.granted.map (fun g => if g.q = q then { g with gone := true } else g) }))
    eth := s.eth.map (fun e => (e.1, { e.2 with granted := e.2.granted.map (fun g => if g.q = q then { g with gone := true } else g) })) }

/-- A record of stall `q` is granted to a listener and still stands in the stall (R171, R223). -/
def grantedFrom (s : State) (q : Nat) : Bool :=
  s.tx.any (fun e => (e.2.granted.map (fun g => g.q == q && !g.gone)).getD false) ||
  s.eth.any (fun e => (e.2.granted.map (fun g => g.q == q && !g.gone)).getD false)

/-- OVERWRITE discards the oldest record (R222): REL moves past it, and MARK and RD with it where it has passed them. -/
def discardOldest (s : State) (q : Nat) : State :=
  let x := s.stall q
  match x.lens with
  | [] => s
  | l :: r =>
    let p := x.a
    let before := stallLevel s q
    let rel := stallWrap s q (p.rel + l)
    let pass := fun m => if stallDist s q p.rel m < l then rel else m
    let p1 := { p with rel := rel, mark := pass p.mark, rd := pass p.rd }
    let s1 := s.putStall q { x with
      a := p1, b := p1, lens := r, taken := (x.taken + b2n (decide (stallDist s q p.rel p.rd < l))) % 65536 }
    wmCheck (raiseStall (s1.inc F.stall_LOST q) q Bit.stLoss) q before

/-- Discard from REL until `n` bytes are free (R222). -/
def discardFor (s : State) (q n : Nat) : Nat → State
  | 0 => s
  | k + 1 => if stallFree s q < n then discardFor (discardOldest s q) q n k else s

/-- Room for `n` bytes by OVERWRITE (R222): where the record at RD was among those discarded, that is one overtaking. -/
def makeRoom (s : State) (q n : Nat) : State :=
  let t := discardFor s q n (s.stall q).lens.length
  if (unreadLens s q).isEmpty || (t.stall q).a.rd = (s.stall q).a.rd then t
  else markGone (raiseStall (((fillHead t q).incWrap F.stall_OVTK q).set F.stall_OFFS q 0) q Bit.stOvertaken) q

/-- A reset begins (R234): for a mismatch (CAUSE 0), STALL_RESET (1) or a configuration (2). A mismatch during a reset
starts it again and adds 1 more to RESETS; a size and mode that the reset under way is to take at 8 st stay due. The
difference that was found has been taken up: the copies agree again. -/
def startReset (s : State) (q cause : Nat) (mis : BitVec 4) (newCfg : Option (Nat × Nat × Nat)) : State :=
  let x := s.stall q
  match x.reset with
  | none => s.putStall q { x with b := x.a, reset := some { cause := cause, mismatch := mis, newCfg := newCfg } }
  | some r =>
    (if cause == 0 then s.inc F.stall_RESETS q else s).putStall q
      { x with b := x.a, reset := some { cause := cause, mismatch := mis, newCfg := newCfg.or r.newCfg } }

/-- An update of the pointers compares their copies (R216): a difference resets the stall and the update is not made. -/
def comparePtrs (s : State) (q : Nat) (f : State → State) : State :=
  if mismatchOf (s.stall q) == 0 then f s else startReset s q 0 (mismatchOf (s.stall q)) none

/-- A record is offered to a stall (R211, R219, R220, R222, R225): written, or lost as the rules say. A stall whose
reset is in progress abandons it (R234); a difference of the pointer copies resets the stall (R216); with S4 down there
is no engine. -/
def stallOffer (s : State) (q : Nat) (rec : List Byte) : State :=
  if !s.shedUp 4 then s
  else if s.get F.stall_SIZE_LOG2 q == 0 then raiseStall (s.inc F.stall_LOST q) q Bit.stLoss
  else if (s.stall q).reset.isSome then s
  else if decide (stallSize s q < rec.length) then raiseStall (s.inc F.stall_LOST q) q Bit.stTooBig
  else if s.on F.stall_MODE q then
    if s.get F.stall_GRANTED q < rec.length then raiseStall (s.inc F.stall_LOST q) q Bit.stCreditViol
    else comparePtrs s q (fun t => stallPut (t.set F.stall_GRANTED q (t.get F.stall_GRANTED q - rec.length)) q rec)
  else comparePtrs s q (fun t => stallPut (makeRoom t q rec.length) q rec)

/-- A producer asks for credit (R224): granted whole, or refused and offered again after a RELEASE. -/
def askCredit (s : State) (q n : Nat) : State :=
  if !(stallOn s q && s.on F.stall_MODE q) || n == 0 || n % 8 != 0 || decide (stallSize s q < n) ||
      (s.stall q).reset.isSome then s
  else if s.get F.stall_GRANTED q + n ≤ stallFree s q then s.set F.stall_GRANTED q (s.get F.stall_GRANTED q + n)
  else s.putStall q { s.stall q with refused := (s.stall q).refused ++ [n] }

/-- The requests the engine refused are offered again (R224). -/
def reofferCredit (s : State) (q : Nat) : State :=
  let rs := (s.stall q).refused
  rs.foldl (fun t n => askCredit t q n) (s.putStall q { s.stall q with refused := [] })

/-- A producer hands back unused credit (R224). -/
def handBack (s : State) (q n : Nat) : State :=
  s.set F.stall_GRANTED q (s.get F.stall_GRANTED q - n)

/-- The hub's own credit producers write a record only with credit for it (R224, R226): `none` while there is none. -/
def ownWrite (s : State) (q : Nat) (rec : List Byte) : Option State :=
  if !(stallOn s q) || (s.stall q).reset.isSome || decide (stallSize s q < rec.length) then none
  else if !(s.on F.stall_MODE q) then some (stallOffer s q rec)
  else if rec.length ≤ s.get F.stall_GRANTED q then some (stallOffer s q rec)
  else if s.get F.stall_GRANTED q + rec.length ≤ stallFree s q then
    some (stallOffer (s.set F.stall_GRANTED q (s.get F.stall_GRANTED q + rec.length)) q rec)
  else none

/-! ### The reader's moves (R232) -/

/-- NEXT: RD to the next record start, OFFS to 0. -/
def moveNext (s : State) (q : Nat) : State :=
  match unreadLens s q with
  | [] => s
  | l :: _ =>
    let x := s.stall q
    let p1 := { x.a with rd := stallWrap s q (x.a.rd + l) }
    (s.putStall q { x with a := p1, b := p1, taken := (x.taken + 1) % 65536 }).set F.stall_OFFS q 0

/-- MARK: MARK = RD. -/
def moveMark (s : State) (q : Nat) : State := setPtrs s q { (s.stall q).a with mark := (s.stall q).a.rd }

/-- REWIND: RD = MARK, OFFS to 0; the reader's own count goes back over the records it will read again. -/
def moveRewind (s : State) (q : Nat) : State :=
  let x := s.stall q
  let p1 := { x.a with rd := x.a.mark }
  let again := (lensFrom x.lens (stallDist s q x.a.rel x.a.mark)).length - (unreadLens s q).length
  (s.putStall q { x with a := p1, b := p1, taken := (x.taken + 65536 - again % 65536) % 65536 }).set F.stall_OFFS q 0

/-- REL moves to `p`: the record list shrinks, the watermark is looked at, refused credit is offered again (R224, R228). -/
def moveRel (s : State) (q p : Nat) : State :=
  let x := s.stall q
  let before := stallLevel s q
  let rest := lensFrom x.lens (stallDist s q x.a.rel p)
  let p1 := { x.a with rel := p, mark := p, rd := p }
  let s1 := s.putStall q { x with a := p1, b := p1, lens := rest, releases := (x.releases + 1) % 65536 }
  reofferCredit (wmCheck s1 q before) q

/-- A spilled message's record leaves Q243 (R474): its mailbox has one fewer. -/
def spillLeft (s : State) (rec : List Byte) : State :=
  let i := fld rec 0x18 0 3
  { s with spillCount := tput s.spillCount i (tget s.spillCount i 0 - 1) 0 }

/-- The records before RD are released: those of Q243 count for their mailboxes (R474). -/
def spillRelease (s : State) (q : Nat) : State :=
  if q != 243 then s
  else
    let x := s.stall q
    let n := x.lens.length - (unreadLens s q).length
    ((x.lens.take n).foldl (fun (t, p) l => (spillLeft t (ringRead s q p l), p + l)) (s, x.a.rel)).1

/-- SPILLING_i ends once the last spilled record for i has been released and MBOi is free (R474). -/
def endSpilling (s : State) : State :=
  let full := s.get F.host_FULL 0
  let sp := s.get F.host_SPILLING 0
  s.set F.host_SPILLING 0 (maskOf ((setBits 8 sp).filter (fun i =>
    full.testBit i || tget s.spillCount i 0 != 0 || s.spill.any (fun m => m.mbo == i))))

/-- Calibration records that firmware holds for want of credit are written as credit allows, oldest first (R383). -/
def flushCal (s : State) : Nat → State
  | 0 => s
  | n + 1 =>
    match s.calHeld with
    | [] => s
    | r :: l =>
      match ownWrite s 242 r with
      | none => s
      | some t => flushCal { t with calHeld := l } n

/-- RELEASE: REL = RD, MARK = RD. -/
def moveRelease (s : State) (q : Nat) : State :=
  let s1 := moveRel (spillRelease s q) q (s.stall q).a.rd
  if q == 243 then endSpilling s1 else if q == 242 then flushCal s1 16 else s1

/-- DROP, and NEXT_RELEASE, in one update: RD, MARK and REL move past the record at RD. The next record of a listener's
stall goes into its head buffer (R49). -/
def moveDrop (s : State) (q : Nat) : State := comparePtrs s q (fun t => fillHead (moveRelease (moveNext t q) q) q)

/-- Codes of the reader commands (R232). -/
def readerAccepts (state code : Nat) : Bool :=
  match code with
  | 1 => state == 1 || state == 2 || state == 3 || state == 4
  | 2 => state == 1 || state == 2 || state == 3 || state == 4
  | 3 => state == 1 || state == 2 || state == 3 || state == 4
  | 4 => state == 1 || state == 2 || state == 3 || state == 4
  | 5 => state == 1 || state == 3 || state == 4
  | 6 => state == 1 || state == 3 || state == 4
  | 7 => state == 2
  | 8 => state != 0
  | 9 => state == 1 || state == 2 || state == 3 || state == 4
  | _ => false

/-- CMD_REFUSED (R232). -/
def refuseCmd (s : State) (q : Nat) : State := raiseStall s q Bit.stCmdRefused

/-! ### Reset and the gap marker (R234 to R236) -/

/-- The gap marker of R235. -/
def gapMarker (s : State) (resets cause : Nat) (mis : BitVec 4) (discarded : Nat) : List Byte :=
  mkRecord (s.ownHdr 3 resets) (le 4 (cause % 4 + mis.toNat * 4) ++ le 4 discarded)

/-- The 8 st and 16 st instants of a reset. Its updates compare the copies too: a difference met there starts it again. -/
def finishReset (s : State) (q : Nat) : State :=
  let x := s.stall q
  match x.reset with
  | none => s
  | some r => comparePtrs s q (fun t =>
    let lost := x.lens.length - b2n (grantedFrom t q)
    let s1 := markGone t q
    let s2 := s1.putStall q { x with a := {}, b := {}, lens := [], refused := [], reset := none, taken := x.published, head := [],
                                      base := (r.newCfg.map (·.2.2)).getD x.base }
    let s3 := s2.set F.stall_GRANTED q 0
    let s4 := match r.newCfg with
      | some c => ((s3.set F.stall_SIZE_LOG2 q c.1).set F.stall_MODE q c.2.1).set F.stall_RECORDS q 0
      | none => s3
    let s5 := (s4.inc F.stall_RESETS q).addTo F.stall_LOST q lost
    let s6 := s5.set F.stall_STATE q (if r.cause == 2 then 1 else 4)
    let s7 := raiseStall s6 q Bit.stReset
    let s8 := if r.cause == 0 then raiseStall s7 q Bit.stMismatch else s7
    let s9 := stallPut s8 q (gapMarker s8 (s8.get F.stall_RESETS q) r.cause (if r.cause == 0 then r.mismatch else 0) lost)
    if q == 242 then flushCal s9 16 else s9)

/-- The effect of a reader command that is accepted (R232). -/
def readerMove (s : State) (q code : Nat) : State :=
  match code with
  | 1 => comparePtrs s q (fun t => moveNext t q)
  | 2 => comparePtrs s q (fun t => moveMark t q)
  | 3 => comparePtrs s q (fun t => moveRewind t q)
  | 4 => comparePtrs s q (fun t => moveRelease t q)
  | 5 => moveDrop s q
  | 6 => s.set F.stall_STATE q 2
  | 7 => s.set F.stall_STATE q 3
  | 8 => (s.set F.stall_LOST q 0).set F.stall_RESETS q 0
  | _ => moveDrop s q

/-- The command moves a pointer, so its update compares the copies. -/
def movesPtrs (code : Nat) : Bool := decide (1 ≤ code) && decide (code ≤ 5) || code == 9

/-- A reader command (R232, R233): refused outside its accepted states, on an unallocated stall (R211), with RD = WR for
NEXT, DROP and NEXT_RELEASE, and when it meets a reset; `mis` names the pointers whose copies have come to differ, which an
update meets as a reset (R216). -/
def readerCmd (s : State) (q code : Nat) (mis : BitVec 4) : State :=
  if !s.shedUp 4 then s
  else if code == 0 then s
  else if s.get F.stall_SIZE_LOG2 q == 0 then refuseCmd s q
  else
    let t := corruptPtrs s q mis
    if movesPtrs code && mismatchOf (t.stall q) != 0 then refuseCmd (startReset t q 0 (mismatchOf (t.stall q)) none) q
    else if (t.stall q).reset.isSome || !readerAccepts (t.get F.stall_STATE q) code then refuseCmd t q
    else if (code == 1 || code == 5 || code == 9) && (unreadLens t q).isEmpty then refuseCmd t q
    else readerMove t q code

/-! ### Placement (R210, R212, R30) -/

/-- The stall region and its end (R30). -/
def stallRegion : Nat := 0x1600000

def stallRegionEnd : Nat := 0x1A00000

/-- The blocks of the stall region in use, but for stall `q`: (base, size). A reset under way holds its new block too. -/
def usedBlocks (s : State) (q : Nat) : List (Nat × Nat) :=
  ((List.range 256).filter (fun p => p != q && s.get F.stall_SIZE_LOG2 p != 0 && p != 252 && p != 253)).flatMap
    (fun p => (match (s.stall p).reset.bind (·.newCfg) with
      | some c => [(c.2.2, 2 ^ c.1)]
      | none => []) ++ [((s.stall p).base, stallSize s p)])

/-- The lowest free aligned block of `n` bytes (n a power of two). -/
def placeIn (used : List (Nat × Nat)) (n : Nat) : Option Nat :=
  let up := fun a => (a + n - 1) / n * n
  let cands := (stallRegion :: used.map (fun b => up (b.1 + b.2))).filter
    (fun a => decide (a + n ≤ stallRegionEnd) && used.all (fun b => decide (a + n ≤ b.1) || decide (b.1 + b.2 ≤ a)))
  cands.foldl (fun m a => match m with
    | none => some a
    | some c => some (min c a)) none

/-- Where a stall of size 2^k goes; the journal stalls have their own region (R31). -/
def place (s : State) (q k : Nat) : Option Nat :=
  if q == 252 then some 0x1200000 else if q == 253 then some 0x1400000
  else placeIn (usedBlocks s q) (2 ^ k)

/-- SIZE_LOG2 of the largest free aligned block, 0 when there is none (R212, R502). -/
def largestBlock (s : State) (q : Nat) : Nat :=
  (((List.range 13).map (fun i => 20 - i)).find? (fun k => (placeIn (usedBlocks s q) (2 ^ k)).isSome)).getD 0

/-- Bytes of the stall region in use, but for stall `q` (R31). -/
def regionUsed (s : State) (q : Nat) : Nat :=
  ((List.range 256).filter (fun p => p != q && s.get F.stall_SIZE_LOG2 p != 0 && p != 252 && p != 253)).foldl
    (fun n p => n + stallSize s p) 0

/-- A STALL_CFG word (R241). -/
def stallCfgWord (k mode reader wm : Nat) : Word :=
  BitVec.ofNat 32 (k % 32 + mode % 2 * 32 + reader % 8 * 64 + wm * 1024)

/-- Allocation (R212): START, empty, all pointers 0, RECORDS and GRANTED 0. -/
def stallAllocate (s : State) (q k mode reader wm base : Nat) : State :=
  let s1 := s.putStall q { base := base }
  let s2 := s1.setReg (F.stall_SIZE_LOG2.addr q) (stallCfgWord k mode reader wm)
  ((s2.set F.stall_RECORDS q 0).set F.stall_GRANTED q 0).set F.stall_STATE q 1

/-- Freeing (R212): the records go without a marker, the stall is OFF, and it has no reader (R211). -/
def stallFreeUp (s : State) (q : Nat) (mode wm : Nat) : State :=
  let s1 := (markGone s q).putStall q {}
  ((s1.setReg (F.stall_SIZE_LOG2.addr q) (stallCfgWord 0 mode 0 wm)).set F.stall_STATE q 0).set F.stall_GRANTED q 0

/-- The reader issues RUN where RUN is accepted (R231, R232). -/
def runStall (s : State) (q : Nat) : State :=
  if stallOn s q && s.get F.stall_STATE q != 2 then s.set F.stall_STATE q 2 else s

/-- READER changes (R230): a listener's head buffer takes the record at RD (R49). -/
def setReader (s : State) (q r : Nat) : State := fillHead (s.set F.stall_READER q r) q

/-- The record at RD is a gap marker (R235). -/
def markerAtRd (s : State) (q : Nat) : Bool := fld ((recordAtRd s q).getD []) 4 20 4 == 3

/-- A reader of the hub's own releases the record at RD; where that is a gap marker, it issues RUN too (R231, R236). -/
def hubTake (s : State) (q : Nat) : State :=
  let m := markerAtRd s q
  let t := moveDrop s q
  if m && (t.stall q).reset.isNone then runStall t q else t

/-! ### The stall window (R239 to R245) -/

/-- STALL_STATUS as it reads (R242); EMPTY of an island reader, the host window or the tether transmitter, comes from the two
counts of R237. -/
def stallStatus (s : State) (q : Nat) : Word :=
  let unread := (unreadLens s q).length
  let lv := stallLevel s q
  let on := s.get F.stall_SIZE_LOG2 q != 0
  let wm := s.get F.stall_WM q
  let reader := s.get F.stall_READER q
  let empty := if reader == 1 || reader == 4 then (s.stall q).taken == (s.stall q).published else unread == 0
  BitVec.ofNat 32 (b2n empty + b2n (on && lv == stallSize s q) * 2 +
    b2n (wm != 0 && decide (wm ≤ lv)) * 4 + s.get F.stall_STATE q * 8 + s.get F.stall_OVTK q * 256 +
    min unread 65535 * 65536)

/-- A byte of STALL_DATA (R245). -/
def apertureByte (s : State) (q x : Nat) : Byte :=
  match unreadLens s q with
  | [] => 0
  | l :: _ =>
    let o := 8 * s.get F.stall_OFFS q + x
    if o < l then s.yardByte ((s.stall q).base + ((s.stall q).a.rd + o) % stallSize s q) else 0

/-- A word of the window at offset `o`, as the host or firmware reads it; `host` says which (R239, R240). -/
def stallWord (s : State) (q o : Nat) (host : Bool) : Word :=
  if !s.shedUp 4 then 0
  else if o == 0x04 then stallStatus s q
  else if o == 0x08 then BitVec.ofNat 32 (stallLevel s q)
  else if o == 0x0C then BitVec.ofNat 32 (s.stall q).a.wr
  else if o == 0x10 then BitVec.ofNat 32 (s.stall q).a.rel
  else if o == 0x14 then BitVec.ofNat 32 (s.stall q).a.rd
  else if o == 0x18 then BitVec.ofNat 32 (s.stall q).a.mark
  else if 0x80 ≤ o then
    if host && s.get F.stall_READER q != 1 then 0
    else BitVec.ofNat 32 (ofLe ((List.range 4).map (fun i => apertureByte s q (o - 0x80 + i))))
  else if o ≤ 0x38 then s.reg ⟨.stall, q, o⟩ &&& regMask ⟨.stall, q, o⟩ (fun a => a != .wo)
  else 0

end Sys2Proof.Machine
end

