-- ==== Sys2Proof/Machine/Ilk.lean ====
section
/-! DEFINITION. The twin interlock as shared operations (R399 to R404, R419, R562): owning, claiming, releasing, and
the flush with which a standby's ownership begins. -/

namespace Sys2Proof.Machine

/-- The unit owns the interlock; a variant without the tether owns it permanently (R9, R401). -/
def State.owns (s : State) : Bool := !s.part.hasTwin || s.on F.twin_OWN 0

/-- The listener stalls of a binding record: stall and class for every bound class (R169). -/
def boundStalls (w : List Word) : List (Nat × Nat) :=
  let a := (w.getD 0 0).toNat
  let en := (w.getD 1 0).toNat
  (List.range 4).filterMap (fun c => if en.testBit c then some (bits a (8 * c) 8, c) else none)

/-- The listeners: 96 lane roles, and 96 and 97 for the Ethernet ports (R169, R397). -/
def State.binding (s : State) (l : Nat) : List Word := tget s.bindings l [0, 0]

/-- TAKEOVER_FLUSH (R419): every listener stall is emptied in one update, REL, MARK and RD to WR; nothing is lost. -/
def flushStall (s : State) (q : Nat) : State :=
  if stallOn s q then
    let x := s.stall q
    let p : Ptrs := { wr := x.a.wr, rel := x.a.wr, rd := x.a.wr, mark := x.a.wr }
    reofferCredit ((markGone s q).putStall q { x with a := p, b := p, lens := [], taken := x.published, head := [] }) q
  else s

/-- The stalls that listeners read (R419). -/
def listenerStalls (s : State) : List Nat :=
  (s.bindings.flatMap (fun e => (boundStalls e.2).map (·.1))).eraseDups

/-- R419: every lane and Ethernet listener stall is emptied, and the shadow transmitters stop. -/
def takeoverFlush (s : State) : State :=
  let s1 := (listenerStalls s).foldl flushStall s
  { s1 with tx := s1.tx.map (fun e => (e.1, { e.2 with phase := .idle, granted := none, pos := 0 })) }

/-! ### The unit's place in the pair (R415, R429) -/

/-- A unit of a pair that is past its start-up and does not own is a standby (R399, R427). -/
def isStandby (s : State) : Bool :=
  s.part.hasTwin && s.on F.twin_PAIRED 0 && s.twin.joined && !s.twin.startup && !s.on F.twin_OWN 0

/-- Valid peer heartbeats arrive (R400). -/
def heartbeatsValid (s : State) : Bool := s.twin.hbValid

/-- The peer as its valid heartbeats show it. -/
def livePeer (s : State) : Option Heartbeat := if s.twin.hbValid then s.twin.peer else none

/-- The journal reaches back past the committed mark (R415, R417): it began before that tick, and has lost nothing since. -/
def journalReaches (s : State) : Bool :=
  !s.on F.twin_SHORT 0 && (match s.twin.commitMark, s.twin.journalFrom with
    | some m, some f =>
      let d := (m + 4294967296 - f) % 4294967296
      d != 0 && decide (d < 2147483648)
    | _, _ => false)

/-- TETHER_UP (R429). -/
def tetherUp (s : State) : Bool := s.shedUp 7 && s.twin.aligned && heartbeatsValid s

/-- The committed mark lies at most 2 × SNAP_MS + 50 ms in the past (R415), told by the frame ticks since it. -/
def markFresh (s : State) : Bool :=
  match s.twin.commitMark with
  | none => false
  | some m =>
    let frames := (s.get F.time_FRAME_N 0 + 4294967296 - m) % 4294967296
    decide (frames * max 1 (s.get F.time_DEN 0) * 1000 ≤ (2 * s.get F.twin_SNAP_MS 0 + 50) * max 1 (s.get F.time_NUM 0))

/-- The standby is qualified (R415). -/
def qualified (s : State) : Bool :=
  isStandby s && tetherUp s && (s.twin.peer.map (fun h => h.cfgGen == s.gen)).getD false &&
    s.get F.twin_SNAP_MS 0 != 0 && markFresh s && journalReaches s && !s.twin.faulted && !s.twin.replaying

/-- TWIN_STATE.UNIT (R429): a unit with PAIRED 0 runs alone (R399). -/
def unitNow (s : State) : Nat :=
  if s.twin.faulted then 6
  else if s.twin.handover.isSome then 5
  else if s.twin.replaying then 4
  else if !s.on F.twin_PAIRED 0 then 0
  else if s.on F.twin_OWN 0 then 3
  else if !s.twin.joined || s.twin.startup then 0
  else if qualified s then 2 else 1

/-- Where the journal of a standby, or of a unit that replays, began (R415, R416). -/
def noteJournal (s : State) : State :=
  let f := if isStandby s || s.twin.replaying then some (s.twin.journalFrom.getD (s.get F.time_FRAME_N 0)) else none
  { s with twin := { s.twin with journalFrom := f } }

/-- TWIN_STATE follows (R415, R429): QUAL_TIME counts the seconds qualified and clean. -/
def showUnit (s0 : State) : State :=
  let s := noteJournal s0
  if !(s.part.hasTwin && s.shedUp 7) then s
  else
    let since : Option Nat := if qualified s then some (s.twin.cleanSince.getD s.ran) else none
    let secs := match since with
      | some t => (s.ran - t) / secUnit
      | none => 0
    let s1 := ((s.set F.twin_UNIT 0 (unitNow s)).setB F.twin_TETHER_UP 0 (tetherUp s)).set F.twin_QUAL_TIME 0 (min 255 secs)
    let s2 := (s1.setB F.twin_PEER_ALIVE 0 (((livePeer s).map (·.alive)).getD false)).setB F.twin_PEER_OWNS 0
      (((livePeer s).map (·.owns)).getD false)
    { s2 with twin := { s2.twin with cleanSince := since } }

/-- An output lane has completed an item (R405): the active reports it, the standby keeps it as its shadow view. -/
def noteItem (s : State) (lane item source key value : Nat) : State :=
  let role := s.get F.tx_ROLE lane
  if s.part.hasTwin && s.on F.twin_PAIRED 0 && s.shedUp 7 && decide (role < 96) then
    let e : IntentEntry := { role := role, item := item, source := source, key := key % 4294967296, value := value % 4294967296 }
    { s with twin := { s.twin with items := s.twin.items ++ [e] } }
  else s

/-- What a takeover clears from the path to the listener stalls: replay brings those sentences again from the journal
(R416, R420). -/
def clearPath (s : State) : State :=
  let ls := listenerStalls s
  let cut := fun (e : Enqueue) => if e.sent.source < 0x2000 then { e with stalls := e.stalls.filter (fun q => !ls.contains q) } else e
  { s with
    srcs := s.srcs.map (fun e => (e.1, if e.1 < 0x2000 then { e.2 with closed := [] } else e.2))
    ballots := s.ballots.filter (fun b => !decide (b.sent.source < 0x2000))
    routerQ := (s.routerQ.map cut).filter (fun e => !e.stalls.isEmpty)
    voterQ := (s.voterQ.map cut).filter (fun e => !e.stalls.isEmpty) }

/-- Restore and replay begin (R419, R420). -/
def beginReplay (s : State) : State :=
  let s1 := takeoverFlush (clearPath s)
  { s1 with twin := { s1.twin with replaying := true, replayQ := [] } }

/-- The unit owns (R403): HOLD_OUT high, OWNED, TAKEOVERS; its items from here are its intent (R406). A standby then flushes
and replays (R419, R420). -/
def becomeOwner (s : State) : State :=
  let s1 := ((s.set F.twin_OWN 0 1).set F.twin_HOLD_OUT 0 1).set F.twin_ILK_STATE 0 2
  let s2 := raiseTwin (s1.inc F.twin_TAKEOVERS 0) Bit.twOwned
  let s3 := { s2 with twin := { s2.twin with claiming := false, startup := false, released := [], items := [], windows := [] } }
  if isStandby s then beginReplay s3 else s3

/-- A claim refused or failed (R403). -/
def claimFail (s : State) : State :=
  let s1 := if s.on F.twin_OWN 0 then s else (s.set F.twin_HOLD_OUT 0 0).set F.twin_ILK_STATE 0 0
  raiseTwin ({ s1 with twin := { s1.twin with claiming := false } }.inc F.twin_CLAIM_FAILS 0) Bit.twClaimFail

/-- A claim (R403): the primary owns at once unless HOLD_IN has been high for 10 µs; the secondary asserts HOLD_OUT and
waits its 20 µs unless HOLD_IN is high. A claim by an owner, or during a claim, changes nothing. -/
def claimIlk (s : State) : State :=
  if !s.part.hasTwin || s.on F.twin_OWN 0 || s.twin.claiming then s
  else if s.on F.twin_ROLE 0 then
    if s.on F.twin_HOLD_IN 0 then claimFail s
    else
      let s1 := (s.set F.twin_HOLD_OUT 0 1).set F.twin_ILK_STATE 0 1
      { s1 with twin := { s1.twin with claiming := true } }
  else if s.on F.twin_HOLD_IN 0 && decide (s.twin.holdRise + 10000 * nsUnit ≤ s.ran) then claimFail s
  else becomeOwner s

/-- A release (R401): HOLD_OUT falls and every pin goes high-Z; RELEASED is set when an owner releases, and its
items from here are the shadow's (R406). -/
def releaseIlk (s : State) : State :=
  if !s.part.hasTwin then s
  else
    let owned := s.on F.twin_OWN 0
    let s1 := ((s.set F.twin_OWN 0 0).set F.twin_HOLD_OUT 0 0).set F.twin_ILK_STATE 0 0
    let s2 := { s1 with twin := { s1.twin with claiming := false, handover := none, finishing := [], items := if owned then [] else s1.twin.items } }
    if owned then raiseTwin s2 Bit.twReleased else s2

/-! ### The bypass (R559 to R564) -/

/-- HOST_FW.LIFE (R569): 0 OPEN, 1 SEALED, 2 SERVICE, 3 RETIRED. -/
def State.life (s : State) : Nat :=
  if s.fuseRetired then 3 else if s.fuseSealed then (if s.service then 2 else 1) else 0

/-- HOST_BYPASS.CAUSE (R466, R560): the first cause present, in the order RETIRED, pin, service command. -/
def bypassCause (s : State) : Nat :=
  if s.life == 3 then 2 else if s.bypassPin then 1 else if s.bypassCmd then 3 else 0

/-- BYPASS_MASK (R564, R574). -/
def bypassMask (s : State) : Nat := s.get F.sec_MASK_LO 0 + s.get F.sec_MASK_HI 0 * 4294967296

/-- An engaged bypass prompts a claim, but not on a unit with PAIRED 1 whose ALIVE is 0 (R562). -/
def bypassClaim (s : State) : State :=
  if bypassCause s != 0 && !(s.on F.twin_PAIRED 0 && !s.twin.alive) then claimIlk s else s

end Sys2Proof.Machine
end

