-- ==== Sys2Proof/Config.lean ====
section
/-! DEFINITION. The values that the spec leaves open: constants with no body, so that nothing can be proved of what
they are. `State.drawn` counts how many of the drawn ones have been used (log entry on free values). -/

namespace Sys2Proof.Config

/-- A fresh random 64-bit LIFE_NONCE (R568), the n-th drawn. -/
opaque freshNonce : Nat → BitVec 64

/-- A fresh ephemeral P-256 private key (R573), the n-th drawn. -/
opaque freshScalar : Nat → BitVec 256

/-- A fresh session number (R573), the n-th drawn; the spec says it is new and gives no numbering. -/
opaque freshSession : Nat → BitVec 32

/-- Whether a firmware block's signature verifies (R516): the spec gives neither Obeth's key nor what the signature covers. -/
opaque firmwareSigned : List (BitVec 8) → Bool

/-- The fixed input-path correction of R64 in 1/16 ns, a calibration constant of the unit. -/
opaque edgeDelay : Nat

/-- What a register read of a channel's raw converter or another quantity the spec leaves open returns, the n-th drawn. -/
opaque freeWord : Nat → BitVec 32

/-- The CRC-32C of the bits of a frame sent (R405): the spec does not give the order in which they enter it. -/
opaque frameCrc : List Bool → BitVec 32

/-- The second, in UTC seconds since 1970, that a time-of-day sentence names (R290): the spec gives its format nowhere. -/
opaque sentenceSecond : List (BitVec 8) → Nat

/-- The ST 2059-2 synchronization metadata TLV that the configuration supplies (R298): the spec gives it no place there. -/
opaque smpteTlv : List (BitVec 8)

/-- The hub's own PTP clock identity and clock variance, which the spec does not give (R503). -/
opaque clockDataset : Nat × Nat

end Sys2Proof.Config
end

