-- ==== Sys2Proof/Machine/Crypto.lean ====
section
/-! DEFINITION. The checks and signatures the spec names: the XOR checksum (R129), CRC-16 (R130), CRC-32 (R468),
CRC-32C (R192, R394, R412, R435), SHA-256, HMAC-SHA-256 (R451, R573), and ECDSA P-256 (R571). -/

namespace Sys2Proof.Machine

/-- The NMEA checksum: XOR of the bytes (R129). -/
def xorSum (bs : List Byte) : Byte := bs.foldl (fun a b => a ^^^ b) 0

/-- One bit of CRC-16 with polynomial 0x1021. -/
def crc16Bit (c : Nat) : Nat := if c / 32768 % 2 == 1 then (c * 2) % 65536 ^^^ 0x1021 else (c * 2) % 65536

/-- CRC-16 of R130: initial value 0xFFFF, no reflection, no final XOR. -/
def crc16 (bs : List Byte) : Nat :=
  bs.foldl (fun c b => (List.range 8).foldl (fun c _ => crc16Bit c) (c ^^^ (b.toNat * 256))) 0xFFFF

/-- A reflected 32-bit CRC with initial value and final XOR 0xFFFF_FFFF. -/
def crcReflected (poly : Nat) (bs : List Byte) : Nat :=
  (bs.foldl (fun c b => (List.range 8).foldl (fun c _ => if c % 2 == 1 then c / 2 ^^^ poly else c / 2) (c ^^^ b.toNat))
    0xFFFFFFFF) ^^^ 0xFFFFFFFF

/-- CRC-32 (polynomial 0x04C1_1DB7, R468). -/
def crc32 (bs : List Byte) : Nat := crcReflected 0xEDB88320 bs

/-- CRC-32C (Castagnoli). -/
def crc32c (bs : List Byte) : Nat := crcReflected 0x82F63B78 bs

/-! ### SHA-256 and HMAC -/

/-- Rotate a 32-bit number right. -/
def ror (n x : Nat) : Nat := x / 2 ^ n + x % 2 ^ n * 2 ^ (32 - n)

/-- The round constants of SHA-256. -/
def shaK : List Nat :=
  [0x428a2f98, 0x71374491, 0xb5c0fbcf, 0xe9b5dba5, 0x3956c25b, 0x59f111f1, 0x923f82a4, 0xab1c5ed5] ++
  [0xd807aa98, 0x12835b01, 0x243185be, 0x550c7dc3, 0x72be5d74, 0x80deb1fe, 0x9bdc06a7, 0xc19bf174] ++
  [0xe49b69c1, 0xefbe4786, 0x0fc19dc6, 0x240ca1cc, 0x2de92c6f, 0x4a7484aa, 0x5cb0a9dc, 0x76f988da] ++
  [0x983e5152, 0xa831c66d, 0xb00327c8, 0xbf597fc7, 0xc6e00bf3, 0xd5a79147, 0x06ca6351, 0x14292967] ++
  [0x27b70a85, 0x2e1b2138, 0x4d2c6dfc, 0x53380d13, 0x650a7354, 0x766a0abb, 0x81c2c92e, 0x92722c85] ++
  [0xa2bfe8a1, 0xa81a664b, 0xc24b8b70, 0xc76c51a3, 0xd192e819, 0xd6990624, 0xf40e3585, 0x106aa070] ++
  [0x19a4c116, 0x1e376c08, 0x2748774c, 0x34b0bcb5, 0x391c0cb3, 0x4ed8aa4a, 0x5b9cca4f, 0x682e6ff3] ++
  [0x748f82ee, 0x78a5636f, 0x84c87814, 0x8cc70208, 0x90befffa, 0xa4506ceb, 0xbef9a3f7, 0xc67178f2]

/-- The initial hash value of SHA-256. -/
def shaInit : List Nat :=
  [0x6a09e667, 0xbb67ae85, 0x3c6ef372, 0xa54ff53a, 0x510e527f, 0x9b05688c, 0x1f83d9ab, 0x5be0cd19]

/-- Extend the message schedule by one word; the list holds the latest word first. -/
def shaExtend (w : List Nat) : List Nat :=
  let a := w.getD 14 0
  let b := w.getD 1 0
  let s0 := ror 7 a ^^^ ror 18 a ^^^ a / 8
  let s1 := ror 17 b ^^^ ror 19 b ^^^ b / 1024
  ((w.getD 15 0 + s0 + w.getD 6 0 + s1) % 4294967296) :: w

/-- One round of SHA-256 on the working variables a to h. -/
def shaRound (v : List Nat) (kw : Nat × Nat) : List Nat :=
  let g := fun i => v.getD i 0
  let s1 := ror 6 (g 4) ^^^ ror 11 (g 4) ^^^ ror 25 (g 4)
  let ch := (g 4 &&& g 5) ^^^ ((g 4 ^^^ 0xFFFFFFFF) &&& g 6)
  let t1 := g 7 + s1 + ch + kw.1 + kw.2
  let s0 := ror 2 (g 0) ^^^ ror 13 (g 0) ^^^ ror 22 (g 0)
  let mj := (g 0 &&& g 1) ^^^ (g 0 &&& g 2) ^^^ (g 1 &&& g 2)
  [(t1 + s0 + mj) % 4294967296, g 0, g 1, g 2, (g 3 + t1) % 4294967296, g 4, g 5, g 6]

/-- One 64-byte block of SHA-256. -/
def shaBlock (h : List Nat) (blk : List Byte) : List Nat :=
  let w0 := ((List.range 16).map (fun i => ofBe (slice blk (4 * i) 4))).reverse
  let w := ((List.range 48).foldl (fun w _ => shaExtend w) w0).reverse
  let v := (shaK.zip w).foldl shaRound h
  (h.zip v).map (fun p => (p.1 + p.2) % 4294967296)

/-- A 32-bit number as big-endian bytes. -/
def be4 (n : Nat) : List Byte := (le 4 n).reverse

/-- SHA-256 of a byte string. -/
def sha256 (m : List Byte) : List Byte :=
  let zeros := (64 - (m.length + 9) % 64) % 64
  let p := m ++ [0x80] ++ List.replicate zeros 0 ++ (le 8 (8 * m.length)).reverse
  let h := (List.range (p.length / 64)).foldl (fun h i => shaBlock h (slice p (64 * i) 64)) shaInit
  h.flatMap be4

/-- HMAC-SHA-256. -/
def hmac (key m : List Byte) : List Byte :=
  let k0 := if 64 < key.length then sha256 key else key
  let k := k0 ++ List.replicate (64 - k0.length) 0
  sha256 (k.map (fun b => b ^^^ 0x5C) ++ sha256 (k.map (fun b => b ^^^ 0x36) ++ m))

/-! ### P-256 -/

/-- The field prime, the curve's b, its order and base point. -/
def p256 : Nat := 0xffffffff00000001000000000000000000000000ffffffffffffffffffffffff

def p256b : Nat := 0x5ac635d8aa3a93e7b3ebbd55769886bc651d06b0cc53b0f63bce3c3e27d2604b

def p256n : Nat := 0xffffffff00000000ffffffffffffffffbce6faada7179e84f3b9cac2fc632551

def p256G : Nat × Nat :=
  (0x6b17d1f2e12c4247f8bce6e563a440f277037d812deb33a0f4a13945d898c296,
   0x4fe342e2fe1a7f9b8ee7eb4a7c0f9e162bce33576b315ececbb6406837bf51f5)

/-- `b ^ e mod m` by squaring; `fuel` bits of the exponent. -/
def powMod (m : Nat) : Nat → Nat → Nat → Nat
  | 0, _, _ => 1 % m
  | f + 1, b, e => (if e % 2 == 1 then b else 1) * powMod m f (b * b % m) (e / 2) % m

/-- The inverse modulo a prime. -/
def invMod (m a : Nat) : Nat := powMod m 256 (a % m) (m - 2)

/-- Addition on the curve; `none` is the point at infinity. -/
def ecAdd (a b : Option (Nat × Nat)) : Option (Nat × Nat) :=
  match a, b with
  | none, q => q
  | p, none => p
  | some (x1, y1), some (x2, y2) =>
    if x1 == x2 && (y1 + y2) % p256 == 0 then none
    else
      let l := if x1 == x2 then (3 * x1 * x1 + (p256 - 3)) * invMod p256 (2 * y1) % p256
        else (y2 + p256 - y1) * invMod p256 (x2 + p256 - x1) % p256
      let x3 := (l * l + 2 * p256 - x1 - x2) % p256
      some (x3, (l * (x1 + p256 - x3) + p256 - y1) % p256)

/-- Scalar multiplication by the low `fuel` bits of `k`. -/
def ecMul : Nat → Nat → Option (Nat × Nat) → Option (Nat × Nat)
  | 0, _, _ => none
  | f + 1, k, p => let r := ecMul f (k / 2) (ecAdd p p)
    if k % 2 == 1 then ecAdd p r else r

/-- A point lies on the curve. -/
def onCurve (q : Nat × Nat) : Bool :=
  decide (q.1 < p256) && decide (q.2 < p256) &&
    q.2 * q.2 % p256 == (q.1 * q.1 * q.1 + (p256 - 3) * q.1 + p256b) % p256

/-- ECDSA P-256 over the SHA-256 of `m`; the signature is r then s, 32 bytes each, big-endian. -/
def ecdsaOk (key : Nat × Nat) (m sig : List Byte) : Bool :=
  let r := ofBe (sig.take 32)
  let s := ofBe ((sig.drop 32).take 32)
  let e := ofBe (sha256 m) % p256n
  if sig.length != 64 || !(onCurve key) || r == 0 || s == 0 || decide (p256n ≤ r) || decide (p256n ≤ s) then false
  else
    let w := invMod p256n s
    match ecAdd (ecMul 256 (e * w % p256n) (some p256G)) (ecMul 256 (r * w % p256n) (some key)) with
    | none => false
    | some (x, _) => x % p256n == r

/-- The ephemeral key pair of R573: a private key whose public point has an even Y, and that point. -/
def ephemeral (d : Nat) : Nat × (Nat × Nat) :=
  let k := d % (p256n - 1) + 1
  let q := (ecMul 256 k (some p256G)).getD (0, 0)
  if q.2 % 2 == 0 then (k, q) else (p256n - k, (q.1, p256 - q.2))

/-- A 256-bit number as 32 big-endian bytes. -/
def be32 (n : Nat) : List Byte := (le 32 n).reverse

/-- An ASCII string padded with 0x00 to 8 bytes (R571). -/
def ascii8 (s : String) : List Byte :=
  let b := s.toList.map (fun c => BitVec.ofNat 8 c.toNat)
  b ++ List.replicate (8 - b.length) 0

end Sys2Proof.Machine
end

