-- ==== Sys2Proof/Machine/Reset.lean ====
section
/-! DEFINITION. The resets of the hub (R548, R549): what each keeps, the interlock's release and the claim of an
engaged bypass (R562), the new LIFE_NONCE (R568), and the tack room's wipe and log (R277, R568). -/

namespace Sys2Proof.Machine

/-- The five resets (R548). -/
inductive ResetKind where
  | porst
  | software
  | watchdog
  | brownout
  | tamper
deriving DecidableEq, Repr

/-- Bytes of the tack room (R275). -/
def State.tackRead (s : State) (a n : Nat) : List Byte := memRead s.tack 0 a n

/-- Store bytes in the tack room. -/
def State.tackWrite (s : State) (a : Nat) (bs : List Byte) : State := { s with tack := memWrite s.tack 0 a bs }

/-- Store whole words in the tack room: their check bytes are fresh (R276). -/
def State.tackWhole (s : State) (a : Nat) (bs : List Byte) : State :=
  { s.tackWrite a bs with tackErr := s.tackErr.filter (fun e => !(fullWords a bs.length).contains e.1) }

/-- A tack-room word is read (R276): corrected, or zero when uncorrectable. -/
def tackWord (s : State) (w : Nat) : State × Bool :=
  match wordState (tget s.tackErr w 0) with
  | .clean => (s, true)
  | .single _ _ =>
    let s1 := { s with tackErr := tdrop s.tackErr w }
    (if s1.shedUp 4 then raiseYard (s1.inc F.yard_N_TACK_CE 0) Bit.ydTackCe else s1, true)
  | .due => (if s.shedUp 4 then raiseYard s Bit.ydTackDue else s, false)

/-- The words an access of `n` bytes touches. -/
def tackWords (a n : Nat) : List Nat := if n == 0 then [] else [a / 8, (a + n - 1) / 8].eraseDups

/-- Whole words of the tack room as firmware reads them, one after the other (R276): a DUE word gives zeros. -/
def tackGet (s : State) (a : Nat) : Nat → State × List Byte
  | 0 => (s, [])
  | n + 1 =>
    let x := tackWord s (a / 8)
    let r := tackGet x.1 (a + 8) n
    (r.1, (if x.2 then s.tackRead a 8 else List.replicate 8 0#8) ++ r.2)

/-- Where the tamper log starts in the tack room (R568). -/
def tamperLog : Nat := 0xFC00

/-- LIFE_NONCE as the log's header holds it (R568). -/
def State.nonce (s : State) : List Byte := (tackGet s tamperLog 1).2

/-- A new LIFE_NONCE, drawn at random at every reset and every transition (R568). -/
def newNonce (s : State) : State :=
  { s.tackWhole tamperLog (le 8 (Config.freshNonce s.drawn).toNat) with drawn := s.drawn + 1 }

/-- The blocks of S0 that a reset other than PORST_N keeps (R548): time, pulses, captures, panel, power, security and
the TWIN_ILK registers, and of the direct registers HOST_RST_CAUSE. -/
def keptBySoftReset (k : Nat) : Bool :=
  let b := keyBlk k
  let off := k % 65536
  b == blkCode .time || b == blkCode .pulse || b == blkCode .cap || b == blkCode .panel || b == blkCode .power ||
    b == blkCode .sec || (b == blkCode .twin && decide (off < 8)) || (b == blkCode .host && off == 0x14)

/-- What every reset but PORST_N leaves (R548; the counts of R384, R474 and R483 start only at PORST_N): S0 is kept, S1 to S11 are down with all they held, the direct registers
are at their reset values, SERVICE has ended (R569). -/
def afterSoftReset (s : State) : State :=
  let z : State := {}
  { z with
    part := s.part, stepping := s.stepping
    pending := s.pending
    regs := s.regs.filter (fun e => keptBySoftReset e.1)
    tod := s.tod, stepped := s.stepped, refclk := s.refclk, drawn := s.drawn
    flash := s.flash, tack := s.tack, tackErr := s.tackErr, persistMap := s.persistMap, calSaved := s.calSaved, calSeq := s.calSeq
    panelEncs := s.panelEncs.foldl (fun t e => tput t e.1 { state := e.2.state } {}) []
    pulses := s.pulses, caps := s.caps, frame := s.frame, servo := s.servo
    sessions := s.sessions, evtSeq := s.evtSeq, spillSeq := s.spillSeq
    twin := { alive := s.twin.alive, holdRise := s.twin.holdRise }
    railDown := s.railDown, brownRails := s.brownRails, tamperOn := s.tamperOn
    bypassPin := s.bypassPin, bypassCmd := s.bypassCmd, pairs := s.pairs
    fuseSealed := s.fuseSealed, fuseRetired := s.fuseRetired, fuseKeys := s.fuseKeys, fuseArmed := s.fuseArmed
    fuseMask := s.fuseMask, enrolled := s.enrolled }

/-- What PORST_N leaves of the hub (R17, R548): the fuses, the flash, what the board drives, and the tack room while
VAON stayed up, its single errors corrected by the scrub; everything else is at its reset value. A tack room whose VAON has
just risen reads zero (R276). -/
def afterPorst (s : State) (vaonRose : Bool) : State :=
  let z : State := {}
  { z with
    part := s.part, stepping := s.stepping
    pending := s.pending
    refclk := s.refclk, drawn := s.drawn
    flash := s.flash, persistMap := s.persistMap, calSaved := s.calSaved
    tack := if vaonRose then z.tack else s.tack
    tackErr := if vaonRose then [] else s.tackErr.filter (fun e => decide (wordState e.2 = .due))
    sessions := if vaonRose then [] else s.sessions
    enrolled := if vaonRose then none else s.enrolled
    railDown := s.railDown, brownRails := s.brownRails, tamperOn := s.tamperOn
    fuseSealed := s.fuseSealed, fuseRetired := s.fuseRetired, fuseKeys := s.fuseKeys, fuseArmed := s.fuseArmed
    fuseMask := s.fuseMask }

/-- HOST_RST_CAUSE after a reset (R466, R549): one cause, FW_RESTARTS 0. -/
def setCause (s : State) (f : Field) : State :=
  (s.setReg (F.host_PORST.addr 0) 0).set f 0 1

/-- A reset other than PORST_N (R548): the interlock is released (R401), what the reset does not keep goes, the cause is
recorded, the nonce is drawn anew, POWER_SHEDS shows S0 alone, and an engaged bypass claims again (R562). -/
def hubReset (s : State) (k : ResetKind) : State :=
  let s1 := releaseIlk s
  let s2 := afterSoftReset s1
  let s3 := setCause s2 (match k with
    | .porst => F.host_PORST
    | .software => F.host_SW
    | .watchdog => F.host_WDOG
    | .brownout => F.host_SW
    | .tamper => F.host_TAMPER)
  let s4 := if k = .brownout then raisePower s3 Bit.pwBrownout else s3
  let s5 := ((s4.set F.pwr_UP 0 1).set F.pwr_SWITCHING 0 0).set F.sec_SERVICE_LEFT 0 0
  bypassClaim (newNonce s5)

/-- TACK_WIPE (R277): zero words at 0x0000 to 0xFBFF; the log is spared. Keys and sessions in it are gone (R566). -/
def wipeTack (s : State) : State :=
  { s with
    tack := s.tack.filter (fun e => decide (tamperLog ≤ e.1))
    tackErr := s.tackErr.filter (fun e => decide (tamperLog ≤ 8 * e.1))
    sessions := [], enrolled := none }

/-- A log entry (R568): CAUSE, LIFE after it, FROM, SEQ, and the time; COUNT and NEXT move on. -/
def logTamper (s : State) (cause frm : Nat) : State :=
  let g := tackGet s (tamperLog + 8) 1
  let count := min (u16 g.2 0 + 1) 65535
  let next := max (fld g.2 0 16 6) 1
  let entry := le 4 (cause % 16 + s.life * 16 + frm % 256 * 256 + count * 65536) ++
    le 4 (s.nowNs % 1000000000) ++ le 4 (s.nowNs / 1000000000) ++ le 4 (s.nowNs / 1000000000 / 4294967296 % 65536)
  let s1 := g.1.tackWhole (tamperLog + 16 * next) entry
  s1.tackWhole (tamperLog + 8) (le 8 (count + (if next == 63 then 1 else next + 1) * 65536))

end Sys2Proof.Machine
end

