-- ==== Sys2Proof/Machine/YardPort.lean ====
section
/-! DEFINITION. The yard as its ports meet it (R250, R256 to R260, R269 to R273): the farrier with its spares and records,
the read of a word with its correction and its counts, the write of a word, and what an engine's read of a span or its
write of part of a word comes to. -/

namespace Sys2Proof.Machine

/-! ### The farrier (R269 to R273) -/

/-- Bank and row of a yard word number (R248). -/
def wordBank (w : Nat) : Nat := w % 16

def wordRow (w : Nat) : Nat := w / 16

/-- The map entries of a bank, as object numbers of the FARRIER_MAP registers. -/
def bankEntries (b : Nat) : List Nat := (List.range 64).map (fun i => 64 * b + i)

/-- A spare that no entry uses and that has not failed. -/
def spareFree (s : State) (e : Nat) : Bool := !s.on F.map_VALID e && !s.on F.map_RETIRED e

/-- Free spares of a bank. -/
def freeSpares (s : State) (b : Nat) : Nat := ((bankEntries b).filter (spareFree s)).length

/-- The next SEQUENCE of a log stall, counted from 0 after S4 is raised (R284). -/
def logNext (s : State) (q : Nat) : Nat × State :=
  let n := tget s.logSeq q 0
  (n, { s with logSeq := tput s.logSeq q ((n + 1) % 4294967296) 0 })

/-- A groom or farrier record (R284). -/
def yardLog (s : State) (q code bank row spare region : Nat) (fails : List Nat) : State :=
  let n := logNext s q
  stallOffer n.2 q (mkRecord (n.2.ownHdr 7 n.1)
    (le 4 (code % 16 + bank % 16 * 16 + row % 262144 * 256 + spare % 64 * 67108864) ++
     le 4 (region % 65536 + s.get F.yard_SWEEPS 0 % 65536 * 65536) ++
     le 4 (maskOf (fails.filter (fun i => decide (i < 32)))) ++
     le 4 (maskOf ((fails.filter (fun i => decide (32 ≤ i) && decide (i < 64))).map (fun i => i - 32)))))

/-- FREE_MIN, BANK_MIN and FULL as the map entries stand (R283). -/
def farrierCount (s : State) : State :=
  let fr := (List.range 16).map (freeSpares s)
  let m := fr.foldl min 64
  ((s.set F.yard_FREE_MIN 0 m).set F.yard_BANK_MIN 0 ((fr.findIdx? (· == m)).getD 0)).setB F.yard_FULL 0 (m == 0)

/-- FARRIER_STATUS after a change, and SPARE_LOW when a bank's free spares fall to 8 (R273, R283). -/
def farrierShow (s : State) (b before : Nat) : State :=
  let s2 := (farrierCount s).set F.yard_DIRTY 0 1
  if decide (8 < before) && decide (freeSpares s2 b ≤ 8) then raiseYard s2 Bit.ydSpareLow else s2

/-- A spare is retired for good (R272). -/
def retireSpare (s : State) (e : Nat) : State :=
  let b := e / 64
  let before := freeSpares s b
  let s1 := (s.set F.map_VALID e 0).set F.map_RETIRED e 1
  yardLog (farrierShow { s1 with poison := s1.poison.filter (· != e) } b before) 255 6 b (s.get F.map_ROW e) (e % 64) 0 []

/-- The eight stored bytes at place `p`. -/
def placeBytes (s : State) (p : Nat) : List Byte :=
  (List.range 8).map (fun i => tget s.yard (8 * p + i) (yardInit s.tablesReady (8 * p + i)))

/-- The word at place `p` as a read returns it (R258). -/
def placeRead (s : State) (p : Nat) : List Byte :=
  (placeBytes s p).zipIdx.map (fun x => readByte x.1 (tget s.yardErr p 0) x.2)

/-- Store eight bytes and an error pattern at place `p`. -/
def putPlace (s : State) (p : Nat) (bs : List Byte) (e : Nat) : State :=
  { s with
    yard := (List.range 8).foldl (fun t i => tput t (8 * p + i) (byteAt bs i) (yardInit s.tablesReady (8 * p + i))) s.yard
    yardErr := tput s.yardErr p e 0 }

/-- The word at place `p` is copied to place `d` by the farrier or the groom (R264, R271): corrected where it can be, else
as the uncorrectable word it is. -/
def copyPlace (s : State) (p d : Nat) : State :=
  if wordState (tget s.yardErr p 0) = .due then putPlace s d (placeBytes s p) (tget s.yardErr p 0)
  else putPlace s d (placeRead s p) 0

/-- A remap (R271): the word moves to the lowest free spare, poisoned where it reads DUE; a spare it stood on is retired,
and its CAUSE passes to the new entry (R272); with none free nothing moves and FARRIER_FULL is set (R273). -/
def remapRow (s : State) (b row cause : Nat) : State :=
  match (bankEntries b).find? (spareFree s) with
  | none => yardLog (raiseGroom s Bit.gmFarrierFull) 255 7 b row 0 0 []
  | some e =>
    let frm := s.cells (16 * row + b)
    let due := decide (wordState (tget s.yardErr frm 0) = .due)
    let old := mapEntry s b row
    let s0 := copyPlace s frm (spareWord e)
    let s1 := match old with
      | some o => retireSpare s0 o
      | none => s0
    let before := freeSpares s1 b
    let s2 := ((s1.set F.map_ROW e row).set F.map_VALID e 1).set F.map_CAUSE e ((old.map (s.get F.map_CAUSE)).getD cause)
    let s3 : State := { s2 with trackers := tput s2.trackers b ((tget s2.trackers b []).filter (fun t => t.row != row)) []
                                poison := (if due then [e] else []) ++ s2.poison.filter (· != e) }
    yardLog (raiseGroom (farrierShow s3 b before) Bit.gmRemap) 255 5 b row (e % 64) 0 []

/-- The word stands on a spare with its POISON bit. -/
def poisoned (s : State) (w : Nat) : Bool := ((mapEntry s (wordBank w) (wordRow w)).map s.poison.contains).getD false

/-- A correction in a bank's tracker (R270): eight words, a new one replaces the lowest count, the oldest of those. -/
def trackList (l : List Track) (row age : Nat) : List Track :=
  if l.any (fun t => t.row == row) then l.map (fun t => if t.row == row then { t with count := t.count + 1 } else t)
  else
    let one : Track := { row := row, count := 1, age := age }
    if l.length < 8 then l ++ [one]
    else
      let low := l.foldl (fun m t => min m t.count) ((l.map (·.count)).headD 0)
      let old := (l.filter (fun t => t.count == low)).foldl (fun m t => min m t.age) age
      l.filter (fun t => !(t.count == low && t.age == old)) ++ [one]

/-- The tracker's count of a row. -/
def trackCount (s : State) (b row : Nat) : Nat :=
  (((tget s.trackers b []).find? (fun t => t.row == row)).map (·.count)).getD 0

/-- A corrected word reaches the tracker; the farrier logs the trigger when it has been corrected CE_REPEAT times. -/
def track (s : State) (w : Nat) : State :=
  let b := wordBank w
  let s1 := { s with trackers := tput s.trackers b (trackList (tget s.trackers b []) (wordRow w) s.trackAge) []
                     trackAge := s.trackAge + 1 }
  let n := s1.get F.yard_CE_REPEAT 0
  if n != 0 && trackCount s1 b (wordRow w) == n then yardLog s1 255 3 b (wordRow w) 0 0 [] else s1

/-! ### Reading and writing one word (R256 to R259) -/

/-- Responses of R256. -/
def rspOk : Nat := 0

def rspLost : Nat := 1

def rspDue : Nat := 2

def rspRange : Nat := 3

/-- Add an error to a word where it stands: symbol `i` of 11 is XORed with `m`. -/
def flipWord (s : State) (w i : Nat) (m : Byte) : State :=
  let p := s.loc w
  { s with yardErr := tput s.yardErr p (tget s.yardErr p 0 ^^^ (m.toNat * 256 ^ (i % 11))) 0 }

/-- An uncorrectable read of word `w` (R258, R270): counted, flagged, its address kept if it is the first, and a trigger of the
farrier unless the word stands poisoned on a spare already. -/
def yardDue (s : State) (w port : Nat) : State :=
  let s1 := raiseYard (s.inc F.yard_N_DUE 0) Bit.ydDue
  let s2 := if s1.on F.yard_DUE_VALID 0 then s1
    else ((s1.set F.yard_DUE_ADDR 0 w).set F.yard_DUE_PORT 0 port).set F.yard_DUE_VALID 0 1
  if poisoned s2 w then s2 else yardLog s2 255 4 (wordBank w) (wordRow w) 0 0 []

/-- The read of a word through a port (R258): its response; the correction is written back, and corrections and
uncorrectable words are counted, flagged and brought to the farrier under the word that served the read. -/
def readWord (s : State) (port w : Nat) : State × Nat :=
  let p := s.loc w
  let h := s.home w
  match wordState (tget s.yardErr p 0) with
  | .clean => (s, rspOk)
  | .single _ _ =>
    let s1 := raiseYard ((putPlace s p (placeRead s p) 0).inc F.yard_N_CE 0) Bit.ydCe
    let s2 := ((s1.set F.yard_CE_ADDR 0 h).set F.yard_CE_PORT 0 port).set F.yard_CE_VALID 0 1
    (track s2 h, rspOk)
  | .due => (yardDue s h port, rspDue)

/-- Write some bytes of a word: (byte offset, value). A whole word stores fresh check bytes; a part of a word that reads
DUE is not applied (R249, R259). -/
def writeWord (s : State) (port w : Nat) (bs : List (Nat × Byte)) : State × Nat :=
  let store := fun (t : State) => bs.foldl (fun u e => u.yardPut (8 * w + e.1) e.2) t
  if (List.range 8).all (fun i => bs.any (fun e => e.1 == i)) then ((store s).freshen [w], rspOk)
  else if s.yardErr.isEmpty then (store s, rspOk)
  else
    let r := readWord s port w
    if r.2 == rspDue then r else (store r.1, rspOk)

/-- An engine reads the words of a span through its port (R258): what they hold is corrected where it can be, and every
uncorrectable word is counted. -/
def touch (s : State) (port a n : Nat) : State :=
  if s.yardErr.isEmpty then s else (touchedWords a n).foldl (fun t w => (readWord t port w).1) s

/-- Some word of a span reads DUE. -/
def spanDue (s : State) (a n : Nat) : Bool := !s.yardErr.isEmpty && (touchedWords a n).any (fun w => s.wordDue (8 * w))

/-- An engine writes a span through its port: a part of a word is a read-modify-write, which a DUE word does not take
(R249, R259). -/
def pokePort (s : State) (port a : Nat) (bs : List Byte) : State :=
  if s.yardErr.isEmpty then s.poke a bs
  else (touchedWords a bs.length).foldl (fun t w =>
    (writeWord t port w ((List.range 8).filterMap (fun i =>
      if a ≤ 8 * w + i && 8 * w + i < a + bs.length then some (i, byteAt bs (8 * w + i - a)) else none))).1) s

/-- The reader of a listener's stall reads the record now at RD into its head buffer through its port (R24, R49, R258). -/
def readHead (s : State) (port q : Nat) : State :=
  match unreadLens s q with
  | [] => s
  | l :: _ =>
    let x := s.stall q
    let o := x.a.rd % stallSize s q
    let k := stallSize s q - o
    fillHead (touch (touch s port (x.base + o) (min l k)) port x.base (l - k)) q

/-- A read of the aperture word at window offset `o` (R245, R258, R260): the words it returns are read through P6. -/
def touchAperture (s : State) (q o : Nat) : State :=
  match unreadLens s q with
  | [] => s
  | l :: _ =>
    let k := 8 * s.get F.stall_OFFS q + (o - 0x80)
    if s.yardErr.isEmpty || decide (l ≤ k) || !s.shedUp 4 || s.get F.stall_READER q != 1 || decide (o < 0x80) then s
    else touch s 6 ((s.stall q).base + ((s.stall q).a.rd + k) % stallSize s q) 1

end Sys2Proof.Machine
end

