-- ==== Sys2Proof/Machine/Host.lean ====
section
/-! DEFINITION. The host port as shared operations: the direct registers as they read (R464 to R467, R486), mailbox
states (R471), posting responses and notices (R469, R473, R474, R441, R451), and the writes of the direct registers. -/

namespace Sys2Proof.Machine

/-! ### Mailboxes -/

/-- STATE_i: 0 EMPTY, 1 FULL, 2 HELD (R467). -/
def mbState (s : State) (i : Nat) : Nat := bits (s.get F.host_STATE 0) (2 * i) 2

/-- Set STATE_i. -/
def setMbState (s : State) (i v : Nat) : State :=
  s.set F.host_STATE 0 (s.get F.host_STATE 0 - mbState s i * 4 ^ i + v % 4 * 4 ^ i)

/-- OWNER_i: 0 host, 1 Ethernet session, 2 stream sideband, 3 none (R467). -/
def mbOwner (s : State) (i : Nat) : Nat := bits (s.get F.host_OWNER 0) (2 * i) 2

/-- The owner code of a transport (R467). -/
def ownerOf : Transport → Nat
  | .spi => 0
  | .session _ => 1
  | .sideband => 2

/-- The bytes of inbound mailbox i (R468). -/
def mbiBytes (s : State) (i n : Nat) : List Byte := memRead s.mbi 0 (512 * i) n

/-- A message as it lies in memory: the header of R468 and the body. -/
def parseMsg (b : List Byte) : Msg :=
  { opcode := u16 b 0, tag := BitVec.ofNat 16 (u16 b 2), length := u16 b 4, flags := BitVec.ofNat 16 (u16 b 6),
    cfgGen := BitVec.ofNat 32 (u32 b 8), crc := BitVec.ofNat 32 (u32 b 12), body := (b.drop 16).take (min (u16 b 4) 496) }

/-- The header and body as bytes, with the CRC field as given (R468). -/
def msgBytes (m : Msg) (crc : Nat) : List Byte :=
  le 2 m.opcode ++ le 2 m.tag.toNat ++ le 2 m.length ++ le 2 m.flags.toNat ++ le 4 m.cfgGen.toNat ++ le 4 crc ++ m.body

/-- The CRC a message should carry (R468). -/
def msgCrc (m : Msg) : Nat := crc32 (msgBytes m 0)

/-- A complete message from the hub: RESPONSE set, the generation as it stands, its CRC (R468, R469, R477). -/
def hubMessage (s : State) (op : Nat) (tag : BitVec 16) (flags : Nat) (body : List Byte) : List Byte :=
  let m : Msg := { opcode := op, tag := tag, length := body.length, flags := BitVec.ofNat 16 (flags ||| 128),
                   cfgGen := s.gen, crc := 0, body := body }
  msgBytes m (msgCrc m)

/-- A response's body: the status word and the data (R469). -/
def statusBody (status detail : Nat) (data : List Byte) : List Byte :=
  le 4 (status % 65536 + detail % 65536 * 65536) ++ data

/-- SPILL_RECORD (R474): the KIND 9 record of a message for MBOi. -/
def spillRecord (s : State) (i : Nat) (msg : List Byte) : List Byte :=
  mkRecord (s.ownHdr 9 s.spillSeq) (le 4 i ++ le 4 0 ++ msg)

/-- A command is complete: it leaves the command record (R476, R493). -/
def completeEntry (s : State) (e : Option Nat) : State :=
  match e with
  | none => s
  | some id => { s with cmds := s.cmds.filter (fun x => x.id != id) }

/-- An outbound mailbox takes a message or the message spills (R473, R474). -/
def postSpi (s : State) (i : Nat) (msg : List Byte) (e : Option Nat) : State :=
  if (s.get F.host_FULL 0).testBit i || (s.get F.host_SPILLING 0).testBit i then
    { s.set F.host_SPILLING 0 (s.get F.host_SPILLING 0 ||| 2 ^ i) with
      spill := s.spill ++ [{ mbo := i, bytes := msg, entry := e }] }
  else
    completeEntry ({ s with mbo := memWrite s.mbo 0 (512 * i) msg }.set F.host_FULL 0 (s.get F.host_FULL 0 ||| 2 ^ i)) e

/-- An Ethernet port. -/
def State.ethPort (s : State) (port : Nat) : EthPort := tget s.eth port {}

/-- Store an Ethernet port. -/
def State.putEth (s : State) (port : Nat) (p : EthPort) : State := { s with eth := tput s.eth port p {} }

/-- A datagram that is no listener record is sent (R443): at once, or after the frame in transmission. -/
def sendUdp (s : State) (port : Nat) (d : Dgram) : State :=
  let p := s.ethPort port
  let q := { p with out := p.out ++ [d] }
  s.putEth port (if p.sending then { q with waiting := q.waiting + 1 } else { q with sending := true, sentListener := false })

/-- A response on its session (R451): the hub's counter rises by 1, the tag is keyed with the session key. -/
def postSession (s : State) (n mbox : Nat) (msg : List Byte) : State :=
  match s.sessions.find? (fun x => x.number == n) with
  | none => s
  | some x =>
    let c := x.ownCounter + 1
    let b := le 4 n ++ le 8 c ++ le 4 (mbox % 8) ++ msg
    let s1 := { s with sessions := s.sessions.map (fun y => if y.number == n then { y with ownCounter := c } else y) }
    sendUdp s1 x.port { ip := x.ip, udp := x.udp, payload := b ++ hmac x.key b }

/-- RESPONSE_POST (R473, R475): on the transport that brought the message. -/
def post (s : State) (via : Transport) (mbox : Nat) (msg : List Byte) (e : Option Nat) : State :=
  match via with
  | .spi => postSpi s mbox msg e
  | .session n => completeEntry (postSession s n mbox msg) e
  | .sideband => completeEntry { s with stream := { s.stream with sideOut := s.stream.sideOut ++ [(mbox, msg)] } } e

/-- A response to a request (R469): OPCODE and TAG echoed; none under QUIET when the status is OK (R473). -/
def respond (s : State) (via : Transport) (mbox op : Nat) (tag : BitVec 16) (quiet replayed : Bool)
    (status detail : Nat) (data : List Byte) (e : Option Nat) : State :=
  if quiet && status == 0 then completeEntry s e
  else post s via mbox (hubMessage s op tag (b2n replayed * 256) (statusBody status detail data)) e

/-- A notice in the mailbox that NOTICE names (R473): TAG 0, NOTICE set. -/
def postNotice (s : State) (op status detail : Nat) (data : List Byte) : State :=
  let i := s.get F.host_NOTICE 0
  let m := hubMessage s op 0 512 (statusBody status detail data)
  match mbOwner s i with
  | 0 => postSpi s i m none
  | 1 => match s.sessions with
    | [] => s
    | x :: _ => postSession s x.number i m
  | 2 => { s with stream := { s.stream with sideOut := s.stream.sideOut ++ [(i, m)] } }
  | _ => s

/-! ### The direct registers as they read -/

/-- HOST_FW (R464). -/
def hostFw (s : State) : Word :=
  (s.reg ⟨.host, 0, 4⟩ &&& 0x000FFFFF) ||| BitVec.ofNat 32 (s.life * 1048576)

/-- HOST_BYPASS (R466, R560). -/
def hostBypass (s : State) : Word :=
  let c := bypassCause s
  BitVec.ofNat 32 (b2n s.bypassPin + b2n (c != 0 || !s.pairs.isEmpty) * 2 + c * 4)

/-- HOST_IRQ_PEND (R486). -/
def irqPend (s : State) : Word :=
  BitVec.ofNat 32 (b2n (!(unreadLens s 240).isEmpty) + b2n (s.get F.host_FULL 0 != 0) * 2 +
    b2n (!(unreadLens s 243).isEmpty) * 4 + s.get F.host_PEND_W1C 0 * 8 + b2n (s.get F.host_ERR 0 != 0) * 32)

/-- HOST_IRQ_N: low while PEND AND EN is nonzero (R486). -/
def irqN (s : State) : Bool := ((irqPend s).toNat &&& s.get F.host_IRQ_EN 0) == 0

/-- HOST_ID (R464). -/
def hostId (s : State) : Word := BitVec.ofNat 32 (s.part.code + s.stepping % 16 * 65536 + 1048576)

/-- A direct register as it reads (R15, R463). -/
def hostWord (s : State) (o : Nat) : Word :=
  if o == 0x00 then hostId s
  else if o == 0x04 then hostFw s
  else if o == 0x08 then s.part.cap0
  else if o == 0x0C then s.part.cap1
  else if o == 0x18 then hostBypass s
  else if o == 0x34 then irqPend s
  else s.reg ⟨.host, 0, o⟩ &&& regMask ⟨.host, 0, o⟩ (fun a => a != .wo)

/-! ### Writes with an effect of their own -/

/-- A doorbell (R471): each rung mailbox owned by the host and EMPTY becomes FULL; one that is busy or owned by another
transport, or any while S1 is down, sets DB_BUSY. -/
def ringMailboxes (s : State) (ring : Nat) : State :=
  let s0 := { s with ringNo := s.ringNo + b2n (ring % 256 != 0) }
  (setBits 8 ring).foldl (fun t i =>
    if t.shedUp 1 && mbOwner t i == 0 && mbState t i == 0 then
      { setMbState t i 1 with rungBy := tput t.rungBy i t.ringNo 0, mbFrom := tdrop t.mbFrom i }
    else hostErr t Bit.erDbBusy) s0

/-- HOST_MBO_REL (R467, R473): the mailboxes named are freed. -/
def releaseMbo (s : State) (rel : Nat) : State :=
  endSpilling (s.set F.host_FULL 0 (s.get F.host_FULL 0 &&& (255 - rel % 256)))

/-- A wait that outlives a warm restart: the commands of R493, whose entry records the moment of their effect, and a wait
that no command-record entry stands behind. -/
def waitSurvives (w : Wait) : Bool :=
  w.entry.isNone || (match w.on with
    | .roleMove _ _ => true
    | .sentence started => started
    | .stallReset _ => true
    | .twinSwap => true
    | _ => false)

/-- The mode requests of commands that will run again are dropped with their waits. -/
def keepReqs : List ModeReq → List Wait → List ModeReq
  | [], _ => []
  | q :: r, ws =>
    if q.origin != 0 then q :: keepReqs r ws
    else match ws with
      | [] => q :: keepReqs r []
      | w :: l => if w.entry.isSome then keepReqs r l else q :: keepReqs r l

/-- A warm restart begins (R478, R479): the processor stops, RUNNING reads 0, acknowledgement stops. Commands that were
under way, but for those of R493, will run again from their start (R480); a switch under way starts again (R527). -/
def beginRestart (s : State) (cause : Nat) : State :=
  if !s.running then s
  else
    let gone := s.waits.filter (fun w => !waitSurvives w)
    let again := gone.filterMap (·.entry)
    let reqs := (s.modeWait.map (·.1)).toList ++ s.modeReqs
    let plan := if gone.any (fun w => w.on = .sheds) then s.shedPlan.filter (fun p => !p.fromCommand) else s.shedPlan
    let s1 : State :=
      { s with
        restartCause := cause, restarting := true
        twin := { s.twin with ownedBefore := s.on F.twin_PAIRED 0 && s.owns }
        waits := s.waits.filter waitSurvives
        cmds := s.cmds.map (fun e => if again.contains e.id then { e with st := .acked } else e)
        modeReqs := keepReqs reqs (s.waits.filter (fun w => w.on = .modeSwitch)), modeWait := none, modePost := []
        shedPlan := plan }
    (s1.set F.host_RUNNING 0 0).setB F.pwr_SWITCHING 0 plan.isSome

/-- A write of HOST_RESET (R466): without KEY 0xA5 it sets KEY and does nothing; with both actions only the reset runs. -/
def writeReset (s : State) (w : Nat) : State :=
  if bits w 8 8 != 0xA5 then hostErr s Bit.erKey
  else if w.testBit 0 then hubReset s .software
  else if w.testBit 1 then beginRestart s 2
  else s

/-- A W1C write (R16): a 1 clears only bits latched before the access; bits of `latched` are latched in it and stay. -/
def writeW1c (s : State) (r : RegAddr) (v latched : Word) : State :=
  let m := regMask r (fun a => a == .w1c)
  s.setReg r ((s.reg r &&& ~~~ (v &&& m)) ||| (latched &&& m))

/-- A host write of a direct register (R463): RW fields, W1C bits, and the registers with an effect of their own. -/
def writeHost (s : State) (o : Nat) (w : Word) : State :=
  let r : RegAddr := ⟨.host, 0, o⟩
  if o == 0x10 then writeReset s w.toNat
  else if o == 0x20 then ringMailboxes s w.toNat
  else if o == 0x2C then releaseMbo s w.toNat
  else if o == 0x1C || o == 0x34 then writeW1c s r w 0
  else s.putRw r w

/-- A host write into a stall window (R240): OFFS, CMD, FLAGS and EVEN, and only while READER is 1. -/
def writeWindow (s : State) (q o : Nat) (w : Word) : State :=
  let r : RegAddr := ⟨.stall, q, o⟩
  if !s.shedUp 4 || s.get F.stall_READER q != 1 then s
  else if o == 0x20 then readerCmd s q (bits w.toNat 0 4) 0
  else if o == 0x24 then writeW1c s r w 0
  else if o == 0x1C || o == 0x28 then s.putRw r w
  else s

/-! ### The address space (R456, R461) -/

/-- Where a word of the host address space lies. -/
inductive HostPlace where
  | direct (o : Nat)
  | inbound (i o : Nat)
  | outbound (i o : Nat)
  | window (q o : Nat)
  | reserved
deriving DecidableEq, Repr

/-- R456; address bits [1:0] are ignored (R457). -/
def hostPlace (a : Nat) : HostPlace :=
  let a := a / 4 * 4
  if a < 0x1000 then .direct a
  else if a < 0x2000 then .inbound ((a - 0x1000) / 512) (a % 512)
  else if a < 0x3000 then .outbound ((a - 0x2000) / 512) (a % 512)
  else if decide (0x10000 ≤ a) && decide (a < 0x20000) then .window ((a - 0x10000) / 256) (a % 256)
  else .reserved

/-- The block that a burst must stay inside (R461): a number for each direct file, mailbox, window; none is reserved. -/
def hostBlock (a : Nat) : Nat :=
  match hostPlace a with
  | .direct _ => 1
  | .inbound i _ => 16 + i
  | .outbound i _ => 32 + i
  | .window q _ => 64 + q
  | .reserved => 0

/-- One word written by the host. -/
def hostStore (s : State) (a : Nat) (w : Word) : State :=
  match hostPlace a with
  | .direct o => writeHost s o w
  | .inbound i o =>
    if !s.shedUp 1 || decide (8 ≤ i) then s
    else if mbOwner s i != 0 || mbState s i != 0 then hostErr s Bit.erMbBusy
    else { s with mbi := memWrite s.mbi 0 (512 * i + o) (le 4 w.toNat) }
  | .outbound _ _ => s
  | .window q o => writeWindow s q o w
  | .reserved => hostErr s Bit.erAddr

/-- One word read by the host. -/
def hostLoad (s : State) (a : Nat) : Word :=
  match hostPlace a with
  | .direct o => hostWord s o
  | .inbound i o => if s.shedUp 1 && decide (i < 8) then BitVec.ofNat 32 (ofLe (memRead s.mbi 0 (512 * i + o) 4)) else 0
  | .outbound i o => if s.shedUp 1 && decide (i < 8) then BitVec.ofNat 32 (ofLe (memRead s.mbo 0 (512 * i + o) 4)) else 0
  | .window q o => stallWord s q o true
  | .reserved => 0

/-- A word access is bound for the fabric, beyond the direct registers in S0 (R459, R462). -/
def fabricBound (a : Nat) : Bool := decide (0x1000 ≤ a)

/-- The words of a write burst (R457, R460 to R462): the first word outside the block of the first sets BURST and ends
the writing; a word in `ovf` finds the queue full in economy operation and is discarded with WR_OVF. -/
def spiStore (s : State) (blk : Nat) : Nat → Nat → List Word → List Nat → State
  | _, _, [], _ => s
  | a, k, w :: r, ovf =>
    if hostBlock a != blk then hostErr s Bit.erBurst
    else
      let s1 := if ovf.contains k && fabricBound a && s.on F.pwr_ECON 0 then hostErr s Bit.erWrOvf else hostStore s a w
      spiStore s1 blk (a + 4) (k + 1) r ovf

/-- A write transaction: with fewer than three commit cycles the last word is discarded with SHORT_COMMIT (R460). -/
def spiWriteTxn (s : State) (addr : BitVec 24) (words : List Word) (commit : Nat) (ovf : List Nat) : State :=
  let a := addr.toNat / 4 * 4
  let ws := if commit < 3 then words.dropLast else words
  let s1 := spiStore s (hostBlock a) a 0 ws ovf
  if commit < 3 && !words.isEmpty then hostErr s1 Bit.erShortCommit else s1

/-- What a word's read does beside returning it: ADDR of a reserved address (R461), and the yard's read of a stall record
(R258, R260). -/
def readEffect (s : State) (a : Nat) : State :=
  match hostPlace a with
  | .reserved => hostErr s Bit.erAddr
  | .window q o => touchAperture s q o
  | _ => s

/-- The words of a read burst (R459, R461): a word outside the block ends the read with the error marker (`none`) and
BURST; a word in `late` has no ready marker by the 255th cycle: error marker, a word of 0, TIMEOUT. -/
def spiLoad (s : State) (blk : Nat) (late : List Nat) : Nat → Nat → Nat → State × List (Option Word)
  | 0, _, _ => (s, [])
  | n + 1, a, k =>
    if hostBlock a != blk then (hostErr s Bit.erBurst, [none])
    else if late.contains k && fabricBound a && s.on F.pwr_ECON 0 then
      let r := spiLoad (hostErr s Bit.erTimeout) blk late n (a + 4) (k + 1)
      (r.1, none :: r.2)
    else
      let r := spiLoad (readEffect s a) blk late n (a + 4) (k + 1)
      (r.1, some (hostLoad s a) :: r.2)

/-- A read transaction: the words stand in `spiOut`. -/
def spiReadTxn (s : State) (addr : BitVec 24) (count : Nat) (late : List Nat) : State :=
  let a := addr.toNat / 4 * 4
  let r := spiLoad s (hostBlock a) late count a 0
  { r.1 with spiOut := r.2 }

end Sys2Proof.Machine
end

