-- ==== Sys2Proof/Machine/Operands.lean ====
section
/-! DEFINITION. The operand forms of the mailbox commands (R487 to R492): statuses, the outcome of a command, RANGE
words, register words carried in a body, and the wrapper that runs a request through the checks of R472 and posts its
response. -/

namespace Sys2Proof.Machine

/-! The statuses of R470. -/

namespace St

def ok : Nat := 0
def busy : Nat := 1
def badOpcode : Nat := 2
def badLength : Nat := 3
def badArg : Nat := 4
def noSpace : Nat := 5
def denied : Nat := 6
def notFitted : Nat := 7
def restarted : Nat := 8
def state : Nat := 9
def signature : Nat := 10
def timeout : Nat := 11

end St

/-- What a command does: it is done, with a status, DETAIL and response data, and `step` says whether an OK steps the
generation of a G command (R489, R491); or it waits for its effect (kind W). -/
inductive CmdOut where
  | done (s : State) (status detail : Nat) (data : List Byte) (step : Bool)
  | wait (s : State) (on : WaitFor)
deriving DecidableEq, Repr

/-- OK with response data. -/
def ok (s : State) (data : List Byte) : CmdOut := .done s St.ok 0 data true

/-- OK that leaves everything as it was and does not step the generation (R489). -/
def okSame (s : State) (data : List Byte) : CmdOut := .done s St.ok 0 data false

/-- A status other than OK: nothing changes (R490). -/
def no (s : State) (st : Nat) : CmdOut := .done s st 0 [] false

/-- A command's own checks in order: the first that fails decides. -/
def firstFail (s : State) (checks : List (Bool × Nat)) (f : State → CmdOut) : CmdOut :=
  match checks with
  | [] => f s
  | (bad, st) :: r => if bad then no s st else firstFail s r f

/-- RANGE (R489): FIRST and COUNT at offset 0. -/
def rangeFirst (b : List Byte) : Nat := u16 b 0

def rangeCount (b : List Byte) : Nat := u16 b 2

/-- The objects a RANGE names. -/
def rangeOf (b : List Byte) : List Nat := (List.range (rangeCount b)).map (fun i => rangeFirst b + i)

/-- A RANGE command over `total` objects of which `fitted` are fitted (R489): BAD_ARG past the PLV-9664's, NOT_FITTED for
an object absent here, OK with nothing done for COUNT 0. -/
def withRange (s : State) (b : List Byte) (total fitted : Nat) (f : List Nat → State → CmdOut) : CmdOut :=
  let top := rangeFirst b + rangeCount b
  if rangeCount b == 0 then okSame s []
  else if decide (rangeFirst b < total) && decide (fitted < min top total) then no s St.notFitted
  else if decide (total < top) then no s St.badArg
  else f (rangeOf b) s

/-- A request whose LENGTH is not the row's size (R488): that an object it names is not fitted comes first (R472). `out` is
what the command's checks say of its body. -/
def wrongLength (s : State) (out : CmdOut) : CmdOut :=
  match out with
  | .done _ st _ _ _ => if st == St.notFitted then no s St.notFitted else no s St.badLength
  | .wait _ _ => no s St.badLength

/-- A command's outcome, but for a LENGTH that is not the row's. -/
def lengthCheck (bad : Bool) (s : State) (out : CmdOut) : CmdOut := if bad then wrongLength s out else out

/-- LENGTH must be the row's size (R488). -/
def sized (r : Req) (n : Nat) (s : State) (f : State → CmdOut) : CmdOut := lengthCheck (r.body.length != n) s (f s)

/-- An object named in the body is not fitted: check 5, before every check of the command's own (R472). -/
def unfitted (absent : Bool) (s : State) (out : CmdOut) : CmdOut := if absent then no s St.notFitted else out

/-- The register word at offset `o` of a body. -/
def bodyWord (r : Req) (o : Nat) : Word := BitVec.ofNat 32 (u32 r.body o)

/-- Write a register from a body word: its RW fields only (R487). -/
def putReg (s : State) (blk : Blk) (i off : Nat) (w : Word) : State := s.putRw ⟨blk, i, off⟩ w

/-- Write consecutive registers of a block from a body. -/
def putRegs (s : State) (blk : Blk) (i off : Nat) : List Word → State
  | [] => s
  | w :: r => putRegs (putReg s blk i off w) blk i (off + 4) r

/-- Words `n` of a body from offset `o`. -/
def bodyWords (r : Req) (o n : Nat) : List Word := toWords (r.body.drop o) n

/-- The words of a block as they read, from `off`, `n` words (WO fields read 0). -/
def regWords (s : State) (blk : Blk) (i off n : Nat) : List Byte :=
  (List.range n).flatMap (fun k =>
    le 4 (s.reg ⟨blk, i, off + 4 * k⟩ &&& regMask ⟨blk, i, off + 4 * k⟩ (fun a => a != .wo)).toNat)

/-- The configuration generation steps (R477). -/
def stepGen (s : State) : State := { s with gen := s.gen + 1 }

/-- The origin of the commands that firmware carries out for itself (entries of an image or overlay): it answers nobody and
steps no generation of its own. -/
def ownVia : Transport := .session 4294967296

/-- The generation steps when a G command returns OK. -/
def genAfter (s : State) (g step : Bool) (status : Nat) : State := if g && step && status == 0 then stepGen s else s

/-- Post what a command came to. -/
def finish (op : Nat) (g : Bool) (r : Req) (e : Option Nat) (replayed : Bool) (out : CmdOut) : State :=
  match out with
  | .done s1 st d data step =>
    respond (genAfter s1 g step st) r.via r.mbox op r.tag r.quiet replayed st d data e
  | .wait s1 on => { s1 with waits := s1.waits ++ [{ entry := e, opcode := op, req := r, on := on }] }

/-- A request through checks 4 to 6 of R472, in RETIRED with the rule of R569, and its response. `fitted` is check 5 for
what the opcode alone names. -/
def runReq (op : Nat) (g fitted : Bool) (f : Req → State → CmdOut) (r : Req) (e : Option Nat) (replayed : Bool)
    (s : State) : State :=
  if s.life == 3 && !(op == 1 && r.mbox == 0 && r.via = .spi) then
    finish op g r e replayed (no s St.denied)
  else if r.genCheck && r.cfgGen != s.gen then
    finish op g r e replayed (.done s St.state 0xFFFE [] false)
  else if !fitted then finish op g r e replayed (no s St.notFitted)
  else finish op g r e replayed (f r s)

/-- A mailbox command's row: firmware takes it only while it runs. -/
def cmdRow (op : Nat) (g fitted : Bool) (f : Req → State → CmdOut) (r : Req) (s : State) : State :=
  if s.running then runReq op g fitted f r none false s else s

/-- The entry a waiting command came from was replayed. -/
def waitReplayed (s : State) (w : Wait) : Bool :=
  match w.entry with
  | none => false
  | some id => s.cmds.any (fun x => x.id == id && x.replayed)

/-- A response that firmware, stopped in a warm restart, cannot post yet is saved with its entry (R480, R493). -/
def saveResponse (s : State) (id : Nat) (g : Bool) (status detail : Nat) (data : List Byte) : State :=
  { s with cmds := s.cmds.map (fun e => if e.id == id then { e with st := .done, saved := some (g, status, detail, data) } else e) }

/-- A waiting W command answers. -/
def answerWait (s : State) (w : Wait) (g : Bool) (status detail : Nat) (data : List Byte) : State :=
  match s.running, w.entry with
  | false, some id => saveResponse s id g status detail data
  | _, _ => respond (genAfter s (g && w.req.via != ownVia) true status) w.req.via w.req.mbox w.opcode w.req.tag w.req.quiet (waitReplayed s w) status detail
    data w.entry

/-- Every waiting command that `p` picks answers, in order, with what `out` gives. -/
def answerWaits (s : State) (p : WaitFor → Bool) (g : Bool) (out : State → Wait → Nat × List Byte) : State :=
  let ws := s.waits.filter (fun w => p w.on)
  ws.foldl (fun t w => let o := out t w; answerWait t w g o.1 0 o.2)
    { s with waits := s.waits.filter (fun w => !p w.on) }

end Sys2Proof.Machine
end

