-- ==== Sys2Proof/Machine/Parser.lean ====
section
/-! DEFINITION. The parser (R124 to R154): sources and their lanes, the framing of R127 to R136, damage and discards
(R83, R134, R137, R138), the staging copies (R75, R126), closing with its checks (R129, R130, R139, R145), the rerun
count (R148 to R151), the journal of a standby (R416, R417), and host sentences (R500). -/

namespace Sys2Proof.Machine

/-! ### Lanes and their rings -/

/-- A lane's receiver beside its block. -/
def State.rxLane (s : State) (n : Nat) : LaneRx := tget s.rx n {}

/-- Store a lane's receiver. -/
def State.putRx (s : State) (n : Nat) (x : LaneRx) : State := { s with rx := tput s.rx n x {} }

/-- A lane's transmitter beside its block. -/
def State.txLane (s : State) (n : Nat) : LaneTx := tget s.tx n {}

/-- Store a lane's transmitter. -/
def State.putTx (s : State) (n : Nat) (x : LaneTx) : State := { s with tx := tput s.tx n x {} }

/-- The next byte of the staging ring of physical lane n (R30, R75). -/
def ringSpot (s : State) (n : Nat) : Nat := 0x1F80000 + n * 2048 + (s.rxLane n).ringWr % 2048

/-! ### Sources, roles and staging -/

/-- A source's parser context. -/
def State.source (s : State) (src : Nat) : Source := tget s.srcs src {}

/-- Store a source's parser context. -/
def State.putSource (s : State) (src : Nat) (x : Source) : State := { s with srcs := tput s.srcs src x {} }

/-- The lane that carries a role (R114). -/
def roleLane (s : State) (role : Nat) : Option Nat :=
  (List.range s.part.lanes).find? (fun n => s.shedUp (laneShed n) && s.get F.tx_ROLE n == role)

/-- A lane role, as a source ID (R125). -/
def isRole (src : Nat) : Bool := decide (src < 96)

/-- The bytes a sentence holds in its staging copy: those stored before its limit (R126, R134). -/
def stagedOf (x : Sentence) : Nat := x.bytes.length

/-- The sentences of a source that hold staging bytes (R126): the open one, those closing or waiting for the
classifier, those awaiting their vote, and those whose copies are still to come. -/
def stagedSentences (s : State) (src : Nat) : List Sentence :=
  let so := s.source src
  (so.sent.toList ++ so.closing ++ so.closed ++ s.routerQ.map (·.sent) ++ s.voterQ.map (·.sent) ++
    (s.ballots.filter (fun b => !b.dropped)).map (·.sent)).filter (fun x => x.source == src)

/-- LANE_RX_RING.LEVEL (R91): the bytes in a lane's staging ring. -/
def ringLevel (s : State) (src : Nat) : Nat := (stagedSentences s src).foldl (fun n x => n + stagedOf x) 0

/-- LEVEL and PEAK follow the ring (R91). -/
def ringShow (s : State) (src : Nat) : State :=
  if isRole src then
    match roleLane s src with
    | none => s
    | some n =>
      let l := min (ringLevel s src) 2048
      (s.set F.rx_LEVEL n l).set F.rx_PEAK n (max l (s.get F.rx_PEAK n))
  else s

/-- The sentences that S2 and S3 still hold with copies to come (R126). -/
def heldSentences (s : State) : List Sentence :=
  s.srcs.flatMap (fun e => e.2.sent.toList ++ e.2.closing ++ e.2.closed) ++ s.routerQ.map (·.sent) ++
    s.voterQ.map (·.sent) ++ (s.ballots.filter (fun b => !b.dropped)).map (·.sent)

/-- A frame in an Ethernet port's receive buffer is still in use (R126, R445). -/
def frameInUse (s : State) (p id : Nat) : Bool :=
  (s.ethPort p).inbox.any (fun e => e.1 == id) || (s.source (0x1000 + p)).input.any (fun b => b.frame == id) ||
    (heldSentences s).any (fun x => x.source == 0x1000 + p && x.frame == id)

/-- ETH_STATUS.RXBUF_FREE (R444, R455). -/
def ethFree (s : State) (p : Nat) : Nat :=
  32768 - ((s.ethPort p).frames.filter (fun e => frameInUse s p e.1)).foldl (fun n e => n + 8 * e.2.length) 0

/-- A sentence's staging bytes are free (R126): its ring level falls, its mailbox leaves HELD (R471). -/
def freeSentence (s : State) (x : Sentence) : State :=
  let s1 := ringShow s x.source
  match x.mbox with
  | none => s1
  | some i => if mbState s1 i == 2 then setMbState s1 i 0 else s1

/-! ### Start characters and stages (R127 to R136) -/

/-- A byte is a start character under a PARSE_CFG word (R127). -/
def isStart (cfg : Word) (b : Byte) : Bool :=
  (bits cfg.toNat 0 1 == 1 && (b == 0x24#8 || b == 0x21#8)) || (bits cfg.toNat 1 1 == 1 && b == 0x25#8)

/-- The eight reserved bytes of R131. -/
def reservedByte (b : Byte) : Bool :=
  b == 0x0D#8 || b == 0x0A#8 || b == 0x21#8 || b == 0x24#8 || b == 0x25#8 || b == 0x2A#8 || b == 0x2C#8 || b == 0x7D#8

/-- An address character (R128). -/
def addrChar (b : Byte) : Bool :=
  (decide (0x30 ≤ b.toNat) && decide (b.toNat ≤ 0x39)) || (decide (0x41 ≤ b.toNat) && decide (b.toNat ≤ 0x5A))

/-- A hex digit's value; lower case counts when HEX_LOWER is 1 (R129). -/
def hexDigit (lower : Bool) (b : Byte) : Option Nat :=
  let v := b.toNat
  if 0x30 ≤ v ∧ v ≤ 0x39 then some (v - 0x30)
  else if 0x41 ≤ v ∧ v ≤ 0x46 then some (v - 0x41 + 10)
  else if lower = true ∧ 0x61 ≤ v ∧ v ≤ 0x66 then some (v - 0x61 + 10)
  else none

/-- HEX_LOWER of the settings a sentence captured (R124). -/
def hexLower (x : Sentence) : Bool := bits x.cfg.toNat 3 1 == 1

/-- The stages of a sentence: 0 address, 1 fields, 2 check digits, 4 after CR, 5 after the CR of a runt (R134, R135). -/
def bad (x : Sentence) : Sentence := { x with malformed := true }

/-- An address byte (R127, R128). -/
def stageAddr (x : Sentence) (b : Byte) : Sentence :=
  let good := decide (5 ≤ x.addr) && decide (x.addr ≤ 10)
  if addrChar b then (if x.addr < 10 then { x with addr := x.addr + 1 } else bad x)
  else if b == 0x2C#8 && good then { x with stage := 1 }
  else if b == 0x2A#8 && good then { x with stage := 2 }
  else if b == 0x0D#8 && x.addr == 0 then { x with stage := 5 }
  else if b == 0x0D#8 && good && !x.long then { x with stage := 4 }
  else bad x

/-- A byte of an NMEA field (R127). -/
def stageNmea (x : Sentence) (b : Byte) : Sentence :=
  if b == 0x0D#8 then { x with stage := 4 }
  else if b == 0x2A#8 then { x with stage := 2 }
  else if b.toNat < 0x20 ∨ 0x7E < b.toNat ∨ b = 0x24#8 ∨ b = 0x21#8 then bad x
  else x

/-- A byte of a long sentence's field (R127, R131). -/
def stageLong (x : Sentence) (b : Byte) : Sentence :=
  if x.esc then (if reservedByte b then bad { x with esc := false } else { x with esc := false })
  else if b == 0x7D#8 then { x with esc := true }
  else if b == 0x2C#8 then x
  else if b == 0x2A#8 then { x with stage := 2 }
  else if reservedByte b then bad x
  else x

/-- A byte after '*' (R129, R130, R135). -/
def stageCheck (x : Sentence) (b : Byte) : Sentence :=
  let need := if x.long then 4 else 2
  if b == 0x0D#8 && x.digits == need then { x with stage := 4 }
  else if decide (x.digits < need) && (hexDigit (hexLower x) b).isSome then { x with digits := x.digits + 1 }
  else bad x

/-- One byte other than an enabled start character inside an open sentence. -/
def stageByte (x : Sentence) (b : Byte) : Sentence :=
  if x.malformed || x.overlong then x
  else match x.stage with
    | 0 => stageAddr x b
    | 1 => if x.long then stageLong x b else stageNmea x b
    | 2 => stageCheck x b
    | 4 => if b == 0x0A#8 then x else bad x
    | _ => if b == 0x0A#8 then { x with runt := true } else bad x

/-- The length limits (R127). -/
def lengthLimit (x : Sentence) : Nat := if x.long then 1024 else 82

/-- Take one more byte: count it, store it inside the limit, look at its framing; an LF that no CR precedes is
malformed (R134, R135). -/
def takeByte (x : Sentence) (b : Byte) : Sentence :=
  let x1 := { x with count := x.count + 1 }
  let x2 := if lengthLimit x1 < x1.count then { x1 with overlong := true } else { x1 with bytes := x1.bytes ++ [b] }
  let x3 := if b == 0x0A#8 && x1.stage != 4 && x1.stage != 5 then bad x2 else x2
  stageByte x3 b

/-! ### Causes and discards (R83, R134, R137, R138) -/

/-- The counter of a lane cause (R154): 1 stuck, 2 break, 3 overrun, 4 parity or framing, 5 timeout, 6 mode change. -/
def causeField (c : Nat) : Field :=
  match c with
  | 1 => F.parse_DMG_STUCK
  | 2 => F.parse_DMG_BREAK
  | 3 => F.parse_DMG_OVERRUN
  | 4 => F.parse_DMG_FLAG
  | 5 => F.parse_DMG_ICT
  | _ => F.parse_DMG_MODE

/-- The counter of a sentence refused, by the order of R137. -/
def refusalField (x : Sentence) (restart : Bool) : Field :=
  if restart then F.parse_RESTART
  else if x.overlong then F.parse_OVERLONG
  else if x.malformed then F.parse_MALFORMED
  else F.parse_RUNT

/-- Count a discarded sentence once (R83, R137). -/
def countDiscard (s : State) (x : Sentence) (restart : Bool) : State :=
  match x.causes with
  | [] => s.inc (refusalField x restart) x.source
  | c :: r => (s.inc F.parse_DAMAGED x.source).inc (causeField (r.foldl min c)) x.source

/-- The open sentence of a source is discarded (R134): counted, its bytes free at once. -/
def discardOpen (s : State) (src : Nat) (restart : Bool) : State :=
  let so := s.source src
  match so.sent with
  | none => s
  | some x => freeSentence ((countDiscard s x restart).putSource src { so with sent := none }) x

/-- A lane cause reaches the open sentence (R138): a mode change, a stuck line or the timeout discards it at once, the
others mark it damaged. -/
def laneCause (s : State) (src c : Nat) : State :=
  let so := s.source src
  match so.sent with
  | none => s
  | some x =>
    let s1 := s.putSource src { so with sent := some { x with causes := x.causes ++ [c] } }
    if c == 1 || c == 5 || c == 6 then discardOpen s1 src false else s1

/-- The lane's open sentence gets a cause (the parser is in S2). -/
def roleCause (s : State) (lane c : Nat) : State :=
  if s.shedUp 2 && decide (s.get F.tx_ROLE lane < 96) then laneCause s (s.get F.tx_ROLE lane) c else s

/-! ### Taking a byte (R134, R136, R142) -/

/-- A new sentence opens (R124, R136, R142, R144): its settings are those in force at this byte. Only the sentences of an
Ethernet frame are numbered within it (R411, R416). -/
def openSentence (s : State) (src : Nat) (i : InByte) : State :=
  let so := s.source src
  let x : Sentence :=
    { source := src, long := i.data == 0x25#8, bytes := [i.data], count := 1, dmxr := i.dmxr,
      cfg := s.reg (F.parse_NMEA_EN.addr src), stamp := if i.tsSrc == 2 then s.stamp else i.stamp, tsSrc := i.tsSrc
      tsState := if i.tsSrc == 2 then s.tsState else i.tsState, idx := so.idx, frame := i.frame }
  ringShow (s.putSource src { so with sent := some x, idx := if i.tsSrc == 1 then so.idx + 1 else 0 }) src

/-- The sentence with one more staging address. -/
def atSpot (x : Sentence) (a : Nat) : Sentence := { x with spots := x.spots ++ [a] }

/-- The parser writes the byte `b` it has just stored of a lane's sentence into the lane's ring (R75); a word that reads DUE
does not take it, and the sentence is discarded under RERUN_FAIL (R148, R260). -/
def stageLane (s : State) (src n : Nat) (x : Sentence) (b : Byte) : State :=
  let so := s.source src
  let a := ringSpot s n
  let y := writeWord s 0 (a / 8) [(a % 8, b)]
  let t := y.1.putRx n { y.1.rxLane n with ringWr := ((y.1.rxLane n).ringWr + 1) % 2048 }
  if y.2 == rspDue then freeSentence ((t.inc F.parse_RERUN_FAIL src).putSource src { so with sent := none }) x
  else t.putSource src { so with sent := some (atSpot x a) }

/-- Where the byte just taken stands, if it was stored (R75, R126): in the lane's ring, or in the receive buffer where the port
put it. `before` is what was stored before. -/
def stageLast (s : State) (src before : Nat) (i : InByte) : State :=
  let so := s.source src
  match so.sent with
  | none => s
  | some x =>
    if x.bytes.length ≤ before then s
    else match i.spot, roleLane s src with
      | some a, _ => s.putSource src { so with sent := some (atSpot x a) }
      | none, some n => if isRole src then stageLane s src n x i.data else s
      | none, none => s

/-- The sentence under an LF leaves the open context (R134, R140). -/
def endOpen (s : State) (src : Nat) : State :=
  let so := s.source src
  match so.sent with
  | none => s
  | some x => s.putSource src { so with sent := none, closing := so.closing ++ [x] }

/-- A character's flags reach the sentence it belongs to (R69): `dmg` damages it, `fe` was tolerated. -/
def flagOpen (s : State) (src : Nat) (dmg fe : Bool) : State :=
  let s1 := if dmg then laneCause s src 4 else s
  let so := s1.source src
  match so.sent with
  | none => s1
  | some x => if fe then s1.putSource src { so with sent := some { x with feSeen := true } } else s1

/-- The end of a UDP payload (R135): the sentence it leaves open is malformed; the next frame counts anew (R416). -/
def endPayload (s : State) (src : Nat) : State :=
  let so := s.source src
  s.putSource src { so with sent := so.sent.map bad, idx := 0 }

/-- The settings that decide whether a byte opens a sentence (R124): those captured while one is open, those in force
otherwise. -/
def startCfg (s : State) (src : Nat) : Word :=
  match (s.source src).sent with
  | some x => x.cfg
  | none => s.reg (F.parse_NMEA_EN.addr src)

/-- The parser takes one byte of a source. -/
def parserTake (s : State) (src : Nat) (i : InByte) (dmg fe : Bool) : State :=
  let opens := isStart (startCfg s src) i.data || (i.dmxr && i.data == 0x25#8)
  let so := s.source src
  let s1 :=
    if opens then flagOpen (stageLast (openSentence (discardOpen s src true) src i) src 0 i) src dmg fe
    else match so.sent with
      | none => s.inc F.parse_STRAY src
      | some x =>
        let s2 := flagOpen (stageLast (ringShow (s.putSource src { so with sent := some (takeByte x i.data) }) src) src
          x.bytes.length i) src dmg fe
        if i.data == 0x0A#8 then endOpen s2 src else s2
  if i.last then endPayload s1 src else s1

/-! ### Closing (R129, R130, R134, R139, R141, R145) -/

/-- The bytes between the start character and '*' (or all that follow it). -/
def checkedBytes (x : Sentence) : List Byte := (x.bytes.drop 1).takeWhile (fun b => b != 0x2A#8)

/-- The check digits after '*', none where there is no '*'. -/
def checkDigits (x : Sentence) : List Byte :=
  (((x.bytes.drop 1).dropWhile (fun b => b != 0x2A#8)).drop 1).takeWhile (fun b => b != 0x0D#8)

/-- The sentence carries a check. -/
def hasCheck (x : Sentence) : Bool := x.bytes.contains 0x2A#8

/-- The value the check digits spell. -/
def checkValue (x : Sentence) : Nat := (checkDigits x).foldl (fun n b => n * 16 + (hexDigit true b).getD 0) 0

/-- The check the bytes call for (R129, R130). -/
def checkWanted (x : Sentence) : Nat := if x.long then crc16 (checkedBytes x) else (xorSum (checkedBytes x)).toNat

/-- NOCK (R129): no '*', accepted with CK_OPTIONAL. -/
def isNock (x : Sentence) : Bool := !x.long && !hasCheck x && bits x.cfg.toNat 2 1 == 1

/-- BAD (R139): a mismatch, or an absent NMEA checksum with CK_OPTIONAL 0. -/
def isBad (x : Sentence) : Bool := if hasCheck x then checkValue x != checkWanted x else !isNock x

/-- The sentence is refused at its LF (R134, R137). -/
def refused (x : Sentence) : Bool := !x.causes.isEmpty || x.overlong || x.malformed || x.runt

/-- The address characters (R128). -/
def addressOf (x : Sentence) : List Byte := (x.bytes.drop 1).takeWhile addrChar

/-- Escapes decoded (R131). -/
def unescape : List Byte → List Byte
  | [] => []
  | [b] => [b]
  | b :: c :: r => if b == 0x7D#8 then (c ^^^ 0x40#8) :: unescape r else b :: unescape (c :: r)

/-- The bytes of field `n` (1 is the first) in line form. -/
def rawField (x : Sentence) (n : Nat) : Option (List Byte) :=
  let body := ((x.bytes.drop (1 + (addressOf x).length)).takeWhile (fun b => b != 0x2A#8)).takeWhile (fun b => b != 0x0D#8)
  (body.splitOn 0x2C#8)[n]?

/-- The first-field value of R141: 8 bytes, decoded, filled with 0x00. -/
def firstField (x : Sentence) : List Byte :=
  let f := (rawField x 1).getD []
  let d := if x.long then unescape f else f
  (d ++ List.replicate 8 0#8).take 8

/-- A rerun is counted; `none` when the sentence has had three (R151). -/
def countRerun (s : State) (x : Sentence) : State × Option Sentence :=
  if x.reruns < 3 then (s.inc F.parse_RERUN x.source, some { x with reruns := x.reruns + 1 })
  else (s.inc F.parse_RERUN_FAIL x.source, none)

/-- The classifier's and the voter's flags of a record (R146). -/
def sentenceFlags (x : Sentence) : Nat :=
  b2n x.bad + b2n x.nock * 2 + b2n x.long * 4 + b2n x.dup * 8 + b2n x.seqStart * 16 + b2n x.feSeen * 32

/-- The record of a copy (R146). -/
def sentenceRecord (x : Sentence) (kind cls agree : Nat) (degraded : Bool) (entry : Nat) : List Byte :=
  mkRecord { kind := kind, source := x.source, seqn := x.seqn, stamp := x.stamp, tsSrc := x.tsSrc, tsState := x.tsState,
             flags := sentenceFlags x, cls := cls, agree := agree, degraded := degraded, entry := entry } x.bytes

/-! ### The standby's journal (R416, R417) -/

/-- This unit journals what its parser offers: a standby, and a unit that replays (R416, R420). -/
def journals (s : State) : Bool := isStandby s || s.twin.replaying

/-- Write the KIND 8 record; a record that OVERWRITE discards sets JOURNAL_SHORT (R417). -/
def journalWrite (s : State) (x : Sentence) : State :=
  let q := s.twin.journal
  let before := s.get F.stall_LOST q
  let s1 := stallOffer s q (sentenceRecord x 8 0 0 false (x.idx % 4096))
  if s1.get F.stall_LOST q != before then raiseTwin (s1.set F.twin_SHORT 0 1) Bit.twJournalShort else s1

/-! ### Host sentences (R500) -/

/-- The host's source ID (R125). -/
def hostSource : Nat := 0x2000

/-- A body that ROUTER_SENTENCE_SEND may submit under the settings in force (R500). -/
def hostSentenceOk (cfg : Word) (b : List Byte) : Bool :=
  isStart cfg (byteAt b 0) && (b.drop 1).all (fun c => !isStart cfg c) &&
    b.getLast? == some 0x0A#8 && (b.dropLast).all (fun c => c != 0x0A#8)

/-- The number by which host sentences queue: their acknowledgement order. -/
def waitOrder (w : Wait) : Nat := w.entry.getD 0

/-- A host sentence is with the parser, or has not yet closed. -/
def hostBusy (s : State) : Bool := s.waits.any (fun w => w.on = .sentence true)

/-- The host sentence whose turn it is: the earliest acknowledged one, once no earlier one is still to begin (R500). -/
def hostNext (s : State) : Option Wait :=
  if hostBusy s then none
  else
    let ws := s.waits.filter (fun w => w.on = .sentence false)
    let w := ws.foldl (fun m w => match m with
      | none => some w
      | some v => if waitOrder w < waitOrder v then some w else some v) none
    w.filter (fun v => !s.cmds.any (fun e => e.msg.opcode == 0x0301 && e.st = .acked && decide (e.id < waitOrder v)))

/-- Take a wait off the list. -/
def dropWait (s : State) (w : Wait) : State := { s with waits := s.waits.erase w }

/-- The staging bytes of a host sentence that never reached the parser: its mailbox leaves HELD. -/
def freeMailbox (s : State) (w : Wait) : State :=
  if w.entry.isSome && mbState s w.req.mbox == 2 then setMbState s w.req.mbox 0 else s

/-- The host sentences whose turn has come (R500): STATE while S2 is down, BAD_ARG for a body that the settings in force
refuse, else the parser takes its first byte, before firmware runs any other command. -/
def startHostSentence (s : State) : Nat → State
  | 0 => s
  | n + 1 =>
    match hostNext s with
    | none => s
    | some w =>
      if !s.shedUp 2 then startHostSentence (answerWait (freeMailbox (dropWait s w) w) w false St.state 0 []) n
      else if !hostSentenceOk (s.reg (F.parse_NMEA_EN.addr hostSource)) w.req.body then
        startHostSentence (answerWait (freeMailbox (dropWait s w) w) w false St.badArg 0 []) n
      else
        let s1 := { dropWait s w with waits := (dropWait s w).waits ++ [{ w with on := .sentence true }] }
        let ins : List InByte := w.req.body.map (fun b => { data := b, stamp := s.stamp, tsSrc := 2 })
        let s2 := parserTake s1 hostSource { data := byteAt w.req.body 0, stamp := s.stamp, tsSrc := 2 } false false
        let so := s2.source hostSource
        let mb := if w.entry.isSome then some w.req.mbox else none
        s2.putSource hostSource { so with sent := so.sent.map (fun x => { x with mbox := mb }), input := so.input ++ ins.drop 1 }

/-- The host sentence that closed or was refused is answered (R500). -/
def answerHost (s : State) (src outcome seqn : Nat) : State :=
  if src != hostSource then s
  else
    match s.waits.find? (fun w => w.on = .sentence true) with
    | none => s
    | some w =>
      let s1 := answerWait (dropWait s w) w false St.ok 0 (le 4 outcome ++ le 4 seqn)
      startHostSentence s1 s1.waits.length

/-- OUTCOME of a refused host sentence (R500). -/
def refusedOutcome (x : Sentence) : Nat := if x.overlong then 2 else 3

/-- With REF 2 a sentence of the configured source and type that closes within 900 ms after a PPS edge labels that edge,
the first one only (R290): it names the second that began there, or with PPS_NEXT 1 the one after. -/
def ppsLabel (s : State) (x : Sentence) : State :=
  let v := s.servo
  let ty := ((addressOf x).drop 2).take 8
  match v.ppsEdge with
  | none => s
  | some e =>
    if s.get F.time_REF 0 == 2 && v.ppsLabel.isNone && !x.bad && x.source == v.ppsSource &&
        [BitVec.ofNat 32 (u32 ty 0), BitVec.ofNat 32 (u32 ty 4)] == v.ppsType && decide (s.stamp ≤ e + 14400000000) then
      let named := (Config.sentenceSecond x.bytes : Int) + v.utcOffset - b2n (s.on F.time_PPS_NEXT 0)
      { s with servo := { v with ppsLabel := some named } }
    else s

/-! ### The close itself -/

/-- Offer a sentence (R134, R139, R145, R416, R500): its counter, the answer to the host, the journal of a standby; a
unit that replays puts it behind the journal, any other gives it to the classifier, a rerun ahead of later ones (R150). -/
def offerSentence (s : State) (x : Sentence) : State :=
  let src := x.source
  let s1 := if x.offered then s else ppsLabel (s.inc (if x.bad then F.parse_BAD_CHECK else F.parse_ACCEPTED) src) x
  let s2 := if x.offered then s1 else answerHost s1 src (b2n x.bad) x.seqn
  let y := { x with offered := true }
  let fromLine := decide (src < 0x2000)
  let s3 := if journals s2 && fromLine && !x.offered then journalWrite s2 y else s2
  if s3.twin.replaying && fromLine && !x.offered then
    freeSentence { s3 with twin := { s3.twin with replayQ := s3.twin.replayQ ++ [y] } } y
  else
    let so := s3.source src
    s3.putSource src { so with closed := if x.offered then y :: so.closed else so.closed ++ [y] }

/-- The sequence number, taken at the first close (R145), with the verdict of the checks. A sentence that its first close
loses (its staging copy reads DUE, a fourth fault) has its number by then (DESIGN CHOICE: R134 and R145 leave it open). -/
def numberSentence (s : State) (x : Sentence) : State × Sentence :=
  if x.numbered then (s, x)
  else
    let so := s.source x.source
    let n := s.get F.parse_NEXT x.source
    ((s.set F.parse_NEXT x.source (n + 1)).putSource x.source { so with seqStart := false, closes := so.closes + 1 },
     { x with numbered := true, no := so.closes, seqn := n, seqStart := so.seqStart, bad := isBad x, nock := isNock x })

/-- A sentence that can be rerun no more, or not at all, is discarded (R148, R151, R500). -/
def failSentence (s : State) (x : Sentence) : State :=
  let s1 := if x.offered then s else answerHost s x.source 4 0
  freeSentence s1 x

/-- A judge's dissent score rises, holding at 15 (R195). -/
def scoreField (j : Nat) : Field := match j with
  | 0 => F.vote_SCORE_0
  | 1 => F.vote_SCORE_1
  | _ => F.vote_SCORE_2

/-! ### The staging copy (R126, R148, R260) -/

/-- An engine reads single yard bytes through its port (R258): whether one of their words reads DUE. -/
def touchBytes (s : State) (port : Nat) (l : List Nat) : State × Bool :=
  if s.yardErr.isEmpty then (s, false)
  else
    let ws := (l.map (· / 8)).eraseDups
    (ws.foldl (fun t w => (readWord t port w).1) s, ws.any (fun w => s.wordDue (8 * w)))

/-- The staging copy is read through a port: it is corrected where it can be, and `none` says that some word of it reads DUE
(R148, R258). What is read is what the yard holds. -/
def readStaging (s : State) (port : Nat) (x : Sentence) : State × Option Sentence :=
  let t := touchBytes s port x.spots
  if t.2 then (t.1, none)
  else (t.1, some (if x.spots.length == x.bytes.length then { x with bytes := x.spots.map t.1.yardByte } else x))

/-- A DUE in a port's receive buffer (R453): every sentence of that frame that the parser still has, and what it has not
taken of it, is discarded under RERUN_FAIL; `lost` is one that has left the parser. -/
def frameLost (s : State) (src frame : Nat) (lost : List Sentence) : State :=
  let so := s.source src
  let mine := fun (y : Sentence) => y.frame == frame
  let all := lost ++ so.sent.toList.filter mine ++ so.closing.filter mine ++ so.closed.filter mine
  let s2 := s.putSource src { so with
    sent := so.sent.filter (fun y => !mine y), closing := so.closing.filter (fun y => !mine y)
    closed := so.closed.filter (fun y => !mine y), input := so.input.filter (fun b => b.frame != frame) }
  all.foldl (fun t y => failSentence (t.inc F.parse_RERUN_FAIL src) y) s2

/-- An Ethernet port's source (R125). -/
def isPort (src : Nat) : Bool := decide (0x1000 ≤ src) && decide (src < 0x2000)

/-- The yard port that reads a sentence's staging copy (R24, R30): the Ethernet ports' for their buffers, else the router's. -/
def stagingPort (x : Sentence) : Nat := if isPort x.source then 4 else 0

/-- The staging copy of a sentence reads DUE (R148, R260, R453): the sentence is discarded under RERUN_FAIL, and with it
its whole Ethernet frame. -/
def stagingLost (s : State) (x : Sentence) : State :=
  if isPort x.source then frameLost s x.source x.frame [x] else failSentence (s.inc F.parse_RERUN_FAIL x.source) x

/-- SENTENCE_CLOSE on the first sentence of a source that ended: the close has a completion check (R148); tables come
later. -/
def closeSentence (s : State) (src : Nat) (f : Transient) : State :=
  let so := s.source src
  match so.closing with
  | [] => s
  | x :: rest =>
    let s0 := s.putSource src { so with closing := rest }
    if refused x then answerHost (freeSentence (countDiscard s0 x false) x) src (refusedOutcome x) 0
    else
      let (s1, y) := numberSentence s0 x
      match readStaging s1 (stagingPort y) y with
      | (s2, none) => stagingLost s2 y
      | (s2, some z) =>
        if f = .check then
          match countRerun s2 z with
          | (s3, some w) =>
            let so2 := s3.source src
            s3.putSource src { so2 with closing := w :: so2.closing }
          | (s3, none) => failSentence s3 z
        else offerSentence s2 z

end Sys2Proof.Machine
end

