-- ==== Sys2Proof/Machine/Time.lean ====
section
/-! DEFINITION. The time unit (R285 to R317): the tick of the counter and the time of an edge. -/

namespace Sys2Proof.Machine

/-- The counter runs modulo 2^48 seconds (R285). -/
def todMod : Nat := 281474976710656 * secUnit

/-- One tick of 4 ns: the counter adds 4 ns and ADJ × 2^-32 ns (R285, R286); without REFCLK it stops (R287). -/
def timeTick (s : State) : State :=
  if s.refclk then
    { s with tod := ((s.tod + 4 * nsUnit : Int) + s.getI F.time_ADJ 0).toNat % todMod }
  else s

/-- The offset of LBC cycle m after its tick, in half nanoseconds (R289). -/
def lbcOffset (m : Nat) : Nat :=
  match m % 8 with
  | 0 => 0
  | 1 => 5
  | 2 => 2
  | 3 => 7
  | 4 => 4
  | 5 => 1
  | 6 => 6
  | _ => 3

/-- The counter at the tick of an edge (R289): each tick since has added 4 ns and ADJ. -/
def edgeTick (s : State) (e : EdgeAt) : Nat :=
  if s.refclk then ((s.tod : Int) - e.ago * ((4 * nsUnit : Nat) + s.getI F.time_ADJ 0)).toNat else s.tod

/-- The time of an edge in 1/16 ns (R23, R64, R143, R289): the counter at its tick and the LBC offset, less the fixed
input delay and half an LBC cycle. -/
def edgeStamp (s : State) (e : EdgeAt) : Nat := edgeTick s e / 268435456 + 8 * lbcOffset e.m - Config.edgeDelay - 20

end Sys2Proof.Machine
end

