-- ==== Sys2Proof/Machine/Pixel.lean ====
section
/-! DEFINITION. The pixel pipeline (R318 to R350): frame buffers and their roles, source records, the pixel tables in
the yard, rendering a lamp, readings, zone updates, levels, the commit and what happens to all of it at a frame tick. -/

namespace Sys2Proof.Machine

/-! ### Tables in the yard (R341) -/

/-- The copy in force and the inactive one. -/
def State.pixActive (s : State) : Nat := s.get F.pixel_ACTIVE 0

def State.pixInactive (s : State) : Nat := 1 - s.pixActive

/-- Where a segment, profile, zone and source record lie (R327, R341). -/
def segAddr (c role n : Nat) : Nat := pixelCopy c + (64 * role + n) * 16

def profAddr (c p : Nat) : Nat := pixelCopy c + 0x18000 + 128 * p

def zoneAddr (c z : Nat) : Nat := pixelCopy c + 0x20000 + 32 * z

def sourceAddr (c i : Nat) : Nat := pixelCopy c + 0x28000 + 8 * i

/-- The objects of `size` bytes from `base` up to `top` of which some byte is listed or stands elsewhere, in rising order. -/
def listedObjects (s : State) (base top size : Nat) : List Nat :=
  let at' := (s.yard.filter (fun e => decide (base ≤ e.1) && decide (e.1 < top))).map (·.1)
  let away := (s.displaced.flatMap (fun w => (List.range 8).map (fun i => 8 * w + i))).filter
    (fun a => decide (base ≤ a) && decide (a < top))
  ((away.foldr (List.orderedInsert (· ≤ ·)) at').map (fun a => (a - base) / size)).eraseDups

/-- The words of a record that read detected-uncorrectable (R345). -/
def recordDues (s : State) (a n : Nat) : List Nat :=
  if s.yardErr.isEmpty then [] else ((List.range (n / 8)).map (fun i => a / 8 + i)).filter (fun w => s.wordDue (8 * w))

/-! ### Source frame buffers (R319 to R326) -/

/-- The address of pixel p of buffer b (R319). -/
def pixelAddr (b p : Nat) : Nat := b * 0x600000 + 8 * p

/-- Pixels of a frame buffer. -/
def pixelMax : Nat := 786432

/-- A pixel word (R319). -/
def pixelBytes (r g b w : Nat) : List Byte := le 2 r ++ le 2 g ++ le 2 b ++ le 2 w

/-- Write pixel p of buffer b. -/
def writePixel (s : State) (b p : Nat) (px : List Byte) : State :=
  if p < pixelMax then s.poke (pixelAddr b p) px else s

/-- The channels of pixel p of a buffer; a word that reads DUE renders as 0 (R345). -/
def readPixel (s : State) (b p : Nat) : List Nat :=
  if s.wordDue (pixelAddr b p) then [0, 0, 0, 0]
  else
    let d := s.peek (pixelAddr b p) 8
    [u16 d 0, u16 d 2, u16 d 4, u16 d 6]

/-- A discarded item of the source that is not selected (R320). -/
def srcIgnored (s : State) : State := raisePixel (s.inc F.pixel_N_SRC_IGNORED 0) Bit.pxSrcIgnored

/-- A source record's fields (R323). -/
structure SrcRec where
  id : Nat
  kind : Nat
  ports : Nat
  ch : Nat
  wide : Bool
  dest : Nat
  first : Nat
deriving DecidableEq, Repr

/-- A source record of 8 bytes. -/
def srcRec (b : List Byte) : SrcRec :=
  { id := fld b 0 0 16, kind := fld b 0 16 2, ports := fld b 0 18 2, ch := fld b 0 20 3, wide := flag b 0 23,
    dest := fld b 4 0 20, first := fld b 4 20 9 }

/-- Source record i of a copy. -/
def sourceRecord (s : State) (c i : Nat) : SrcRec := srcRec (s.peek (sourceAddr c i) 8)

/-- The numbers of the source records of a copy that are in use. -/
def sourcesOf (s : State) (c : Nat) : List Nat :=
  (listedObjects s (sourceAddr c 0) (sourceAddr c 2048) 8).filter (fun i => (sourceRecord s c i).kind != 0)

/-- Bytes per channel (R324). -/
def SrcRec.width (r : SrcRec) : Nat := if r.wide then 2 else 1

/-- P: the pixels a record covers (R324). -/
def SrcRec.pixels (r : SrcRec) : Nat := (513 - r.first) / (r.ch * r.width)

/-- The value of a channel from its slots (R324). -/
def slotValue (r : SrcRec) (slots : List Byte) (n : Nat) : Nat :=
  if r.wide then (byteAt slots n).toNat * 256 + (byteAt slots (n + 1)).toNat else (byteAt slots n).toNat * 257

/-- A pixel reaches the FILL buffer through a record: an E1.31 slot write that meets a word reading DUE leaves it so (R453). -/
def putSourcePixel (s : State) (r : SrcRec) (p : Nat) (px : List Byte) : State :=
  let a := pixelAddr (s.get F.pixel_FILL 0) p
  if r.kind == 1 && decide (p < pixelMax) && s.wordDue a then yardDue s (s.home (a / 8)) 4 else writePixel s (s.get F.pixel_FILL 0) p px

/-- Write a packet's slots into the FILL buffer through a record (R324): `slots` begins with the start code. -/
def writeSource (s : State) (r : SrcRec) (slots : List Byte) : State :=
  (List.range r.pixels).foldl (fun t j =>
    let n := r.first + j * r.ch * r.width
    if slots.length < n + r.ch * r.width then t
    else
      let v := fun k => if k < r.ch then slotValue r slots (n + k * r.width) else 0
      putSourcePixel t r (r.dest + j) (pixelBytes (v 0) (v 1) (v 2) (v 3))) s

/-- A packet reaches source record i (R325): it waits while that record's seeding has not finished. -/
def offerSource (s : State) (i : Nat) (slots : List Byte) : State :=
  if s.seedLeft.contains i then
    { s.inc F.pixel_SEED_WAITS 0 with seedHeld := s.seedHeld ++ [(i, slots)] }
  else writeSource s (sourceRecord s s.pixActive i) slots

/-- A DMX-RX lane offers a packet (R107, R320, R326). -/
def offerDmx (s : State) (role : Nat) (slots : List Byte) : State :=
  if !(s.part.hasPixel && s.shedUp 5) then s
  else if !s.srcNow then srcIgnored s
  else ((sourcesOf s s.pixActive).filter (fun i =>
    let r := sourceRecord s s.pixActive i
    r.kind == 2 && r.id == role)).foldl (fun t i => offerSource t i slots) s

/-- A frame is committed (R321, R322). -/
def commitFrame (s : State) : State :=
  let fill := s.get F.pixel_FILL 0
  let ready := s.get F.pixel_READY 0
  let show3 := s.get F.pixel_SHOW 0
  if ready == 3 then
    let free := ((List.range 3).find? (fun b => b != fill && b != show3)).getD 0
    (s.set F.pixel_READY 0 fill).set F.pixel_FILL 0 free
  else
    raisePixel (((s.set F.pixel_READY 0 fill).set F.pixel_FILL 0 ready).inc F.pixel_SKIPPED 0) Bit.pxSkip

/-- Seed the new FILL buffer from SHOW (R325): each record's pixels in ascending order, read through P2, DUE pixels as 0. -/
def seedFill (s : State) : State :=
  let sh := s.get F.pixel_SHOW 0
  let fi := s.get F.pixel_FILL 0
  (sourcesOf s s.pixActive).foldl (fun t i =>
    let r := sourceRecord s s.pixActive i
    (List.range r.pixels).foldl (fun u j =>
      let v := readPixel u sh (r.dest + j)
      writePixel (touch u 2 (pixelAddr sh (r.dest + j)) 8) fi (r.dest + j) (pixelBytes (v.getD 0 0) (v.getD 1 0) (v.getD 2 0) (v.getD 3 0))) t) s

/-- SEEDING shows whether some record's seeding has not finished (R325, R348). -/
def seedsLeft (s : State) (l : List Nat) : State := { s.setB F.pixel_SEEDING 0 (!l.isEmpty) with seedLeft := l }

/-- The packets that waited for a record whose seeding has finished are written, in order (R325). -/
def releaseSeeded (s : State) : State :=
  (s.seedHeld.filter (fun e => !s.seedLeft.contains e.1)).foldl (fun t e => writeSource t (sourceRecord t t.pixActive e.1) e.2)
    { s with seedHeld := s.seedHeld.filter (fun e => s.seedLeft.contains e.1) }

/-- Each record in use has its seeding before it (R325). -/
def beginSeeding (s : State) : State := releaseSeeded (seedsLeft s (sourcesOf s s.pixActive))

/-- The buffers at a tick (R321, R323): with SRC 0 READY becomes SHOW or the old frame repeats; with SRC 1 FILL becomes
SHOW and the other buffer is seeded. -/
def swapBuffers (s : State) : State :=
  let sh := s.get F.pixel_SHOW 0
  if !s.srcNow then
    let rd := s.get F.pixel_READY 0
    if rd != 3 then ((s.set F.pixel_SHOW 0 rd).set F.pixel_READY 0 3).inc F.pixel_SHOWN 0
    else
      let s1 := s.inc F.pixel_REPEATS 0
      if sh != 3 then raisePixel s1 Bit.pxLate else s1
  else
    let fi := s.get F.pixel_FILL 0
    let next := if sh == 3 then (if fi == 1 then 0 else 1) else sh
    let s1 := ((s.set F.pixel_SHOW 0 fi).set F.pixel_FILL 0 next).inc F.pixel_SHOWN 0
    beginSeeding (seedFill s1)

/-- RUN and SRC come into force at the tick (R320, R506): a change of SRC resets the buffer roles, and packets that waited for
their seeding are discarded. -/
def takeRunSrc (s : State) : State :=
  let s0 := { s with runNow := s.on F.pixel_RUN 0, pixTicked := true }
  let s1 := if s.on F.pixel_SRC 0 == s.srcNow then s0 else s.seedHeld.foldl (fun t _ => srcIgnored t) s0
  if s.on F.pixel_SRC 0 == s.srcNow then s1
  else
    { (((s1.set F.pixel_SHOW 0 3).set F.pixel_READY 0 3).set F.pixel_FILL 0 0).set F.pixel_SEEDING 0 0 with
      srcNow := s.on F.pixel_SRC 0, seedLeft := [], seedHeld := [] }

/-! ### Zones (R332 to R337) -/

/-- A zone's run-time values. -/
def State.zone (s : State) (z : Nat) : Zone := tget s.zones z {}

/-- Store a zone's run-time values. -/
def State.putZone (s : State) (z : Nat) (x : Zone) : State := { s with zones := tput s.zones z x {} }

/-- The zone records of the copy in force. -/
def zoneRec (s : State) (z : Nat) : List Byte := s.peek (zoneAddr s.pixActive z) 32

/-- The zones that can differ from a fresh zone under a reset record. -/
def liveZones (s : State) : List Nat :=
  (listedObjects s (zoneAddr s.pixActive 0) (zoneAddr s.pixActive 1024) 32 ++ s.zones.map (·.1)).eraseDups

/-- The latest reading of a channel (key n) or a SENSE lane role (key 32 + n). -/
def State.reading (s : State) (k : Nat) : Reading := tget s.readings k {}

/-- A channel's sample enters the fabric (R334, R335, R375): `v` as delivered, `c` before a table. -/
def offerSample (s : State) (ch : Nat) (v : Int) (c : Nat) : State :=
  { s with readings := tput s.readings ch { value := some v, light := c } {} }

/-- A SENSE lane has completed a gate (R110, R334): its duty D. The spec states no D for a PERIOD_SUM of 0: a free value. -/
def offerGate (s : State) (role period high : Nat) : State :=
  let d := if period == 0 then (Config.freeWord s.drawn).toNat % 65537 else high * 65536 / period
  { s with readings := tput s.readings (32 + role) { value := some (d : Int) } {}
           drawn := if period == 0 then s.drawn + 1 else s.drawn }

/-- A SENSE lane raised NO_SIGNAL: its reading is stale until the next gate (R334). -/
def senseLost (s : State) (role : Nat) : State :=
  { s with readings := tput s.readings (32 + role) { s.reading (32 + role) with noSig := true } {} }

/-- The reading is stale by age (R334). -/
def staleAge (r : List Byte) (age : Nat) : Bool := fld r 0x1C 16 8 != 0 && decide (fld r 0x1C 16 8 ≤ age)

/-- The zone temperature (R334): the latest reading of the source that the record in force names, none while it is stale. -/
def zoneTemp (s : State) (r : List Byte) (x : Zone) : Option Int :=
  let i := fld r 0 2 7
  match fld r 0 0 2 with
  | 1 => if staleAge r (s.reading i).age then none else (s.reading i).value
  | 2 =>
    let q := s.reading (32 + i)
    if staleAge r q.age || q.noSig then none
    else q.value.map (fun d => sx 16 (fld r 4 0 16) + sx 16 (fld r 4 16 16) * d / 65536)
  | 3 => if staleAge r x.fwTempAge then none else x.fwTemp
  | _ => none

/-- The zone has a reading for each emitter (R333): PER_EMITTER, with LIGHT_KIND 2 only. -/
def perEmitter (r : List Byte) : Bool := flag r 0 18 && fld r 0 10 2 == 2

/-- The light readings of the source that the record in force names, none while stale (R335). One value for a zone that has come
to have PER_EMITTER is no reading of it (DESIGN CHOICE). -/
def zoneLight (s : State) (r : List Byte) (x : Zone) : Option (List Nat) :=
  match fld r 0 10 2 with
  | 1 =>
    let q := s.reading (fld r 0 12 5)
    if q.value.isNone || staleAge r q.age then none else some [q.light]
  | 2 => if x.fwLight.length < (if perEmitter r then 4 else 1) || staleAge r x.fwLightAge then none else some x.fwLight
  | _ => none

/-- Linear interpolation of R332. -/
def lerp (y0 y1 t0 t1 t : Int) : Int := if t1 == t0 then y0 else y0 + (y1 - y0) * (t - t0) / (t1 - t0)

/-- F for a temperature (R334). -/
def foldback (r : List Byte) (t : Int) : Nat :=
  let t1 := sx 16 (fld r 0x0C 0 16)
  let t2 := sx 16 (fld r 0x0C 16 16)
  let fm := fld r 0x10 0 16
  if t2 ≤ t1 then 32768
  else if t ≤ t1 then 32768
  else if t2 ≤ t then fm
  else (lerp 32768 fm t1 t2 t).toNat

/-- A field of a profile (R331). -/
def profMatrix (p : List Byte) (e c : Nat) : Int := sx 16 (u16 p (8 * e + 2 * c))

def profTemp (p : List Byte) (k : Nat) : Int := sx 16 (u16 p (0x20 + 2 * k))

def profGain (p : List Byte) (e k : Nat) : Nat := u16 p (0x30 + 16 * e + 2 * k)

def profCurve (p : List Byte) (e : Nat) : Nat := (byteAt p (0x70 + e)).toNat % 64

/-- GT[e] at a temperature (R332). -/
def profGt (p : List Byte) (e : Nat) (t : Int) : Nat :=
  if t ≤ profTemp p 0 then profGain p e 0
  else
    match (List.range 7).find? (fun k => decide (profTemp p k ≤ t) && decide (t < profTemp p (k + 1))) with
    | some k => (lerp (profGain p e k) (profGain p e (k + 1)) (profTemp p k) (profTemp p (k + 1)) t).toNat
    | none => profGain p e 7

/-- GT of every profile whose gains are not all 1.0, at a temperature (R332): the others give 32,768. -/
def gtTable (s : State) (t : Int) : Tbl (List Nat) :=
  (listedObjects s (profAddr s.pixActive 0) (profAddr s.pixActive 256) 128).foldl (fun m p =>
    let b := s.peek (profAddr s.pixActive p) 128
    tput m p ((List.range 4).map (fun e => profGt b e t)) [32768, 32768, 32768, 32768]) []

/-- Foldback is disabled (R333). -/
def foldOff (r : List Byte) : Bool := decide (sx 16 (fld r 0x0C 16 16) ≤ sx 16 (fld r 0x0C 0 16))

/-- The master level and a cue level in force (R339). -/
def State.master (s : State) : Nat := s.get F.pixel_MASTER 0

def State.cue (s : State) (n : Nat) : Nat := s.get (if n % 2 == 0 then F.cue_C_LO else F.cue_C_HI) (n / 2)

/-- Any override is in force (R202, R336). -/
def anyOverride (s : State) : Bool := (List.range s.part.lanes).any (fun n => s.get F.enc_OVR n != 0)

/-- One trim step of R335 for emitter e. -/
def trimStep (tr : Nat) (ki err deadband limit : Int) : Nat × Bool :=
  if err.natAbs ≤ deadband.natAbs then (tr, false)
  else
    let v := (tr : Int) + (ki * err).tdiv 65536
    let hi : Int := min 65535 (32768 + limit)
    let lo : Int := 32768 - limit
    ((clampI lo hi v).toNat, decide (v < lo) || decide (hi < v))

/-- The trims of a zone at a tick (R335, R336), and whether one was clamped; KI 0 holds them (R333). -/
def zoneTrims (s : State) (r : List Byte) (x : Zone) : List Nat × Bool :=
  let cue := s.cue (fld r 0 24 8)
  let light := zoneLight s r x
  let hold := !flag r 0 17 || light.isNone ||
    decide (s.master * cue / 65535 < 4096) || anyOverride s || !s.runNow || fld r 8 16 16 == 0
  if hold then (x.tr, false)
  else
    let per := perEmitter r
    let target := x.hooked.getD (fld r 8 0 16)
    let e0 := target * s.master * cue / 4294836225
    let cr := [fld r 0x14 0 16, fld r 0x14 16 16, fld r 0x18 0 16, fld r 0x18 16 16]
    let st := (List.range 4).map (fun e =>
      let want := if per then e0 * cr.getD e 0 / 65535 else e0
      let got := (light.getD []).getD (if per then e else 0) 0
      trimStep (x.tr.getD e 32768) (fld r 8 16 16) ((want : Int) - got) (fld r 0x1C 0 16) (fld r 0x10 16 16))
    (st.map (·.1), st.any (·.2))

/-- The update of one zone at a tick (R334 to R337). -/
def zoneUpdate (s : State) (z : Nat) : State :=
  let r := zoneRec s z
  let x := s.zone z
  let trims := zoneTrims s r x
  let s1 := if trims.2 then raisePixel s Bit.pxTrimAtLimit else s
  let used := fld r 0 0 2 != 0
  let temp := zoneTemp s r x
  let stale := used && temp.isNone
  let f := match temp with
    | some t => foldback r t
    | none => if !used || foldOff r then 32768 else fld r 0x10 0 16
  let s2 := if stale then raisePixel s1 Bit.pxTempStale else s1
  let s3 := if f < 32768 ∧ 32768 ≤ x.f then raisePixel s2 Bit.pxFoldActive else s2
  s3.putZone z { x with tr := trims.1, f := f, gt := if stale then x.gt else (temp.map (gtTable s)).getD []
                        fwTempAge := if x.fwTemp.isNone then 0 else x.fwTempAge + 1
                        fwLightAge := if x.fwLight.isEmpty then 0 else x.fwLightAge + 1 }

/-- A reading is one tick older. -/
def Reading.older (x : Reading) : Reading := if x.value.isNone then x else { x with age := x.age + 1 }

/-- ZONE_UPDATE (R337): GT, F and TR of every zone, for frame n + 1. -/
def zonesTick (s : State) : State :=
  let t := (liveZones s).foldl zoneUpdate s
  { t with readings := t.readings.map (fun e => (e.1, e.2.older)) }

/-! ### Levels and hooks (R174, R339) -/

/-- A hook or level write latches (R174); its kinds: 1 master, 2 cue, 3 zone target. -/
def latchValue (s : State) (l : Latch) : State := { s with latches := s.latches ++ [l] }

/-- HOOK_APPLY: the latched values come into force at the tick, later ones over earlier ones (R174). -/
def applyLatch (s : State) (l : Latch) : State :=
  match l.kind with
  | 1 => s.set F.pixel_MASTER 0 l.value
  | 2 => s.set (if l.target % 2 == 0 then F.cue_C_LO else F.cue_C_HI) (l.target / 2) l.value
  | _ => s.putZone l.target { s.zone l.target with hooked := some l.value }

/-- Every latched value applies. -/
def applyLatches (s : State) : State := s.latches.foldl applyLatch { s with latches := [] }

/-! ### Rendering (R327 to R340) -/

/-- A segment record's fields (R327). -/
structure SegRec where
  start : Nat
  valid : Bool
  temp : Bool
  feedback : Bool
  dither : Bool
  profile : Nat
  count : Nat
  stride : Int
  zone : Nat
  cue : Nat
  cueEn : Bool
  depth : Nat
  outs : List Nat
  slots : Nat
deriving DecidableEq, Repr

/-- A segment record of 16 bytes. -/
def segRec (b : List Byte) : SegRec :=
  { start := fld b 0 0 20, valid := flag b 0 20, temp := flag b 0 21, feedback := flag b 0 22, dither := flag b 0 23,
    profile := fld b 0 24 8, count := fld b 4 0 14, stride := sx 16 (fld b 4 16 16), zone := fld b 8 0 10,
    cue := fld b 8 16 8, cueEn := flag b 8 24, depth := fld b 8 28 4,
    outs := [fld b 12 0 2, fld b 12 2 2, fld b 12 4 2, fld b 12 6 2], slots := fld b 12 8 3 }

/-- The segment records of a role in a copy: those that are valid and hold a lamp, with their numbers. -/
def segments (s : State) (c role : Nat) : List (Nat × SegRec) :=
  ((listedObjects s (segAddr c role 0) (segAddr c role 64) 16).map
    (fun n => (n, segRec (s.peek (segAddr c role n) 16)))).filter (fun e => e.2.valid && e.2.count != 0)

/-- An entry of the curves' working store (R338). -/
def State.curve (s : State) (c i : Nat) : Nat :=
  bits (tget s.curves (4096 * c + i) (if s.tablesReady then BitVec.ofNat 32 (256 * i) else 0)).toNat 0 20

/-- Stage 5 (R338): interpolation between curve entries; entry 4,096 is taken as entry 4,095. -/
def curveValue (s : State) (c d : Nat) : Nat :=
  let i := d / 16
  let lo := s.curve c i
  let hi := s.curve c (min (i + 1) 4095)
  ((lo : Int) + ((hi : Int) - lo) * (d % 16) / 16).toNat

/-- A word that stage 5 reads for d is DUE in the working store (R345). -/
def curveIsDue (s : State) (c d : Nat) : Bool :=
  s.curveDue.contains (4096 * c + d / 16) || s.curveDue.contains (4096 * c + min (d / 16 + 1) 4095)

/-- The four bits of m reversed (R340). -/
def bitrev4 (m : Nat) : Nat := bits m 3 1 + 2 * bits m 2 1 + 4 * bits m 1 1 + 8 * bits m 0 1

/-- Stage 6 (R340). -/
def ditherOut (y depth frameN i : Nat) (dither : Bool) : Nat :=
  let r := 12 - depth
  let t := if dither then bitrev4 ((frameN + i) % 16) * 2 ^ (r - 4) else 0
  min (2 ^ (8 + depth) - 1) ((y + t) / 2 ^ r)

/-- Stages 2 to 4 for emitter e (R330). -/
def emitterLevel (s : State) (g : SegRec) (p : List Byte) (x : Zone) (px : List Nat) (e : Nat) : Nat :=
  let sum := (List.range 4).foldl (fun (a : Int) c => a + profMatrix p e c * (px.getD c 0 : Nat)) 0
  let a := (clampI 0 65535 (sum / 16384)).toNat
  let gt := if g.temp then (tget x.gt g.profile []).getD e 32768 else 32768
  let tr := if g.feedback then x.tr.getD e 32768 else 32768
  let k := min 65535 (gt * tr / 32768 * x.f / 32768)
  let b := a * k / 32768
  let c := if g.cueEn then s.cue g.cue else 65535
  min 65535 (b * s.master * c / 4294836225)

/-- The source pixel of lamp i (R327). -/
def lampPixel (g : SegRec) (i : Nat) : Nat := ((g.start : Int) + (i : Int) * g.stride).toNat

/-- The source pixel's channels of lamp i (R330 stage 1); nothing shown reads as 0 (R321). -/
def lampSource (s : State) (g : SegRec) (i : Nat) : List Nat :=
  if s.get F.pixel_SHOW 0 == 3 then [0, 0, 0, 0] else readPixel s (s.get F.pixel_SHOW 0) (lampPixel g i)

/-- One lamp: the values of its wire slots (R327, R330); an emitter whose curve word reads DUE is output as 0 (R345). -/
def renderLamp (s : State) (g : SegRec) (p : List Byte) (x : Zone) (frameN i : Nat) : List Nat :=
  let px := lampSource s g i
  (List.range g.slots).map (fun w =>
    let e := g.outs.getD w 0
    let d := emitterLevel s g p x px e
    if curveIsDue s (profCurve p e) d then 0
    else ditherOut (curveValue s (profCurve p e) d) g.depth frameN i g.dither)

/-- The emitters of a segment that its lane sends: those of its wire slots, or OUT0's of a PWM lane (R327, R328). -/
def sentEmitters (g : SegRec) (pwm : Bool) : List Nat := (g.outs.take (if pwm then 1 else g.slots)).eraseDups

/-- The emitters of lamp i that a DUE curve word puts out (R345). -/
def lampCurveDues (s : State) (g : SegRec) (p : List Byte) (x : Zone) (pwm : Bool) (i : Nat) : Nat :=
  ((sentEmitters g pwm).filter (fun e =>
    curveIsDue s (profCurve p e) (emitterLevel s g p x (lampSource s g i) e))).length

/-- A segment of zeros. -/
def zeroSeg (g : SegRec) (n : Nat) : SegOut :=
  { slots := g.slots, depth := g.depth, lamps := List.replicate n (List.replicate g.slots 0) }

/-- Lamps of a segment that a lane takes: all of them, or the first of a PWM lane (R328). -/
def lampCount (g : SegRec) (pwm : Bool) : Nat := if pwm then 1 else g.count

/-- The words that read DUE in the records the segment needs (R345). -/
def segDueWords (s : State) (c role n : Nat) (g : SegRec) : List Nat :=
  recordDues s (segAddr c role n) 16 ++ recordDues s (profAddr c g.profile) 128 ++ recordDues s (zoneAddr c g.zone) 32

/-- A record that the segment needs reads DUE (R345). -/
def segDue (s : State) (c role n : Nat) (g : SegRec) : Bool := !(segDueWords s c role n g).isEmpty

/-- One segment of frame n. -/
def renderSeg (s : State) (c role : Nat) (pwm : Bool) (e : Nat × SegRec) : SegOut :=
  let g := e.2
  if segDue s c role e.1 g then zeroSeg g (lampCount g pwm)
  else
    let p := s.peek (profAddr c g.profile) 128
    { slots := g.slots, depth := g.depth
      lamps := (List.range (lampCount g pwm)).map (renderLamp s g p (s.zone g.zone) (s.get F.time_FRAME_N 0)) }

/-- The emitters of a segment that DUE curve words put out (R345). -/
def segCurveDues (s : State) (c : Nat) (pwm : Bool) (g : SegRec) : Nat :=
  if s.curveDue.isEmpty then 0
  else (List.range (lampCount g pwm)).foldl (fun n i =>
    n + lampCurveDues s g (s.peek (profAddr c g.profile) 128) (s.zone g.zone) pwm i) 0

/-- The DUE pixels and the DUE records and curve words that rendering a segment meets (R345). -/
def segDues (s : State) (c role : Nat) (pwm : Bool) (e : Nat × SegRec) : Nat × Nat :=
  if segDue s c role e.1 e.2 then (0, 1)
  else (if s.get F.pixel_SHOW 0 == 3 then 0 else ((List.range (lampCount e.2 pwm)).filter
    (fun i => s.wordDue (pixelAddr (s.get F.pixel_SHOW 0) (lampPixel e.2 i)))).length, segCurveDues s c pwm e.2)

/-- The segments a lane sends: all valid ones, or the first valid one of a PWM lane (R328). -/
def laneSegments (s : State) (role : Nat) (pwm : Bool) : List (Nat × SegRec) :=
  let l := segments s s.pixActive role
  if pwm then l.take 1 else l

/-- A lane's frame (R329): rendered under the tables, levels and factors in force at the tick. -/
def renderLane (s : State) (role : Nat) (pwm : Bool) : List SegOut :=
  (laneSegments s role pwm).map (renderSeg s s.pixActive role pwm)

/-- Count what rendering met, and keep the DUE words of records for firmware (R345). -/
def countDues (s : State) (role : Nat) (pwm : Bool) : State :=
  let d := (laneSegments s role pwm).map (segDues s s.pixActive role pwm)
  let px := d.foldl (fun n e => n + e.1) 0
  let sg := d.foldl (fun n e => n + e.2) 0
  let ws := (laneSegments s role pwm).flatMap (fun e => segDueWords s s.pixActive role e.1 e.2)
  let s1 := (s.addTo F.pixel_DUE_PIXELS 0 px).addTo F.pixel_DUE_SEGMENTS 0 sg
  let s2 := { s1 with pixDue := (s1.pixDue ++ ws).eraseDups }
  if px + sg != 0 then raisePixel s2 Bit.pxDue else s2

/-- A byte lies in a pixel table copy. -/
def inCopy (c a : Nat) : Bool := decide (pixelCopy c ≤ a) && decide (a < pixelCopy c + 0x2C000)

/-- Firmware rewrites the words of records that a pipe met as DUE from the inactive copy once COPYBACK reads 0 (R345). -/
def healTables (s : State) : State :=
  if s.running && !s.on F.pixel_COPYBACK 0 then
    s.pixDue.foldl (fun t w =>
      if inCopy t.pixActive (8 * w) && t.wordDue (8 * w) then
        t.poke (8 * w) (t.peek (8 * w - pixelCopy t.pixActive + pixelCopy t.pixInactive) 8)
      else t) { s with pixDue := [] }
  else s

/-- What a pipe reads through P2 for a lane's frame (R24, R258, R329): the three records of each segment, then its lamps' pixels. -/
def readTables (s : State) (role : Nat) (pwm : Bool) : State :=
  if s.yardErr.isEmpty then s
  else
    let c := s.pixActive
    let sh := s.get F.pixel_SHOW 0
    (laneSegments s role pwm).foldl (fun t e =>
      let u := touch (touch (touch t 2 (segAddr c role e.1) 16) 2 (profAddr c e.2.profile) 128) 2 (zoneAddr c e.2.zone) 32
      if sh == 3 || segDue s c role e.1 e.2 then u
      else (List.range (lampCount e.2 pwm)).foldl (fun v i => touch v 2 (pixelAddr sh (lampPixel e.2 i)) 8) u) s

/-- The lane is in a mode whose output the pipes feed. -/
def pixelMode (m : Nat) : Bool := m == 6 || m == 7 || m == 8

/-- An encoder lane. -/
def State.encLane (s : State) (n : Nat) : EncLane := tget s.enc n {}

/-- Store an encoder lane. -/
def State.putEnc (s : State) (n : Nat) (x : EncLane) : State := { s with enc := tput s.enc n x {} }

/-- H for an output value (R361). -/
def pwmH (v depth period : Nat) : Nat := v * period / (2 ^ (8 + depth) - 1)

/-- PIPE_START on one lane (R329, R362). -/
def pipeLane (s : State) (n : Nat) : State :=
  let m := s.get F.tx_ACTIVE n
  let role := s.get F.tx_ROLE n
  if !pixelMode m || !s.shedUp (laneShed n) || decide (96 ≤ role) then s
  else
    let fr := renderLane s role (m == 8)
    let s1 := countDues (readTables s role (m == 8)) role (m == 8)
    if m == 8 then
      match fr with
      | [] => s1
      | g :: _ => s1.putEnc n { s1.encLane n with hNext := some (pwmH ((g.lamps.headD []).headD 0) g.depth (s.get F.enc_PERIOD n)) }
    else
      let x := s1.encLane n
      s1.putEnc n { x with frames := x.frames.drop (x.frames.length - 1) ++ [(fr, s.get F.time_FRAME_N 0)] }

/-- Entries `a` to `b - 1` of the curves' working store are loaded from the yard through P2 (R24, R338); a word that reads DUE
there reads DUE in the store (R345). -/
def loadEntries (s0 : State) (a b : Nat) : State :=
  let lo := curveBase + 4 * a
  let hi := curveBase + 4 * b
  let s := (s0.errWords (lo / 8 * 8) hi).foldl (fun t w => (readWord t 2 w).1) s0
  { s with
    curves := (listedObjects s lo hi 4).foldl (fun t k =>
      let w := BitVec.ofNat 32 (ofLe (s.peek (lo + 4 * k) 4))
      tput t (a + k) w (if s.tablesReady then BitVec.ofNat 32 (256 * ((a + k) % 4096)) else 0))
      (s.curves.filter (fun e => decide (e.1 < a) || decide (b ≤ e.1)))
    curveDue := s.curveDue.filter (fun k => decide (k < a) || decide (b ≤ k)) ++
      ((s.dueWords (lo / 8 * 8) hi).flatMap (fun w => [(8 * w - curveBase) / 4, (8 * w - curveBase) / 4 + 1])).filter
        (fun k => decide (a ≤ k) && decide (k < b)) }

/-- The whole working store is loaded (R338). -/
def loadCurves (s : State) : State := loadEntries s 0 262144

/-- The curves of which the pipes met a DUE word (R345). -/
def curvesMet (s : State) : List Nat :=
  ((List.range s.part.lanes).flatMap (fun n =>
    let pwm := s.get F.tx_ACTIVE n == 8
    if (s.get F.tx_ACTIVE n == 6 || s.get F.tx_ACTIVE n == 7 || pwm) && s.shedUp (laneShed n) then
      (laneSegments s (s.get F.tx_ROLE n) pwm).flatMap (fun e =>
        if segCurveDues s s.pixActive pwm e.2 == 0 then []
        else (e.2.outs.take e.2.slots).map (fun o => profCurve (s.peek (profAddr s.pixActive e.2.profile) 128) o))
    else [])).eraseDups

/-- Firmware reloads from the yard copy the curves of which a DUE word was met (R345). -/
def reloadMet (s : State) : State :=
  if s.curveDue.isEmpty || !s.running then s
  else (curvesMet s).foldl (fun t c => loadEntries t (4096 * c) (4096 * c + 4096)) s

/-- OFFSET of a lane in its dimming group, in LBC cycles (R352), as its encoder words stand. -/
def groupOffset (s : State) (n : Nat) : Nat :=
  let g := s.get F.enc_GROUP n
  if g == 0 then 0
  else if s.get F.tx_ACTIVE n == 8 then s.get F.enc_SLOT n * s.get F.enc_PERIOD n / max 1 (s.get F.grp_SIZE g)
  else s.get F.enc_SLOT n * max 1 (s.get F.time_DEN 0) * 400000000 / (max 1 (s.get F.time_NUM 0) * max 1 (s.get F.grp_SIZE g))

/-- The order in which the pipes take the lanes (R329): by phase offset, then by role. -/
def pipeOrder (s : State) : List Nat :=
  List.insertionSort (fun a b => groupOffset s a < groupOffset s b ∨
    (groupOffset s a = groupOffset s b ∧ s.get F.tx_ROLE a ≤ s.get F.tx_ROLE b)) (List.range s.part.lanes)

/-- PIPE_START: with RUN in force, every lane's frame is rendered (R329). -/
def pipeStart (s : State) : State := if s.runNow then healTables (reloadMet ((pipeOrder s).foldl pipeLane s)) else s

/-! ### The commit (R328, R341 to R344, R352, R353) -/

/-- A staged or stored word of a lane's encoder block: words 0 to 7 are ENC_CFG to ENC_EGRESS (R353). -/
def encWord (s : State) (lane k : Nat) : Word :=
  match tget s.stagedEnc lane [] with
  | [] => s.reg ⟨.encLane, lane, 4 * k⟩
  | w => w.getD k 0

/-- A group's SIZE as the next commit will have it. -/
def groupSize (s : State) (g : Nat) : Nat := tget s.stagedGroup g (s.get F.grp_SIZE g)

/-- A field of an encoder word. -/
def encField (s : State) (lane : Nat) (f : Field) : Nat := bits (encWord s lane (f.off / 4)).toNat f.lo f.width

/-- Lamp bits of a lane: slots × bits over all lamps, and lamps. -/
def lampBits (segs : List (Nat × SegRec)) : Nat := segs.foldl (fun n e => n + e.2.count * e.2.slots * (8 + e.2.depth)) 0

def lampsOf (segs : List (Nat × SegRec)) : Nat := segs.foldl (fun n e => n + e.2.count) 0

/-- A pixel lane's frame time in half nanoseconds (R358). -/
def frameTime (s : State) (lane mode : Nat) (segs : List (Nat × SegRec)) : Nat :=
  let ef := encField s lane
  if mode == 6 then lampBits segs * ef F.enc_TBIT * 5 + max 1 (ef F.enc_RESET) * 2000
  else
    let bit := ef F.enc_CLK_DIV * 5
    let t0 := (ef F.enc_HDR_LEN + lampsOf segs * ef F.enc_PREFIX_LEN + lampBits segs + ef F.enc_LATCH_LEN) * bit +
      ef F.enc_LATCH_IDLE * 2000
    if ef F.enc_LATCH_MODE == 1 && ef F.enc_LATCH_AT != 0 then
      max t0 (ef F.enc_LATCH_AT * 2000 + ef F.enc_LATCH_LEN * bit + ef F.enc_LATCH_IDLE * 2000)
    else t0

/-- The lanes in a mode that `p` accepts. -/
def lanesIn (s : State) (p : Nat → Bool) : List Nat :=
  (List.range s.part.lanes).filter (fun n => s.shedUp (laneShed n) && p (s.get F.tx_ACTIVE n))

/-- START_DELAY + OFFSET of a pixel lane in LBC cycles, with the staged values (R351, R352). -/
def laneDelay (s : State) (n : Nat) : Nat :=
  let g := encField s n F.enc_GROUP
  s.stagedDelay.getD (s.get F.encg_START_DELAY 0) + (if g == 0 then 0
    else encField s n F.enc_SLOT * max 1 (s.get F.time_DEN 0) * 400000000 / (max 1 (s.get F.time_NUM 0) * max 1 (groupSize s g)))

/-- The fit check of R328; a unit of a pair keeps 2 µs clear before S_n (R425). -/
def framesFit (s : State) : Bool :=
  (lanesIn s (fun m => m == 6 || m == 7)).all (fun n =>
    let paired := s.part.hasTwin && s.on F.twin_PAIRED 0
    let t := frameTime s n (s.get F.tx_ACTIVE n) (segments s s.pixInactive (s.get F.tx_ROLE n)) + (if paired then 4000 else 0)
    decide (t * s.get F.time_NUM 0 ≤ 2 * max 1 (s.get F.time_DEN 0) * 1000000000) &&
      (!paired || decide (800 ≤ laneDelay s n)))

/-- The group faults of R352. -/
def groupFault (s : State) (g : Nat) : Bool :=
  let ls := (lanesIn s pixelMode).filter (fun n => encField s n F.enc_GROUP == g)
  let slots := ls.map (fun n => encField s n F.enc_SLOT)
  let pwm := ls.filter (fun n => s.get F.tx_ACTIVE n == 8)
  slots.any (fun j => decide (groupSize s g ≤ j)) || slots.eraseDups.length != slots.length ||
    (!pwm.isEmpty && pwm.length != ls.length) ||
    (pwm.map (fun n => encField s n F.enc_PERIOD)).eraseDups.length > 1

/-- Every group of R352 is sound. -/
def groupsOk (s : State) : Bool := (List.range 63).all (fun k => !groupFault s (k + 1))

/-- Staged encoder words, groups and START_DELAY come into force (R353, R506): this tick is Z of the lanes whose words they set
(R362). -/
def applyStaged (s : State) : State :=
  let s1 := s.stagedEnc.foldl (fun t e => (putRegs t .encLane e.1 0 e.2).putEnc e.1
    { (putRegs t .encLane e.1 0 e.2).encLane e.1 with z := s.ran }) s
  let s2 := s1.stagedGroup.foldl (fun t e => t.set F.grp_SIZE e.1 e.2) s1
  let s3 := match s.stagedDelay with
    | some d => s2.set F.encg_START_DELAY 0 d
    | none => s2
  { s3 with stagedEnc := [], stagedGroup := [], stagedDelay := none }

/-- What a commit does to a zone's trims and hooked target (R344). -/
def commitZone (s : State) (old new : Nat) (z : Nat) : State :=
  let a := s.peek (zoneAddr old z) 32
  let b := s.peek (zoneAddr new z) 32
  let x := s.zone z
  let loop := fun r => (fld r 0 10 2, fld r 0 12 5, flag r 0 17, flag r 0 18)
  let x1 := if loop a = loop b then x else { x with tr := [32768, 32768, 32768, 32768] }
  let x2 := if fld a 8 0 16 == fld b 8 0 16 then x1 else { x1 with hooked := none }
  s.putZone z x2

/-- PIXEL_COMMIT_APPLY (R342): the copies swap at the tick. -/
def applyCommit (s : State) : State :=
  let old := s.pixActive
  let new := s.pixInactive
  let s1 := s.zones.foldl (fun t e => commitZone t old new e.1) s
  let s2 := (((applyStaged s1).set F.pixel_ACTIVE 0 new).set F.pixel_COPYBACK 0 1).set F.pixel_COMMIT_PENDING 0 0
  raisePixel (s2.inc F.pixel_COMMITS 0) Bit.pxCommitDone

/-- The inactive copy is brought level with the one in force (R342). -/
def pixelCopyback (s : State) : State :=
  let a := pixelCopy s.pixActive
  let b := pixelCopy s.pixInactive
  ((listedObjects s a (a + 0x2C000) 8).foldl (fun t k => t.poke (b + 8 * k) (t.peek (a + 8 * k) 8))
    (s.blankSpan b (b + 0x2C000))).set F.pixel_COPYBACK 0 0

/-- Firmware initialises the pixel tables before it applies the base image (R341). -/
def initPixelTables (s : State) : State :=
  loadCurves (State.blankSpan { s with tablesReady := true } 0x1AA8000 curveEnd)

/-- What a frame tick does to the pixel pipeline (R318, R321, R325, R329, R337, R342): everything that belongs to frame n
comes into force and the pipes render it. -/
def pixelTick (s : State) : State :=
  if !(s.part.hasPixel && s.shedUp 5) then { s with latches := [] }
  else
    let s1 := applyLatches (takeRunSrc s)
    let s2 := if s1.on F.pixel_COMMIT_PENDING 0 then applyCommit s1 else s1
    let s2 := if s2.srcNow && !s.srcNow then s2 else swapBuffers s2
    pipeStart s2

/-- The zone update that runs from tick n, for frame n + 1 (R337). -/
def pixelZones (s : State) : State := if s.part.hasPixel && s.shedUp 5 then zonesTick s else s

end Sys2Proof.Machine
end

