-- ==== Sys2Proof/Machine/LaneRx.lean ====
section
/-! DEFINITION. Lane receivers (R60 to R92), the DMX receiver (R106, R107), SENSE inputs (R109 to R112) and their rows. -/

namespace Sys2Proof.Machine

/-! ### What the rows share -/

/-- The mode in force of a powered lane; OFF for any other (R93). -/
def laneMode (s : State) (n : Nat) : Nat := if s.laneUp n then s.get F.tx_ACTIVE n else 0

/-- SENTENCE-RX and SENTENCE-HDX receive sentences; DMX-RX receives packets (R93). -/
def receives (m : Nat) : Bool := m == 1 || m == 3 || m == 5

/-- LANE_RX_STATUS.STATE (R89). -/
def rxState (s : State) (n : Nat) : Nat := s.get F.rx_STATE n

/-- S2 and S4 are up, so that receive lanes may arm (R546). -/
def upstream (s : State) : Bool := s.shedUp 2 && s.shedUp 4

/-- Count an event and set its flag (R90, R92). -/
def rxEvent (s : State) (n : Nat) (f : Field) (bit : Nat) : State := raiseRx (s.inc f n) n bit

/-- The lane's autobaud is on; a DMX-RX lane ignores AB_EN (R106). -/
def autobaudOn (s : State) (n : Nat) : Bool := s.on F.rx_AB_EN n && laneMode s n != 5

/-- The lock is dropped and the lane searches (R71). -/
def dropLock (s : State) (n : Nat) : State := (s.set F.rx_LOCKED n 0).set F.rx_LOCKED_KEY n 0

/-- An autobaud lane searches (R71). -/
def abSearch (s : State) (n : Nat) : State :=
  let s1 := (dropLock s n).set F.rx_STATE n 2
  s1.putRx n { s1.rxLane n with confirmed := false }

/-- The lane arms (R80); an unlocked autobaud lane searches (R71). -/
def armLane (s : State) (n : Nat) : State :=
  if autobaudOn s n && !s.on F.rx_LOCKED n then abSearch s n else s.set F.rx_STATE n 3

/-- TALKER_SILENT is raised (R81). -/
def raiseSilent (s : State) (n : Nat) : State :=
  let s1 := raiseRx ((s.set F.rx_SILENT n 1).inc F.rx_SILENT_CNT n) n Bit.rxSilentSet
  let s2 := s1.putRx n { s1.rxLane n with silentDue := false, heard := false }
  if !autobaudOn s2 n then s2
  else
    let s3 := dropLock s2 n
    let st := rxState s3 n
    if !(s3.rxLane n).ignoring && (st == 2 || st == 3 || st == 4 || st == 5) then abSearch s3 n else s3

/-- The oversample period that a LANE_RX_BAUD or LANE_TX_BAUD word gives (R86, R96): DIV_INT 0 and 1 behave as 2, values above
83,333 as 83,333. -/
def baudPeriod (w : Word) : Word := putField w F.rx_DIV_INT (max 2 (min 83333 (bits w.toNat 8 24)))

/-- The rate in use follows LANE_RX_BAUD (R86). -/
def takeBaud (s : State) (n : Nat) : State := s.putRx n { s.rxLane n with baud := baudPeriod (s.reg (F.rx_DIV_INT.addr n)) }

/-- A completed character enters the holding register (R75, R76, R81). -/
def toHold (s : State) (n : Nat) (c : HoldChar) : State :=
  let s1 := s.inc F.rx_CHARS n
  let s2 := if s1.on F.rx_SILENT n then raiseRx (s1.set F.rx_SILENT n 0) n Bit.rxTalkerBack else s1
  let s3 := if (s2.rxLane n).hold.isSome then roleCause (rxEvent s2 n F.rx_N_OVERRUN Bit.rxOverrun) n 3 else s2
  s3.putRx n { s3.rxLane n with hold := some c, silentDue := false, heard := true }

/-- A sentence of the lane's role is open (R89). -/
def laneOpen (s : State) (n : Nat) : Bool :=
  s.shedUp 2 && decide (s.get F.tx_ROLE n < 96) && (s.source (s.get F.tx_ROLE n)).sent.isSome

/-- A DMX-RX packet in progress is discarded. -/
def dropPacket (s : State) (n : Nat) : State := s.putRx n { s.rxLane n with dmxOpen := false, dmxSlots := [] }

/-- DMX_SHORT (R106). -/
def dmxShort (s : State) (n : Nat) : State := raiseTx ((dropPacket s n).inc F.tx_N_DMX_SHORT n) n Bit.txDmxShort

/-! ### Characters (R62 to R74) -/

/-- Data bits kept and parity selected by a DATA7 and a PARITY field; 0b11 behaves as none (R85, R118). -/
def dataMask (d7 : Bool) (b : Nat) : Nat := if d7 then b % 128 else b

/-- Ones in a byte. -/
def ones (b : Nat) : Nat := (setBits 8 b).length

/-- The parity bit that goes with data (1 even, 2 odd). -/
def parityBit (mode b : Nat) : Bool := if mode == 1 then ones b % 2 == 1 else ones b % 2 == 0

/-- Parity is enabled. -/
def parityOn (mode : Nat) : Bool := mode == 1 || mode == 2

/-- The levels of a character on the line, bit by bit (R97): start, D data bits LSB first, parity, stop bits, and the `icg` idle
bits that follow it inside a sentence. -/
def charBits (d7 : Bool) (parity stops icg b : Nat) : List Bool :=
  let d := dataMask d7 b
  [false] ++ (List.range (if d7 then 7 else 8)).map d.testBit ++ (if parityOn parity then [parityBit parity d] else []) ++
    List.replicate (stops + icg) true

/-- The data bits of a sampled character. -/
def rxData (s : State) (n : Nat) (c : CharSample) : Nat := dataMask (s.on F.rx_DATA7 n) c.data.toNat

/-- The parity sample is wrong (R68). -/
def rxParityBad (s : State) (n : Nat) (c : CharSample) : Bool :=
  let p := s.get F.rx_PARITY n
  parityOn p && c.parity != parityBit p (rxData s n c)

/-- Every data and parity sample read low (R66). -/
def rxAllLow (s : State) (n : Nat) (c : CharSample) : Bool :=
  rxData s n c == 0 && !(parityOn (s.get F.rx_PARITY n) && c.parity)

/-- The character in progress ends: the receiver stands at STATE `st`, the rate written meanwhile comes into use (R86). -/
def charDone (s : State) (n st : Nat) (level : Bool) : State :=
  let s1 := takeBaud ((s.set F.rx_STATE n st).setB F.rx_LINE n level) n
  s1.putRx n { s1.rxLane n with confirmed := false }

/-- A character of a sentence lane at its stop sample (R65, R66, R68, R70). -/
def sentenceChar (s : State) (n : Nat) (c : CharSample) : State :=
  let x := s.rxLane n
  let pb := rxParityBad s n c
  let h : HoldChar := { data := BitVec.ofNat 8 (rxData s n c), parityBad := pb, framingBad := !c.stop, stamp := x.edge, tsState := x.edgeTs }
  if !c.stop && rxAllLow s n c then
    let s1 := roleCause (rxEvent (charDone s n 5 false) n F.rx_N_BREAK Bit.rxBreak) n 2
    if x.silentDue then raiseSilent s1 n else s1
  else
    let s1 := if pb then rxEvent s n F.rx_N_PARITY Bit.rxParity else s
    if c.stop then toHold (charDone s1 n 3 true) n h
    else
      let s2 := toHold (charDone (rxEvent s1 n F.rx_N_FRAMING Bit.rxFraming) n 4 false) n h
      s2.putRx n { s2.rxLane n with edge := edgeStamp s c.edge, edgeTs := s.tsAt (edgeStamp s c.edge) }

/-- A slot leaves the shift register as any character does (R75, R81, R92); the DMX receiver takes it at once. DEDUCED (log). -/
def takeSlot (s : State) (n : Nat) : State :=
  let s1 := s.inc F.rx_CHARS n
  let s2 := if s1.on F.rx_SILENT n then raiseRx (s1.set F.rx_SILENT n 0) n Bit.rxTalkerBack else s1
  s2.putRx n { s2.rxLane n with silentDue := false, heard := true }

/-- A slot of a DMX packet (R106): a framing or parity flag discards the packet; an all-low character is a break whose
length DMX_RX_BREAK tells. -/
def dmxChar (s : State) (n : Nat) (c : CharSample) : State :=
  let x := s.rxLane n
  if !c.stop && rxAllLow s n c then
    let s1 := charDone s n 5 false
    if x.silentDue then raiseSilent s1 n else s1
  else
    let pb := rxParityBad s n c
    let s1 := if pb then rxEvent s n F.rx_N_PARITY Bit.rxParity else s
    let s2 := if c.stop then s1 else rxEvent s1 n F.rx_N_FRAMING Bit.rxFraming
    let s3 := takeSlot (charDone s2 n (if c.stop then 3 else 4) c.stop) n
    if pb || !c.stop then dropPacket s3 n
    else if x.dmxOpen && decide (x.dmxSlots.length < 513) then
      s3.putRx n { s3.rxLane n with dmxSlots := x.dmxSlots ++ [BitVec.ofNat 8 (rxData s n c)] }
    else s3

/-! ### Autobaud (R71 to R74) -/

/-- A key being tried: byte, L, H and its LOCKED_KEY code. -/
structure AbKey where
  byte : Nat
  low : Nat
  high : Nat
  code : Nat
deriving DecidableEq, Repr

/-- The enabled keys (R72, R87). -/
def abKeys (s : State) (n : Nat) : List AbKey :=
  (if s.on F.rx_KEY_DOLLAR n then [{ byte := 0x24, low := 3, high := 1, code := 1 }] else []) ++
  (if s.on F.rx_KEY_BANG n then [{ byte := 0x21, low := 1, high := 1, code := 2 }] else []) ++
  (if s.on F.rx_KEY_PCT n then [{ byte := 0x25, low := 1, high := 1, code := 3 }] else []) ++
  (if s.on F.rx_KEY_PROG n && s.get F.rx_PROG_LOW n != 0 then
    [{ byte := s.get F.rx_PROG_KEY n, low := s.get F.rx_PROG_LOW n, high := s.get F.rx_PROG_HIGH n, code := 4 }] else [])

/-- Steps 1 and 2 of R73: C / (16 L) in 1/256 cycle, rounded, inside the range or set to its ends. -/
def abPeriod (c low : Nat) : Option Nat :=
  let p := (32 * c + low) / (2 * low)
  if 512 ≤ p ∧ p ≤ 83333 * 256 + 85 then some p
  else if p < 512 ∧ 1950 * 256 ≤ p * 1000 then some 512
  else if 83333 * 256 + 85 < p ∧ p ≤ 85416 * 256 then some (83333 * 256 + 85)
  else none

/-- Step 3 of R73: the high run lies within H ± 1/4 of the derived bit time. -/
def abHighOk (k : AbKey) (p high : Nat) : Bool :=
  decide ((4 * k.high - 1) * p ≤ 64 * high) && decide (64 * high ≤ (4 * k.high + 1) * p)

/-- The line's level `t` cycles after the rising edge that ended the low run: `runs` are the run lengths that follow,
high first; the last level holds. -/
def levelAt (runs : List Nat) (high : Bool) (t : Nat) : Bool :=
  match runs with
  | [] => high
  | [_] => high
  | r :: rest => if t < r then high else levelAt rest (!high) (t - r)

/-- The instant of bit index i after that edge (R73 step 4), on the next LBC edge. -/
def abInstant (k : AbKey) (p i : Nat) : Nat := ((2 * (i - k.low) + 1) * p + 31) / 32

/-- A bit as step 4 reads it: within the measured low run it is low. -/
def abBit (k : AbKey) (p : Nat) (runs : List Nat) (i : Nat) : Bool :=
  if i < k.low then false else levelAt runs true (abInstant k p i)

/-- Step 4 of R73: data, parity and stop pass, and the byte is the key. -/
def abDecodes (s : State) (n : Nat) (k : AbKey) (p : Nat) (runs : List Nat) : Bool :=
  let d := if s.on F.rx_DATA7 n then 7 else 8
  let pm := s.get F.rx_PARITY n
  let data := maskOf ((List.range d).filter (fun i => abBit k p runs (i + 1)))
  let len := 1 + d + b2n (parityOn pm) + 1
  data == k.byte && abBit k p runs (len - 1) && (!parityOn pm || abBit k p runs (d + 1) == parityBit pm data)

/-- The key that locks (R74): the first to complete, the lower code in a tie. -/
def abWinner (s : State) (n : Nat) (wave : List Nat) : Option (AbKey × Nat) :=
  let c := wave.headD 0
  let runs := wave.drop 1
  let len := 1 + (if s.on F.rx_DATA7 n then 7 else 8) + b2n (parityOn (s.get F.rx_PARITY n)) + 1
  let cands := (abKeys s n).filterMap (fun k => match abPeriod c k.low with
    | some p => if decide (2 ≤ runs.length) && abHighOk k p (runs.headD 0) && abDecodes s n k p runs then some (k, p) else none
    | none => none)
  cands.foldl (fun m e => match m with
    | none => some e
    | some b => if abInstant e.1 e.2 (len - 1) < abInstant b.1 b.2 (len - 1) then some e else some b) none

/-- A measurement of a searching lane (R73, R74): `wave` holds the runs from the falling edge, low first; with one run
or two the line never completes a key. -/
def abMeasure (s : State) (n : Nat) (c : CharSample) (wave : List Nat) : State :=
  match abWinner s n wave with
  | none => rxEvent s n F.rx_N_AB_REJECT Bit.rxAbReject
  | some (k, p) =>
    let s1 := s.setReg (F.rx_DIV_INT.addr n) (BitVec.ofNat 32 p)
    let s2 := (s1.set F.rx_LOCKED n 1).set F.rx_LOCKED_KEY n k.code
    let s3 := charDone (raiseRx s2 n Bit.rxAbLock) n 3 true
    toHold s3 n { data := BitVec.ofNat 8 k.byte, parityBad := false, framingBad := false, stamp := edgeStamp s c.edge, tsState := s.tsAt (edgeStamp s c.edge) }

/-! ### Rows -/

/-- START_BIT (R63, R64). On a stuck lane whose line had gone high it is the line's fall: the re-arm wait is off again (R77,
R79, R89). -/
def execStartBit (lane : Nat) (level : Bool) (edge : EdgeAt) (s : State) : Host.Outcome State Fault Refusal :=
  let x := s.rxLane lane
  let st := rxState s lane
  if receives (laneMode s lane) && !x.ignoring && st == 7 && !level then .next ((s.set F.rx_STATE lane 6).set F.rx_LINE lane 0)
  else if !receives (laneMode s lane) || x.ignoring || !(st == 3 || (st == 4 && !x.confirmed)) then .next s
  else if level then
    let s1 := rxEvent (charDone s lane 3 true) lane F.rx_N_FALSE_START Bit.rxFalseStart
    .next s1
  else
    .next (((s.set F.rx_STATE lane 4).set F.rx_LINE lane 0).putRx lane
      { x with confirmed := true, edge := if st == 4 then x.edge else edgeStamp s edge
               edgeTs := if st == 4 then x.edgeTs else s.tsAt (edgeStamp s edge) })

/-- LANE_CHARACTER (R62, R65, R66, R68, R70, R73, R106). -/
def execLaneCharacter (lane : Nat) (smp : CharSample) (wave : List Nat) (s : State) : Host.Outcome State Fault Refusal :=
  let m := laneMode s lane
  let x := s.rxLane lane
  if !receives m || x.ignoring then .next s
  else if rxState s lane == 2 then .next (abMeasure s lane smp wave)
  else if rxState s lane == 4 && x.confirmed then
    .next (if m == 5 then dmxChar s lane smp else sentenceChar s lane smp)
  else .next s

/-- BREAK_END (R70): after a low an oversample tick reads high, and the lane re-arms; a stuck lane's re-arm timer starts
(R77, R79, R89). -/
def execBreakEnd (lane : Nat) (s : State) : Host.Outcome State Fault Refusal :=
  if receives (laneMode s lane) && !(s.rxLane lane).ignoring && rxState s lane == 5 then
    .next (armLane (s.set F.rx_LINE lane 1) lane)
  else if receives (laneMode s lane) && !(s.rxLane lane).ignoring && rxState s lane == 6 then
    .next ((s.set F.rx_LINE lane 1).set F.rx_STATE lane 7)
  else .next s

/-- LINE_STUCK_LOW (R78, R106). -/
def execLineStuckLow (lane : Nat) (s : State) : Host.Outcome State Fault Refusal :=
  let x := s.rxLane lane
  let st := rxState s lane
  if receives (laneMode s lane) && !x.ignoring && s.get F.rx_STUCK_TO lane != 0 && decide (1 ≤ st) && decide (st ≤ 5) then
    let s1 := ((s.set F.rx_STUCK lane 1).set F.rx_LINE lane 0).set F.rx_STATE lane 6
    let s2 := raiseRx (s1.inc F.rx_STUCK_CNT lane) lane Bit.rxStuckSet
    let s3 := dropPacket (s2.putRx lane { s2.rxLane lane with confirmed := false }) lane
    let s4 := roleCause s3 lane 1
    .next (if x.silentDue then raiseSilent s4 lane else s4)
  else .next s

/-- LANE_ARM (R79, R80): a stuck lane's fault clears and an autobaud lane searches. -/
def execLaneArm (lane : Nat) (s : State) : Host.Outcome State Fault Refusal :=
  let st := rxState s lane
  if !receives (laneMode s lane) || (s.rxLane lane).ignoring || !upstream s then .next s
  else if st == 6 || st == 7 then
    let s1 := raiseRx ((s.set F.rx_STUCK lane 0).set F.rx_LINE lane 1) lane Bit.rxStuckClear
    .next (if autobaudOn s1 lane then abSearch s1 lane else s1.set F.rx_STATE lane 3)
  else if st == 1 then .next (armLane (s.set F.rx_LINE lane 1) lane)
  else .next s

/-- TALKER_SILENT (R81): inside a character the decision waits for its stop sample. -/
def execTalkerSilent (lane : Nat) (s : State) : Host.Outcome State Fault Refusal :=
  let x := s.rxLane lane
  if receives (laneMode s lane) && s.get F.rx_SILENT_TO lane != 0 && x.heard && !s.on F.rx_SILENT lane then
    if rxState s lane == 4 && x.confirmed then .next (s.putRx lane { x with silentDue := true })
    else .next (raiseSilent s lane)
  else .next s

/-- FRAGMENT (R82). -/
def execFragment (lane : Nat) (s : State) : Host.Outcome State Fault Refusal :=
  let x := s.rxLane lane
  let m := laneMode s lane
  if (m == 1 || m == 3) && s.get F.rx_ICT lane != 0 && laneOpen s lane && !(rxState s lane == 4 && x.confirmed) then
    .next (roleCause (rxEvent s lane F.rx_N_FRAGMENT Bit.rxFragment) lane 5)
  else .next s

/-- REARM (R71, R79, R85): it drops the autobaud lock and searches, or arms a lane that waits; a stuck fault stays. -/
def rearmLane (s : State) (n : Nat) : State :=
  let st := rxState s n
  let m := laneMode s n
  if !receives m then s
  else if st == 6 || st == 7 || (s.rxLane n).ignoring || !upstream s then
    if autobaudOn s n then dropLock s n else s
  else if autobaudOn s n then
    let s1 := abSearch s n
    if (s.rxLane n).silentDue then raiseSilent s1 n else s1
  else if st == 1 then s.set F.rx_STATE n 3
  else s

/-- REARM written to LANE_RX_CFG. -/
def execRearm (lane : Nat) (s : State) : Host.Outcome State Fault Refusal :=
  .next (if s.laneUp lane then rearmLane s lane else s)

/-- The counters that LANE_RX_CFG.CNT_CLR clears (R85, R91, R92); PEAK starts again at the present LEVEL. -/
def clearRxCounters (s : State) (n : Nat) : State :=
  (s.clear [F.rx_CHARS, F.rx_N_FALSE_START, F.rx_N_FRAMING, F.rx_N_PARITY, F.rx_N_BREAK, F.rx_N_OVERRUN, F.rx_N_FRAGMENT,
    F.rx_N_AB_REJECT, F.rx_STUCK_CNT, F.rx_SILENT_CNT] n).set F.rx_PEAK n (s.get F.rx_LEVEL n)

/-- LANE_RX_CNT_CLR. -/
def execLaneRxCntClr (lane : Nat) (s : State) : Host.Outcome State Fault Refusal :=
  .next (if s.laneUp lane then clearRxCounters s lane else s)

/-- A write of LANE_RX_BAUD (R86): in use at once, or at the stop sample of the character in progress. -/
def writeRxBaud (s : State) (n : Nat) (v : Word) : State :=
  let s1 := s.putRw (F.rx_DIV_INT.addr n) v
  if rxState s n == 4 then s1 else takeBaud s1 n

/-- LANE_RX_BAUD_WRITE. -/
def execLaneRxBaudWrite (lane : Nat) (v : Word) (s : State) : Host.Outcome State Fault Refusal :=
  .next (if s.laneUp lane then writeRxBaud s lane v else s)

/-! ### DMX-RX (R106, R107) -/

/-- Bytes of an upper-case hex number of `n` digits. -/
def hexBytes (n v : Nat) : List Byte :=
  (List.range n).map (fun i =>
    let d := v / 16 ^ (n - 1 - i) % 16
    BitVec.ofNat 8 (if d < 10 then 0x30 + d else 0x37 + d))

/-- Bytes of a decimal number below 100,000, without leading zeros. -/
def decBytes (v : Nat) : List Byte :=
  let ds := [v / 10000 % 10, v / 1000 % 10, v / 100 % 10, v / 10 % 10]
  (ds.dropWhile (fun d => d == 0) ++ [v % 10]).map (fun d => BitVec.ofNat 8 (0x30 + d))

/-- The talker and type "DXDMXR". -/
def dxdmxr : List Byte := [0x44#8, 0x58#8, 0x44#8, 0x4D#8, 0x58#8, 0x52#8]

/-- A DMXR sentence (R107, R133): packet number, first slot, slot values, CRC-16. -/
def dmxrSentence (num first : Nat) (slots : List Byte) : List Byte :=
  let body := dxdmxr ++ [0x2C#8] ++ decBytes num ++ [0x2C#8] ++ decBytes first ++ [0x2C#8] ++
    slots.flatMap (fun b => hexBytes 2 b.toNat)
  [0x25#8] ++ body ++ [0x2A#8] ++ hexBytes 4 (crc16 body) ++ [0x0D#8, 0x0A#8]

/-- The bytes of a DMXR sentence enter a source's parser context. -/
def feedSource (s : State) (src : Nat) (bytes : List Byte) (stamp ts : Nat) : State :=
  let so := s.source src
  s.putSource src { so with input := so.input ++ bytes.map (fun b => { data := b, stamp := stamp, tsSrc := 0, tsState := ts, dmxr := true }) }

/-- The sentences of a packet (R107): slots 0 to 399, then the rest if there are any. -/
def emitDmxr (s : State) (role num stamp ts : Nat) (slots : List Byte) : State :=
  let s1 := feedSource s role (dmxrSentence num 0 (slots.take 400)) stamp ts
  if slots.length ≤ 400 then s1 else feedSource s1 role (dmxrSentence num 400 (slots.drop 400)) stamp ts

/-- A packet ends (R106, R107): one that holds its start code is valid, counted, and sent where OUT says. -/
def endPacket (s : State) (n : Nat) : State :=
  let x := s.rxLane n
  if !x.dmxOpen || x.dmxSlots.isEmpty then dropPacket s n
  else
    let role := s.get F.tx_ROLE n
    let slots := x.dmxSlots
    let start0 := byteAt slots 0 == 0#8
    let s1 := (s.inc F.tx_DMX_PKTS n).putRx n
      { x with dmxOpen := false, dmxSlots := [], dmxLast := some slots, dmxCount := (x.dmxCount + 1) % 65536 }
    if s.on F.tx_NULL_ONLY n && !start0 then s1
    else
      let out := s.get F.tx_OUT n
      let same := s.on F.tx_CHANGE_ONLY n && x.dmxLast == some slots
      let s2 := if out.testBit 0 && !same && upstream s && decide (role < 96) then
          emitDmxr s1 role x.dmxCount x.dmxStamp x.dmxTs slots else s1
      if out.testBit 1 && start0 then offerDmx s2 role slots else s2

/-- A minimum of LANE_DMX_RX in LBC cycles: 0 behaves as the reset value (R120). -/
def breakMin (s : State) (n : Nat) : Nat := (if s.get F.tx_BREAK_MIN n == 0 then 88 else s.get F.tx_BREAK_MIN n) * 400

def mabMin (s : State) (n : Nat) : Nat := (if s.get F.tx_MAB_MIN n == 0 then 8 else s.get F.tx_MAB_MIN n) * 400

/-- One character of a DMX-RX lane in LBC cycles (R62, R106). -/
def dmxCharTime (s : State) (n : Nat) : Nat :=
  (2 + (if s.on F.rx_DATA7 n then 7 else 8) + b2n (parityOn (s.get F.rx_PARITY n))) * 1600

/-- DMX_RX_BREAK (R106): `low` and `mab` are the lengths of the low and of the mark after it, in LBC cycles, `edge` the
low's falling edge. -/
def execDmxRxBreak (lane : Nat) (low mab : Nat) (edge : EdgeAt) (s : State) : Host.Outcome State Fault Refusal :=
  let st := rxState s lane
  if laneMode s lane != 5 || !(st == 3 || st == 4 || st == 5) || decide (low < dmxCharTime s lane) then .next s
  else
    let s0 := (s.set F.rx_STATE lane 3).set F.rx_LINE lane 1
    let s0' := s0.putRx lane { s0.rxLane lane with confirmed := false }
    let s1 := if (s0'.rxLane lane).silentDue then raiseSilent s0' lane else s0'
    if low < breakMin s lane then .next (dmxShort (rxEvent s1 lane F.rx_N_BREAK Bit.rxBreak) lane)
    else
      let s2 := endPacket s1 lane
      if mab < mabMin s lane then .next (dmxShort s2 lane)
      else .next (s2.putRx lane { s2.rxLane lane with
        dmxOpen := true, dmxSlots := [], dmxStamp := edgeStamp s edge, dmxTs := s.tsAt (edgeStamp s edge) })

/-- DMX_RX_PACKET_END (R106, R107): after slot 512, or after 1 s of idle mark. -/
def execDmxRxPacketEnd (lane : Nat) (s : State) : Host.Outcome State Fault Refusal :=
  if laneMode s lane == 5 && (s.rxLane lane).dmxOpen then .next (endPacket s lane) else .next s

/-! ### SENSE (R109 to R112) -/

/-- GATE (R121): 0 behaves as 1. -/
def gateLen (s : State) (n : Nat) : Nat := max 1 (s.get F.tx_GATE n)

/-- A gate starts at a rising edge. -/
def openGate (x : LaneRx) : LaneRx :=
  { x with gateOpen := true, gateHigh := true, gatePeriods := 0, gateCycles := 0, gateHighCycles := 0 }

/-- SENSE_GATE_END (R110): the three results together, and the gate as a temperature for the zones that take it (R334). -/
def gateEnd (s : State) (n period high : Nat) : State :=
  let s1 := ((s.set F.tx_PERIOD_SUM n period).set F.tx_HIGH_SUM n high).incWrap F.tx_GATES n
  if s1.part.hasPixel && s1.shedUp 5 then offerGate s1 (s1.get F.tx_ROLE n) period high else s1

/-- An edge reaches the measurement (R110). -/
def senseMeasure (s : State) (n : Nat) (rising : Bool) (cycles : Nat) : State :=
  let x := s.rxLane n
  if !s.on F.tx_MEAS_EN n then s.putRx n { x with gateOpen := false }
  else if !x.gateOpen then (if rising then s.putRx n (openGate x) else s)
  else
    let y := { x with gateCycles := x.gateCycles + cycles, gateHigh := rising,
                      gateHighCycles := x.gateHighCycles + (if x.gateHigh then cycles else 0),
                      gatePeriods := x.gatePeriods + b2n rising }
    if rising && decide (gateLen s n ≤ y.gatePeriods) then
      gateEnd (s.putRx n (openGate y)) n y.gateCycles y.gateHighCycles
    else s.putRx n y

/-- The capture record of an edge (R112); the spec gives its SEQUENCE no value: a free value. -/
def senseRecord (s : State) (n : Nat) (rising : Bool) (stamp : Nat) : List Byte :=
  mkRecord { kind := 5, source := s.get F.tx_ROLE n, seqn := (Config.freeWord s.drawn).toNat, stamp := stamp, tsSrc := 0,
             tsState := s.tsAt stamp }
    (le 4 (s.get F.tx_EDGES n) ++ le 4 (b2n rising))

/-- SENSE_CAPTURE (R112, R546): not within 1 µs of the edge recorded before, and only while S2 and S4 are up. -/
def senseCapture (s : State) (n : Nat) (rising : Bool) (stamp : Nat) : State :=
  let x := s.rxLane n
  let want := (s.get F.tx_CAPT_EDGE n).testBit (if rising then 0 else 1)
  let close := match x.edgeRecorded with
    | some t => decide (stamp < t + 16000)
    | none => false
  if want && !close && upstream s then
    let s1 := s.putRx n { x with edgeRecorded := some stamp }
    stallOffer { s1 with drawn := s1.drawn + 1 } (s.get F.tx_CAPT_STALL n) (senseRecord s n rising stamp)
  else s

/-- SENSE_EDGE (R109 to R112): `cycles` LBC cycles after the edge before it. -/
def execSenseEdge (lane : Nat) (rising : Bool) (cycles : Nat) (edge : EdgeAt) (s : State) :
    Host.Outcome State Fault Refusal :=
  if laneMode s lane != 9 then .next s
  else
    let s1 := (s.inc F.tx_EDGES lane).setB F.rx_LINE lane rising
    let back := rising && (s1.rxLane lane).noSignal
    let s2 := if back then
        let t := raiseTx s1 lane Bit.txSignalBack
        t.putRx lane { t.rxLane lane with noSignal := false, gateOpen := false }
      else s1
    .next (senseCapture (senseMeasure s2 lane rising cycles) lane rising (edgeStamp s edge))

/-- SENSE_OVF (R110): a gate reaches 0xFFFF_FFFF cycles: PERIOD_SUM is reported as that and a new gate starts, at the next
rising edge. The gate was not completed: HIGH_SUM and GATES stand, and it is no temperature. -/
def execSenseOvf (lane : Nat) (s : State) : Host.Outcome State Fault Refusal :=
  let x := s.rxLane lane
  if laneMode s lane == 9 && s.on F.tx_MEAS_EN lane && x.gateOpen then
    .next (raiseTx ((s.putRx lane { x with gateOpen := false }).set F.tx_PERIOD_SUM lane 0xFFFFFFFF) lane Bit.txSenseOvf)
  else .next s

/-- NO_SIGNAL (R111, R334). -/
def execNoSignal (lane : Nat) (s : State) : Host.Outcome State Fault Refusal :=
  let x := s.rxLane lane
  if laneMode s lane == 9 && s.get F.rx_SILENT_TO lane != 0 && !x.noSignal then
    let s1 := raiseTx (s.putRx lane { x with noSignal := true }) lane Bit.txNoSignal
    .next (if s1.part.hasPixel && s1.shedUp 5 then senseLost s1 (s1.get F.tx_ROLE lane) else s1)
  else .next s

end Sys2Proof.Machine
end

