-- ==== Sys2Proof/Machine/LaneTx.lean ====
section
/-! DEFINITION. Listeners and lane transmitters (R93 to R105, R169 to R171, R223, R236): granting a record, sending it,
collisions and retries, DMX-TX packets, mode boundaries and role moves (R94, R95, R114, R115), and their rows. -/

namespace Sys2Proof.Machine

/-! ### Listeners (R169 to R171) -/

/-- The stalls a listener binds, with the class each is served at (R169, R170). -/
def bound (s : State) (l : Nat) : List (Nat × Nat) := boundStalls (s.binding l)

/-- The head record of a stall waits for its reader (R171). -/
def headWaits (s : State) (q : Nat) : Bool := stallOn s q && (s.stall q).reset.isNone && !(unreadLens s q).isEmpty

/-- A class of a listener has a waiting record. -/
def classWaits (s : State) (l c : Nat) : Bool := (bound s l).any (fun e => e.2 == c && headWaits s e.1)

/-- The grant slot counter G (R169, R171). -/
def slotG (s : State) (l : Nat) : Nat := bits ((s.binding l).getD 1 0).toNat 8 4

/-- The class a listener grants (R171). -/
def grantClass (s : State) (l : Nat) : Option Nat :=
  let g := slotG s l
  if classWaits s l 0 then some 0
  else if g == 7 && classWaits s l 2 then some 2
  else if g == 15 && classWaits s l 3 then some 3
  else [1, 2, 3].find? (classWaits s l)

/-- Store G. -/
def setSlotG (s : State) (l g : Nat) : State :=
  let w := s.binding l
  let w1 := (w.getD 1 0 &&& ~~~ 0xF00#32) ||| BitVec.ofNat 32 (g % 16 * 256)
  { s with bindings := tput s.bindings l [w.getD 0 0, w1] [0, 0] }

/-- A stall that the previous binding bound and the new one leaves out gets READER 0 at the listener's next choice (R179). -/
def dropUnbound (s : State) (l : Nat) : State :=
  let qs := tget s.unbound l []
  { qs.foldl (fun t q => setReader t q 0) s with unbound := tdrop s.unbound l }

/-- The record of a listener's head buffer (R49). -/
def headRecord (s : State) (q : Nat) : List Byte :=
  if (s.stall q).head.isEmpty then (recordAtRd s q).getD [] else (s.stall q).head

/-- The record a listener's choice grants, and the state after the choice (R171). -/
def chooseRecord (s : State) (l : Nat) : State × Option Granted :=
  let s1 := dropUnbound s l
  match grantClass s1 l with
  | none => (s1, none)
  | some c =>
    match (bound s1 l).find? (fun e => e.2 == c) with
    | none => (s1, none)
    | some e =>
      let rec0 := headRecord s1 e.1
      let s2 := if c == 0 then s1 else setSlotG s1 l (slotG s1 l + 1)
      (s2, some { q := e.1, cls := c, marker := fld rec0 4 20 4 == 3, source := fld rec0 4 0 16, seqn := u32 rec0 8,
                  dup := flag rec0 0 19, bytes := rec0.take (24 + fld rec0 0 0 16) })

/-- A record's body, without padding. -/
def Granted.body (g : Granted) : List Byte := g.bytes.drop 24

/-- TXC (R418): the last sequence number that an active unit released for a listener, class and source. -/
def noteRelease (s : State) (l : Nat) (g : Granted) : State :=
  if !s.part.hasTwin || g.marker || !s.on F.twin_OWN 0 || !s.on F.twin_PAIRED 0 then s
  else
    let e : TxcEntry := { listener := l, cls := g.cls, source := g.source, seqn := g.seqn }
    { s with twin := { s.twin with
        released := s.twin.released.filter (fun x => !(x.listener == l && x.cls == g.cls && x.source == g.source)) ++ [e] } }

/-- A listener releases a granted record (R100, R223): NEXT and RELEASE, unless the record has left its stall; the next record
is read into its head buffer (R49). -/
def releaseGranted (s : State) (l : Nat) (g : Granted) : State :=
  let s1 := noteRelease s l g
  if g.gone then s1 else readHead (moveDrop s1 g.q) (if l < 96 then 0 else 4) g.q

/-- A listener that has released a gap marker issues RUN (R231); a reset that the release met takes none. -/
def runAfterMarker (s : State) (g : Granted) : State :=
  if g.marker && !g.gone && (s.stall g.q).reset.isNone then runStall s g.q else s

/-- GAP_MARKER_RELEASE on a lane (R231, R236): nothing is sent, and the listener issues RUN. -/
def releaseMarker (s : State) (l : Nat) (g : Granted) : State :=
  raiseStall (runAfterMarker (releaseGranted s l g) g) g.q Bit.stReset

/-! ### DMX-TX images (R104) -/

/-- Decimal digits as a number; `none` for an empty field or another byte. -/
def decValue (b : List Byte) : Option Nat :=
  if b.isEmpty then none
  else b.foldl (fun m c => m.bind (fun n => if 0x30 ≤ c.toNat ∧ c.toNat ≤ 0x39 then some (n * 10 + (c.toNat - 0x30)) else none)) (some 0)

/-- Pairs of hex digits as bytes. -/
def hexPairs : List Byte → Option (List Byte)
  | [] => some []
  | [_] => none
  | a :: b :: r =>
    match hexDigit true a, hexDigit true b, hexPairs r with
    | some x, some y, some l => some (BitVec.ofNat 8 (x * 16 + y) :: l)
    | _, _, _ => none

/-- A line as a sentence whose fields can be read. -/
def lineOf (b : List Byte) : Sentence := { source := 0, long := byteAt b 0 == 0x25#8, bytes := b }

/-- A native sentence of type DMXS (R104). -/
def isDmxs (b : List Byte) : Bool :=
  byteAt b 0 == 0x25#8 && (addressOf (lineOf b)).drop 2 == [0x44#8, 0x4D#8, 0x58#8, 0x53#8]

/-- First slot and values of a DMXS sentence (R104, R132); `none` where a field is malformed. -/
def dmxsFields (b : List Byte) : Option (Nat × List Byte) :=
  match ((rawField (lineOf b) 1).map unescape).bind decValue, ((rawField (lineOf b) 2).map unescape).bind hexPairs with
  | some n, some v => if n ≤ 512 then some (n, v) else none
  | _, _ => none

/-- Store slot values into an image from slot `n`; those past slot 512 are discarded. -/
def putSlots (img : Tbl Byte) (n : Nat) : List Byte → Tbl Byte
  | [] => img
  | b :: r => if n ≤ 512 then putSlots (tput img n b 0) (n + 1) r else img

/-- DMX_UPD_ERR (R104). -/
def dmxUpdErr (s : State) (n : Nat) : State := raiseTx (s.inc F.tx_N_DMX_UPD_ERR n) n Bit.txDmxUpdErr

/-- DMXS_UPDATE (R104): another sentence leaves the image alone. -/
def dmxsUpdate (s : State) (n : Nat) (b : List Byte) (seqn : Nat) : State :=
  if !isDmxs b then s
  else match dmxsFields b with
    | none => dmxUpdErr s n
    | some (f, v) =>
      let s1 := s.putTx n { s.txLane n with dmxNext := putSlots (s.txLane n).dmxNext f v, dmxNextSeq := seqn }
      if 513 < f + v.length then dmxUpdErr s1 n else s1

/-! ### Sending (R96 to R103) -/

/-- The rate in use follows LANE_TX_BAUD at the start of a sentence, within its limits (R86, R96). -/
def takeTxBaud (s : State) (n : Nat) : State := s.putTx n { s.txLane n with baud := baudPeriod (s.reg (F.tx_DIV_INT.addr n)) }

/-- The receiver of an HDX lane ignores its line, from DE rising to the end of the echo guard (R102). -/
def guardRx (s : State) (n : Nat) : State :=
  if laneMode s n != 3 then s
  else
    let x := s.rxLane n
    let s1 := s.putRx n { x with ignoring := true, confirmed := false }
    let s2 := if x.silentDue then raiseSilent s1 n else s1
    s2.set F.rx_STATE n 1

/-- DE rises for a sentence (R98): its lead runs, at the rate now in LANE_TX_BAUD. -/
def raiseDe (s : State) (n : Nat) : State :=
  let s1 := guardRx (takeTxBaud s n) n
  s1.putTx n { s1.txLane n with de := true, phase := .lead, pos := 0, collided := false }

/-- A granted record reaches a sentence lane (R98, R99, R101): with DE still high the tail is cancelled and the record waits for
its first start bit. -/
def startRecord (s : State) (n : Nat) (g : Granted) : State :=
  let x := s.txLane n
  let s1 := s.putTx n { x with granted := some g, pos := 0, tries := 0, collided := false }
  if x.de then s1.putTx n { s1.txLane n with phase := .next }
  else if laneMode s n == 3 then s1.putTx n { s1.txLane n with phase := .waiting }
  else raiseDe s1 n

/-- The lane has finished with its record: it is released and no longer held. -/
def dropRecord (s : State) (n : Nat) : State :=
  let x := s.txLane n
  match x.granted with
  | none => s
  | some g => releaseGranted (s.putTx n { x with granted := none, pos := 0, tries := 0, collided := false }) (s.get F.tx_ROLE n) g

/-- The record goes back to the head of its stall, unreleased and uncounted (R94, R115). -/
def ungrant (s : State) (n : Nat) : State :=
  s.putTx n { s.txLane n with granted := none, pos := 0, tries := 0, collided := false }

/-- A collision (R103): it is counted, and after RETRY further attempts the record is dropped. -/
def collide (s : State) (n : Nat) : State :=
  let s1 := raiseTx (s.inc F.tx_N_COLLISION n) n Bit.txCollision
  let x := s1.txLane n
  if s.get F.tx_RETRY n ≤ x.tries then raiseTx ((dropRecord s1 n).inc F.tx_N_TX_DROP n) n Bit.txDrop
  else s1.putTx n { x with tries := x.tries + 1, collided := true, pos := 0 }

/-- The echo of a sent character differs from it (R103). -/
def echoBad (s : State) (n : Nat) (sent : Nat) (e : Echo) : Bool :=
  let d7 := s.on F.tx_DATA7 n
  let pm := s.get F.tx_PARITY n
  let d := dataMask d7 sent
  !e.started || dataMask d7 e.data.toNat != d || (parityOn pm && e.parity != parityBit pm d) || !e.stop

/-! ### Modes (R94, R95, R114, R115) -/

/-- The rest of a DMXR sentence that was open goes with it (R107, R138). DEDUCED (log). -/
def dropRest (s : State) (n : Nat) : State :=
  let src := s.get F.tx_ROLE n
  let so := s.source src
  s.putSource src { so with input := (so.input.dropWhile (fun b => b.dmxr && b.data != 0x0A#8)).drop (b2n ((so.input.map (·.dmxr)).headD false)) }

/-- The lane leaves what its mode was doing: an open sentence is discarded and counted (R82), a packet or gate in
progress goes, a pixel lane stops sending (R365). -/
def leaveMode (s : State) (n : Nat) : State :=
  let m := laneMode s n
  let s1 := if receives m && laneOpen s n then
      dropRest (roleCause (rxEvent s n F.rx_N_FRAGMENT Bit.rxFragment) n 6) n
    else s
  let x := s1.rxLane n
  let s2 := s1.putRx n { x with ignoring := false, silentDue := false, heard := false, confirmed := false, dmxOpen := false,
                                dmxSlots := [], gateOpen := false, noSignal := false }
  let s3 := (s2.set F.rx_STATE n 0).set F.rx_STUCK n 0
  let s4 := s3.putTx n { s3.txLane n with phase := .idle, de := false, dmxRunning := false, tickDue := false, collided := false }
  let e := s4.encLane n
  if pixelMode m then
    (s4.putEnc n { e with frames := [], idleUntil := 0, phase := .idle, segs := [], sent := [], cut := false, holdStop := false,
                          h := 0, hNext := none, active := false, period := 0 }).set F.enc_SENDING n 0
  else s4

/-- A mode takes effect (R94), a mode the variant lacks as OFF: MODE_DONE; a receive mode waits for its re-arm (R80) with no lock (R71); a DMX-TX lane
raises DE for good (R105). -/
def enterMode (s : State) (n mode : Nat) : State :=
  let m := if mode < 10 && (s.part.hasPixel || !pixelMode mode) then mode else 0
  let s1 := ((leaveMode s n).set F.tx_ACTIVE n m).set F.tx_PENDING n 0
  let s2 := if receives m then dropLock (s1.set F.rx_STATE n 1) n else s1
  let s3 := if m == 4 then s2.putTx n { s2.txLane n with de := true } else s2
  raiseTx s3 n Bit.txModeDone

/-- A lane's part of a role that moves (R114): receiver and transmitter configuration, as (block, first offset, words). -/
def roleRegs : List (Blk × Nat × Nat) := [(.laneRx, 0, 5), (.laneTx, 4, 8), (.encLane, 0, 8)]

/-- Copy a range of registers from one lane to another. -/
def copyRegs (s : State) (a b : Nat) (e : Blk × Nat × Nat) : State :=
  (List.range e.2.2).foldl (fun t k =>
    t.setReg ⟨e.1, b, e.2.1 + 4 * k⟩ (s.reg ⟨e.1, a, e.2.1 + 4 * k⟩)) s

/-- Step 2 and 3 of R115 and R114: the new lane takes the role and its mode, the old lane goes to OFF with no role, and
ROLE_MOVED is set on both. -/
def completeMove (s : State) (old new : Nat) : State :=
  let role := s.get F.tx_ROLE old
  let mode := s.get F.tx_ACTIVE old
  let pend := s.on F.tx_PENDING old
  let want := s.get F.tx_MODE old
  let s1 := roleRegs.foldl (fun t e => copyRegs t old new e) s
  let s2 := s1.putTx new { s1.txLane new with dmxImage := (s.txLane old).dmxImage, dmxNext := (s.txLane old).dmxNext,
                                              granted := none, phase := .idle, parked := none, moveTo := none }
  let s3 := { s2 with stagedEnc := match tget s.stagedEnc old [] with
                | [] => s2.stagedEnc
                | w => tput (tdrop s2.stagedEnc old) new w [] }
  let s4 := (leaveMode s3 old).putTx old { (leaveMode s3 old).txLane old with granted := none, moveTo := none, dmxImage := [], dmxNext := [] }
  let s5 := (((s4.set F.tx_ACTIVE old 0).set F.tx_MODE old 0).set F.tx_PENDING old 0).set F.tx_ROLE old 127
  let s6 := ((s5.set F.tx_PADDOCK new 0).set F.tx_ROLE new role).set F.tx_ACTIVE new mode
  let s7 := ((s6.set F.tx_MODE new want).setB F.tx_PENDING new pend)
  let s8 := takeBaud (takeTxBaud s7 new) new
  let s9 := if receives mode then dropLock (s8.set F.rx_STATE new 1) new else s8
  let s10 := if mode == 4 then s9.putTx new { s9.txLane new with de := true } else s9
  let s11 := ringShow s10 role
  raiseTx (raiseTx s11 old Bit.txRoleMoved) new Bit.txRoleMoved

/-- The lane reaches its boundary with the pins its own: a role moves, or the pending mode takes effect. -/
def atBoundary (s : State) (n : Nat) : State :=
  match (s.txLane n).moveTo with
  | some new =>
    let s1 := completeMove s n new
    answerWaits s1 (fun w => match w with
      | .roleMove l _ => l == n
      | _ => false) true (fun _ _ => (St.ok, le 4 n))
  | none => if s.on F.tx_PENDING n then enterMode s n (s.get F.tx_MODE n) else s

/-- The character in progress ends under a mode that must go (R94, R95): with DRAIN 0 the record is aborted, released and
counted; a role move (R115) leaves it at the head of its stall; then the tail runs. -/
def cutSentence (s : State) (n : Nat) : State :=
  let s1 := if (s.txLane n).moveTo.isSome then ungrant s n
    else raiseTx ((dropRecord s n).inc F.tx_N_TX_ABORT n) n Bit.txAbort
  s1.putTx n { s1.txLane n with phase := .tail }

/-- LANE_MODE_BOUNDARY as an operation (R94, R95). -/
def reachBoundary (s : State) (n : Nat) : State :=
  let x := s.txLane n
  if !(s.on F.tx_PENDING n || x.moveTo.isSome) then s
  else
    match x.phase with
    | .sending => if x.moveTo.isNone && s.on F.tx_DRAIN n then s else cutSentence s n
    | .lead => (ungrant s n).putTx n { (ungrant s n).txLane n with phase := .tail }
    | .next => (ungrant s n).putTx n { (ungrant s n).txLane n with phase := .tail }
    | .tail => s
    | _ =>
      let s1 := ungrant s n
      if laneMode s n == 4 && x.de then s1.putTx n { s1.txLane n with phase := .tail, dmxRunning := false }
      else atBoundary s1 n

/-- A write of LANE_MODE.MODE (R94, R113): the mode in force cancels a pending write and completes at once; a paddock lane
takes none. -/
def writeMode (s : State) (n mode : Nat) : State :=
  if s.on F.tx_PADDOCK n then s
  else if mode == s.get F.tx_ACTIVE n then
    raiseTx ((s.set F.tx_MODE n mode).set F.tx_PENDING n 0) n Bit.txModeDone
  else (s.set F.tx_MODE n mode).set F.tx_PENDING n 1

/-! ### Rows -/

/-- An owner that hands over grants no new records (R424). -/
def grantsStopped (s : State) : Bool :=
  match s.twin.handover with
  | some h => h.giving && (h.stage == 2 || h.stage == 3)
  | none => false

/-- A lane that serves a listener binding (R169). -/
def servesListener (m : Nat) : Bool := m == 2 || m == 3 || m == 4

/-- The transmit lane of an engaged bypass pair takes no record (R563). -/
def bypassed (s : State) (n : Nat) : Bool := n % 2 == 1 && s.pairs.contains (n / 2)

/-- LISTENER_GRANT on a lane (R104, R171, R236). -/
def laneGrant (s : State) (l n : Nat) : State :=
  let x := s.txLane n
  if !servesListener (laneMode s n) || x.granted.isSome || x.moveTo.isSome || s.on F.tx_PENDING n || !upstream s || grantsStopped s ||
      bypassed s n || !(x.phase = .idle || x.phase = .tail) then s
  else
    match chooseRecord s l with
    | (s1, none) => s1
    | (s1, some g) =>
      if g.marker then releaseMarker s1 l g
      else if laneMode s n == 4 then releaseGranted (dmxsUpdate s1 n g.body g.seqn) l g
      else startRecord s1 n g

/-- The transmitter of port p may take a listener record (R443, R447). -/
def portReady (s : State) (p : Nat) : Bool :=
  let x := s.ethPort p
  decide (p < s.part.ports) && s.shedUp 7 && s.shedUp 4 && s.on F.eth_LINK p && s.on F.eth_DEST_VALID p && s.owns && !grantsStopped s &&
    x.granted.isNone && !x.sending

/-- LISTENER_GRANT on an Ethernet port (R447): the record goes out as one datagram; it is released when the frame ends. -/
def portGrant (s : State) (l p : Nat) : State :=
  if !portReady s p then s
  else
    match chooseRecord s l with
    | (s1, none) => s1
    | (s1, some g) =>
      let d : Dgram := { ip := s1.reg (F.eth_DEST_IP.addr p), udp := s1.get F.eth_DEST_UDP p, payload := g.bytes }
      let x := s1.ethPort p
      s1.putEth p { x with out := x.out ++ [d], granted := some g, sending := true, sentListener := true }

/-- LISTENER_GRANT (R171). -/
def execListenerGrant (listener : Nat) (s : State) : Host.Outcome State Fault Refusal :=
  if listener < 96 then
    match roleLane s listener with
    | none => .next s
    | some n => .next (laneGrant s listener n)
  else .next (portGrant s listener (listener - 96))

/-- HDX_TURN_READY (R101). -/
def execHdxTurnReady (lane : Nat) (s : State) : Host.Outcome State Fault Refusal :=
  if laneMode s lane == 3 && (s.txLane lane).phase = .waiting && rxState s lane != 4 && !laneOpen s lane && upstream s then
    .next (raiseDe s lane)
  else .next s

/-- TX_LEAD_END (R98, R99): the first start bit begins, after the lead or with DE still high; in the second case the sentence
takes its rate there (R96). -/
def execTxLeadEnd (lane : Nat) (s : State) : Host.Outcome State Fault Refusal :=
  let x := s.txLane lane
  if s.laneUp lane && x.phase = .lead then .next (s.putTx lane { x with phase := .sending, pos := 0 })
  else if s.laneUp lane && x.phase = .next then
    let s1 := takeTxBaud s lane
    .next (s1.putTx lane { s1.txLane lane with phase := .sending, pos := 0 })
  else .next s

/-- The slots of a DMX packet: SLOTS above 512 behaves as 512 (R120). -/
def dmxLen (s : State) (n : Nat) : Nat := min 512 (s.get F.tx_DMX_SLOTS n) + 1

/-- The slots of the packet in progress. -/
def dmxSlotsOf (s : State) (n : Nat) : List Byte := (List.range (dmxLen s n)).map (fun i => tget (s.txLane n).dmxImage i 0)

/-- A slot of a DMX packet has been sent; the last one ends the packet (R105, R123, R405). -/
def dmxSlotEnd (s : State) (n : Nat) : State :=
  let x := s.txLane n
  let sent := charBits false 0 2 0 (tget x.dmxImage x.pos 0).toNat
  if x.pos + 1 < dmxLen s n then s.putTx n { x with pos := x.pos + 1, driven := sent }
  else noteItem ((s.putTx n { x with pos := 0, dmxRunning := false, driven := sent }).inc F.tx_DMX_PKTS n) n 1 0 x.dmxSeq
    (crc32c (dmxSlotsOf s n))

/-- The levels of character `k` of a record as the lane sends it (R97): the ICG idle bits follow every character but the last. -/
def sentBits (s : State) (n : Nat) (body : List Byte) (k : Nat) : List Bool :=
  charBits (s.on F.tx_DATA7 n) (s.get F.tx_PARITY n) (1 + s.get F.tx_STOP2 n) (if k + 1 < body.length then s.get F.tx_ICG n else 0)
    (byteAt body k).toNat

/-- A character of a sentence has been sent (R97, R100, R103). -/
def sentenceCharEnd (s : State) (n : Nat) (e : Echo) : State :=
  let x := s.txLane n
  match x.granted with
  | none => s
  | some g =>
    let checked := laneMode s n == 3 && s.on F.tx_ECHO_CHECK n
    let s0 := s.putTx n { x with driven := sentBits s n g.body x.pos }
    if checked && echoBad s n (byteAt g.body x.pos).toNat e then
      let s1 := collide s0 n
      s1.putTx n { s1.txLane n with phase := .tail }
    else if x.pos + 1 < g.body.length then s0.putTx n { s0.txLane n with pos := x.pos + 1 }
    else
      let s1 := noteItem ((dropRecord s0 n).inc F.tx_SENT n) n 0 g.source g.seqn (crc32c g.body)
      s1.putTx n { s1.txLane n with phase := .tail }

/-- TX_CHARACTER_END (R97). -/
def execTxCharacterEnd (lane : Nat) (echo : Echo) (s : State) : Host.Outcome State Fault Refusal :=
  let x := s.txLane lane
  if laneMode s lane == 4 && x.dmxRunning then .next (dmxSlotEnd s lane)
  else if s.laneUp lane && x.phase = .sending then .next (sentenceCharEnd s lane echo)
  else .next s

/-- DE falls: an HDX lane begins its echo guard. A mode or move that waits takes the pins at the end of the tail (R94, R115),
its record left at the head of its stall; else a record to retry backs off. -/
def deFall (s : State) (n : Nat) : State :=
  let x := s.txLane n
  let wants := s.on F.tx_PENDING n || x.moveTo.isSome
  let s1 := s.putTx n { x with de := false, phase := if x.collided && !wants then .backoff else .idle }
  if wants then atBoundary (ungrant s1 n) n else s1

/-- DE_TAIL_END (R98). -/
def execDeTailEnd (lane : Nat) (s : State) : Host.Outcome State Fault Refusal :=
  if s.laneUp lane && (s.txLane lane).phase = .tail then .next (deFall s lane) else .next s

/-- LEAD_COLLISION (R103): DE falls at once. -/
def execLeadCollision (lane : Nat) (s : State) : Host.Outcome State Fault Refusal :=
  if laneMode s lane == 3 && s.on F.tx_ECHO_CHECK lane && (s.txLane lane).phase = .lead then
    .next (deFall (collide s lane) lane)
  else .next s

/-- BACKOFF_END (R103): the sentence waits for its turn again (R101). -/
def execBackoffEnd (lane : Nat) (s : State) : Host.Outcome State Fault Refusal :=
  let x := s.txLane lane
  if s.laneUp lane && x.phase = .backoff then .next (s.putTx lane { x with phase := .waiting, collided := false, pos := 0 })
  else .next s

/-- ECHO_GUARD_END (R102): the receiver stops ignoring its line and arms through the re-arm timer. -/
def execEchoGuardEnd (lane : Nat) (s : State) : Host.Outcome State Fault Refusal :=
  let x := s.rxLane lane
  if laneMode s lane == 3 && x.ignoring && !(s.txLane lane).de then
    let s1 := s.putRx lane { x with ignoring := false }
    .next (s1.set F.rx_STATE lane (if s1.on F.rx_STUCK lane then (if s1.on F.rx_LINE lane then 7 else 6) else 1))
  else .next s

/-- A frame tick reaches the DMX-TX lanes that wait for one (R105, SYNC_TICK 1); a lane that is sending a packet skips it. -/
def syncDmx (s : State) : State :=
  (List.range s.part.lanes).foldl (fun t n =>
    if laneMode t n == 4 && t.on F.tx_DMX_SYNC_TICK n && !(t.txLane n).dmxRunning then t.putTx n { t.txLane n with tickDue := true } else t) s

/-- DMX_BREAK (R104, R105): a packet starts and the image buffers swap; with SYNC_TICK 1 only for a frame tick. -/
def execDmxBreak (lane : Nat) (s : State) : Host.Outcome State Fault Refusal :=
  let x := s.txLane lane
  if laneMode s lane == 4 && !x.dmxRunning && x.phase = .idle && x.moveTo.isNone && !s.on F.tx_PENDING lane &&
      !grantsStopped s && (!s.on F.tx_DMX_SYNC_TICK lane || x.tickDue) then
    .next (s.putTx lane { x with dmxRunning := true, pos := 0, de := true, dmxImage := x.dmxNext, dmxSeq := x.dmxNextSeq,
                                 tickDue := false })
  else .next s

/-- LANE_MODE_BOUNDARY (R94, R95, R115). -/
def execLaneModeBoundary (lane : Nat) (s : State) : Host.Outcome State Fault Refusal :=
  .next (if s.laneUp lane then reachBoundary s lane else s)

/-- LANE_MODE_WRITE (R94). -/
def execLaneModeWrite (lane mode : Nat) (s : State) : Host.Outcome State Fault Refusal :=
  .next (if s.laneUp lane then writeMode s lane mode else s)

/-- LANE_TX_BAUD_WRITE (R96): the rate is used from the start of the next sentence. -/
def execLaneTxBaudWrite (lane : Nat) (v : Word) (s : State) : Host.Outcome State Fault Refusal :=
  .next (if s.laneUp lane then s.putRw (F.tx_DIV_INT.addr lane) v else s)

/-- The counters that LANE_TX_CFG.CNT_CLR clears (R118, R123). -/
def clearTxCounters (s : State) (n : Nat) : State :=
  s.clear [F.tx_SENT, F.tx_N_COLLISION, F.tx_N_TX_DROP, F.tx_N_TX_ABORT, F.tx_DMX_PKTS, F.tx_N_DMX_SHORT,
    F.tx_N_DMX_UPD_ERR, F.tx_EDGES] n

/-- LANE_TX_CNT_CLR. -/
def execLaneTxCntClr (lane : Nat) (s : State) : Host.Outcome State Fault Refusal :=
  .next (if s.laneUp lane then clearTxCounters s lane else s)

end Sys2Proof.Machine
end

