-- ==== Sys2Proof/Machine/ParserRows.lean ====
section
/-! DEFINITION. The rows of the parser: PARSER_BYTE, PARSE_CNT_CLR and SEQ_CLR (R134, R145, R153). -/

namespace Sys2Proof.Machine

/-- A source is fitted and its parser powered: S2, and S4 for the staging copies. -/
def parserOn (s : State) (src : Nat) : Bool := s.part.hasSource src && upstream s

/-- The parser takes the byte in a lane's holding register (R75), with the flags of R68 and R69; not while the lane's
2 KiB staging ring is full. -/
def takeHold (s : State) (role : Nat) : State :=
  match roleLane s role with
  | none => s
  | some n =>
    match (s.rxLane n).hold with
    | none => s
    | some h =>
      if 2048 ≤ ringLevel s role then s
      else
        let s1 := s.putRx n { s.rxLane n with hold := none }
        let tol := s.on F.rx_FE_TOLERATE n
        parserTake s1 role { data := h.data, stamp := h.stamp, tsSrc := 0, tsState := h.tsState } (h.parityBad || (h.framingBad && !tol))
          (h.framingBad && tol)

/-- One byte of a source: the bytes the hub itself brings (DMXR, a datagram, a host sentence) in their order, else a
lane's holding register. A datagram's bytes are read from the receive buffer (P4); a DUE there loses the frame (R453). -/
def sourceByte (s : State) (src : Nat) : State :=
  let so := s.source src
  match so.input with
  | [] => if isRole src then takeHold s src else s
  | i :: r =>
    if isRole src && decide (2048 ≤ ringLevel s src) then s
    else
      let t := touchBytes s 4 i.spot.toList
      if t.2 then frameLost t.1 src i.frame []
      else parserTake (t.1.putSource src { so with input := r }) src { i with data := (i.spot.map t.1.yardByte).getD i.data } false false

/-- PARSER_BYTE (R134). -/
def execParserByte (src : Nat) (s : State) : Host.Outcome State Fault Refusal :=
  .next (if parserOn s src then sourceByte s src else s)

/-- The counters of PARSE_CFG.CNT_CLR (R153). -/
def clearParseCounters (s : State) (src : Nat) : State :=
  s.clear [F.parse_RERUN, F.parse_RERUN_FAIL, F.parse_ACCEPTED, F.parse_RUNT, F.parse_OVERLONG, F.parse_BAD_CHECK,
    F.parse_MALFORMED, F.parse_RESTART, F.parse_STRAY, F.parse_DAMAGED, F.parse_DMG_STUCK, F.parse_DMG_BREAK,
    F.parse_DMG_OVERRUN, F.parse_DMG_FLAG, F.parse_DMG_ICT, F.parse_DMG_MODE] src

/-- PARSE_CNT_CLR. -/
def execParseCntClr (src : Nat) (s : State) : Host.Outcome State Fault Refusal :=
  .next (if s.part.hasSource src && s.shedUp 2 then clearParseCounters s src else s)

/-- SEQ_CLR (R145): the counter to 0; the next sentence carries SEQ_START. -/
def clearSeq (s : State) (src : Nat) : State :=
  (s.set F.parse_NEXT src 0).putSource src { s.source src with seqStart := true, lastNext := 0 }

/-- SEQ_CLR. -/
def execSeqClr (src : Nat) (s : State) : Host.Outcome State Fault Refusal :=
  .next (if s.part.hasSource src && s.shedUp 2 then clearSeq s src else s)

end Sys2Proof.Machine
end

