-- ==== Sys2Proof/Machine/Router.lean ====
section
/-! DEFINITION. The router (R155 to R188): its tables in two copies, the classifier's choice, matching, actions,
decimation and buckets, hooks, copies and their reruns, the commit. -/

namespace Sys2Proof.Machine

/-! ### Tables (R157, R160, R165, R176) -/

/-- The copy in force and the inactive one. -/
def State.rtActive (s : State) : Nat := s.get F.router_ACTIVE 0

def State.rtInactive (s : State) : Nat := 1 - s.rtActive

/-- An absent record of each table. -/
def entry0 : List Word := List.replicate 13 0

def action0 : List Word := List.replicate 4 0

def group0 : List Word := List.replicate 8 0

/-- Entry n, action n and group n of a copy. -/
def State.entry (s : State) (c n : Nat) : List Word := tget s.entries (4096 * c + n) entry0

def State.action (s : State) (c n : Nat) : List Word := tget s.actions (4096 * c + n) action0

def State.group (s : State) (c n : Nat) : List Word := tget s.groups (1024 * c + n) group0

/-- Store them. -/
def State.putEntry (s : State) (c n : Nat) (w : List Word) : State :=
  { s with entries := tput s.entries (4096 * c + n) w entry0 }

def State.putAction (s : State) (c n : Nat) (w : List Word) : State :=
  { s with actions := tput s.actions (4096 * c + n) w action0 }

def State.putGroup (s : State) (c n : Nat) (w : List Word) : State :=
  { s with groups := tput s.groups (1024 * c + n) w group0 }

/-- A field of a record held as words. -/
def wfld (w : List Word) (k lo n : Nat) : Nat := bits (w.getD k 0).toNat lo n

/-- An entry as it is stored (R157, R158): reserved bits read 0, the value is ANDed with the mask. -/
def entryClean (w : List Word) : List Word :=
  let keep : List Word := [0xFFFFFFFF, 0xFFFFFFFF, 0xFFFFFFFF, 0xFFFFFFFF, 0xFFFFFFFF, 0x7]
  let mask := (List.range 6).map (fun i => w.getD (6 + i) 0 &&& keep.getD i 0)
  (List.range 6).map (fun i => w.getD i 0 &&& mask.getD i 0) ++ mask ++ [w.getD 12 0 &&& 0x00010FFF]

/-- An action record without its reserved bits (R160). -/
def actionClean (w : List Word) : List Word :=
  [w.getD 0 0 &&& 0xFFFF3FFF, w.getD 1 0 &&& 0x0FFFFFFF, w.getD 2 0 &&& 0x1FFF, 0]

/-- A group record without its reserved bits (R165). -/
def groupClean (w : List Word) : List Word :=
  (List.range 7).map (fun i => w.getD i 0) ++ [w.getD 7 0 &&& 0xFFFF]

/-- The stalls of a group, ascending (R165). -/
def groupStalls (w : List Word) : List Nat :=
  (List.range 240).filter (fun q => (w.getD (q / 32) 0).toNat.testBit (q % 32))

/-- The key of a sentence (R157). -/
def keyWords (x : Sentence) : List Word :=
  let a := addressOf x
  let ty := (a.drop 2).take 8
  let p := firstField x
  [BitVec.ofNat 32 (x.source % 65536 + (byteAt a 0).toNat * 65536 + (byteAt a 1).toNat * 16777216),
   BitVec.ofNat 32 (u32 ty 0), BitVec.ofNat 32 (u32 ty 4), BitVec.ofNat 32 (u32 p 0), BitVec.ofNat 32 (u32 p 4),
   BitVec.ofNat 32 (b2n x.long + b2n x.nock * 2 + b2n x.bad * 4)]

/-- An entry matches a key (R158). -/
def entryMatches (w key : List Word) : Bool :=
  (w.getD 12 0).toNat.testBit 16 &&
    (List.range 6).all (fun i => (key.getD i 0 &&& w.getD (6 + i) 0) == w.getD i 0)

/-- The lowest-numbered valid entry of a copy that matches (R159). -/
def matchEntry (s : State) (c : Nat) (key : List Word) : Option Nat :=
  ((s.entries.find? (fun e => e.1 / 4096 == c && entryMatches e.2 key)).map (fun e => e.1 % 4096))

/-- The classification of a sentence under a copy: what R149 captures. A miss has ENTRY 0 and nothing else. -/
def lookup (s : State) (c : Nat) (x : Sentence) : Captured :=
  match matchEntry s c (keyWords x) with
  | none =>
    { verdict := { miss := true, entry := 0, forward := false, cls := 0, group := 0, hookKind := 0, hookTarget := 0 },
      num := 0, action := action0, copy := c, stalls := [] }
  | some n =>
    let num := wfld (s.entry c n) 12 0 12
    let a := s.action c num
    { verdict := { miss := false, entry := n, forward := wfld a 0 0 1 == 1, cls := wfld a 0 1 2, group := wfld a 0 4 10,
                   hookKind := wfld a 2 0 3, hookTarget := wfld a 2 3 10 },
      num := num, action := a, copy := c, stalls := groupStalls (s.group c (wfld a 0 4 10)) }

/-! ### The choice (R155) -/

/-- A sentence of the source is under rerun (R150): back at the parser's close, or with copies to write again. -/
def underRerun (s : State) (src : Nat) : Bool :=
  (s.source src).closing.any (·.offered) ||
    (s.routerQ ++ s.voterQ).any (fun e => e.rerun && e.sent.source == src)

/-- The sources the classifier may serve, in ascending order. -/
def waitingSources (s : State) : List Nat :=
  (s.srcs.map (·.1)).filter (fun src => !(s.source src).closed.isEmpty && !underRerun s src)

/-- Round robin after the source served last. -/
def roundRobin (last : Option Nat) (l : List Nat) : Option Nat :=
  match l.find? (fun x => match last with
    | some p => decide (p < x)
    | none => true) with
  | some x => some x
  | none => l.head?

/-- The source served next: eligible ones before all others. -/
def chooseSource (s : State) : Option Nat :=
  let l := waitingSources s
  let el := l.filter (fun x => s.eligible.contains x)
  if el.isEmpty then roundRobin s.lastOther l else roundRobin s.lastElig el

/-! ### Actions (R162 to R164) -/

/-- An action's decimation and bucket state (R178). -/
def State.actState (s : State) (n : Nat) : ActState := tget s.acts n {}

/-- Step 5 (R163): whether the sentence passes. -/
def decimate (s : State) (num n : Nat) : State × Bool :=
  if n < 2 then (s, true)
  else
    let a := s.actState num
    ({ s with acts := tput s.acts num { a with dcnt := (a.dcnt + 1) % n } {} }, a.dcnt == 0)

/-- Step 6 (R164): the token bucket at a sentence's timestamp, in 1/65,536 of a token. -/
def bucket (s : State) (num rate burst t : Nat) : State × Bool :=
  if rate == 0 then (s, true)
  else
    let a := s.actState num
    let depth := max 1 burst * 65536
    let (tok, at') := match a.last with
      | none => (depth, t)
      | some l => if l < t then (min depth (a.tokens + rate * (t - l) * 65536 / 16000000000), t) else (a.tokens, l)
    let pass := decide (65536 ≤ tok)
    let tok' := if pass then tok - 65536 else tok
    ({ s with acts := tput s.acts num { a with tokens := tok', last := some at' } {} }, pass)

/-! ### Hooks (R172 to R175) -/

/-- The value of a first-field prefix (R173). -/
def hookValue (p : List Byte) : Option Nat :=
  let d := p.takeWhile (fun b => b != 0#8)
  if d.length < 1 ∨ 5 < d.length then none
  else match decValue d with
    | some v => if v ≤ 65535 then some v else none
    | none => none

/-- A hook latches: kinds 1 to 3 a value for the next tick, kind 4 a mode request from a cue (R175, R524). -/
def runHook (s : State) (x : Sentence) (kind target : Nat) : State :=
  if kind == 0 || decide (4 < kind) then s
  else if kind == 4 then
    let s1 := routerInc s F.router_HOOKS
    { s1 with modeReqs := s1.modeReqs ++ [{ origin := 1, what := 0, slot := target % 32 }] }
  else
    match hookValue (firstField x) with
    | none => raiseRouter (routerInc s F.router_HOOK_ERR) Bit.rtHookErr
    | some v => latchValue (routerInc s F.router_HOOKS) { kind := kind, target := target, value := v }

/-! ### Classification (R162) -/

/-- A hit counts (R188). -/
def countHit (s : State) (n : Nat) : State :=
  let v := tget s.hits n 0
  let w := min (v + 1) 0xFFFFFFFF
  let s1 := { s with hits := tput s.hits n w 0 }
  if w == 0xFFFFFFFF && v != w then raiseRouter s1 Bit.rtCntHeld else s1

/-- The judges take a sentence (R190): its source is eligible, it is not BAD, S3 is up. -/
def judgesTake (s : State) (x : Sentence) : Bool := s.eligible.contains x.source && !x.bad && s.shedUp 3

/-- What drops a sentence at steps 2 to 6, with the counter and flag it takes, or `none` when it passes. -/
def dropStep (s : State) (x : Sentence) (c : Captured) : State × Option (Field × Option Nat) :=
  let elig := s.eligible.contains x.source
  if !c.verdict.forward then (s, some (F.router_DROPPED, none))
  else if x.bad && wfld c.action 0 3 1 == 0 then (s, some (F.router_BAD_DROPPED, none))
  else if c.verdict.cls == 0 && !(elig && !x.bad) then (s, some (F.router_CLASS0_REFUSED, some Bit.rtClass0Refused))
  else
    let d := decimate s c.num (wfld c.action 0 16 16)
    if !d.2 then (d.1, some (F.router_DECIMATED, none))
    else
      let b := bucket d.1 c.num (wfld c.action 1 0 20) (wfld c.action 1 20 8) x.stamp
      if !b.2 then (b.1, some (F.router_RATE_DROP, some Bit.rtRateDrop)) else (b.1, none)

/-- Give the sentence to the judges' list. -/
def toJudges (s : State) (x : Sentence) (dropped : Bool) : State :=
  if judgesTake s x then { s with ballots := s.ballots ++ [{ sent := x, dropped := dropped }] } else s

/-- The copies of a sentence of classes 1 to 3 are enqueued (R165, R166). -/
def enqueueCopies (s : State) (x : Sentence) (c : Captured) : State :=
  if c.stalls.isEmpty then
    freeSentence (raiseRouter (routerInc s F.router_EMPTY_GROUP) Bit.rtEmptyGroup) x
  else { s with routerQ := s.routerQ ++ [{ sent := x, verdict := c.verdict, stalls := c.stalls }] }

/-- The end of a classification without a fault (R159, R162, R187). The judges take a MISS like a sentence that steps 2 to 6
dropped (DESIGN CHOICE: no row of R193 names it). -/
def applyAction (s : State) (x0 : Sentence) (c : Captured) : State :=
  let x := { x0 with cap := some c }
  let s1 := routerInc s F.router_CLASSIFIED
  if c.verdict.miss then
    freeSentence (toJudges (raiseRouter (routerInc s1 F.router_MISS) Bit.rtMiss) x true) x
  else
    let s2 := countHit s1 c.verdict.entry
    let s3 := if !x.bad && c.verdict.cls != 0 then runHook s2 x c.verdict.hookKind c.verdict.hookTarget else s2
    let d := dropStep s3 x c
    match d.2 with
    | some (f, fl) =>
      let s4 := routerInc d.1 f
      let s5 := match fl with
        | some b => raiseRouter s4 b
        | none => s4
      freeSentence (toJudges s5 x true) x
    | none =>
      if c.verdict.cls == 0 then (if judgesTake d.1 x then toJudges d.1 x false else freeSentence d.1 x)
      else enqueueCopies (toJudges d.1 x true) x c

/-- The yard words of the tables region in which the router's tables stand (R30, R341). -/
def tableWord (w : Nat) : Bool := decide (0x340000 ≤ w) && decide (w < 0x355000)

/-- The classifier reads word `w` of its tables through P0 (R24, R258): whether it reads detected-uncorrectable (R148). -/
def tableRead (s : State) (w : Nat) : State × Bool :=
  if tableWord w && !s.yardErr.isEmpty then
    let r := readWord s 0 w
    (r.1, r.2 == rspDue)
  else (s, false)

/-- A rerun from parser close, or the end of a sentence that has had three (R148, R151). -/
def rerunClose (s : State) (x : Sentence) : State :=
  match countRerun s x with
  | (s1, some z) => let so := s1.source z.source; s1.putSource z.source { so with closing := z :: so.closing }
  | (s1, none) => failSentence s1 x

/-! ### The voter log and suspicion (R195, R196, R204), which a classification's judge fault reaches too -/

/-- The judges voting, and the judge out (3: none) (R206). -/
def judgesIn (s : State) : Nat := s.get F.vote_IN 0

/-- A judge's score. -/
def judgeScore (s : State) (j : Nat) : Nat := s.get (scoreField j) 0

/-- The body of a voter-log record (R204). -/
def voterBody (outcome present agree : Nat) (degraded : Bool) (judge score diff : Nat) (dig : List Nat) (ent : List Nat)
    (entP : Nat) : List Byte :=
  le 4 (outcome % 8 + present % 8 * 8 + agree % 8 * 64 + b2n degraded * 512 + judge % 4 * 1024 + score % 16 * 4096 +
    diff % 8 * 65536) ++
  le 4 (dig.getD 0 0) ++ le 4 (dig.getD 1 0) ++ le 4 (dig.getD 2 0) ++
  le 4 (ent.getD 0 0 % 4096 + ent.getD 1 0 % 4096 * 4096) ++ le 4 (ent.getD 2 0 % 4096 + entP % 4096 * 4096)

/-- The record of a judge change (R204): outcome 3 suspect, 4 out, 5 in. -/
def logJudge (s : State) (outcome j : Nat) : State :=
  stallOffer s 241 (mkRecord (s.ownHdr 2 0)
    (voterBody outcome (judgesIn s) 0 (s.on F.vote_DEGRADED 0) j (judgeScore s j) 0 [] [] 0))

/-- A judge leaves voting (R196). -/
def judgeOut (s : State) (j : Nat) : State :=
  let s1 := ((s.set F.vote_IN 0 (judgesIn s &&& (7 - 2 ^ j))).set F.vote_OUT_JUDGE 0 j).set F.vote_DEGRADED 0 1
  logJudge (raiseVote { s1 with agreeRun := tput s1.agreeRun j 0 0 } Bit.vtDegradedSet) 4 j

/-- A sentence from before a judge's return. -/
def markPre (x : Sentence) : Sentence := { x with pre := true }

/-- Sentences of eligible sources from before the instant that remain to be voted, dropped or discarded (R197). -/
def preRemains (s : State) : Bool :=
  s.ballots.any (fun b => b.sent.pre) ||
    s.srcs.any (fun e => s.eligible.contains e.1 &&
      (e.2.sent.toList ++ e.2.closing ++ e.2.closed).any (·.pre))

/-- The second stage of a judge's return (R197). Until now IN and OUT_JUDGE have shown the judge out (DESIGN CHOICE: the rule
names DEGRADED and PENDING_IN alone). -/
def judgeJoined (s : State) : State :=
  let j := s.get F.vote_OUT_JUDGE 0
  let s1 := (((s.set F.vote_IN 0 (judgesIn s ||| 2 ^ j)).set F.vote_OUT_JUDGE 0 3).set F.vote_DEGRADED 0 0).set
    F.vote_PENDING_IN 0 0
  let s2 := (s1.set (scoreField j) 0 0).set F.vote_SUSPECT 0 (s1.get F.vote_SUSPECT 0 &&& (7 - 2 ^ j))
  logJudge (raiseVote { s2 with agreeRun := tput s2.agreeRun j 0 0 } Bit.vtDegradedClear) 5 j

/-- A judge returns (R197): what is open, closed or unvoted now is voted without it. -/
def judgeIn (s : State) : State :=
  let s1 := { s.set F.vote_PENDING_IN 0 1 with
    ballots := s.ballots.map (fun b => { b with sent := markPre b.sent })
    srcs := s.srcs.map (fun e => (e.1, { e.2 with sent := e.2.sent.map markPre, closing := e.2.closing.map markPre,
                                                  closed := e.2.closed.map markPre })) }
  if preRemains s1 then s1 else judgeJoined s1

/-- With AUTO_OUT and no judge out, firmware takes a suspect judge out and tests it; a judge that passes comes back, and
the next suspect follows (R195). Whether it passes the spec leaves to the judge, so that is a free value; of two suspects
the lower numbered goes first (DESIGN CHOICE). -/
def autoOutN : Nat → State → State
  | 0, s => s
  | n + 1, s =>
    if s.on F.vote_AUTO_OUT 0 && s.get F.vote_OUT_JUDGE 0 == 3 && s.running && s.shedUp 3 then
      match (List.range 3).find? (fun j => (s.get F.vote_SUSPECT 0).testBit j) with
      | none => s
      | some j =>
        let s1 := judgeOut s j
        if (Config.freeWord s1.drawn).toNat % 2 == 0 then { s1 with drawn := s1.drawn + 1 }
        else autoOutN n (judgeIn { s1 with drawn := s1.drawn + 1 })
    else s

/-- The suspect judges, three at most. -/
def autoOut (s : State) : State := autoOutN 3 s

/-- A judge becomes suspect when its score reaches SUSPECT_N (R195). -/
def suspectCheck (s : State) (j : Nat) : State :=
  let n := s.get F.vote_SUSPECT_N 0
  let m := s.get F.vote_SUSPECT 0
  if n != 0 && decide (n ≤ judgeScore s j) && !m.testBit j then
    autoOut (logJudge (raiseVote (s.set F.vote_SUSPECT 0 (m ||| 2 ^ j)) Bit.vtSuspect) 3 j)
  else s

/-- The score rises by 1, holding at 15 (R195). -/
def scoreUp (s : State) (j : Nat) : State := s.set (scoreField j) 0 (min 15 (judgeScore s j + 1))

/-- A completion failure in a judge replica (R191). It is no vote: the judge's run of majority votes goes on. -/
def judgeFault (s : State) (j : Nat) : State := suspectCheck (scoreUp s j) j

/-- The judges that vote on a sentence (R196, R197): those in, and one in stage 1 of its return for what opened after it. -/
def presentJudges (s : State) (x : Sentence) : List Nat :=
  (List.range 3).filter (fun j => (judgesIn s).testBit j ||
    (s.on F.vote_PENDING_IN 0 && s.get F.vote_OUT_JUDGE 0 == j && !x.pre))

/-! ### CLASSIFY -/

/-- One classification of the sentence `x`, already taken from its source, with a transient fault (R148, R191). -/
def classifySentence (s : State) (x : Sentence) (f : Transient) : State :=
  let c := x.cap.getD (lookup s s.rtActive x)
  match f with
  | .none => applyAction s x c
  | .check => rerunClose s x
  | .table w =>
    let r := tableRead s w
    if !r.2 || x.cap.isSome then applyAction r.1 x c
    else match countRerun r.1 x with
      | (s1, some z) => let so := s1.source z.source; s1.putSource z.source { so with closed := z :: so.closed }
      | (s1, none) => failSentence s1 x
  | .judge j =>
    if judgesTake s x && (presentJudges s x).contains j then rerunClose (judgeFault s j) { x with cap := some c }
    else applyAction s x c

/-- The classifier takes the next sentence (R155). -/
def classifyNext (s : State) (f : Transient) : State :=
  match chooseSource s with
  | none => s
  | some src =>
    let so := s.source src
    match so.closed with
    | [] => s
    | x :: r =>
      let s1 := s.putSource src { so with closed := r, lastNext := (x.seqn + 1) % 4294967296, lastTs := x.stamp, lastIdx := x.idx }
      let s2 : State := if s.eligible.contains src then { s1 with lastElig := some src } else { s1 with lastOther := some src }
      classifySentence s2 x f

/-- A judge's replica parser fails its check at a sentence's close (R148, R191): the close is run again and the judge's
score rises. -/
def closeFault (s : State) (src : Nat) (f : Transient) : State × Transient :=
  match f, (s.source src).closing with
  | .judge j, x :: _ =>
    if !refused x && judgesTake s { x with bad := isBad x } && (presentJudges s x).contains j then (judgeFault s j, .check)
    else (s, .none)
  | g, _ => (s, g)

/-- SENTENCE_CLOSE (R134). -/
def execSentenceClose (src : Nat) (fault : Transient) (s : State) : Host.Outcome State Fault Refusal :=
  .next (if parserOn s src then
    let r := closeFault s src fault
    closeSentence r.1 src r.2
  else s)

/-- CLASSIFY (R162). -/
def execClassify (fault : Transient) (s : State) : Host.Outcome State Fault Refusal :=
  .next (if upstream s then classifyNext s fault else s)

/-! ### ENQUEUE_COPY (R166, R167, R148) -/

/-- A stall takes a record of `n` bytes (R211, R219, R225, R234). -/
def stallTakes (s : State) (q n : Nat) : Bool :=
  stallOn s q && decide (n ≤ stallSize s q) && (s.stall q).reset.isNone &&
    (!s.on F.stall_MODE q || decide (n ≤ s.get F.stall_GRANTED q))

/-- A copy abandoned because its stall resets (R167). -/
def abandonCopy (s : State) : State := raiseRouter (routerInc s F.router_COPY_ABANDONED) Bit.rtCopyAbandoned

/-- The record of a copy (R146, R166). -/
def copyRecord (e : Enqueue) : List Byte := sentenceRecord e.sent 1 e.verdict.cls e.agree e.degraded e.verdict.entry

/-- Write one copy of an enqueued sentence into stall `q`: COPIES or COPIES0 counts a copy that completes. One whose stall is
in a reset, or resets because the copies of a pointer differ, is abandoned (R148, R216). -/
def writeCopy (s : State) (e : Enqueue) (voter : Bool) (q : Nat) : State :=
  if (s.stall q).reset.isSome then abandonCopy s
  else
    let s1 := stallOffer s q (copyRecord e)
    if (s1.stall q).reset.isSome then abandonCopy s1
    else if stallTakes s q (copyRecord e).length then
      (if voter then s1.inc F.vote_COPIES0 0 else routerInc s1 F.router_COPIES)
    else s1

/-- Sentence `d` of a source closed before sentence `e` of it (R150, R180). -/
def closedBefore (d e : Enqueue) : Bool := d.sent.source == e.sent.source && decide (d.sent.no < e.sent.no)

/-- An earlier sentence of the same source waits for its rerun (R150). -/
def heldByRerun (s : State) (e : Enqueue) : Bool := (s.routerQ ++ s.voterQ).any (fun d => d.rerun && closedBefore d e)

/-- The router's queue: the sentence of `src` whose copy may be written now, with those ahead of it, each under rerun or
held by one, and those behind it (R166). -/
def routerTurn (s : State) (src : Nat) : List Enqueue → Option (List Enqueue × Enqueue × List Enqueue)
  | [] => none
  | e :: r =>
    if e.sent.source == src then some ([], e, r)
    else if e.rerun || heldByRerun s e then (routerTurn s src r).map (fun x => (e :: x.1, x.2.1, x.2.2))
    else none

/-- A copy is really written into its stall, so that a fault can meet its write. -/
def copyLands (s : State) (e : Enqueue) (q : Nat) : Bool :=
  stallOn s q && (s.stall q).reset.isNone && stallTakes s q (copyRecord e).length

/-- The sentence of a copy whose write failed is rerun with the copies that are left (R147, R148). -/
def rerunCopy (s : State) (e : Enqueue) : State × Option Enqueue :=
  match countRerun s e.sent with
  | (s1, some z) => (s1, some { e with sent := z, rerun := true })
  | (s1, none) => (s1, none)

/-- The copy of `e` in hand, as its staging copy reads, with what happens to it; the rest of `e`, or nothing when it is
finished. -/
def copyFrom (s : State) (e : Enqueue) (voter : Bool) (f : CopyFault) : State × Option Enqueue :=
  match e.stalls with
  | [] => (s, none)
  | q :: r =>
    let rest : Option Enqueue := if r.isEmpty then none else some { e with stalls := r }
    match f with
    | .none => (writeCopy s e voter q, rest)
    | .mismatch b => (writeCopy (if stallOn s q then corruptPtrs s q b else s) e voter q, rest)
    | .check => if copyLands s e q then rerunCopy s e else (writeCopy s e voter q, rest)

/-- The port through which a sentence's copies are made (R24): the voter's, the Ethernet ports' or the router's. -/
def copyPort (e : Enqueue) (voter : Bool) : Nat := if voter then 1 else stagingPort e.sent

/-- One copy of `e`: the staging copy is read first, and where it reads DUE the sentence is discarded under RERUN_FAIL
(R148, R260). -/
def copyStep (s : State) (e : Enqueue) (voter : Bool) (f : CopyFault) : State × Option Enqueue :=
  match readStaging s (copyPort e voter) e.sent with
  | (t, none) => (stagingLost t e.sent, none)
  | (t, some z) => copyFrom t { e with sent := z } voter f

/-- A finished sentence frees its staging bytes. -/
def copyEnd (s : State) (e : Enqueue) (rest : Option Enqueue) : State :=
  if rest.isSome then s else freeSentence s e.sent

/-- The router's turn for a sentence of `src`: unless an earlier sentence of the source is under rerun (R150). -/
def routerReady (s : State) (src : Nat) : Option (List Enqueue × Enqueue × List Enqueue) :=
  (routerTurn s src s.routerQ).filter (fun x => !heldByRerun s x.2.1)

/-- The voter's turn: the first sentence in voted order, if it is one of `src` (R203). -/
def voterReady (s : State) (src : Nat) : Option (Enqueue × List Enqueue) :=
  match s.voterQ with
  | e :: r => if e.sent.source == src && !heldByRerun s e then some (e, r) else none
  | [] => none

/-- One copy of a sentence of `src`: the router's (P0) before the voter's (P1) (R166, R203, R221). -/
def enqueueCopy (s : State) (src : Nat) (f : CopyFault) : State :=
  match routerReady s src, voterReady s src with
  | some (before, e, after), _ =>
    let c := copyStep s e false f
    copyEnd { c.1 with routerQ := before ++ c.2.toList ++ after } e c.2
  | none, some (e, r) =>
    let c := copyStep s e true f
    copyEnd { c.1 with voterQ := c.2.toList ++ r } e c.2
  | none, none => s

/-- ENQUEUE_COPY (R166). -/
def execEnqueueCopy (src : Nat) (fault : CopyFault) (s : State) : Host.Outcome State Fault Refusal :=
  .next (if upstream s then enqueueCopy s src fault else s)

/-! ### Commits (R176 to R178) -/

/-- Actions that differ between the copies start afresh (R178). -/
def freshActs (s : State) : Tbl ActState := s.acts.filter (fun e => s.action 0 e.1 == s.action 1 e.1)

/-- Firmware's protect ranges after a commit (R263): the router copy in force, whose place inside the tables region the
spec does not give (free values there), and the pixel tables. -/
def protectTables (s : State) : State :=
  let b := (Config.freeWord s.drawn).toNat % 1344
  let s1 := ((s.set F.yard_PROT_BASE 0 (53248 + b)).set F.yard_PROT_LIMIT 0
    (53248 + b + (Config.freeWord (s.drawn + 1)).toNat % (1344 - b)))
  let s2 := (s1.set (F.yard_PROT_BASE.at 8) 0 (pixelCopy 0 / 512)).set (F.yard_PROT_LIMIT.at 8) 0 (curveEnd / 512 - 1)
  { s2 with drawn := s.drawn + 2 }

/-- The copies swap (R177): COPYBACK rises, the commands that wait for the swap answer with ACTIVE and SWAPS. -/
def swapTables (s : State) : State :=
  let s1 := { s with acts := freshActs s, commitAsked := false, sweepDue := false, routerStaged := false }
  let s2 := (s1.set F.router_ACTIVE 0 s.rtInactive).set F.router_COPYBACK 0 1
  let s3 := raiseRouter (routerInc s2 F.router_SWAPS) Bit.rtSwapDone
  if s3.running then protectTables s3 else s3

/-- A table's active copy over its inactive one. -/
def copyTable (n a : Nat) (t : Tbl (List Word)) (d : List Word) : Tbl (List Word) :=
  let act := t.filter (fun e => e.1 / n == a)
  act.foldl (fun u e => tput u (n * (1 - a) + e.1 % n) e.2 d) act

/-- The inactive copy is level with the one in force (R176). -/
def levelTables (s : State) : State :=
  let a := s.rtActive
  { s.set F.router_COPYBACK 0 0 with
    entries := copyTable 4096 a s.entries entry0
    actions := copyTable 4096 a s.actions action0
    groups := copyTable 1024 a s.groups group0 }

/-- ROUTER_CFG.CNT_CLR (R185): the thirteen counters and every hit counter. -/
def clearRouterCounters (s : State) : State :=
  { s.clear [F.router_CLASSIFIED, F.router_MISS, F.router_DROPPED, F.router_BAD_DROPPED, F.router_CLASS0_REFUSED,
      F.router_DECIMATED, F.router_RATE_DROP, F.router_EMPTY_GROUP, F.router_COPIES, F.router_COPY_ABANDONED,
      F.router_HOOKS, F.router_HOOK_ERR, F.router_SWAPS] 0 with hits := [] }

/-- ROUTER_CNT_CLR. -/
def execRouterCntClr (s : State) : Host.Outcome State Fault Refusal :=
  .next (if s.shedUp 2 then clearRouterCounters s else s)

end Sys2Proof.Machine
end

