-- ==== Sys2Proof/Machine/Voter.lean ====
section
/-! DEFINITION. The voter (R189 to R209): vote words, the majority and its outcomes, dissent and suspicion, overrides and
their dispatch, the enqueue in voted order. A judge's own fault is the `upset` operand of VOTE. -/

namespace Sys2Proof.Machine

/-- The word a sound judge produces (R192). -/
def voteWord (x : Sentence) (v : Verdict) : VoteWord :=
  { digest := BitVec.ofNat 32 (crc32c x.bytes), bad := x.bad, miss := v.miss, entry := v.entry, forward := v.forward,
    cls := v.cls, group := v.group, hookKind := v.hookKind, hookTarget := v.hookTarget }

/-- A field of `w` bits of a vote word holds `w` bits. -/
def trimWord (w : VoteWord) : VoteWord :=
  { w with entry := w.entry % 4096, cls := w.cls % 4, group := w.group % 1024, hookKind := w.hookKind % 8,
           hookTarget := w.hookTarget % 1024 }

/-- The result part of a vote word, as a verdict. -/
def wordVerdict (w : VoteWord) : Verdict :=
  { miss := w.miss, entry := w.entry, forward := w.forward, cls := w.cls, group := w.group, hookKind := w.hookKind,
    hookTarget := w.hookTarget }

/-- Each present judge's word, an upset one as given. -/
def judgeWords (present : List Nat) (base : VoteWord) (upset : List (Nat × VoteWord)) : List (Nat × VoteWord) :=
  present.map (fun j => (j, match upset.find? (fun u => u.1 == j) with
    | some u => trimWord u.2
    | none => base))

/-- The majority: the judges whose words agree with another's (R192). -/
def majority (ws : List (Nat × VoteWord)) : List (Nat × VoteWord) :=
  ws.filter (fun a => ws.any (fun b => b.1 != a.1 && b.2 == a.2))

/-- The lone dissenter of a three-judge vote. -/
def loneDissenter (ws : List (Nat × VoteWord)) : Option Nat :=
  let m := majority ws
  if ws.length == 3 && m.length == 2 then ((ws.filter (fun a => !m.contains a)).map (·.1)).head? else none

/-- Two words differ outside DIGEST (R204). -/
def diffWord (a b : VoteWord) : Bool := { a with digest := 0 } != { b with digest := 0 }

/-- The outcome of a vote (R193): accepted or not, and the log outcome: 0 dissent (logged only with a lone dissenter),
1 no majority, 2 primary mismatch. A majority word with BAD 1 drops a class-0 sentence as a mismatch even where the rest of
it equals the primary's result: the rows meet there (DESIGN CHOICE). -/
def voteOutcome (b : Ballot) (prim : Verdict) (m : Option VoteWord) : Bool × Nat :=
  match m with
  | none => (false, 1)
  | some w =>
    if b.dropped then (false, if wordVerdict w = prim then 0 else 2)
    else if w.miss || w.bad || !w.forward || w.cls != 0 then (false, 2)
    else if wordVerdict w = prim then (true, 0)
    else (true, 2)

/-- A judge in the majority: after 256 votes in a row its score falls by 1 (R195). -/
def majorityVote (s : State) (j : Nat) : State :=
  let n := tget s.agreeRun j 0 + 1
  if n < 256 then { s with agreeRun := tput s.agreeRun j n 0 }
  else { s.set (scoreField j) 0 (judgeScore s j - 1) with agreeRun := tput s.agreeRun j 0 0 }

/-- The vote's record in Q241 (R204). Without a majority there is no word to differ from, and WORD_DIFF is 0 (DESIGN CHOICE). -/
def logVote (s : State) (x : Sentence) (prim : Verdict) (ws : List (Nat × VoteWord)) (outcome : Nat) : State :=
  let m := majority ws
  let lone := loneDissenter ws
  let j := lone.getD 3
  let word := fun i => (ws.find? (fun w => w.1 == i)).map (·.2)
  let dig := (List.range 3).map (fun i => match word i with
    | some w => w.digest.toNat
    | none => 0)
  let ent := (List.range 3).map (fun i => match word i with
    | some w => w.entry
    | none => 0)
  let diff := match m.head? with
    | none => 0
    | some a => maskOf ((ws.filter (fun w => diffWord w.2 a.2)).map (·.1))
  stallOffer s 241 (mkRecord
    { kind := 2, source := x.source, seqn := x.seqn, stamp := x.stamp, tsSrc := x.tsSrc, tsState := x.tsState,
      entry := prim.entry }
    (voterBody outcome (maskOf (ws.map (·.1))) (maskOf (m.map (·.1))) (decide (ws.length < 3)) j
      (if j < 3 then judgeScore s j else 0) diff dig ent prim.entry))

/-! ### Overrides (R199 to R202, R363) -/

/-- The override a type names (R199): 1 EGRESS_FULL, 2 BLACKOUT, 3 HOLD, 0 RELEASE. -/
def overrideOf (s : State) (x : Sentence) : Option Nat :=
  let k := keyWords x
  let en := s.get F.vote_OVR_EN 0
  (((List.range 4).filter (fun i => en.testBit i &&
    s.reg ⟨.vote, 0, 0x40 + 8 * i⟩ == k.getD 1 0 && s.reg ⟨.vote, 0, 0x44 + 8 * i⟩ == k.getD 2 0)).head?).map
      (fun i => (i + 1) % 4)

/-- The scope of an override (R200): the decimal value of the first-field prefix, 0x00 bytes only after its digits. A first
field that is present and empty gives the prefix of a sentence without fields, and scope 0 (DESIGN CHOICE). -/
def overrideScope (x : Sentence) : Option Nat :=
  let p := firstField x
  let d := p.takeWhile (fun b => b != 0#8)
  if (p.drop d.length).any (fun b => b != 0#8) then none
  else if d.isEmpty then some 0
  else (decValue d).filter (fun v => decide (v ≤ 15))

/-- The lanes in a scope (R363). -/
def lanesInScope (s : State) (scope : Nat) : List Nat :=
  (List.range s.part.lanes).filter (fun n =>
    s.laneUp n && pixelMode (s.get F.tx_ACTIVE n) &&
      (scope == 0 || (s.get F.enc_OVR_MASK n).testBit (scope - 1)))

/-- OVERRIDE_DISPATCH (R201, R208, R209): the word leaves for the islands of the lanes in scope; the pixel engine holds override
state in S5 (R202), so with S5 down nothing is applied and nothing counted. -/
def dispatchOverride (s : State) (word scope : Nat) : State :=
  let s1 := raiseVote (s.inc F.vote_OVERRIDES 0) Bit.vtOverride
  (lanesInScope s1 scope).foldl (fun t n => t.putEnc n { t.encLane n with ovrQ := (t.encLane n).ovrQ ++ [word] }) s1

/-- An accepted sentence drives its override (R199, R200, R202). -/
def runOverride (s : State) (x : Sentence) : State :=
  match overrideOf s x with
  | none => s
  | some w =>
    match overrideScope x with
    | none => raiseVote (s.inc F.vote_OVR_ERR 0) Bit.vtOvrErr
    | some sc => if s.part.hasPixel && s.shedUp 5 then dispatchOverride s w sc else s

/-! ### The vote -/

/-- An accepted sentence (R193, R203): counted, hook and override from the majority word, its copies enqueued in voted
order. A group the classifier captured is used as captured; another is read from the copy the judges used. -/
def acceptVote (s : State) (x : Sentence) (c : Captured) (w : VoteWord) (agree : Nat) (degraded : Bool) : State :=
  let s1 := s.inc F.vote_VOTED 0
  let s2 := if w.hookKind == 0 then s1 else runHook s1 x w.hookKind w.hookTarget
  let s3 := runOverride s2 x
  let stalls := if w.group == c.verdict.group then c.stalls else groupStalls (s3.group c.copy w.group)
  if stalls.isEmpty then freeSentence (raiseRouter (routerInc s3 F.router_EMPTY_GROUP) Bit.rtEmptyGroup) x
  else { s3 with voterQ := s3.voterQ ++ [{ sent := x, verdict := wordVerdict w, agree := agree, degraded := degraded,
                                           stalls := stalls }] }

/-- The counters and flags of a vote (R193, R195, R209), and the judges' scores before the log. -/
def countVote (s : State) (ws : List (Nat × VoteWord)) (outcome : Nat) : State :=
  let s1 := if ws.length < 3 then s.inc F.vote_DEGRADED_VOTES 0 else s
  let s2 := (majority ws).foldl (fun t w => majorityVote t w.1) s1
  let s3 := (ws.filter (fun w => !(majority ws).contains w)).foldl
    (fun (t : State) w => { t with agreeRun := tput t.agreeRun w.1 0 0 }) s2
  let s4 := match loneDissenter ws with
    | some j => raiseVote ((scoreUp s3 j).inc F.vote_DISSENTS 0) Bit.vtDissent
    | none => s3
  if outcome == 1 then raiseVote (s4.inc F.vote_NO_MAJORITY 0) Bit.vtNoMajority
  else if outcome == 2 then raiseVote (s4.inc F.vote_PRIMARY_MISMATCH 0) Bit.vtPrimaryMismatch
  else s4

/-- The first vote that waits (R193). -/
def takeVote (s : State) (upset : List (Nat × VoteWord)) : State :=
  match s.ballots with
  | [] => s
  | b :: r =>
    let s0 := { s with ballots := r }
    let x := b.sent
    let c := x.cap.getD (lookup s0 s0.rtActive x)
    let ws := judgeWords (presentJudges s0 x) (voteWord x c.verdict) upset
    let m := majority ws
    let o := voteOutcome b c.verdict (m.head?.map (·.2))
    let lone := loneDissenter ws
    let s1 := countVote s0 ws o.2
    let s2 := if o.2 != 0 || lone.isSome then logVote s1 x c.verdict ws o.2 else s1
    let s3 := match lone with
      | some j => suspectCheck s2 j
      | none => s2
    if b.dropped then s3
    else if o.1 then
      match m with
      | w :: _ => acceptVote s3 x c w.2 (maskOf (m.map (·.1))) (decide (ws.length < 3))
      | [] => freeSentence s3 x
    else freeSentence s3 x

/-- VOTE (R193). -/
def execVote (upset : List (Nat × VoteWord)) (s : State) : Host.Outcome State Fault Refusal :=
  .next (if upstream s && s.shedUp 3 then takeVote s upset else s)

/-- JUDGE_IN_COMPLETE (R197): no sentence from before the instant remains. -/
def execJudgeInComplete (s : State) : Host.Outcome State Fault Refusal :=
  .next (if s.shedUp 3 && s.on F.vote_PENDING_IN 0 && !preRemains s then autoOut (judgeJoined s) else s)

/-- VOTE_CFG.CNT_CLR (R206): the eight counters. -/
def clearVoteCounters (s : State) : State :=
  s.clear [F.vote_VOTED, F.vote_COPIES0, F.vote_DISSENTS, F.vote_NO_MAJORITY, F.vote_PRIMARY_MISMATCH, F.vote_OVERRIDES,
    F.vote_OVR_ERR, F.vote_DEGRADED_VOTES] 0

/-- VOTE_CNT_CLR. -/
def execVoteCntClr (s : State) : Host.Outcome State Fault Refusal :=
  .next (if s.shedUp 3 then clearVoteCounters s else s)

end Sys2Proof.Machine
end

