-- ==== Sys2Proof/Machine/Encoder.lean ====
section
/-! DEFINITION. Lamp outputs (R351 to R371): frames of pixel lanes, latches, PWM, overrides at the outputs, and the rows
SEED_DONE, PIXEL_CNT_CLR and ENC_CNT_CLR. Which sample of time an edge falls on is the row's own; only the order counts. -/

namespace Sys2Proof.Machine

/-- The pixel lane or PWM lane is powered: S5, and the lane's bank. -/
def encMode (s : State) (n : Nat) : Nat :=
  if s.part.hasPixel && s.shedUp 5 && s.laneUp n then s.get F.tx_ACTIVE n else 0

/-- Count an encoder event and set the hub's flag (R360, R371). -/
def encEvent (s : State) (n : Nat) (f : Field) (bit : Nat) : State := raiseEnc (s.inc f n) bit

/-- A field of the encoder words under which the frame in progress began (R365). -/
def frameField (x : EncLane) (f : Field) : Nat := bits (x.cfg.getD (f.off / 4) 0).toNat f.lo f.width

/-- A segment with every value set to v of 65,535 (R363). -/
def flatSeg (g : SegOut) (v : Nat) : SegOut :=
  { g with lamps := g.lamps.map (fun l => l.map (fun _ => v * (2 ^ (8 + g.depth) - 1) / 65535)) }

/-- What a segment sends under an override state (R363). -/
def overriddenSeg (x : EncLane) (st : Nat) (g : SegOut) : SegOut :=
  match st with
  | 1 => flatSeg g (frameField x F.enc_EGRESS_VAL)
  | 2 => flatSeg g 0
  | _ => g

/-- The frame a lane sends at S_n: the rendered one with RUN 1; with RUN 0, zeros under PAUSE or an override, else none
(R365). -/
def frameDue (s : State) (n : Nat) : Option (List SegOut) :=
  if s.runNow then (s.encLane n).frames.head?.map (·.1)
  else
    let o := s.get F.enc_OVR n
    if s.on F.enc_PAUSE n || o == 1 || o == 2 then
      some ((segments s s.pixActive (s.get F.tx_ROLE n)).map (fun e => zeroSeg e.2 e.2.count))
    else none

/-- The lane begins a frame. -/
def beginFrame (s : State) (n : Nat) (fr : List SegOut) : State :=
  (s.putEnc n { s.encLane n with frames := (s.encLane n).frames.drop 1, phase := .sending, segs := fr, sent := [], cut := false, holdStop := false,
                                 cfg := (List.range 8).map (fun k => s.reg ⟨.encLane, n, 4 * k⟩)
                                 sendNo := if s.runNow then ((s.encLane n).frames.head?.map (·.2)).getD 0 else s.get F.time_FRAME_N 0 }).set
    F.enc_SENDING n 1

/-- The frame before still sends, or is in RESET or LATCH_IDLE, at S_(n+1): frame n + 1 is skipped (R360). -/
def skipFrame (s : State) (n : Nat) : State :=
  (encEvent s n F.enc_N_FRAME_SKIP Bit.enFrameSkip).putEnc n { s.encLane n with frames := (s.encLane n).frames.drop 1 }

/-- The lamp words of a lane's FIFO (R359): the first 64 of those rendered and not yet sent, in render order. How far the pipe has
filled it is time, which LANE_FRAME_START's `ready` and UNDERRUN tell. -/
def lampFifo (x : EncLane) : List (List Nat) := ((x.segs ++ x.frames.flatMap (·.1)).flatMap (·.lamps)).take 64

/-- S_n on a pixel lane (R351, R360): `ready` says that a lamp word waits; with RUN 0 no word is needed. A lane that
waits late begins when the word comes. -/
def frameStart (s : State) (n : Nat) (ready : Bool) : State :=
  let x := s.encLane n
  let fr := frameDue s n
  let go := fr.isSome && (ready || !s.runNow)
  match x.phase with
  | .idle =>
    if s.ran < x.idleUntil then skipFrame s n
    else if go then beginFrame s n (fr.getD [])
    else if s.runNow then (encEvent s n F.enc_N_START_LATE Bit.enStartLate).putEnc n { x with phase := .late }
    else s
  | .late =>
    if go then beginFrame s n (fr.getD []) else encEvent s n F.enc_N_FRAME_SKIP Bit.enFrameSkip
  | _ => skipFrame s n

/-- LANE_FRAME_START (R351). -/
def execLaneFrameStart (lane : Nat) (ready : Bool) (s : State) : Host.Outcome State Fault Refusal :=
  .next (if encMode s lane == 6 || encMode s lane == 7 then frameStart s lane ready else s)

/-- LATCH_MODE 1 with a LATCH_AT (R356). -/
def latchAt (x : EncLane) : Bool := frameField x F.enc_LATCH_MODE == 1 && frameField x F.enc_LATCH_AT != 0

/-- HOLD stops the frame (R363, R364): a one-wire lane that sent lamps latches them after RESET; a two-wire lane sends no
latch, and without LATCH_AT its lamps have taken what was sent. -/
def holdFrame (s : State) (n : Nat) : State :=
  let x := s.encLane n
  if s.get F.tx_ACTIVE n == 6 && !x.sent.isEmpty then
    s.putEnc n { x with phase := .latching, segs := [], cut := true, holdStop := true, shown := 3, before := none }
  else
    let y := { x with phase := .idle, segs := [], holdStop := true, shown := 3, before := none }
    let z := if s.get F.tx_ACTIVE n == 7 && !latchAt x && !x.sent.isEmpty then { y with latched := x.sent, latchedCut := true } else y
    (s.putEnc n z).set F.enc_SENDING n 0

/-- A segment boundary on a pixel lane (R357, R363). -/
def nextSegment (s : State) (n : Nat) : State :=
  let x := s.encLane n
  let st := x.before.getD (s.get F.enc_OVR n)
  match x.segs with
  | [] => s
  | g :: r =>
    if st == 3 then holdFrame s n
    else s.putEnc n { x with segs := r, sent := x.sent ++ [overriddenSeg x st g], shown := st, before := none }

/-- SEGMENT_BOUNDARY (R357). -/
def execSegmentBoundary (lane : Nat) (s : State) : Host.Outcome State Fault Refusal :=
  .next (if (encMode s lane == 6 || encMode s lane == 7) && (s.encLane lane).phase = .sending then nextSegment s lane else s)

/-- The FIFO empties mid-frame (R360): a two-wire lane holds, a one-wire lane sends no further bit of the frame. -/
def fifoEmpty (s : State) (n : Nat) : State :=
  let s1 := encEvent s n F.enc_N_UNDERRUN Bit.enUnderrun
  if s.get F.tx_ACTIVE n == 6 then s1.putEnc n { s1.encLane n with phase := .latching, segs := [], cut := true } else s1

/-- UNDERRUN (R360). -/
def execUnderrun (lane : Nat) (s : State) : Host.Outcome State Fault Refusal :=
  .next (if (encMode s lane == 6 || encMode s lane == 7) && (s.encLane lane).phase = .sending then fifoEmpty s lane else s)

/-- The last lamp bit is sent (R354, R356): the latch follows at once, or waits for S_n + LATCH_AT; `late` says that this
instant has passed. -/
def bitsEnd (s : State) (n : Nat) (late : Bool) : State :=
  let x := s.encLane n
  if s.get F.tx_ACTIVE n == 7 && latchAt x then
    if late then (encEvent s n F.enc_N_LATCH_MISS Bit.enLatchMiss).putEnc n { x with phase := .latching }
    else s.putEnc n { x with phase := .bitsDone }
  else s.putEnc n { x with phase := .latching }

/-- LAMP_BITS_END (R356). -/
def execLampBitsEnd (lane : Nat) (late : Bool) (s : State) : Host.Outcome State Fault Refusal :=
  let x := s.encLane lane
  .next (if (encMode s lane == 6 || encMode s lane == 7) && x.phase = .sending && x.segs.isEmpty then bitsEnd s lane late else s)

/-- LATCH_WORD_START (R356). -/
def execLatchWordStart (lane : Nat) (s : State) : Host.Outcome State Fault Refusal :=
  let x := s.encLane lane
  .next (if encMode s lane == 7 && x.phase = .bitsDone then s.putEnc lane { x with phase := .latching } else s)

/-- The low `n` bits of a value, most significant first (R354, R355). -/
def msbBits (n v : Nat) : List Bool := (List.range n).map (fun i => v.testBit (n - 1 - i))

/-- The bits of one lamp: a two-wire lane sends PREFIX before it (R354, R355). -/
def lampWire (x : EncLane) (two : Bool) (depth : Nat) (vals : List Nat) : List Bool :=
  (if two then msbBits (frameField x F.enc_PREFIX_LEN) (frameField x F.enc_PREFIX_BITS) else []) ++ vals.flatMap (msbBits (8 + depth))

/-- The bits of a frame as sent (R354, R355): a two-wire lane's header and latch word among them. -/
def frameBits (x : EncLane) (two : Bool) : List Bool :=
  (if two then msbBits (frameField x F.enc_HDR_LEN) (frameField x F.enc_HDR) else []) ++
    x.sent.flatMap (fun g => g.lamps.flatMap (lampWire x two g.depth)) ++
    (if two then List.replicate (frameField x F.enc_LATCH_LEN) (frameField x F.enc_LATCH_ONES == 1) else [])

/-- VALUE of a frame (R405). Which bits a one-wire lane still sent when its FIFO ran empty is not held: a free value. -/
def frameValue (s : State) (n : Nat) : State × Nat :=
  let x := s.encLane n
  if x.cut && !x.holdStop then ({ s with drawn := s.drawn + 1 }, (Config.freeWord s.drawn).toNat)
  else (s, (Config.frameCrc (frameBits x (s.get F.tx_ACTIVE n == 7))).toNat)

/-- The frame is latched (R354, R370): it counts, and is an item of R405. On a two-wire lane LATCH_IDLE begins (R355). -/
def latchFrame (s : State) (n : Nat) : State :=
  let x := s.encLane n
  let v := frameValue s n
  let s1 := ((v.1.inc F.enc_FRAMES n).set F.enc_SENDING n 0).putEnc n { x with
    phase := .idle, latched := x.sent, latchedCut := x.cut
    idleUntil := s.ran + (if s.get F.tx_ACTIVE n == 7 then frameField x F.enc_LATCH_IDLE * 1000 * nsUnit else 0) }
  noteItem s1 n 2 0 x.sendNo v.2

/-- FRAME_LATCHED (R354, R370). -/
def execFrameLatched (lane : Nat) (s : State) : Host.Outcome State Fault Refusal :=
  .next (if (encMode s lane == 6 || encMode s lane == 7) && (s.encLane lane).phase = .latching then latchFrame s lane else s)

/-! ### PWM (R361 to R363) -/

/-- H of EGRESS_VAL (R361, R363) at the depth of the lane's segment; at 16 bits where it has none. -/
def egressH (s : State) (n : Nat) : Nat :=
  let d := (((laneSegments s (s.get F.tx_ROLE n) true).head?).map (fun e => e.2.depth)).getD 8
  pwmH (s.get F.enc_EGRESS_VAL n * (2 ^ (8 + d) - 1) / 65535) d (s.get F.enc_PERIOD n)

/-- The newest value at a period start (R361 to R363, R365). -/
def periodH (s : State) (n : Nat) : Nat × Option Nat :=
  let x := s.encLane n
  match s.get F.enc_OVR n with
  | 0 => if s.runNow then (x.hNext.getD x.h, none) else if s.on F.enc_PAUSE n then (0, x.hNext) else (x.h, x.hNext)
  | 1 => (egressH s n, x.hNext)
  | 2 => (0, x.hNext)
  | _ => (x.h, x.hNext)

/-- LBC cycles of 2.5 ns between two instants of the counter. -/
def cyclesBetween (a b : Nat) : Nat := 2 * (b - a) / (5 * nsUnit)

/-- The index since Z of the PWM period that starts now (R362, R405): periods start at Z + OFFSET + k × PERIOD, so
the nearest k (the counter ticks coarser than LBC cycles: DESIGN CHOICE). -/
def periodIndex (s : State) (n : Nat) : Nat :=
  let p := max 1 (s.get F.enc_PERIOD n)
  (cyclesBetween (s.encLane n).z s.ran + p / 2 - groupOffset s n) / p

/-- A PWM period starts (R362): the period before it is an item of R405. -/
def startPeriod (s : State) (n : Nat) : State :=
  let x := s.encLane n
  let h := periodH s n
  let s1 := s.putEnc n { x with h := h.1, hNext := h.2, active := decide (0 < h.1), period := s.get F.enc_PERIOD n,
                                periodNo := periodIndex s n, since := s.ran, shown := s.get F.enc_OVR n, before := none }
  if x.period == 0 then s1 else noteItem s1 n 3 0 x.periodNo x.h

/-- PWM_PERIOD_START (R362). -/
def execPwmPeriodStart (lane : Nat) (s : State) : Host.Outcome State Fault Refusal :=
  .next (if encMode s lane == 8 then startPeriod s lane else s)

/-- PWM_ACTIVE_END (R361): H = PERIOD never goes inactive. -/
def execPwmActiveEnd (lane : Nat) (s : State) : Host.Outcome State Fault Refusal :=
  let x := s.encLane lane
  .next (if encMode s lane == 8 && decide (x.h < x.period) then s.putEnc lane { x with active := false } else s)

/-- EGRESS_FULL on a PWM lane (R363): the output takes the level H gives at the current position in the period. The events of the
period bound the position: before PWM_ACTIVE_END it is below the H that was in force, after it not; within that, the time since
the period's start is the position. -/
def egressPwm (s : State) (n : Nat) : State :=
  let x := s.encLane n
  let h := egressH s n
  let on := if h == 0 then false else if x.period ≤ h then true
    else if x.active && decide (x.h ≤ h) then true
    else if !x.active && decide (h ≤ x.h) then false
    else decide (cyclesBetween x.since s.ran < h)
  s.putEnc n { x with h := h, active := on, shown := 1 }

/-! ### Overrides (R201, R363) -/

/-- The override state after a word (R201): EGRESS_FULL latched against BLACKOUT and HOLD. -/
def overrideNext (s : State) (n w : Nat) : Nat :=
  let o := s.get F.enc_OVR n
  if o == 1 && (w == 2 || w == 3) && s.on F.vote_EGRESS_LATCH 0 then 1 else w % 4

/-- An override leaves the pipeline's value waiting for the release (R363). -/
def keepPipeline (s : State) (n : Nat) : State :=
  let x := s.encLane n
  s.putEnc n { x with hNext := some (x.hNext.getD x.h) }

/-- A word enters the lane island (R201, R363). `atBoundary`: in the same LBC cycle as a segment boundary (R56). -/
def applyOverride (s : State) (n : Nat) (atBoundary : Bool) : State :=
  let x := s.encLane n
  match x.ovrQ with
  | [] => s
  | w :: r =>
    let s0 := s.putEnc n { x with ovrQ := r }
    let m := encMode s n
    if !pixelMode m then s0
    else
      let old := s.get F.enc_OVR n
      let new := overrideNext s n w
      let s1 := s0.set F.enc_OVR n new
      if m == 8 then
        let s2 := if old == 0 && new != 0 then keepPipeline s1 n else s1
        if new == 1 && old != 1 then egressPwm s2 n
        else if new == 2 then s2.putEnc n { s2.encLane n with h := 0, active := false, shown := 2 }
        else s2
      else if atBoundary then s1.putEnc n { s1.encLane n with before := some (x.before.getD old) }
      else s1

/-- OVERRIDE_APPLY (R201). -/
def execOverrideApply (lane : Nat) (atBoundary : Bool) (s : State) : Host.Outcome State Fault Refusal :=
  .next (if s.part.hasPixel && s.shedUp 5 then applyOverride s lane atBoundary else s)

/-! ### Seeding and counters -/

/-- SEED_DONE (R325): the seeding of the record whose turn it is ends and the packets that waited for it are written, in
order. -/
def execSeedDone (s : State) : Host.Outcome State Fault Refusal :=
  .next (match s.seedLeft with
    | [] => s
    | _ :: l => if s.part.hasPixel && s.shedUp 5 then releaseSeeded (seedsLeft s l) else s)

/-- PIXEL_CFG.CNT_CLR (R348): the eight counters. -/
def clearPixelCounters (s : State) : State :=
  s.clear [F.pixel_SHOWN, F.pixel_REPEATS, F.pixel_SKIPPED, F.pixel_COMMITS, F.pixel_DUE_PIXELS, F.pixel_DUE_SEGMENTS,
    F.pixel_N_SRC_IGNORED, F.pixel_SEED_WAITS] 0

/-- PIXEL_CNT_CLR. -/
def execPixelCntClr (s : State) : Host.Outcome State Fault Refusal :=
  .next (if s.part.hasPixel && s.shedUp 5 then clearPixelCounters s else s)

/-- ENC_CFG.CNT_CLR (R367): a lane's five counters. -/
def clearEncCounters (s : State) (n : Nat) : State :=
  s.clear [F.enc_FRAMES, F.enc_N_START_LATE, F.enc_N_UNDERRUN, F.enc_N_LATCH_MISS, F.enc_N_FRAME_SKIP] n

/-- ENC_CNT_CLR. -/
def execEncCntClr (lane : Nat) (s : State) : Host.Outcome State Fault Refusal :=
  .next (if s.part.hasPixel && s.shedUp 5 && decide (lane < s.part.lanes) then clearEncCounters s lane else s)

end Sys2Proof.Machine
end

