-- ==== Sys2Proof/Machine/StallRows.lean ====
section
/-! DEFINITION. The rows of the stall engine (R220 to R236): the reader commands of R232 one by one, a producer's record,
credit, and the end of a stall reset. `mis` is the pointer mismatch an update meets (R216), 0 when the copies agree. -/

namespace Sys2Proof.Machine

/-- STALL_NEXT: RD to the next record start. -/
def execStallNext (q : Nat) (mis : BitVec 4) (s : State) : Host.Outcome State Fault Refusal := .next (readerCmd s q 1 mis)

/-- STALL_MARK: MARK = RD. -/
def execStallMark (c : StallAt) (s : State) : Host.Outcome State Fault Refusal := .next (readerCmd s c.q 2 c.mis)

/-- STALL_REWIND: RD = MARK. -/
def execStallRewind (c : StallAt) (s : State) : Host.Outcome State Fault Refusal := .next (readerCmd s c.q 3 c.mis)

/-- STALL_RELEASE: REL = RD, MARK = RD. -/
def execStallRelease (q : Nat) (mis : BitVec 4) (s : State) : Host.Outcome State Fault Refusal := .next (readerCmd s q 4 mis)

/-- STALL_DROP: RD, MARK and REL past the record at RD. -/
def execStallDrop (c : StallAt) (s : State) : Host.Outcome State Fault Refusal := .next (readerCmd s c.q 5 c.mis)

/-- STALL_RUN. -/
def execStallRun (c : StallAt) (s : State) : Host.Outcome State Fault Refusal := .next (readerCmd s c.q 6 c.mis)

/-- STALL_TEST. -/
def execStallTest (c : StallAt) (s : State) : Host.Outcome State Fault Refusal := .next (readerCmd s c.q 7 c.mis)

/-- STALL_CNT_CLR: LOST and RESETS. -/
def execStallCntClr (c : StallAt) (s : State) : Host.Outcome State Fault Refusal := .next (readerCmd s c.q 8 c.mis)

/-- STALL_NEXT_RELEASE: NEXT, then RELEASE. -/
def execStallNextRelease (c : StallAt) (s : State) : Host.Outcome State Fault Refusal := .next (readerCmd s c.q 9 c.mis)

/-- The record of a producer other than the router (R217): its own KIND, SOURCE and SEQUENCE, written now. -/
def producerRecord (s : State) (kind src seqn : Nat) (body : List Byte) : List Byte :=
  mkRecord { s.ownHdr kind seqn with source := src } body

/-- A KIND that the hub's producers write (R218). -/
def kindProduced (kind : Nat) : Bool := decide (1 ≤ kind) && decide (kind ≤ 9)

/-- STALL_RECORD_WRITE (R220): no record has a KIND that is never produced; a mismatch at the update resets the stall, and
the record is not written (R216). -/
def execStallRecordWrite (q kind src seqn : Nat) (body : List Byte) (mis : BitVec 4) (s : State) :
    Host.Outcome State Fault Refusal :=
  .next (if kindProduced kind then
      stallOffer (if stallOn s q then corruptPtrs s q mis else s) q (producerRecord s kind src seqn body)
    else s)

/-- CREDIT_REQUEST (R224). -/
def execCreditRequest (q n : Nat) (s : State) : Host.Outcome State Fault Refusal := .next (askCredit s q n)

/-- CREDIT_HANDBACK (R224). -/
def execCreditHandback (q n : Nat) (s : State) : Host.Outcome State Fault Refusal :=
  .next (if stallOn s q && s.on F.stall_MODE q then handBack s q n else s)

/-- STALL_RESET_RUN (R234): the reset's end; STALL_RESET answers with RESETS (R502). -/
def execStallResetRun (q : Nat) (s : State) : Host.Outcome State Fault Refusal :=
  .next (if s.shedUp 4 && (s.stall q).reset.isSome then
      let t := finishReset s q
      if (t.stall q).reset.isSome then t
      else answerWaits t (fun w => match w with
        | .stallReset p => p == q
        | _ => false) false (fun t _ => (St.ok, le 4 (t.get F.stall_RESETS q)))
    else s)

end Sys2Proof.Machine
end

