-- ==== Sys2Proof/Machine/Yard.lean ====
section
/-! DEFINITION. The yard (R248 to R284): an access step of the eight ports with the banks' turns, merging and responses, the
groom's passes with their phases, the tack room, and their rows. -/

namespace Sys2Proof.Machine

/-! ### An access step (R251 to R255) -/

/-- A part of a request inside one word: its place in the list, port, word, byte offset, and what it does. -/
structure Piece where
  req : Nat
  port : Nat
  word : Nat
  off : Nat
  len : Nat
  bytes : Option (List Byte)
deriving DecidableEq, Repr

/-- The two parts of a request (R255); the second is empty for an access within one word. -/
def pieces (i : Nat) (r : YardReq) : Option Piece × Option Piece :=
  let n := match r.op with
    | .read k => k
    | .write b => b.length
  let o := r.addr % 8
  let n1 := min n (8 - o)
  let cut := fun (frm k : Nat) => match r.op with
    | .read _ => none
    | .write b => some ((b.drop frm).take k)
  (some { req := i, port := r.port, word := r.addr / 8, off := o, len := n1, bytes := cut 0 n1 },
   if n1 < n then some { req := i, port := r.port, word := r.addr / 8 + 1, off := 0, len := n - n1, bytes := cut n1 (n - n1) }
   else none)

/-- What a request has come to so far: response and bytes read. -/
abbrev Answers := Tbl (Nat × List Byte)

/-- Note a part's response (DUE over WRITE_LOST over OK) and its bytes. -/
def noteAnswer (a : Answers) (i rsp : Nat) (bs : List Byte) : Answers :=
  let o := tget a i (0, [])
  tput a i (max o.1 rsp, o.2 ++ bs) (0, [])

/-- The bytes a write part puts into its word. -/
def pieceBytes (p : Piece) : List (Nat × Byte) :=
  ((List.range p.len).map (fun k => (p.off + k, byteAt (p.bytes.getD []) k)))

/-- Writes of one word in one turn (R253): `ps` in port order; a byte goes to its highest-priority port. -/
def mergedBytes (ps : List Piece) : List (Nat × Byte) :=
  (List.range 8).filterMap (fun i =>
    (ps.findSome? (fun p => (pieceBytes p).find? (fun e => e.1 == i))))

/-- A port lost some byte to a higher one. -/
def lostIn (ps : List Piece) (p : Piece) : Bool :=
  (ps.takeWhile (fun x => x != p)).any (fun x => (pieceBytes x).any (fun e => decide (p.off ≤ e.1) && decide (e.1 < p.off + p.len)))

/-- One turn of a write, alone or merged. -/
def writeTurn (s : State) (a : Answers) (ps : List Piece) (w port : Nat) : State × Answers :=
  let r := writeWord s port w (mergedBytes ps)
  ps.foldl (fun (x : State × Answers) p =>
    if r.2 == rspDue then (x.1, noteAnswer x.2 p.req rspDue [])
    else if lostIn ps p then (raiseYard (x.1.inc F.yard_N_WRITE_LOST 0) Bit.ydWriteLost, noteAnswer x.2 p.req rspLost [])
    else (x.1, noteAnswer x.2 p.req rspOk [])) (r.1, a)

/-- One turn of a read. -/
def readTurn (s : State) (a : Answers) (p : Piece) : State × Answers :=
  let r := readWord s p.port p.word
  (r.1, noteAnswer a p.req r.2 (r.1.peek (8 * p.word + p.off) p.len))

/-- A part that waits at its bank (R251, R252): when it reached the bank, how many of the bank's turns it has seen go to
other requests since, and the part that follows it. -/
structure BankReq where
  piece : Piece
  came : Nat
  seen : Nat := 0
  next : Option Piece := none
deriving DecidableEq, Repr

/-- A request of P1 or P2 that has seen two turns go to others is owed the next one (R252). -/
def owed (b : BankReq) : Bool := (b.piece.port == 1 || b.piece.port == 2) && decide (2 ≤ b.seen)

/-- The first of a list whose port is lowest (R251). -/
def firstPort (l : List BankReq) : Option BankReq :=
  l.foldl (fun (m : Option BankReq) b => match m with
    | none => some b
    | some c => if b.piece.port < c.piece.port then some b else m) none

/-- The first of the owed that has waited longest (R252). -/
def longestOwed (l : List BankReq) : Option BankReq :=
  (l.filter owed).foldl (fun (m : Option BankReq) b => match m with
    | none => some b
    | some c => if decide (c.seen < b.seen) || c.seen == b.seen && decide (b.piece.port < c.piece.port) then some b else m) none

/-- Whom a bank grants its turn (R251, R252): the longest owed, but P0 where it waits after an owed turn; else by port. -/
def bankChoice (l : List BankReq) (afterOwed : Bool) : Option BankReq :=
  if afterOwed && l.any (fun b => b.piece.port == 0) then l.find? (fun b => b.piece.port == 0)
  else (longestOwed l).or (firstPort l)

/-- An access step under way: the parts that wait, and the banks whose last turn was an owed one. -/
structure Access where
  st : State
  ans : Answers := []
  waiting : List BankReq
  owedLast : List Nat := []

/-- The bank of a part. -/
def BankReq.bank (b : BankReq) : Nat := b.piece.word % 16

/-- The turn of one bank: a read, or a write with the writes of the same word that came in the same step (R253). -/
def bankServe (a : Access) (turn bank : Nat) : Access :=
  let here := a.waiting.filter (fun b => b.bank == bank && decide (b.came ≤ turn))
  match bankChoice here (a.owedLast.contains bank) with
  | none => a
  | some b =>
    let p := b.piece
    let merged := here.filter (fun c => c.piece == p || (p.bytes.isSome && c.piece.bytes.isSome && c.piece.word == p.word && c.came == b.came))
    let order := (List.range 8).flatMap (fun k => merged.filter (fun c => c.piece.port == k))
    let r := match p.bytes with
      | none => readTurn a.st a.ans p
      | some _ => writeTurn a.st a.ans (order.map BankReq.piece) p.word ((order.map (fun (c : BankReq) => c.piece.port)).headD 0)
    let gone := fun (c : BankReq) => match p.bytes with
      | none => c.piece == p
      | some _ => merged.any (fun m => m.piece == c.piece)
    let left := (a.waiting.filter (fun c => !gone c)).map (fun c =>
      if c.bank == bank && decide (c.came ≤ turn) then { c with seen := c.seen + 1 } else c)
    let follow := (merged.filter gone).filterMap (fun c => c.next.map (fun n => { piece := n, came := turn + 1 }))
    { st := r.1, ans := r.2, waiting := left ++ follow
      owedLast := if owed b && !(a.owedLast.contains bank && p.port == 0) then (if a.owedLast.contains bank then a.owedLast else bank :: a.owedLast)
        else a.owedLast.filter (· != bank) }

/-- Turn after turn of the sixteen banks, until no part waits. -/
def bankTurns (a : Access) (turn : Nat) : Nat → Access
  | 0 => a
  | n + 1 =>
    if a.waiting.isEmpty then a
    else bankTurns ((a.waiting.map BankReq.bank).eraseDups.foldl (fun x b => bankServe x turn b) a) (turn + 1) n

/-- The request would cross the end of the yard (R255). -/
def outOfYard (r : YardReq) : Bool :=
  decide (0x2000000 < r.addr + (match r.op with
    | .read k => k
    | .write b => b.length))

/-- A step of requests at the yard: refused at its end, else served by the banks turn by turn, the second part of a crossing
access one turn after the first (R255). -/
def accessStep (s : State) (rs : List YardReq) : State :=
  let l := rs.zipIdx
  let s1 := (l.filter (fun e => outOfYard e.1)).foldl (fun t _ => raiseYard (t.inc F.yard_N_RANGE 0) Bit.ydRange) s
  let w := (l.filter (fun e => !outOfYard e.1)).filterMap (fun e =>
    let p := pieces e.2 e.1
    p.1.map (fun x => ({ piece := x, came := 0, next := p.2 } : BankReq)))
  let y := bankTurns { st := s1, waiting := w } 0 (2 * rs.length)
  { y.st with yardOut := l.map (fun e =>
      if outOfYard e.1 then (e.1.port, rspRange, []) else
        let o := tget y.ans e.2 (0, [])
        (e.1.port, o.1, o.2)) }

/-! ### The groom (R262 to R268) -/

/-- A word of the region failed MARCH. -/
def passFound (s : State) (i : Nat) : State :=
  { s with groomPass := s.groomPass.map (fun g => { g with found := g.found ++ [i] }) }

/-- A word of the region failed VERIFY. -/
def passDiffers (s : State) (i : Nat) : State :=
  { s with groomPass := s.groomPass.map (fun g => { g with differ := g.differ ++ [i] }) }

/-- MARCH has ended (R267, R272). `march` lists the words that failed; numbers from 64 on are free spares that failed,
64 × bank + spare counted from 64. The failed words are remapped before RESTORE begins, but not in a pass that is void
already. -/
def marchFound (s : State) (g : GroomPass) (march : List Nat) : State :=
  let spares := (march.filter (fun i => decide (64 ≤ i) && decide (i < 1088))).map (fun i => i - 64)
  let s1 := spares.foldl (fun t e => if spareFree t e then retireSpare t e else t) s
  if g.written then s1
  else ((List.range 64).filter march.contains).foldl (fun t i =>
    passFound (remapRow t (wordBank (64 * g.region + i)) (wordRow (64 * g.region + i)) 1) i) s1

/-- What one P7 turn of a pass does (R263, R264): a scrub reads a word; COPY reads a region word and writes its save word,
RESTORE the other way round, VERIFY reads both and compares. -/
def groomWork (s : State) (g : GroomPass) (march : List Nat) : State :=
  let i := g.turn / 2 % 64
  let w := 64 * g.region + i
  let v := saveWord g.region i
  let even := g.turn % 2 == 0
  match g.phase with
  | 5 => if g.turn < 64 then (readWord s 7 (64 * g.region + g.turn)).1 else s
  | 1 => if even then (readWord s 7 w).1 else copyPlace s (s.cells w) (s.cells v)
  | 2 => if g.turn == 767 then marchFound s g march else s
  | 3 => if even then (readWord s 7 v).1 else copyPlace s (s.cells v) (s.cells w)
  | _ =>
    if even then (readWord s 7 w).1
    else
      let t := (readWord s 7 v).1
      if placeRead t (t.cells w) == placeRead t (t.cells v) then t else passDiffers t i

/-- The turns of a pass: 64 of a scrub, 1,024 of a march pass (R264). -/
def GroomPass.length (g : GroomPass) : Nat := if g.march then 1024 else 64

/-- P7 turns of the pass in progress, one after the other. -/
def groomTurns (s : State) (march : List Nat) : Nat → State
  | 0 => s
  | n + 1 =>
    match s.groomPass with
    | none => s
    | some g =>
      if g.turn < g.length then
        let t := groomWork s g march
        groomTurns { t with groomPass := t.groomPass.map (fun x => { x with turn := g.turn + 1 }) } march n
      else s

/-- YARD_ACCESS (R249): first what has come about in the yard since the access before, then the requests. -/
def execYardAccess (reqs : List YardReq) (since : YardSince) (s : State) : Host.Outcome State Fault Refusal :=
  .next (if s.shedUp 4 then
      accessStep (groomTurns (since.flips.foldl (fun t f => flipWord t f.1 f.2.1 f.2.2) s) since.march (min since.groom 1024)) reqs
    else s)

/-- YARD_CFG.CNT_CLR (R279). -/
def clearYardCounters (s : State) : State :=
  s.clear [F.yard_N_CE, F.yard_N_DUE, F.yard_N_WRITE_LOST, F.yard_N_RANGE, F.yard_N_TACK_CE, F.yard_FAILS, F.yard_VOIDS,
    F.yard_DUE_VALID, F.yard_CE_VALID] 0

/-- YARD_CNT_CLR. -/
def execYardCntClr (s : State) : Host.Outcome State Fault Refusal :=
  .next (if s.shedUp 4 then clearYardCounters s else s)

/-- FARRIER_REMAP (R270, R271): a trigger of the cause must stand: CE_REPEAT corrections, a word the march is on, or a
word that reads DUE and is not on a spare as poisoned yet. -/
def remapDue (s : State) (bank row cause : Nat) : Bool :=
  match cause with
  | 0 => let n := s.get F.yard_CE_REPEAT 0; n != 0 && decide (n ≤ trackCount s bank row)
  | 1 => (s.groomPass.map (fun g => g.march && row / 4 == g.region)).getD false
  | 2 => decide (wordState (tget s.yardErr (s.cells (16 * row + bank)) 0) = .due) && !poisoned s (16 * row + bank)
  | _ => false

/-- FARRIER_REMAP. -/
def execFarrierRemap (bank row cause : Nat) (s : State) : Host.Outcome State Fault Refusal :=
  .next (if s.shedUp 4 && remapDue s bank row cause then remapRow s bank row cause else s)

/-- FARRIER_PERSIST (R274): firmware has written the remap tables to flash. -/
def execFarrierPersist (s : State) : Host.Outcome State Fault Refusal :=
  .next (if s.shedUp 4 && s.running && s.on F.yard_DIRTY 0 then
      { s.set F.yard_DIRTY 0 0 with
        persistMap := (List.range 1024).foldl (fun t e => tput t e (s.reg (F.map_ROW.addr e)) 0) [] }
    else s)

/-- The protect range n holds the region (R263, R282). -/
def protectedBy (s : State) (r n : Nat) : Bool :=
  decide (s.get (F.yard_PROT_BASE.at (8 * n)) 0 ≤ r) && decide (r ≤ s.get (F.yard_PROT_LIMIT.at (8 * n)) 0)

/-- VOID_MAX; 0 behaves as 1 (R282). -/
def voidMax (s : State) : Nat := max 1 (s.get F.yard_VOID_MAX 0)

/-- The region lies in a frame buffer while a pipe runs, or in a protect range (R263). -/
def scrubOnly (s : State) (r : Nat) : Bool :=
  (decide (r < 0x1200000 / 512) && s.runNow && s.shedUp 5) || (List.range 4).any (protectedBy s r)

/-- GROOM_PASS_START (R262): the pass begins; its turns follow. -/
def execGroomPassStart (s : State) : Host.Outcome State Fault Refusal :=
  .next (if s.shedUp 4 && s.on F.yard_GROOM_EN 0 && s.groomPass.isNone then
      let r := s.groomNext
      { s.set F.yard_REGION 0 r with
        groomPass := some { region := r, march := !scrubOnly s r && decide (s.voidRun < voidMax s) } }
    else s)

/-- Once per sweep firmware commits the router tables unchanged, unless a write is staged there (R263). -/
def sweepCommit (s : State) : State :=
  if s.running && s.shedUp 2 && !s.routerStaged then { s with sweepDue := true } else s

/-- The groom moves on; the wrap ends a sweep (R262, R270). -/
def nextRegion (s : State) (r : Nat) : State :=
  if r < 65535 then { s with groomNext := r + 1, voidRun := 0 }
  else
    let s1 := raiseGroom (s.incWrap F.yard_SWEEPS 0) Bit.gmSweepDone
    let s2 := yardLog s1 254 2 0 0 0 0 []
    sweepCommit { s2 with groomNext := 0, voidRun := 0, trackers := [] }

/-- A word that fails only VERIFY (R267): it is remapped, and its save word is written to the spare. -/
def verifyFail (s : State) (g : GroomPass) (i : Nat) : State :=
  let w := 64 * g.region + i
  let t := remapRow s (wordBank w) (wordRow w) 1
  copyPlace t (t.cells (saveWord g.region i)) (t.cells w)

/-- The verdict on a region with failed words (R267): one MARCH_FAIL record, FAILS, MARCH_FAIL. -/
def marchFail (s : State) (r : Nat) (fails : List Nat) : State :=
  let w := 64 * r + fails.headD 0
  raiseGroom (yardLog (s.inc F.yard_FAILS 0) 254 0 (wordBank w) (wordRow w) 0 r fails) Bit.gmMarchFail

/-- The end of a march pass: void when written, else judged (R266, R267); `verify` lists further words that VERIFY found
different. -/
def marchEnd (s : State) (g : GroomPass) (verify : List Nat) : State :=
  if g.written then { s.inc F.yard_VOIDS 0 with voidRun := s.voidRun + 1 }
  else
    let bad := fun i => g.differ.contains i || verify.contains i
    let only := (List.range 64).filter (fun i => bad i && !g.found.contains i)
    let fails := (List.range 64).filter (fun i => bad i || g.found.contains i)
    let t := only.foldl (fun t i => verifyFail t g i) s
    nextRegion (if fails.isEmpty then t else marchFail t g.region fails) g.region

/-- The end of a scrub (R263, R266): after VOID_MAX void passes a VOID_GIVEUP record. -/
def scrubEnd (s : State) (r : Nat) : State :=
  nextRegion (if voidMax s ≤ s.voidRun then yardLog s 254 1 0 0 0 r [] else s) r

/-- GROOM_PASS_END (R266): what is left of the pass runs, `march` saying what MARCH finds if that is still to come and
`verify` what VERIFY found; then the pass is judged. -/
def execGroomPassEnd (march verify : List Nat) (s : State) : Host.Outcome State Fault Refusal :=
  .next (if s.shedUp 4 then
      let t := groomTurns s march 1024
      match t.groomPass with
      | none => t
      | some g =>
        let z : State := { t with groomPass := none }
        if g.march then marchEnd z g verify else scrubEnd z g.region
    else s)

/-- GROOM_CFG.EN (R268): a pass in progress finishes. -/
def execGroomEnWrite (en : Bool) (s : State) : Host.Outcome State Fault Refusal :=
  .next (if s.shedUp 4 then s.setB F.yard_GROOM_EN 0 en else s)

/-! ### The tack room (R275, R276, R567) -/

/-- An access by the secure processor; what it reads stands in `yardOut` under port number 8, a path of its own. -/
def tackStep (s : State) (addr : Nat) (op : YardOp) : State :=
  match op with
  | .read n =>
    let r := (tackWords addr n).foldl (fun (x : State × Bool) w => let y := tackWord x.1 w; (y.1, x.2 && y.2)) (s, true)
    let d := if r.2 then r.1.tackRead addr n else List.replicate n 0#8
    { r.1 with yardOut := [(8, if r.2 then rspOk else rspDue, d)] }
  | .write bs =>
    let whole := decide (bs.length = 8) && addr % 8 == 0
    let r := if whole then ({ s with tackErr := tdrop s.tackErr (addr / 8) }, true)
      else (tackWords addr bs.length).foldl (fun (x : State × Bool) w => let y := tackWord x.1 w; (y.1, x.2 && y.2)) (s, true)
    if r.2 then { r.1.tackWrite addr bs with yardOut := [(8, rspOk, [])] }
    else { r.1 with yardOut := [(8, rspDue, [])] }

/-- The tack room's last byte. -/
def inTack (addr : Nat) (op : YardOp) : Bool :=
  decide (addr + (match op with
    | .read n => n
    | .write b => b.length) ≤ 65536)

/-- TACK_ACCESS (R275): anything but the secure processor reads 0, writes nothing, and sets ACCESS (R567). -/
def execTackAccess (secure : Bool) (addr : Nat) (op : YardOp) (flips : List (Nat × Byte)) (s : State) :
    Host.Outcome State Fault Refusal :=
  .next (if !secure then
      { raiseSec s Bit.scAccess with yardOut := [(8, rspOk, match op with
          | .read n => List.replicate n 0#8
          | .write _ => [])] }
    else if inTack addr op then
      tackStep (flips.foldl (fun (t : State) f =>
        { t with tackErr := tput t.tackErr (addr / 8) (tget t.tackErr (addr / 8) 0 ^^^ (f.2.toNat * 256 ^ (f.1 % 11))) 0 }) s)
        addr op
    else s)

end Sys2Proof.Machine
end

