-- ==== Sys2Proof/Machine/TimeUnit.lean ====
section
/-! DEFINITION. The time unit (R285 to R317): ADJ and its limit, the servo, steps, the reference and its loss, PTP as far
as it reaches the hub's state, pulse outputs, capture inputs, the frame-tick generator, and their rows. -/

namespace Sys2Proof.Machine

/-! ### ADJ and SERVO (R286, R291) -/

/-- The limit of ADJ (R286). -/
def adjLimit : Int := 3435973

/-- Write ADJ: beyond the limit it behaves as the limit and AT_LIMIT is set. -/
def writeAdj (s : State) (v : Int) : State :=
  let c := clampI (-adjLimit) adjLimit v
  let s1 := (s.setI F.time_ADJ 0 c).setB F.time_AT_LIMIT 0 (decide (c.natAbs = adjLimit.natAbs))
  if c == v then s1 else raiseTime s1 Bit.tmAtLimit

/-- TS_STATE changes now: an edge from before still takes what it was (R144). -/
def noteTs (s : State) (v : Nat) : State :=
  if tsState v == s.tsState then s else { s with servo := { s.servo with tsSince := s.stamp, tsBefore := s.tsState } }

/-- SERVO and the TS_STATE that goes with it (R291, R312). -/
def setServo (s : State) (v : Nat) : State := ((noteTs s v).set F.time_SERVO 0 v).set F.time_TS_STATE 0 (tsState v)

/-- LOCK_TH in ns; 0 behaves as 1 (R313). -/
def lockTh (s : State) : Nat := max 1 (s.get F.time_LOCK_TH 0)

/-- The frequency estimate (R295): the mean of ADJ over the last 64 measurements in LOCKED. The spec does not say how a
mean that is no integer is rounded: up or down is free. With no such measurement ADJ is held. -/
def meanAdj (s : State) : State × Int :=
  let h := s.servo.history
  let n : Int := h.length
  if h.isEmpty then (s, s.getI F.time_ADJ 0)
  else
    let sum := h.foldl (· + ·) 0
    let m := sum / n
    if sum % n == 0 then (s, m)
    else ({ s with drawn := s.drawn + 1 }, m + ((Config.freeWord s.drawn).toNat % 2 : Nat))

/-- HOLDOVER at the frequency estimate. -/
def holdOver (s : State) : State :=
  let m := meanAdj s
  let s1 := setServo (writeAdj m.1 m.2) 4
  { s1 with servo := { s1.servo with jumped := false, inRun := 0, outRun := 0 } }

/-- The reference is lost (R295). -/
def loseReference (s : State) : State :=
  let v := s.get F.time_SERVO 0
  let s0 := { s with servo := { s.servo with ppsEdge := none, ppsLabel := none } }
  if v == 2 || v == 3 then raiseTime (holdOver s0) Bit.tmLockLost
  else if v == 1 then setServo { s0 with servo := { s0.servo with first := true, inRun := 0 } } 0
  else s0

/-! ### The frame-tick generator (R306 to R308) -/

/-- NUM and DEN; DEN 0 behaves as 1 (R314). -/
def frameNum (s : State) : Nat := max 1 (s.get F.time_NUM 0)

def frameDen (s : State) : Nat := max 1 (s.get F.time_DEN 0)

/-- Align at counter value `t`: n is the least integer with T_n at or after it (R307). -/
def alignAt (s : State) (t : Nat) : State :=
  let num := frameNum s
  let per := frameDen s * 1000000000
  let ph := s.get F.time_FRAME_PHASE 0
  let n := if t ≤ ph * nsUnit then 0 else ((t - ph * nsUnit) * num + per * nsUnit - 1) / (per * nsUnit)
  { s with frame := { s.frame with n := n, t := ph + n * per / num, r := n * per % num, fresh := true } }

/-- The due instant has come: time of day has reached T + r/NUM ns. -/
def tickDue (s : State) : Bool := decide ((s.frame.t * frameNum s + s.frame.r) * nsUnit ≤ s.tod * frameNum s)

/-- The generator's next instance. -/
def advanceTick (s : State) : State :=
  let num := frameNum s
  let per := frameDen s * 1000000000
  let r := s.frame.r + per % num
  let carry := decide (num ≤ r)
  { s with frame := { s.frame with n := s.frame.n + 1, t := s.frame.t + per / num + b2n carry,
                                   r := if carry then r - num else r } }

/-- After a realignment, an instant less than half a period after the last fired tick (R308). -/
def tickTooEarly (s : State) : Bool :=
  match s.frame.lastFired with
  | none => false
  | some l => s.frame.fresh &&
    decide (2 * ((s.frame.t * frameNum s + s.frame.r) * nsUnit) < 2 * (l * frameNum s) + frameDen s * 1000000000 * nsUnit)

/-- Frame-mode outputs begin a pulse at a tick whose n is a multiple of DIVIDE (R301, R302). -/
def markFramePulses (s : State) : State :=
  (List.range 8).foldl (fun t n =>
    if t.on F.pulse_ARMED n && t.on F.pulse_FRAME n && t.frame.n % max 1 (t.get F.pulse_DIVIDE n) == 0 then
      { t with pulses := tput t.pulses n { tget t.pulses n {} with frameDue := true, next := t.tod } {} }
    else t) s

/-- The tick fires: FRAME_N, the pulses, the next instance; a staged rate and PHASE come into force and the grid is
realigned from this tick (R308). -/
def fireTick (s : State) : State :=
  let s1 := markFramePulses (s.set F.time_FRAME_N 0 s.frame.n)
  let s2 := { advanceTick s1 with frame := { (advanceTick s1).frame with lastFired := some s.tod, fresh := false } }
  match s2.frame.staged with
  | none => s2
  | some (num, den, ph) =>
    let s3 := ((s2.set F.time_NUM 0 num).set F.time_DEN 0 den).set F.time_FRAME_PHASE 0 ph
    alignAt { s3 with frame := { s3.frame with staged := none } } s.tod

/-- A tick is skipped (R308). -/
def suppressTick (s : State) : State := raiseTime (advanceTick s) Bit.tmTickSuppressed

/-! ### Steps (R297) -/

/-- A timed output meets a step: disarmed at once, or at the end of its pulse, with STEP_OFF. -/
def stepOffPulse (s : State) (n : Nat) : State :=
  if s.on F.pulse_ARMED n && !s.on F.pulse_FRAME n then
    let p := tget s.pulses n {}
    if p.high then { s with pulses := tput s.pulses n { p with disarm := true, stepOff := true } {} }
    else raisePin (s.set F.pulse_ARMED n 0) n Bit.pnStepOff
  else s

/-- The counter steps by `d` ns (R297): STEPPED, STEPS, the timed outputs off, the frame tick realigned. The instant of
the last tick, the end of a pulse in progress and the change of TS_STATE are carried onto the new scale: what lies between
them and now has not changed (DESIGN CHOICE for the pulse: R301 gives its length). -/
def stepCounter (s : State) (d : Int) : State :=
  let delta := d * (nsUnit : Int)
  let tod := (((s.tod : Int) + delta).toNat) % todMod
  let carry := fun (l : Nat) => ((l : Int) + delta).toNat
  let s1 := { s with
    tod := tod, stepped := s.stepped + d
    frame := { s.frame with lastFired := s.frame.lastFired.map carry }
    pulses := s.pulses.map (fun (e : Nat × Pulse) => (e.1, if e.2.high then { e.2 with endAt := carry e.2.endAt } else e.2))
    servo := { s.servo with tsSince := ((s.servo.tsSince : Int) + 16 * d).toNat } }
  let s2 := raiseTime (s1.inc F.time_STEPS 0) Bit.tmStepped
  let s3 := (List.range 8).foldl stepOffPulse s2
  let s4 := { s3 with servo := { s3.servo with offset := s3.servo.offset.map (· + d) } }
  alignAt s4 tod

/-! ### Measurements (R292, R294) -/

/-- A measured offset enters the run counts; 16 inside LOCK_TH lock the servo, 4 outside 4 × LOCK_TH leave LOCKED. -/
def countRuns (s : State) (a : Nat) : State :=
  let th := lockTh s
  let v := s.servo
  let inRun := if a ≤ th then v.inRun + 1 else 0
  let outRun := if 4 * th < a then v.outRun + 1 else 0
  let s1 := { s with servo := { v with inRun := inRun, outRun := outRun } }
  let st := s1.get F.time_SERVO 0
  if (st == 1 || st == 3) && decide (16 ≤ inRun) then
    let s2 := raiseTime ((setServo s1 2).set F.time_EVER_LOCKED 0 1) Bit.tmLocked
    { s2 with servo := { s2.servo with outRun := 0, jumped := false } }
  else if st == 2 && decide (4 ≤ outRun) then
    let s2 := setServo s1 3
    { s2 with servo := { s2.servo with inRun := 0, outRun := 0 } }
  else s1

/-- The reference has jumped (R294). -/
def isJump (s : State) (off : Int) : Bool :=
  let th := s.get F.time_JUMP_TH 0
  match s.servo.offset with
  | none => false
  | some o => th != 0 && decide (th * 1000 < (off - o).natAbs)

/-- The direction that closes an offset, at the limit. -/
def limitAdj (off : Int) : Int := if 0 < off then -adjLimit else adjLimit

/-- A measurement once the servo is in ACQUIRE, LOCKED or SLEW: `off` is the hub less the reference in ns, `rate` the
ADJ that the servo computes from it, which the spec leaves to firmware. -/
def measure (s : State) (off rate : Int) : State :=
  let a := off.natAbs
  let firstOne := s.get F.time_SERVO 0 == 1 && s.servo.first
  let jump := !firstOne && isJump s off
  let s1 := { s with servo := { s.servo with offset := some off, measuredAt := some s.ran, first := false } }
  if firstOne then
    let th := s1.get F.time_STEP_TH 0
    let s2 := if th != 0 && decide (th * 1000 < a) && !s1.on F.time_EVER_LOCKED 0 then stepCounter s1 (-off) else s1
    countRuns (writeAdj s2 rate) a
  else if jump then
    let s2 := writeAdj (setServo (raiseTime s1 Bit.tmMasterJump) 3) (limitAdj off)
    { s2 with servo := { s2.servo with jumped := true, inRun := 0, outRun := 0 } }
  else if s1.servo.jumped && decide (lockTh s1 ≤ a) then countRuns (writeAdj s1 (limitAdj off)) a
  else
    let s2 := { s1 with servo := { s1.servo with jumped := false } }
    let s3 := writeAdj s2 rate
    let s4 := if s3.get F.time_SERVO 0 == 2 then
        { s3 with servo := { s3.servo with history := (s3.servo.history ++ [s3.getI F.time_ADJ 0]).drop (s3.servo.history.length + 1 - 64) } }
      else s3
    countRuns s4 a

/-- The measurement of a PPS edge (R290): its capture time less the second that labels it, in whole ns. -/
def ppsOffset (edge : Nat) (label : Int) : Int := (edge / 16 : Nat) - label * 1000000000

/-- A PTP or PPS measurement (R290 to R292): with REF 0 or 3 there is no reference; the servo enters ACQUIRE or, after
HOLDOVER, SLEW when its reference is there again. With REF 2 the latest PPS edge is measured, once: against its label, or
without one for rate only. -/
def servoMeasure (s : State) (off rate : Int) : State :=
  let ref := s.get F.time_REF 0
  if ref == 0 || ref == 3 || (ref == 2 && s.servo.ppsEdge.isNone) then s
  else
    let v := s.get F.time_SERVO 0
    let s1 := if v == 0 || decide (4 < v) then
        setServo { s with servo := { s.servo with first := true, inRun := 0, outRun := 0, offset := none } } 1
      else if v == 4 then setServo { s with servo := { s.servo with inRun := 0, outRun := 0, jumped := false } } 3
      else s
    let s2 := { s1 with servo := { s1.servo with ppsEdge := none, ppsLabel := none } }
    if ref != 2 then measure s1 off rate
    else match s.servo.ppsLabel with
      | none => writeAdj s2 rate
      | some l => measure s2 (ppsOffset (s.servo.ppsEdge.getD 0) l) rate

/-- LOCK_LOST (R295): the reference is lost. -/
def execLockLost (s : State) : Host.Outcome State Fault Refusal := .next (loseReference s)

/-- REFCLK_RETURN (R287): the counter runs again; a servo in LOCKED or SLEW enters HOLDOVER. -/
def execRefclkReturn (s : State) : Host.Outcome State Fault Refusal :=
  let v := s.get F.time_SERVO 0
  .next (if s.refclk then s
    else
      let s1 := { s with refclk := true }
      if v == 2 || v == 3 then holdOver s1 else s1)

/-- ADDEND_WRITE (R286). -/
def execAddendWrite (v : Word) (s : State) : Host.Outcome State Fault Refusal := .next (writeAdj s (sx 32 v.toNat))

/-- The snapshot (R288). -/
def snapshotTime (s : State) : State :=
  let ns := s.nowNs
  let sec := ns / 1000000000
  (((s.set F.time_SNAP_NS 0 (ns % 1000000000)).set F.time_SNAP_SEC_LO 0 (sec % 4294967296)).set F.time_SNAP_SEC_HI 0
    (sec / 4294967296)).set F.time_SNAP_FRAC 0 (s.tod % nsUnit)

/-- SNAP (R288). -/
def execSnap (s : State) : Host.Outcome State Fault Refusal := .next (snapshotTime s)

/-! ### PTP (R298) -/

/-- A word of the PTP settings (R504). -/
def ptpWord (s : State) (k : Nat) : Nat := (s.servo.ptpCfg.getD k 0).toNat

/-- The hub's own rank in the best master clock algorithm: PRIORITY1, CLASS, ACCURACY, variance, PRIORITY2, identity. -/
def ownRank (s : State) : Nat :=
  let w := ptpWord s 2
  ((((bits w 0 8 * 256 + bits w 16 8) * 256 + bits w 24 8) * 65536 + Config.clockDataset.2 % 65536) * 256 + bits w 8 8) *
    18446744073709551616 + Config.clockDataset.1 % 18446744073709551616

/-- TLV types of IEEE 1588-2019 that stand for what the hub does not support: unicast negotiation, alternate timescale offsets,
authentication. PRESUMED: the standard's numbers. -/
def tlvRefused (k : Nat) : Bool := [4, 5, 6, 7, 9, 0x8009].contains k

/-- The synchronization metadata TLV of ST 2059-2 is an organization extension. PRESUMED: the standards' number. -/
def tlvMetadata (k : Nat) : Bool := k == 3

/-- Signaling and management messages (types 12 and 13) carry what the hub does not support, but for the synchronization
metadata of ST 2059-2; some TLVs are not supported in any message (R298). -/
def ptpUnsupported (s : State) (m : PtpMsg) : Bool :=
  m.kind == 12 || (m.kind == 13 && !(bits (ptpWord s 0) 0 2 == 2 && !m.tlvs.isEmpty && m.tlvs.all (fun t => tlvMetadata t.1))) ||
    m.tlvs.any (fun t => tlvRefused t.1)

/-- The message is outside the supported set or the settings in force (R298). -/
def ptpRefused (s : State) (port : Nat) (m : PtpMsg) : Bool :=
  port != s.get F.time_PTP_PORT 0 || ptpUnsupported s m || m.version != 2 || m.domain != bits (ptpWord s 0) 4 7 ||
    m.profile != bits (ptpWord s 0) 0 2 || m.transport != bits (ptpWord s 0) 2 1

/-- The best other clock that has been heard. -/
def bestForeign (l : List (Nat × Nat)) : Option (Nat × Nat) :=
  l.foldl (fun (m : Option (Nat × Nat)) e => match m with
    | none => some e
    | some b => if e.2 < b.2 then some e else m) none

/-- The master that the best master clock algorithm chooses (R298): the lowest rank, within ROLE; a hub that is not
slave-only takes part with its own. -/
def chosenMaster (s : State) (own : Bool) : Option (Nat × Nat) :=
  let role := s.get F.time_ROLE 0
  let me := (Config.clockDataset.1, ownRank s)
  if role == 2 then (if own then some me else none)
  else match bestForeign s.servo.foreign with
    | none => if own && role != 1 then some me else none
    | some b => if role != 1 && decide (me.2 < b.2) then some me else some b

/-- The master changes (R315): MASTER_CHANGE when another one than before is chosen. -/
def takeMaster (s : State) (m : Option (Nat × Nat)) : State :=
  let v := s.servo
  let s1 := { s with servo := { v with master := m.map (·.1), masterRank := (m.map (·.2)).getD 0 } }
  if v.master.isSome && m.isSome && v.master != m.map (·.1) then raiseTime s1 Bit.tmMasterChange else s1

/-- An Announce message (type 11): what its clock says of itself now replaces what it said before. -/
def announce (s : State) (m : PtpMsg) : State :=
  let v := s.servo
  let s1 := { s with servo := { v with foreign := v.foreign.filter (fun e => e.1 != m.identity) ++ [(m.identity, m.rank)] } }
  takeMaster s1 (chosenMaster s1 (v.master == some Config.clockDataset.1))

/-- The hub is master of its domain. -/
def ptpMaster (s : State) : Bool := s.servo.master == some Config.clockDataset.1

/-- The hub is passive (R290): another clock is better, and its own class, 1 to 127, serves no slave. PRESUMED: clause 9.3 of
IEEE 1588-2019. -/
def ptpPassive (s : State) : Bool :=
  let c := bits (ptpWord s 2) 16 8
  !ptpMaster s && s.servo.master.isSome && decide (1 ≤ c) && decide (c ≤ 127) && s.get F.time_ROLE 0 != 1

/-- The time of the counter a number of SGMII bits (0.8 ns) ago, in units of the counter (R299). -/
def bitsAgo (s : State) (ago : Nat) : Nat := (5 * s.tod - 4 * ago * nsUnit) / 5

/-- A receive timestamp at the pins, in 1/16 ns (R143, R299): the capture less 136 ns. -/
def rxStamp (s : State) (ago : Nat) : Nat := (bitsAgo s ago - 136 * nsUnit) / 268435456

/-- The transmit timestamp at the pins of a frame that leaves now (R299): the capture and 112 ns. -/
def txStamp (s : State) : Nat := (s.tod + 112 * nsUnit) / 268435456

/-- The PHY delays of the PTP port that firmware applies in the PTP computation (R299, R504), in 1/16 ns. -/
def rxPhy (s : State) : Nat := bits (ptpWord s (3 + s.get F.time_PTP_PORT 0)) 0 16

def txPhy (s : State) : Nat := bits (ptpWord s (3 + s.get F.time_PTP_PORT 0)) 16 16

/-- A supported message reaches firmware (R298, R299): event messages with their receive timestamp less the receive PHY delay, the
metadata TLV, and Announce. -/
def ptpTake (s : State) (m : PtpMsg) : State :=
  let v := s.servo
  let t := rxStamp s m.ago - rxPhy s
  let s1 := { s with servo := { v with
    tlvs := v.tlvs ++ (m.tlvs.filter (fun t => bits (ptpWord s 0) 0 2 == 2 && tlvMetadata t.1)).map (·.2)
    syncRx := if m.kind == 0 then t else v.syncRx
    pdelayRx := if m.kind == 2 then t else v.pdelayRx } }
  if m.kind == 11 then announce s1 m else s1

/-- PTP_MESSAGE (R298). -/
def execPtpMessage (port : Nat) (msg : PtpMsg) (s : State) : Host.Outcome State Fault Refusal :=
  .next (if !s.on F.time_PTP_EN 0 || decide (s.part.ports ≤ port) then s
    else if ptpRefused s port msg then
      raiseTime { s with servo := { s.servo with ptpDiscarded := s.servo.ptpDiscarded + 1 } } Bit.tmPtpDiscard
    else ptpTake s msg)

/-- What the port writes into a message as it leaves (R300): one-step, the origin timestamp of a Sync (0) and the turnaround
of a Pdelay_Resp (3); two-step, the captured timestamp of those messages in Follow_Up (8) and Pdelay_Resp_Follow_Up (10).
Over UDP the checksum is 0. Announce (11) under ST 2059-2 carries the configured TLV. -/
def ptpFrame (s : State) (kind : Nat) : PtpSent :=
  let one := bits (ptpWord s 0) 3 1 == 1
  let t := txStamp s + txPhy s
  { kind := kind
    origin := if kind == 0 && one then some t
      else if kind == 8 then some (tget s.servo.captured 0 0)
      else if kind == 10 then some (tget s.servo.captured 3 0) else none
    correction := if kind == 3 && one then some ((t : Int) - s.servo.pdelayRx) else none
    twoStep := (kind == 0 || kind == 3) && !one
    udpSum := if bits (ptpWord s 0) 2 1 == 0 then some 0 else none
    tlvs := if kind == 13 && bits (ptpWord s 0) 0 2 == 2 then [(3, Config.smpteTlv)] else [] }

/-- The hub may send a message of this kind in its role (R290, R298): Sync, Follow_Up, Delay_Resp, Announce and metadata as
master, Delay_Req as slave. -/
def ptpMaySend (s : State) (kind : Nat) : Bool :=
  if kind == 0 || kind == 8 || kind == 9 || kind == 13 then ptpMaster s
  else if kind == 1 then !ptpMaster s && !ptpPassive s && s.servo.master.isSome
  else if kind == 11 then (chosenMaster s true).map (·.1) == some Config.clockDataset.1
  else decide (kind < 12)

/-- PTP_TRANSMIT (R300): a frame of the PTP port; with an Announce (type 11) the hub becomes master, where no better clock is
known, or by ROLE. -/
def execPtpTransmit (kind : Nat) (s : State) : Host.Outcome State Fault Refusal :=
  let p := s.get F.time_PTP_PORT 0
  .next (if s.on F.time_PTP_EN 0 && ethOn s p && s.on F.eth_EN p && s.on F.eth_LINK p && ptpMaySend s kind then
      let v := s.servo
      let s1 := { s.inc F.eth_TX_FRAMES p with servo := { v with
        ptpSent := v.ptpSent + 1, ptpOut := some (ptpFrame s kind)
        captured := if kind < 4 then tput v.captured kind (txStamp s + txPhy s) 0 else v.captured } }
      if kind == 11 then takeMaster s1 (chosenMaster s true) else s1
    else s)

/-! ### Pulse outputs (R301 to R304) -/

/-- START in ns. -/
def pulseStart (s : State) (n : Nat) : Nat :=
  s.get F.pulse_START_NS n + (s.get F.pulse_START_SEC_LO n + s.get F.pulse_START_SEC_HI n * 4294967296) * 1000000000

/-- WIDTH in ns; below 4 it behaves as 4. -/
def pulseWidth (s : State) (n : Nat) : Nat := max 4 (s.get F.pulse_WIDTH n)

/-- Arm an output with the block's words 0x00 to 0x18 (R303): late instances are skipped or, for a single pulse, disarm
it. -/
def armNow (s : State) (n : Nat) (ws : List Word) : State :=
  let s1 := (putRegs s .pulse n 0 ws).set F.pulse_ARMED n 1
  let st := pulseStart s1 n
  let per := s1.get F.pulse_PERIOD n
  let p : Pulse := { next := st }
  if s1.on F.pulse_FRAME n then { s1 with pulses := tput s1.pulses n {} {} }
  else if st * nsUnit < s1.tod then
    if per == 0 then raisePin { s1.set F.pulse_ARMED n 0 with pulses := tput s1.pulses n {} {} } n Bit.pnPulseLate
    else
      let k := (s1.tod - st * nsUnit + per * nsUnit - 1) / (per * nsUnit)
      raisePin { s1 with pulses := tput s1.pulses n { p with next := st + k * per } {} } n Bit.pnPulseLate
  else { s1 with pulses := tput s1.pulses n p {} }

/-- TIME_PULSE_ARM on an output: at once, or at the end of the pulse in progress. -/
def armPulse (s : State) (n : Nat) (ws : List Word) : State :=
  let p := tget s.pulses n {}
  if p.high then { s with pulses := tput s.pulses n { p with rearm := some ws, disarm := false } {} } else armNow s n ws

/-- Disarm an output: at once, or at the end of the pulse in progress (R304). -/
def disarmPulse (s : State) (n : Nat) : State :=
  let p := tget s.pulses n {}
  if p.high then { s with pulses := tput s.pulses n { p with disarm := true, rearm := none } {} } else s.set F.pulse_ARMED n 0

/-- A pulse ends: a new arm waiting, a disarm, STEP_OFF, or the last of COUNT (R301). -/
def pulseFall (s : State) (n : Nat) : State :=
  let p := tget s.pulses n {}
  let s1 := { s with pulses := tput s.pulses n { p with high := false, last := false, disarm := false, stepOff := false, rearm := none } {} }
  let s2 := if p.stepOff then raisePin (s1.set F.pulse_ARMED n 0) n Bit.pnStepOff else s1
  let s3 := if p.last then raisePin (s2.set F.pulse_ARMED n 0) n Bit.pnPulseDone
    else if p.disarm then s2.set F.pulse_ARMED n 0 else s2
  match p.rearm with
  | some ws => armNow s3 n ws
  | none => s3

/-- A pulse begins at instant `at'` of the counter: COUNT falls when it is nonzero (R316). -/
def pulseRise (s : State) (n at' : Nat) : State :=
  let p := tget s.pulses n {}
  let c := s.get F.pulse_COUNT n
  { s.set F.pulse_COUNT n (c - 1) with
    pulses := tput s.pulses n { p with high := true, frameDue := false, endAt := at' + pulseWidth s n * nsUnit, last := c == 1,
                                       next := if s.on F.pulse_FRAME n then 0 else p.next + s.get F.pulse_PERIOD n } {} }

/-- A TIME_PULSE_DISARM answers when every output of its mask is disarmed (R304, R503). -/
def disarmAnswers (s : State) : State :=
  answerWaits s (fun w => match w with
    | .disarm m => (setBits 8 m).all (fun n => !s.on F.pulse_ARMED n)
    | _ => false) false (fun _ _ => (St.ok, []))

/-- PULSE_EDGE (R302): the edge that is due at this tick. -/
def execPulseEdge (n : Nat) (s : State) : Host.Outcome State Fault Refusal :=
  let p := tget s.pulses n {}
  .next (if p.high then (if p.endAt ≤ s.tod then disarmAnswers (pulseFall s n) else s)
    else if !s.on F.pulse_ARMED n then s
    else if s.on F.pulse_FRAME n then (if p.frameDue then pulseRise s n p.next else s)
    else if p.next * nsUnit ≤ s.tod then pulseRise s n (p.next * nsUnit)
    else s)

/-! ### Capture inputs (R305) -/

/-- The capture record of an edge (R112, R305): SOURCE 0x3000; the spec gives its SEQUENCE no value. -/
def captureRecord (s : State) (count stamp : Nat) (rising : Bool) : List Byte :=
  mkRecord { kind := 5, source := 0x3000, seqn := (Config.freeWord s.drawn).toNat, stamp := stamp, tsSrc := 0,
             tsState := s.tsAt stamp } (le 4 count ++ le 4 (b2n rising))

/-- TIME_CAP_LAST (R317). -/
def captureLast (s : State) (n stamp : Nat) (rising : Bool) : State :=
  let sec := stampSec stamp
  (((((s.set F.cap_LAST_NS n (stampNs stamp)).set F.cap_LAST_SEC_LO n (sec % 4294967296)).set F.cap_LAST_SEC_HI n
    (sec / 4294967296)).set F.cap_LAST_SUB n (stamp % 16)).setB F.cap_LAST_POL n rising).set F.cap_VALID n 1

/-- A selected edge: counted, and recorded unless it falls within 1 µs of the edge recorded before, whatever steps of the
counter lie between them. -/
def captureEdge (s : State) (n stamp : Nat) (rising : Bool) : State :=
  let c := tget s.caps n {}
  let at' := ((stamp : Int) - 16 * s.stepped).toNat
  let close := match c.recorded with
    | some t => decide (at' < t + 16000)
    | none => false
  let k := (c.count + 1) % 4294967296
  let s1 := captureLast { s with caps := tput s.caps n { c with count := k } {} } n stamp rising
  if close then s1
  else
    let s2 := { s1 with caps := tput s1.caps n { count := k, recorded := some at' } {}, drawn := s1.drawn + 1 }
    raisePin (stallOffer s2 (s2.get F.cap_STALL n) (captureRecord s k stamp rising)) n Bit.pnCapEdge

/-- The edge that REF 2 takes: the rising edge of the pin PPS_PIN names (R290, R305). -/
def ppsEdge (s : State) (n stamp : Nat) (rising : Bool) : State :=
  if s.get F.time_REF 0 == 2 && s.get F.time_PPS_PIN 0 == n && rising then
    { s with servo := { s.servo with ppsEdge := some stamp, ppsLabel := none } }
  else s

/-- TIME_CAP_EDGE (R305). -/
def execTimeCapEdge (n : Nat) (rising : Bool) (edge : EdgeAt) (s : State) : Host.Outcome State Fault Refusal :=
  let stamp := edgeStamp s edge
  let s1 := ppsEdge s n stamp rising
  .next (if (s1.get F.cap_EDGE n).testBit (if rising then 0 else 1) then captureEdge s1 n stamp rising else s1)

end Sys2Proof.Machine
end

