-- ==== Sys2Proof/Machine/Twin.lean ====
section
/-! DEFINITION. Twin operation (R389 to R431): the tether and its messages, the heartbeat and the keep-alive, the
interlock's rows, the comparison of outputs, snapshots, the journal's switch, restore and replay, the handover. -/

namespace Sys2Proof.Machine

/-! ### The tether (R392 to R396) -/

/-- The tether's line and its heartbeat run: a PLV-9664 with S7 up (R399). -/
def tetherLine (s : State) : Bool := s.part.hasTwin && s.shedUp 7

/-- Its channels and engines run: S4 is up too (R38). -/
def tetherOn (s : State) : Bool := tetherLine s && s.shedUp 4

/-- A frame leaves (R392, R393): header, payload, CRC-32C. `key` is the channel, or 4 for heartbeats. -/
def sendFrame (s : State) (key : Nat) (payload : List Byte) : State :=
  let f := tget s.twin.outSeq key 0
  let typ := if key == 4 then 0 else 1 + key * 16
  let hdr := typ + f % 256 * 256 + payload.length % 65536 * 65536
  let bytes := le 4 hdr ++ payload
  let fr := toWords bytes (bytes.length / 4) ++ [BitVec.ofNat 32 (crc32c bytes)]
  { s with twin := { s.twin with sent := s.twin.sent ++ [fr], outSeq := tput s.twin.outSeq key ((f + 1) % 256) 0 } }

/-- The channel that the transmitter serves next (R395): the lowest-numbered that has a record. -/
def tetherChannel (s : State) : Option Nat :=
  (List.range 4).find? (fun c => stallOn s (244 + c) && !(unreadLens s (244 + c)).isEmpty)

/-- The transmitter sends the records that wait, through P5, and releases each; a gap marker is no channel record and is only
released, with RUN (R231, R395). The time of transmission is left out, so the frames leave in the same step. -/
def tetherServe (s : State) : Nat → State
  | 0 => s
  | k + 1 =>
    match tetherChannel s with
    | none => s
    | some c =>
      let q := 244 + c
      let t := readHead s 5 q
      tetherServe (hubTake (if markerAtRd s q then t else sendFrame t c ((recordAtRd s q).getD [])) q) k

/-- Records that wait in Q244 to Q247. -/
def tetherWaiting (s : State) : Nat := (List.range 4).foldl (fun n c => n + (s.stall (244 + c)).lens.length) 0

/-- A channel record (R395, R396): written into its stall with credit, from which the transmitter takes it in its turn. -/
def tetherSend (s : State) (ch : Nat) (body : List Byte) : State :=
  if !tetherOn s then s
  else
    let q := 244 + ch
    let n := tget s.twin.recSeq ch 0
    let rec0 := mkRecord (s.ownHdr 8 n) body
    match ownWrite s q rec0 with
    | none => s
    | some t =>
      let t1 := { t with twin := { t.twin with recSeq := tput t.twin.recSeq ch ((n + 1) % 4294967296) 0 } }
      tetherServe t1 (tetherWaiting t1)

/-- The longest record of a frame, and the payload sizes (R393). -/
def frameLenOk (typ len : Nat) : Bool :=
  len % 4 == 0 && (if typ == 0 then len == 12 else decide (24 ≤ len) && decide (len ≤ 2080))

/-- A heartbeat's payload as a value (R395). -/
def heartbeatOf (b : List Byte) : Heartbeat :=
  { role := flag b 0 16, owns := flag b 0 17, alive := flag b 0 18, qualified := flag b 0 19, unit := fld b 0 20 3,
    gen := u32 b 4, cfgGen := BitVec.ofNat 32 (u32 b 8) }

/-- PAIR_MISMATCH (R390, R395, R398, R400). -/
def pairMismatch (s : State) : State := raiseTwin s Bit.twPairMismatch

/-- A valid heartbeat (R390, R400): the peer's state; equal roles or differing generations are a mismatch. -/
def heartbeatIn (s : State) (h : Heartbeat) : State :=
  let s1 := { s with twin := { s.twin with peer := some h, hbValid := true, hbAt := s.ran, peerLost := s.twin.peerLost && !h.alive,
                                           startup := s.twin.startup && !h.alive } }
  let s2 := if h.role == s.on F.twin_ROLE 0 || h.cfgGen != s.gen then pairMismatch s1 else s1
  showUnit s2

/-- TETHER_ERR (R394). -/
def tetherErr (s : State) (n : Nat) : State := s.addTo F.twin_TETHER_ERR 0 n

/-- A channel record arrives (R217, R395, R396): one of another KIND than 8, with an unknown MSG, or whose LENGTH is not that of
the payload, is discarded; the receiver writes the record, padded to 8 bytes, with credit. A record for which there is no credit
is lost, and the spec counts it nowhere. -/
def channelIn (s : State) (ch : Nat) (payload : List Byte) : State :=
  let msg := fld payload 0x18 0 8
  let len := fld payload 0 0 16
  if msg == 0 || decide (10 < msg) || fld payload 4 20 4 != 8 || decide (payload.length < 24 + len) ||
      decide (recordSize len < payload.length) then tetherErr s 1
  else (ownWrite s (248 + ch) (payload.take 24 ++ pad8 (payload.drop 24))).getD s

/-- A tether frame (R393, R394). -/
def frameIn (s : State) (header : Word) (payload : List Word) (crc : Word) (clean : Bool) : State :=
  let h := header.toNat
  let typ := bits h 0 4
  let bytes := wordsBytes payload
  let len := bits h 16 16
  let bad := !clean || len != bytes.length || !frameLenOk typ len || crc32c (le 4 h ++ bytes) != crc.toNat
  if bad || decide (2 ≤ typ) then tetherErr s 1
  else if typ == 1 && !tetherOn s then s
  else
    let key := if typ == 0 then 4 else bits h 4 2
    let f := bits h 8 8
    let last := tget s.twin.inSeq key 0
    let s1 := { s with twin := { s.twin with inSeq := tput s.twin.inSeq key (f + 1) 0 } }
    let s2 := if last == 0 then s1 else tetherErr s1 ((f + 256 - last % 256) % 256)
    if typ == 0 then heartbeatIn s2 (heartbeatOf bytes) else channelIn s2 key bytes

/-- TETHER_FRAME_RECEIVED (R394). -/
def execTetherFrameReceived (header : Word) (payload : List Word) (crc : Word) (clean : Bool) (s : State) :
    Host.Outcome State Fault Refusal :=
  .next (if tetherLine s then frameIn s header payload crc clean else s)

/-- TETHER_ALIGNMENT (R392). -/
def execTetherAlignment (aligned : Bool) (s : State) : Host.Outcome State Fault Refusal :=
  .next (if tetherLine s then showUnit { s with twin := { s.twin with aligned := aligned } } else s)

/-- The message at the head of an inbound channel has been taken; a gap marker before it is read and released first, with RUN
(R231, R236). -/
def takeChannel (s : State) (ch : Nat) : State :=
  let q := 248 + ch
  moveDrop (if markerAtRd s q then hubTake s q else s) q

/-! ### Heartbeat and keep-alive (R395, R399, R400) -/

/-- A heartbeat's payload (R395). -/
def heartbeatBytes (s : State) : List Byte :=
  le 4 (s.twin.hbSeq % 65536 + s.get F.twin_ROLE 0 * 65536 + s.get F.twin_OWN 0 * 131072 + b2n s.twin.alive * 262144 +
    b2n (qualified s) * 524288 + unitNow s * 1048576) ++ le 4 (s.get F.twin_GEN 0) ++ le 4 s.gen.toNat

/-- HEARTBEAT_SEND (R395, R399): whenever S0 and S7 are up; then the records that wait. -/
def execHeartbeatSend (s : State) : Host.Outcome State Fault Refusal :=
  .next (if tetherLine s then
      let s1 := sendFrame s 4 (heartbeatBytes s)
      let s2 := { s1 with twin := { s1.twin with hbSeq := (s.twin.hbSeq + 1) % 65536 } }
      if tetherOn s2 then tetherServe s2 (tetherWaiting s2) else s2
    else s)

/-- HEARTBEAT_RECEIVED (R400). -/
def execHeartbeatReceived (hb : Heartbeat) (s : State) : Host.Outcome State Fault Refusal :=
  .next (if tetherLine s then heartbeatIn s hb else s)

/-- A standby that may claim on a failure: qualified as it last stood, or TAKE_UNQUAL (R404). -/
def mayTake (s : State) : Bool := isStandby s && (s.get F.twin_UNIT 0 == 2 || s.on F.twin_TAKE_UNQUAL 0)

/-- HB_TIMEOUT in ns; 0 to 199 behave as 200 µs (R428). -/
def hbTimeout (s : State) : Nat := max 200 (s.get F.twin_HB_TIMEOUT 0) * 1000

/-- No heartbeat arrives (R400): none ever did, the latest showed ALIVE 1, or it is HB_TIMEOUT old. Else those that arrive carry
ALIVE 0. -/
def peerSilent (s : State) : Bool :=
  (s.twin.peer.map (·.alive)).getD true || decide (s.twin.hbAt + hbTimeout s * nsUnit ≤ s.ran)

/-- The peer's heartbeat has failed for HB_TIMEOUT (R400, R404). -/
def peerFails (s : State) : State :=
  let silent := peerSilent s
  let s1 := raiseTwin { s with twin := { s.twin with peerLost := true, hbValid := s.twin.hbValid && !silent } } Bit.twPeerLost
  showUnit (if mayTake s || (s.twin.startup && s.on F.twin_ROLE 0 && silent) then claimIlk s1 else s1)

/-- PEER_LOST (R400). -/
def execPeerLost (s : State) : Host.Outcome State Fault Refusal := .next (if tetherLine s then peerFails s else s)

/-- KEEP (R399): ALIVE rises, and an engaged bypass that waited for it claims (R562). -/
def execKeep (s : State) : Host.Outcome State Fault Refusal :=
  .next (if s.part.hasTwin then
      let s1 := { s with twin := { s.twin with alive := true } }
      if s.twin.alive then s1 else showUnit (bypassClaim s1)
    else s)

/-- KEEP_ALIVE_LAPSE (R399, R401): ALIVE falls; an owner that is one of a pair releases. -/
def execKeepAliveLapse (s : State) : Host.Outcome State Fault Refusal :=
  .next (if s.part.hasTwin then
      let s1 := { s with twin := { s.twin with alive := false } }
      showUnit (if s.on F.twin_PAIRED 0 && s.on F.twin_OWN 0 then releaseIlk s1 else s1)
    else s)

/-! ### The interlock (R401 to R404) -/

/-- CLAIM (R403). -/
def execClaim (s : State) : Host.Outcome State Fault Refusal := .next (showUnit (claimIlk s))

/-- RELEASE (R401). -/
def execRelease (s : State) : Host.Outcome State Fault Refusal := .next (showUnit (releaseIlk s))

/-- CLAIM_WINDOW_END (R403). -/
def execClaimWindowEnd (s : State) : Host.Outcome State Fault Refusal :=
  .next (if s.part.hasTwin && s.twin.claiming then showUnit (becomeOwner s) else s)

/-- Lanes whose hand-over instant comes after F_n (R424): pixel lanes, and PWM lanes but those at H = 0. -/
def lateLanes (s : State) : List Nat :=
  (List.range s.part.lanes).filter (fun n =>
    let m := encMode s n
    m == 6 || m == 7 || (m == 8 && (s.encLane n).h != 0))

/-- TWIN_SWAP answers (R409, R509). -/
def answerSwap (s : State) (status : Nat) (data : List Byte) : State :=
  answerWaits s (fun w => w = .twinSwap) false (fun _ _ => (status, data))

/-- The unit taking over owns as HOLD_IN falls after the final report (R403, R424): no record carries DUP. -/
def takeOver (s : State) (h : Handover) : State :=
  let s1 := becomeOwner s
  let s2 := { s1 with twin := { s1.twin with exact := true, handover := none, taking := lateLanes s1 } }
  answerSwap s2 St.ok (le 4 h.tickN)

/-- HOLD_IN falls (R404, R424). -/
def holdFell (s : State) : State :=
  match s.twin.handover with
  | some h =>
    if !h.giving && h.stage == 3 then takeOver s h
    else if mayTake s && (s.twin.peer.map (·.owns)).getD false then claimIlk s else s
  | none => if mayTake s && (s.twin.peer.map (·.owns)).getD false then claimIlk s else s

/-- HOLD_IN_CHANGE (R402 to R404): a secondary's claim fails as HOLD_IN rises. -/
def execHoldInChange (level : Bool) (s : State) : Host.Outcome State Fault Refusal :=
  .next (if !s.part.hasTwin || s.on F.twin_HOLD_IN 0 == level then s
    else
      let s1 := s.setB F.twin_HOLD_IN 0 level
      if level then
        let s2 := { s1 with twin := { s1.twin with holdRise := s1.ran } }
        showUnit (if s2.twin.claiming then claimFail s2 else s2)
      else showUnit (holdFell s1))

/-- SECONDARY_STARTUP_CLAIM (R404): every peer heartbeat has carried ALIVE 0 for 10 s. -/
def execSecondaryStartupClaim (s : State) : Host.Outcome State Fault Refusal :=
  .next (if s.part.hasTwin && s.twin.startup && s.on F.twin_ROLE 0 && !(s.twin.peer.map (·.alive)).getD true then
      showUnit (claimIlk s)
    else s)

/-! ### Intent and releases (R397, R406, R418) -/

/-- The unit is active: one of a pair, owning, its tether powered. -/
def isActive (s : State) : Bool := tetherOn s && s.on F.twin_PAIRED 0 && s.on F.twin_OWN 0

/-- An INTENT entry (R397). -/
def intentBytes (e : IntentEntry) : List Byte :=
  le 4 (e.role % 128 + e.item % 4 * 256 + e.source % 65536 * 65536) ++ le 4 e.key ++ le 4 e.value

/-- The INTENT messages of a window: 170 entries each, PART upward, LAST on the final one. -/
def sendIntent (s : State) (win part : Nat) (items : List IntentEntry) : Nat → State
  | 0 => s
  | k + 1 =>
    let now := items.take 170
    let later := items.drop 170
    let sec := win / 1000
    let body := le 4 (1 + b2n later.isEmpty * 256 + part % 128 * 512 + now.length * 65536) ++ le 4 sec ++
      le 4 (sec / 4294967296 % 65536 + win % 1000 * 65536) ++ now.flatMap intentBytes
    let s1 := tetherSend s 1 body
    if later.isEmpty then s1 else sendIntent s1 win (part + 1) later k

/-- INTENT_WINDOW_END (R406): the window that ends at the latest whole millisecond. -/
def execIntentWindowEnd (s : State) : Host.Outcome State Fault Refusal :=
  .next (if isActive s then
      let s1 := sendIntent s (s.nowNs / 1000000 - 1) 0 s.twin.items (s.twin.items.length / 170 + 1)
      { s1 with twin := { s1.twin with items := [] } }
    else s)

/-- A TXC entry (R397). -/
def txcBytes (e : TxcEntry) : List Byte :=
  le 4 (e.listener % 128 + e.cls % 4 * 256 + e.source % 65536 * 65536) ++ le 4 e.seqn

/-- The messages of a TXC report: 256 entries each, MORE on all but the last. -/
def sendTxc (s : State) (final : Bool) (tickN : Nat) (items : List TxcEntry) : Nat → State
  | 0 => s
  | k + 1 =>
    let now := items.take 256
    let later := items.drop 256
    let body := le 4 (2 + b2n final * 256 + b2n (!later.isEmpty) * 512 + now.length * 65536) ++ le 4 tickN ++ now.flatMap txcBytes
    let s1 := tetherSend s 1 body
    if later.isEmpty then s1 else sendTxc s1 final tickN later k

/-- A report of what has been released since the last one (R418). -/
def reportTxc (s : State) (final : Bool) (tickN : Nat) : State :=
  let s1 := sendTxc s final tickN s.twin.released (s.twin.released.length / 256 + 1)
  { s1 with twin := { s1.twin with released := [] } }

/-- TXC_REPORT (R418). -/
def execTxcReport (s : State) : Host.Outcome State Fault Refusal := .next (if isActive s then reportTxc s false 0 else s)

/-- The standby keeps the latest value for each listener, class and source (R418). -/
def keepTxc (l : List TxcEntry) (e : TxcEntry) : List TxcEntry :=
  l.filter (fun x => !(x.listener == e.listener && x.cls == e.cls && x.source == e.source)) ++ [e]

/-- A TXC message (R418, R424): the last message of a final report names the tick of the handover. -/
def txcIn (s : State) (final more : Bool) (tickN : Nat) (items : List TxcEntry) : State :=
  let s1 := { s with twin := { s.twin with txc := items.foldl keepTxc s.twin.txc } }
  match s1.twin.handover with
  | some h =>
    if final && !more && !h.giving then
      { s1 with twin := { s1.twin with handover := some { h with stage := 3, tickN := tickN } } }
    else s1
  | none => s1

/-- TXC_RECEIVED (R418). -/
def execTxcReceived (final more : Bool) (tickN : Nat) (items : List TxcEntry) (s : State) :
    Host.Outcome State Fault Refusal :=
  .next (if tetherOn s then showUnit (txcIn (takeChannel s 1) final more tickN items) else s)

/-! ### Comparison (R405 to R408) -/

/-- A window's INTENT message joins the others (R397): a missing PART leaves the window without a verdict. -/
def addIntent (s : State) (last : Bool) (part win : Nat) (items : List IntentEntry) : State :=
  let w := (s.twin.windows.find? (fun x => x.window == win)).getD { window := win, parts := 0, complete := false, items := [] }
  let w1 := { w with parts := part + 1, complete := last, broken := w.broken || part != w.parts, items := w.items ++ items }
  { s with twin := { s.twin with windows := s.twin.windows.filter (fun x => x.window != win) ++ [w1] } }

/-- INTENT_RECEIVED (R406). -/
def execIntentReceived (last : Bool) (part window : Nat) (items : List IntentEntry) (s : State) :
    Host.Outcome State Fault Refusal :=
  .next (if tetherOn s then
      let s1 := takeChannel s 1
      if isStandby s1 then addIntent s1 last part window items else s1
    else s)

/-- Two views of an item agree (R406). -/
def viewsEqual (tol item : Nat) (a b : Option Nat) : Bool :=
  match a, b with
  | some x, some y => if item == 3 then decide ((x : Int) - y ≤ tol) && decide ((y : Int) - x ≤ tol) else x == y
  | _, _ => false

/-- An item's verdict (R407): 0 MATCH, 1 DRIVERS, 2 ACTIVE, 3 STANDBY, 4 UNDECIDED. -/
def itemVerdict (tol : Nat) (e : IntentEntry) (l sh : Option Nat) : Nat :=
  let il := viewsEqual tol e.item (some e.value) l
  let is := viewsEqual tol e.item (some e.value) sh
  let ls := viewsEqual tol e.item l sh
  if il && is && ls then 0 else if is && !il then 1 else if ls && !il then 2 else if il && !is then 3 else 4

/-- The shadow's view of an item: the value of the item of the same lane, kind, source and key. -/
def shadowView (s : State) (e : IntentEntry) : Option Nat :=
  (s.twin.items.find? (fun x => x.role == e.role && x.item == e.item && x.source == e.source && x.key == e.key)).map (·.value)

/-- A lane's window verdict from its items' (R407). -/
def laneVerdict (vs : List Nat) : Nat :=
  match (vs.filter (fun v => v != 0)).eraseDups with
  | [] => 0
  | [v] => v
  | _ => 4

/-- The counter of a verdict (R431). -/
def verdictField (v : Nat) : Field :=
  match v with
  | 1 => F.twin_V_DRIVERS
  | 2 => F.twin_V_ACTIVE
  | 3 => F.twin_V_STANDBY
  | _ => F.twin_V_UNDECIDED

/-- YIELD (R398). -/
def sendYield (s : State) (v role : Nat) : State := tetherSend s 0 (le 4 (5 + v * 256 + role % 128 * 65536) ++ le 4 s.gen.toNat)

/-- FAULT (R396, R398), by firmware: with it WINDOWS counts anew for every lane. -/
def sendFault (s : State) (code role windows : Nat) : State :=
  if s.running then
    let t := tetherSend s 3 (le 4 (9 + code * 256 + role % 128 * 65536) ++ le 4 windows)
    { t with twin := { t.twin with lineFault := [] } }
  else s

/-- The unit enters FAULTED (R408). -/
def enterFaulted (s : State) (role : Option Nat) : State :=
  sendFault { s with twin := { s.twin with faulted := true, faultLane := role } } 2 127 0

/-- A standby resyncs (R408): restore and replay into its shadow path, and the active snapshots again (R398). Verdicts are
counted anew from there. -/
def resync (s : State) : State :=
  let s1 := beginReplay s
  let s2 := { s1 with twin := { s1.twin with resyncing := true, resyncAt := some s.ran, runs := [] } }
  sendFault (tetherSend s2 0 (le 4 7)) 3 127 0

/-- A second confirmed STANDBY verdict within REVERT_S of the resync (R408). -/
def soonAfterResync (s : State) : Bool :=
  match s.twin.resyncAt with
  | none => false
  | some t => decide (s.ran ≤ t + max 1 (s.get F.twin_REVERT_S 0) * secUnit)

/-- LINE_FAULT (R408): a FAULTED unit finds DRIVERS against the new active on the same lane. -/
def lineFault (s : State) (role : Nat) : State := sendFault s 1 role (tget s.twin.lineFault role 0)

/-- The lane's run of verdicts begins anew. -/
def dropRun (s : State) (role : Nat) : State := { s with twin := { s.twin with runs := tdrop s.twin.runs role } }

/-- A confirmed verdict (R408). Once it has had its consequence, the lane's run begins anew, so that a verdict that lasts is
confirmed again (DESIGN CHOICE); one that meets an unqualified standby stays confirmed until the standby is qualified. -/
def confirmVerdict (s : State) (v role : Nat) : State :=
  if s.twin.faulted then (if v == 1 && s.twin.faultLane == some role then dropRun (lineFault s role) role else s)
  else if v == 1 || v == 2 then (if qualified s then dropRun (sendYield s v role) role else s)
  else if v == 3 then (if soonAfterResync s then enterFaulted s none else resync s)
  else s

/-- One lane's verdict of a window: counted, VERDICT, and confirmed after CONFIRM windows in a row. -/
def laneWindow (s : State) (role v : Nat) : State :=
  if v == 0 then dropRun s role
  else
    let r := tget s.twin.runs role (0, 0)
    let n := if r.1 == v then r.2 + 1 else 1
    let s1 := raiseTwin (s.inc (verdictField v) 0) Bit.twVerdict
    let s2 := { s1 with twin := { s1.twin with runs := tput s1.twin.runs role (v, n) (0, 0), cleanSince := none
                                               lineFault := tput s1.twin.lineFault role (tget s1.twin.lineFault role 0 + 1) 0 } }
    if s.get F.twin_CONFIRM 0 != 0 && decide (s.get F.twin_CONFIRM 0 ≤ n) then confirmVerdict s2 v role else s2

/-- A window is judged (R406, R407): `line` is the line's view of each of its items. -/
def judgeWindow (s : State) (w : IntentWindow) (line : List (Option Nat)) : State :=
  let tol := s.get F.twin_PWM_TOL 0
  let vs := (w.items.zip (List.range w.items.length)).map (fun e =>
    (e.1.role, itemVerdict tol e.1 ((line.getD e.2 none)) (shadowView s e.1)))
  let roles := (vs.map (·.1)).eraseDups
  let verdicts := roles.map (fun r => (r, laneVerdict ((vs.filter (fun x => x.1 == r)).map (·.2))))
  let named := fun (x : IntentEntry) => w.items.any (fun e => x.role == e.role && x.item == e.item && x.source == e.source && x.key == e.key)
  let s1 := { s with twin := { s.twin with items := s.twin.items.filter (fun x => !named x) } }
  verdicts.foldl (fun t e => laneWindow t e.1 e.2) s1

/-- COMPARE_WAIT_EXPIRY (R406). -/
def execCompareWaitExpiry (window : Nat) (line : List (Option Nat)) (s : State) : Host.Outcome State Fault Refusal :=
  .next (if !tetherOn s then s
    else match s.twin.windows.find? (fun x => x.window == window) with
      | none => s
      | some w =>
        let s1 := { s with twin := { s.twin with windows := s.twin.windows.filter (fun x => x.window != window) } }
        if isStandby s && w.complete && !w.broken then showUnit (judgeWindow s1 w line) else s1)

/-- YIELD_RECEIVED (R408): from a qualified sender it releases the interlock, and the unit enters FAULTED. -/
def execYieldReceived (verdict role : Nat) (s : State) : Host.Outcome State Fault Refusal :=
  .next (if !tetherOn s then s
    else
      let s1 := takeChannel s 0
      if (verdict == 1 || verdict == 2) && s1.on F.twin_OWN 0 && (s1.twin.peer.map (·.qualified)).getD false then
        showUnit (enterFaulted (releaseIlk s1) (some role))
      else s1)

/-- FAULT_RECEIVED (R398): the latest report of the peer is kept. -/
def execFaultReceived (code role windows : Nat) (s : State) : Host.Outcome State Fault Refusal :=
  .next (if tetherOn s then
      let s1 := takeChannel s 3
      { s1 with twin := { s1.twin with peerFault := some (code, role, windows) } }
    else s)

/-! ### Configuration checks (R390, R396, R398) -/

/-- MODE, NO_MODE, EMERGENCY and EMERG_SLOT as IDENT_GET lays them out (R495). -/
def modeWord (s : State) : Nat :=
  s.mode.getD 0 % 32 + b2n s.mode.isNone * 32 + b2n s.emerg.isSome * 64 + s.emerg.getD 0 % 32 * 128

/-- CFG_CHECK_SEND (R396). -/
def execCfgCheckSend (s : State) : Host.Outcome State Fault Refusal :=
  .next (if tetherOn s && s.running && s.on F.twin_PAIRED 0 then
      tetherSend s 3 (le 4 (8 + s.get F.host_ISSUE 0 * 65536) ++ le 4 s.gen.toNat ++ le 4 s.image.id.toNat ++ le 4 (modeWord s))
    else s)

/-- CFG_CHECK_RECEIVED (R398): a generation or image that differs is a mismatch. -/
def execCfgCheckReceived (issue : Nat) (cfgGen imageId : Word) (modeState : Nat) (s : State) :
    Host.Outcome State Fault Refusal :=
  .next (if tetherOn s then
      let s1 := takeChannel s 3
      let s2 := { s1 with twin := { s1.twin with peerCheck := some (issue, modeState) } }
      if cfgGen != s.gen || imageId != s.image.id then pairMismatch s2 else s2
    else s)

/-- MODE_REQ_RECEIVED (R528): carried out as origin 4. -/
def execModeReqReceived (slot req : Nat) (s : State) : Host.Outcome State Fault Refusal :=
  .next (if tetherOn s then
      let s1 := takeChannel s 3
      if req < 3 then { s1 with modeReqs := s1.modeReqs ++ [{ origin := 4, what := req, slot := slot % 32 }] } else s1
    else s)

/-- RESYNC_RECEIVED (R398): the next snapshot is due at the next tick. -/
def execResyncReceived (s : State) : Host.Outcome State Fault Refusal :=
  .next (if tetherOn s then
      let s1 := takeChannel s 0
      if isActive s1 then { s1 with twin := { s1.twin with snapNow := true } } else s1
    else s)

/-! ### Snapshots (R410 to R415) -/

/-- The two snapshot buffers, and the data's length (R30, R411). -/
def snapBuffer (b : Nat) : Nat := 0x1E00000 + b * 0x80000

def snapLen : Nat := 138240

/-- The sources of a snapshot, in order (R411). -/
def snapSources : List Nat := List.range 96 ++ [0x1000, 0x1001]

/-- A source's 16 bytes (R411). -/
def snapSource (s : State) (src : Nat) : List Byte :=
  let so := s.source src
  le 4 so.lastNext ++ le 4 (stampNs so.lastTs) ++ le 4 (stampSec so.lastTs) ++
    le 2 (stampSec so.lastTs / 4294967296) ++ le 2 so.lastIdx

/-- An action's 16 bytes (R411); a bucket that has met no sentence is all 0. -/
def snapAction (a : ActState) : List Byte :=
  let t := a.last.getD 0
  le 2 a.dcnt ++ le 2 (stampSec t / 4294967296) ++ le 4 a.tokens ++ le 4 (stampNs t) ++ le 4 (stampSec t)

/-- A DMX-TX image's 520 bytes, by role. -/
def snapDmx (s : State) (role : Nat) : List Byte :=
  match roleLane s role with
  | none => List.replicate 520 0
  | some n => (List.range 513).map (fun i => tget (s.txLane n).dmxNext i 0) ++ List.replicate 7 0

/-- A zone's 16 bytes. -/
def snapZone (s : State) (z : Nat) : List Byte :=
  let x := s.zone z
  (List.range 4).flatMap (fun e => le 2 (x.tr.getD e 32768)) ++ le 2 (x.hooked.getD 0) ++ [BitVec.ofNat 8 (b2n x.hooked.isSome)] ++
    List.replicate 5 0

/-- The regions of a snapshot: offset and bytes (R411). -/
def snapRegions (s : State) : List (Nat × List Byte) :=
  [(0, snapSources.flatMap (snapSource s)),
   (0x800, (List.range 4096).flatMap (fun n => snapAction (s.actState n))),
   (0x10800, (List.range 96).flatMap (snapDmx s)),
   (0x1D800, le 2 s.master ++ (List.range 256).flatMap (fun n => le 2 (s.cue n))),
   (0x1DC00, (List.range 1024).flatMap (snapZone s))]

/-- Buffer `b` holds nothing but 0. -/
def clearBuffer (s : State) (b : Nat) : State := s.blankSpan (snapBuffer b) (snapBuffer b + 0x80000)

/-- A snapshot is due at this tick (R410, R398). -/
def snapshotDue (s : State) : Bool :=
  let ms := s.get F.twin_SNAP_MS 0
  isActive s && ms != 0 && (s.twin.snapNow || (match s.twin.snapAt with
    | none => true
    | some t => decide (t + ms * 1000000 * nsUnit ≤ s.ran)))

/-- The mark: the state as of the tick goes into the active's own buffer (R410). -/
def snapshotMark (s : State) : State :=
  let s1 := (snapRegions s).foldl (fun t e => t.poke (snapBuffer 0 + e.1) e.2) (clearBuffer s 0)
  { s1 with twin := { s1.twin with snapAt := some s.ran, snapNow := false, snapMark := some (s.get F.time_FRAME_N 0) } }

/-- One chunk record (R412), its data read through P5. -/
def sendChunk (s0 : State) (gen i : Nat) : State :=
  let s := touch s0 5 (snapBuffer 0 + 2048 * i) (min 2048 (snapLen - 2048 * i))
  let data := s.peek (snapBuffer 0 + 2048 * i) (min 2048 (snapLen - 2048 * i))
  tetherSend s 2 (le 4 (3 + i * 65536) ++ le 4 gen ++ data ++ List.replicate (2048 - data.length) 0)

/-- The chunks and the commit record of a generation (R412). -/
def sendSnapshot (s : State) (mark : Nat) : State :=
  let gen := (s.get F.twin_GEN 0 + 1) % 4294967296
  let s1 := (List.range 68).foldl (fun t i => sendChunk t gen i) s
  let crc := crc32c (s1.peek (snapBuffer 0) snapLen)
  let s2 := tetherSend s1 2 (le 4 (4 + 68 * 65536) ++ le 4 gen ++ le 4 crc ++ le 4 mark ++ le 4 snapLen)
  { s2.set F.twin_GEN 0 gen with twin := { s2.twin with snapMark := none } }

/-- SNAPSHOT_COPY (R410, R412). -/
def execSnapshotCopy (s : State) : Host.Outcome State Fault Refusal :=
  .next (if !isActive s then s
    else match s.twin.snapMark with
      | none => s
      | some m => sendSnapshot s m)

/-- Generation a is newer than b, modulo 2^32. -/
def genNewer (a b : Nat) : Bool :=
  let d := (a + 4294967296 - b) % 4294967296
  d != 0 && decide (d < 2147483648)

/-- A partial generation is discarded (R413). -/
def snapBad (s : State) : State :=
  raiseTwin ({ s with twin := { s.twin with chunks := [] } }.inc F.twin_SNAP_DISCARDED 0) Bit.twSnapBad

/-- A chunk goes into the inactive buffer (R413). -/
def chunkIn (s : State) (gen i : Nat) (data : List Byte) : State :=
  let fresh := s.twin.chunks.isEmpty || gen != s.twin.chunkGen
  if !s.twin.chunks.isEmpty && gen != s.twin.chunkGen && !genNewer gen s.twin.chunkGen then s
  else
    let s1 := if fresh && !s.twin.chunks.isEmpty then snapBad s else s
    let have' := if fresh then [] else s1.twin.chunks
    let s2 := pokePort s1 5 (snapBuffer (1 - s1.twin.snapBuf) + 2048 * (i % 256)) (data.take 2048)
    { s2 with twin := { s2.twin with chunkGen := gen, chunks := if have'.contains i then have' else have' ++ [i] } }

/-- SNAPSHOT_CHUNK_RECEIVED (R413). -/
def execSnapshotChunkReceived (gen index : Nat) (data : List Byte) (s : State) : Host.Outcome State Fault Refusal :=
  .next (if tetherOn s then
      let s1 := takeChannel s 2
      if isStandby s1 then chunkIn s1 gen index data else s1
    else s)

/-- The counter's instant of frame tick n (mod 2^32) at or before the latest tick, in ns (R307). -/
def tickTime (s : State) (n : Nat) : Nat :=
  let back := (s.get F.time_FRAME_N 0 + 4294967296 - n) % 4294967296
  let k := s.frame.n - 1 - back
  s.get F.time_FRAME_PHASE 0 + k * frameDen s * 1000000000 / frameNum s

/-- A record's time in ns. -/
def recordNs (r : List Byte) : Nat := u32 r 12 + (u32 r 16 + fld r 20 0 16 * 4294967296) * 1000000000

/-- The records of a stall from REL to WR. -/
def stallRecords (s : State) (q : Nat) : List (List Byte) :=
  ((s.stall q).lens.foldl (fun (acc, p) l => (acc ++ [ringRead s q p l], p + l)) ([], (s.stall q).a.rel)).1

/-- JOURNAL_SWITCH (R417): the other journal stall is released and made current when the current one reaches back past
the mark. -/
def journalSwitch (s : State) (mark : Nat) : State :=
  let q := s.twin.journal
  match (stallRecords s q).head? with
  | none => s
  | some r =>
    if recordNs r < tickTime s mark then
      let o := 505 - q
      let s1 := if stallOn s o then moveRel s o (s.stall o).a.wr else s
      { s1.set F.twin_SHORT 0 0 with twin := { s1.twin with journal := o } }
    else s

/-- A commit record (R413). -/
def commitIn (s : State) (gen count crc mark len : Nat) : State :=
  let b := 1 - s.twin.snapBuf
  let whole := s.twin.chunkGen == gen && decide (1 ≤ count) && (List.range count).all (fun i => s.twin.chunks.contains i)
  let follows := (s.twin.commitGen.map (genNewer gen)).getD true
  let s0 := touch s 5 (snapBuffer b) (min len 0x80000)
  if whole && follows && crc32c (s0.peek (snapBuffer b) (min len 0x80000)) == crc then
    let s1 := { s0 with twin := { s0.twin with snapBuf := b, commitMark := some mark, commitGen := some gen, adopt := true, chunks := [] } }
    journalSwitch (s1.set F.twin_GEN 0 gen) mark
  else snapBad s0

/-- SNAPSHOT_COMMIT_RECEIVED (R413). -/
def execSnapshotCommitReceived (gen count : Nat) (crc : Word) (markN len : Nat) (s : State) :
    Host.Outcome State Fault Refusal :=
  .next (if tetherOn s then
      let s1 := takeChannel s 2
      if isStandby s1 then showUnit (commitIn s1 gen count crc.toNat markN len) else s1
    else s)

/-- The standby takes the pixel-side state of its committed generation (R414). -/
def adoptPixel (s : State) : State :=
  let d := snapBuffer s.twin.snapBuf
  let lv := s.peek (d + 0x1D800) 514
  let s1 := (List.range 256).foldl (fun t n => t.set (if n % 2 == 0 then F.cue_C_LO else F.cue_C_HI) (n / 2) (u16 lv (2 + 2 * n)))
    (s.set F.pixel_MASTER 0 (u16 lv 0))
  let s2 := (List.range 1024).foldl (fun t z =>
    let r := t.peek (d + 0x1DC00 + 16 * z) 16
    t.putZone z { t.zone z with tr := [u16 r 0, u16 r 2, u16 r 4, u16 r 6],
                                hooked := if byteAt r 10 == 0 then none else some (u16 r 8) }) s1
  { s2 with twin := { s2.twin with adopt := false } }

/-! ### Restore and replay (R420, R421) -/

/-- A source's restored state: NEXT, LAST_TS in ns, LAST_IDX. -/
def snapSourceAt (s : State) (i : Nat) : Nat × Nat × Nat :=
  let b := s.peek (snapBuffer s.twin.snapBuf + 16 * i) 16
  (u32 b 0, u32 b 4 + (u32 b 8 + u16 b 12 * 4294967296) * 1000000000, u16 b 14)

/-- The router-side state of the committed generation: NEXT, actions, DMX images (R420). -/
def restoreRouter (s : State) : State :=
  let d := snapBuffer s.twin.snapBuf
  let s1 := (List.range 98).foldl (fun t i => t.set F.parse_NEXT (snapSources.getD i 0) (snapSourceAt t i).1) s
  let s2 := { s1 with acts := (List.range 4096).foldl (fun a n =>
    let b := s1.peek (d + 0x800 + 16 * n) 16
    let sec := u32 b 12 + u16 b 2 * 4294967296
    let t := (u32 b 8 + sec * 1000000000) * 16
    tput a n { dcnt := u16 b 0, tokens := u32 b 4, last := if t == 0 then none else some t } {}) [] }
  (List.range 96).foldl (fun t role =>
    match roleLane t role with
    | none => t
    | some n =>
      let b := t.peek (d + 0x10800 + 520 * role) 513
      t.putTx n { t.txLane n with dmxNext := putSlots [] 0 b }) s2

/-- A journal record as a sentence (R146, R416), and the index in its Ethernet frame. -/
def journalSentence (r : List Byte) : Sentence :=
  let body := (r.drop 24).take (fld r 0 0 16)
  { source := fld r 4 0 16, long := flag r 0 18, bytes := body,
    count := body.length, stamp := recordNs r * 16 + fld r 20 28 4, tsSrc := fld r 0 22 2, tsState := fld r 0 24 2,
    idx := fld r 20 16 12, numbered := true, offered := true, bad := flag r 0 16, nock := flag r 0 17,
    seqStart := flag r 0 20, feSeen := flag r 0 21 }

/-- Every journal record, in journal order: the stall released longer ago first (R417). -/
def journalAll (s : State) : List Sentence :=
  ((stallRecords s (505 - s.twin.journal) ++ stallRecords s s.twin.journal).map journalSentence)

/-- The first position of a list that `p` picks. -/
def firstAt {α : Type} (p : α → Bool) : List α → Nat → Option Nat
  | [], _ => none
  | a :: r, i => if p a then some i else firstAt p r (i + 1)

/-- A source's replay start (R420): the position after its mark record, and whether there was one. -/
def replayStart (s : State) (js : List Sentence) (i : Nat) : Nat × Bool :=
  let src := snapSources.getD i 0
  let st := snapSourceAt s i
  let tol := s.get F.twin_MATCH_TOL 0
  let near := fun (x : Sentence) =>
    x.source == src && decide (((x.stamp / 16 : Nat) : Int) - st.2.1 ≤ tol) && decide ((st.2.1 : Int) - (x.stamp / 16 : Nat) ≤ tol) &&
      (src < 96 || x.idx == st.2.2)
  match firstAt near js 0 with
  | some p => (p + 1, true)
  | none => ((firstAt (fun x => x.source == src && decide (st.2.1 < x.stamp / 16)) js 0).getD js.length, false)

/-- Sources with no mark record, among those that have sent (R420). -/
def marksMissed (s : State) (js : List Sentence) : Nat :=
  ((List.range 98).filter (fun i => !(replayStart s js i).2 &&
    ((snapSourceAt s i).2.1 != 0 || js.any (fun x => x.source == snapSources.getD i 0)))).length

/-- The listeners and classes that bind a stall. -/
def listenerOf (s : State) (q : Nat) : Option (Nat × Nat) :=
  (s.bindings.findSome? (fun e => ((boundStalls e.2).find? (fun b => b.1 == q)).map (fun b => (e.1, b.2))))

/-- The old active released this record of listener k at class c (R420). -/
def sentBefore (s : State) (k c : Nat) (x : Sentence) : Bool :=
  s.twin.txc.any (fun e => e.listener == k && e.cls == c && e.source == x.source &&
    decide ((e.seqn + 4294967296 - x.seqn) % 4294967296 < 2147483648))

/-- One copy of a replayed sentence (R420): `late` says that it closed after ownership. -/
def replayCopy (s : State) (e : Enqueue) (late voted : Bool) (q : Nat) : State :=
  match listenerOf s q with
  | some (k, c) =>
    if sentBefore s k c e.sent then s
    else
      let dup := !late && !s.twin.exact
      let s1 := writeCopy s { e with sent := { e.sent with dup := dup } } voted q
      if dup then s1.inc F.twin_DUP_SENT 0 else s1
  | none => if late then writeCopy s e voted q else s

/-- A class-0 sentence is voted again (R420, R421): no override, and its copies follow at once. -/
def replayVote (s : State) (x : Sentence) (c : Captured) (late : Bool) : State :=
  let ws := judgeWords (presentJudges s x) (voteWord x c.verdict) []
  let m := majority ws
  let o := voteOutcome { sent := x, dropped := false } c.verdict (m.head?.map (·.2))
  let s1 := countVote s ws o.2
  let s2 := if o.2 != 0 then logVote s1 x c.verdict ws o.2 else s1
  if o.1 then
    let e : Enqueue := { sent := x, verdict := c.verdict, agree := maskOf (m.map (·.1)), degraded := decide (ws.length < 3), stalls := c.stalls }
    c.stalls.foldl (fun t q => replayCopy t e late true q) (s2.inc F.vote_VOTED 0)
  else s2

/-- One journal record is classified again, with no hook, override or mode cue (R420). -/
def replaySentence (s : State) (y : Sentence) (late : Bool) : State :=
  let n := s.get F.parse_NEXT y.source
  let so := s.source y.source
  let s0 := (s.set F.parse_NEXT y.source (n + 1)).putSource y.source
    { so with lastNext := (n + 1) % 4294967296, lastTs := y.stamp, lastIdx := y.idx }
  let x := { y with seqn := n }
  let c := lookup s0 s0.rtActive x
  let s1 := routerInc s0 F.router_CLASSIFIED
  if c.verdict.miss then raiseRouter (routerInc s1 F.router_MISS) Bit.rtMiss
  else
    let d := dropStep (countHit s1 c.verdict.entry) x c
    match d.2 with
    | some (f, fl) => (fl.map (raiseRouter (routerInc d.1 f))).getD (routerInc d.1 f)
    | none =>
      if c.verdict.cls == 0 then (if judgesTake d.1 x then replayVote d.1 x c late else d.1)
      else
        let e : Enqueue := { sent := x, verdict := c.verdict, stalls := c.stalls }
        c.stalls.foldl (fun t q => replayCopy t e late false q) d.1

/-- Restore and replay as a whole (R420): the journal from each source's start, then direct operation. -/
def replayAll (s : State) : State :=
  let js := journalAll s
  let late := s.twin.replayQ.length
  let starts := (List.range 98).map (fun i => (snapSources.getD i 0, (replayStart s js i).1))
  let s1 := restoreRouter (touch s 5 (snapBuffer s.twin.snapBuf) snapLen)
  let s2 := { s1 with twin := { s1.twin with markMiss := s1.twin.markMiss + marksMissed s js } }
  let todo := (js.zip (List.range js.length)).filter (fun e =>
    match starts.find? (fun p => p.1 == e.1.source) with
    | some p => decide (p.2 ≤ e.2)
    | none => false)
  let s3 := todo.foldl (fun t e => replaySentence t e.1 (decide (js.length - late ≤ e.2))) s2
  let s4 := { s3 with twin := { s3.twin with replaying := false, resyncing := false, replayQ := [], exact := false } }
  (List.range 96).foldl ringShow s4

/-- REPLAY_END (R420). -/
def execReplayEnd (s : State) : Host.Outcome State Fault Refusal :=
  .next (if tetherOn s && s.twin.replaying && upstream s then showUnit (replayAll s) else s)

/-! ### Handover (R398, R409, R423 to R425, R509) -/

/-- HANDOVER (R398). -/
def sendHandover (s : State) (stp : Nat) (revert : Bool) (reason : Nat) : State :=
  tetherSend s 0 (le 4 (6 + stp * 256 + b2n revert * 1024 + reason * 65536) ++ le 4 s.gen.toNat)

/-- A handover begins. -/
def beginHandover (s : State) (giving revert : Bool) (stage : Nat) : State :=
  { s with twin := { s.twin with handover := some { giving := giving, revert := revert, stage := stage } } }

/-- The unit taking over asks (R424 step 1). -/
def askHandover (s : State) (revert : Bool) : State := sendHandover (beginHandover s false revert 1) 1 revert 0

/-- A handover ends without effect; TWIN_SWAP answers with a status (R398, R509). -/
def endHandover (s : State) (status : Nat) : State :=
  answerSwap { s with twin := { s.twin with handover := none } } status []

/-- Why an owner refuses a request (R398). -/
def requestReason (s : State) (cfgGen : Word) : Nat :=
  if !s.on F.twin_OWN 0 then 1
  else if (s.twin.handover.map (fun h => !(h.giving && h.stage == 1))).getD false then 2
  else if !(s.twin.peer.map (·.qualified)).getD false then 3
  else if cfgGen != s.gen then 4 else 0

/-- Why a standby refuses an invitation. -/
def inviteReason (s : State) (cfgGen : Word) : Nat :=
  if s.twin.handover.isSome then 2 else if cfgGen != s.gen then 4 else if !qualified s then 3 else 0

/-- A HANDOVER message (R398, R424). -/
def handoverIn (s : State) (stepNo : Nat) (revert : Bool) (cfgGen : Word) : State :=
  match stepNo with
  | 0 =>
    let r := inviteReason s cfgGen
    if r == 0 then askHandover s revert else sendHandover s 2 revert r
  | 1 =>
    let r := requestReason s cfgGen
    if r == 0 then beginHandover s true revert 2 else sendHandover s 2 revert r
  | 2 => if s.twin.handover.isSome then endHandover s St.state else s
  | _ => s

/-- HANDOVER_MESSAGE_RECEIVED (R398). -/
def execHandoverMessageReceived (stepNo : Nat) (revert : Bool) (reason : Nat) (cfgGen : Word) (s : State) :
    Host.Outcome State Fault Refusal :=
  .next (if tetherOn s then
      let s1 := takeChannel s 0
      let s2 := { s1 with twin := { s1.twin with refuseReason := if stepNo == 2 then reason else s1.twin.refuseReason } }
      showUnit (handoverIn s2 stepNo revert cfgGen)
    else s)

/-- Sentence and DMX listeners have drained (R424 step 2). -/
def drained (s : State) : Bool :=
  s.tx.all (fun e => e.2.granted.isNone && !e.2.dmxRunning) && s.eth.all (fun e => e.2.granted.isNone)

/-- The first frame tick at least 2 ms later (R424). -/
def handoverTick (s : State) : Nat :=
  let t := s.tod + 2000000 * nsUnit
  let ph := s.get F.time_FRAME_PHASE 0 * nsUnit
  let per := frameDen s * 1000000000 * nsUnit
  ((t - ph) * frameNum s + per - 1) / per

/-- HANDOVER_DRAINED (R424 steps 2 and 3): the final report names the tick. -/
def execHandoverDrained (s : State) : Host.Outcome State Fault Refusal :=
  .next (match s.twin.handover with
    | some h =>
      if tetherOn s && h.giving && h.stage == 2 && drained s then
        let n := handoverTick s
        let s1 := reportTxc s true (n % 4294967296)
        showUnit { s1 with twin := { s1.twin with handover := some { h with stage := 3, tickN := n % 4294967296 } } }
      else s
    | none => s)

/-- The giving unit's part is over: TWIN_SWAP answers with the tick (R409, R509). -/
def handoverOver (s : State) (n : Nat) : State :=
  answerSwap ({ s with twin := { s.twin with handover := none, finishing := [] } }.set F.twin_ILK_STATE 0 0) St.ok (le 4 n)

/-- F_n at the owner (R424 step 4): HOLD_OUT falls, lanes that finish a frame or a period go on. -/
def handoverRelease (s : State) : State :=
  match s.twin.handover with
  | some h =>
    if h.giving && h.stage == 3 && s.get F.time_FRAME_N 0 == h.tickN then
      let ls := lateLanes s
      let s1 := releaseIlk s
      if ls.isEmpty then handoverOver s1 h.tickN
      else { s1.set F.twin_ILK_STATE 0 3 with twin := { s1.twin with finishing := ls, handover := some { h with stage := 4 } } }
    else s
  | none => s

/-- HANDOVER_LANE (R424 step 5): the lane goes high-Z at the releasing unit, or is driven by the taking unit. -/
def execHandoverLane (lane : Nat) (s : State) : Host.Outcome State Fault Refusal :=
  .next (if s.twin.finishing.contains lane then
      let rest := s.twin.finishing.filter (fun n => n != lane)
      let s1 := { s with twin := { s.twin with finishing := rest } }
      if rest.isEmpty then showUnit (handoverOver s1 ((s.twin.handover.map (·.tickN)).getD 0)) else s1
    else { s with twin := { s.twin with taking := s.twin.taking.filter (fun n => n != lane) } })

/-- TWIN_SWAP_TIMEOUT (R509): no final report within 50 ms of the request; the owner grants again. -/
def execTwinSwapTimeout (s : State) : Host.Outcome State Fault Refusal :=
  .next (match s.twin.handover with
    | some h => if h.stage < 3 then showUnit (endHandover s St.timeout) else s
    | none => s)

/-- AUTO_REVERT (R423). -/
def execAutoRevert (s : State) : Host.Outcome State Fault Refusal :=
  let t := showUnit s
  .next (if t.on F.twin_AUTO_REVERT 0 && !t.on F.twin_ROLE 0 && t.get F.twin_UNIT 0 == 2 &&
      decide (max 1 (t.get F.twin_REVERT_S 0) ≤ t.get F.twin_QUAL_TIME 0) then showUnit (askHandover t true) else t)

/-! ### The frame tick's part (R410, R414, R424) -/

/-- Before the pixel pipeline's part of a tick: the standby adopts (R414). -/
def twinBeforeTick (s : State) : State := if s.twin.adopt && isStandby s && s.part.hasPixel && s.shedUp 5 then adoptPixel s else s

/-- After it: the active's mark (R410) and the handover's release (R424). -/
def twinAfterTick (s : State) : State :=
  if !tetherOn s then s
  else showUnit (handoverRelease (if snapshotDue s then snapshotMark s else s))

end Sys2Proof.Machine
end

