-- ==== Sys2Proof/Machine/View.lean ====
section
/-! DEFINITION. Registers as software reads them (R5, R15): a unit that is absent or whose shed is down reads 0; fields
that follow the machine are shown as they stand. -/

namespace Sys2Proof.Machine

/-- The fields of a register that follow the machine rather than a stored value, as (field, value). -/
def shown (s : State) (r : RegAddr) : List (Field × Nat) :=
  match r.blk, r.off with
  | .laneRx, 0x14 => [(F.rx_OPEN, b2n (laneOpen s r.inst)), (F.rx_HOLD_FULL, b2n (s.rxLane r.inst).hold.isSome)]
  | .router, 0x04 => [(F.router_ELIGIBLE, s.eligible.length)]
  | .yard, 0x34 => [(F.yard_PHASE, ((s.groomPass.map (·.phase)).getD 0)), (F.yard_WRITTEN, b2n ((s.groomPass.map (·.written)).getD false))]
  | .farrierMap, 0 => [(F.map_POISON, b2n (s.poison.contains r.inst))]
  | .eth, 0x24 => [(F.eth_RXBUF_FREE, ethFree s r.inst)]
  | .encLane, 0x20 => [(F.enc_PAUSED, b2n (pixelMode (s.get F.tx_ACTIVE r.inst) && s.pixTicked && !s.runNow))]
  | _, _ => []

/-- A register as it reads. -/
def readReg (s : State) (r : RegAddr) : Word :=
  if !blkFitted s.part r.blk r.inst || !s.shedUp (regShed r) then 0
  else
    match r.blk with
    | .host => hostWord s r.off
    | .stall => stallWord s r.inst r.off false
    | _ => (shown s r).foldl (fun w e => putField w e.1 e.2) (s.reg r) &&& regMask r (fun a => a != .wo)

/-- Words of a block from an offset, as a response carries them. -/
def readWords (s : State) (blk : Blk) (i off n : Nat) : List Byte :=
  (List.range n).flatMap (fun k => le 4 (readReg s ⟨blk, i, off + 4 * k⟩).toNat)

end Sys2Proof.Machine
end

