-- ==== Sys2Proof/Machine/CmdLane.lean ====
section
/-! DEFINITION. The identity commands (R494, R495) and the lane commands (R497, R498). -/

namespace Sys2Proof.Machine

/-! ### Identity (R494, R495) -/

/-- NOP (R494). -/
def cmdNop (r : Req) (s : State) : CmdOut := sized r 0 s (fun t => ok t [])

/-- Seconds since firmware last started, holding at 0xFFFF_FFFF (R495). -/
def uptime (s : State) : Nat := min 0xFFFFFFFF ((s.tod - s.fwStarted) / secUnit)

/-- The IDENT_GET data (R495). -/
def identData (s : State) : List Byte :=
  le 4 (hostId s).toNat ++ le 4 (hostFw s).toNat ++ le 4 s.part.cap0.toNat ++ le 4 s.part.cap1.toNat ++ le 4 s.gen.toNat ++
    le 4 s.image.id.toNat ++ le 4 (modeWord s) ++ le 4 (uptime s)

/-- IDENT_GET (R494, R495). -/
def cmdIdentGet (r : Req) (s : State) : CmdOut := sized r 0 s (fun t => ok t (identData t))

/-- ECHO (R494). -/
def cmdEcho (r : Req) (s : State) : CmdOut := if 492 < r.body.length then no s St.badLength else ok s r.body

def execNop (r : Req) (s : State) : Host.Outcome State Fault Refusal := .next (cmdRow 0x0000 false true cmdNop r s)

def execIdentGet (r : Req) (s : State) : Host.Outcome State Fault Refusal :=
  .next (cmdRow 0x0001 false true cmdIdentGet r s)

def execEcho (r : Req) (s : State) : Host.Outcome State Fault Refusal := .next (cmdRow 0x0002 false true cmdEcho r s)

/-! ### Lanes (R497, R498) -/

/-- Lanes and roles of the PLV-9664 (R489). -/
def lanesMax : Nat := 96

/-- A role is parked in the paddock (R498). -/
def roleParked (s : State) (role : Nat) : Bool := s.tx.any (fun e => e.2.parked == some role)

/-- Do something on the lane of each role; a role with no powered lane takes no write (R5). -/
def onRoles (f : State → Nat → State) (roles : List Nat) (s : State) : State :=
  roles.foldl (fun t role => match roleLane t role with
    | none => t
    | some n => f t n) s

/-- Do something on each powered lane. -/
def onLanes (f : State → Nat → State) (lanes : List Nat) (s : State) : State :=
  lanes.foldl (fun t n => if t.laneUp n then f t n else t) s

/-- A command over a range of roles: a parked role makes it STATE (R498). -/
def roleRange (r : Req) (s : State) (checks : List (Bool × Nat)) (f : State → Nat → State) : CmdOut :=
  withRange s r.body lanesMax s.part.lanes (fun roles t =>
    firstFail t (checks ++ [(roles.any (roleParked t), St.state)]) (fun u => ok (onRoles f roles u) []))

/-- A command over a range of physical lanes. -/
def laneRange (r : Req) (s : State) (checks : State → List Nat → List (Bool × Nat)) (f : State → Nat → State) : CmdOut :=
  withRange s r.body lanesMax s.part.lanes (fun lanes t =>
    firstFail t (checks t lanes) (fun u => ok (onLanes f lanes u) []))

/-- LANE_MODE_SET (R94, R117, R497): pixel modes need the pixel pipeline (R6). -/
def cmdLaneModeSet (r : Req) (s : State) : CmdOut :=
  sized r 8 s (fun t =>
    let m := fld r.body 4 0 4
    roleRange r t [(pixelMode m && !t.part.hasPixel, St.notFitted), (decide (10 ≤ m), St.badArg)] (fun u n => writeMode u n m))

/-- The runs of a programmed key as sent, start bit first, LSB first (R74); `none` without an edge up and one down after it. -/
def progRuns (key d : Nat) : Option (Nat × Nat) :=
  let bs := false :: (List.range d).map (fun i => key.testBit i)
  let low := (bs.takeWhile (fun b => !b)).length
  let rest := bs.drop low
  let high := (rest.takeWhile (fun b => b)).length
  if rest.isEmpty || high == rest.length then none else some (low, high)

/-- Two keys' runs: equal ratios with different L are ambiguous (R74). -/
def ambiguous (ks : List (Nat × Nat)) : Bool := ks.any (fun a => ks.any (fun b => a.1 * b.2 == b.1 * a.2 && a.1 != b.1))

/-- The runs of the keys that a LANE_RX_AB word enables. -/
def keyRuns (ab : Nat) (prog : Option (Nat × Nat)) : List (Nat × Nat) :=
  (if bits ab 16 1 == 1 then [(3, 1)] else []) ++ (if bits ab 17 1 == 1 then [(1, 1)] else []) ++
    (if bits ab 18 1 == 1 then [(1, 1)] else []) ++ (if bits ab 19 1 == 1 then prog.toList else [])

/-- A receiver takes the words of LANE_RX_SET: PROG_LOW and PROG_HIGH come from PROG_KEY (R74, R497). -/
def setReceiver (r : Req) (prog : Nat × Nat) (s : State) (n : Nat) : State :=
  let s1 := putReg s .laneRx n 0 (bodyWord r 4)
  let s2 := putReg s1 .laneRx n 8 (bodyWord r 12)
  let s3 := (s2.set F.rx_PROG_LOW n prog.1).set F.rx_PROG_HIGH n prog.2
  writeRxBaud (putReg (putReg s3 .laneRx n 0xC (bodyWord r 16)) .laneRx n 0x10 (bodyWord r 20)) n (bodyWord r 8)

/-- LANE_RX_SET (R74, R85, R87, R497). -/
def cmdLaneRxSet (r : Req) (s : State) : CmdOut :=
  sized r 24 s (fun t =>
    let ab := u32 r.body 12
    let useProg := bits ab 19 1 == 1
    let prog := if useProg then progRuns (bits ab 0 8) (if flag r.body 4 0 then 7 else 8) else some (0, 0)
    let ks := keyRuns ab prog
    roleRange r t [(fld r.body 4 1 2 == 3, St.badArg), (prog.isNone, St.badArg), (flag r.body 4 4 && ks.isEmpty, St.badArg),
      (ambiguous ks, St.badArg)] (setReceiver r (prog.getD (0, 0))))

/-- The STALL of a capture input, other than `but`, whose EDGE selects an edge (R226, R305). -/
def capNames (s : State) (but q : Nat) : Bool :=
  (List.range 8).any (fun n => n != but && s.get F.cap_EDGE n != 0 && s.get F.cap_STALL n == q)

/-- LANE_TX_SET (R118, R121, R226, R497). DEDUCED (log): R497 cites R305, so a CAPT_STALL that a capture input writes is refused. -/
def cmdLaneTxSet (r : Req) (s : State) : CmdOut :=
  sized r 36 s (fun t =>
    let q := fld r.body 32 19 8
    roleRange r t [(fld r.body 4 1 2 == 3, St.badArg), (decide (240 ≤ q), St.badArg),
      (fld r.body 32 0 2 != 0 && (t.on F.stall_MODE q || capNames t 8 q), St.badArg)]
      (fun u n => putRegs u .laneTx n 4 (bodyWords r 4 8)))

/-- LANE_STATUS_GET (R497). -/
def cmdLaneStatusGet (r : Req) (s : State) : CmdOut :=
  sized r 4 s (fun t =>
    let n := fld r.body 0 0 7
    if lanesMax ≤ n then no t St.badArg
    else if t.part.lanes ≤ n then no t St.notFitted
    else ok t (readWords t .laneRx n 0 18 ++ readWords t .laneTx n 0 22))

/-- LANE_CNT_CLR (R85, R118, R497). -/
def cmdLaneCntClr (r : Req) (s : State) : CmdOut :=
  sized r 4 s (fun t => laneRange r t (fun _ _ => []) (fun u n => clearTxCounters (clearRxCounters u n) n))

/-- LANE_EVEN_SET (R90, R122, R497). -/
def cmdLaneEvenSet (r : Req) (s : State) : CmdOut :=
  sized r 12 s (fun t => laneRange r t (fun _ _ => [])
    (fun u n => putReg (putReg u .laneRx n 0x1C (bodyWord r 4)) .laneTx n 0x34 (bodyWord r 8)))

/-- LANE_REARM (R85, R497). -/
def cmdLaneRearm (r : Req) (s : State) : CmdOut := sized r 4 s (fun t => roleRange r t [] rearmLane)

/-- A lane is OFF, with no other mode waiting (R113). -/
def laneOff (s : State) (n : Nat) : Bool := s.get F.tx_ACTIVE n == 0 && !s.on F.tx_PENDING n && (s.txLane n).moveTo.isNone

/-- A lane enters the paddock and parks its role (R498). -/
def enterPaddock (s : State) (n : Nat) : State :=
  if s.on F.tx_PADDOCK n then s
  else
    let role := s.get F.tx_ROLE n
    let s1 := (s.set F.tx_PADDOCK n 1).set F.tx_ROLE n 127
    s1.putTx n { s1.txLane n with parked := if role < 96 then some role else none }

/-- A lane leaves the paddock and takes back the role it parked (R498). -/
def leavePaddock (s : State) (n : Nat) : State :=
  if !s.on F.tx_PADDOCK n then s
  else
    let s1 := (s.set F.tx_PADDOCK n 0).set F.tx_ROLE n ((s.txLane n).parked.getD 127)
    s1.putTx n { s1.txLane n with parked := none }

/-- LANE_PADDOCK_SET (R113, R498). -/
def cmdLanePaddockSet (r : Req) (s : State) : CmdOut :=
  sized r 8 s (fun t => laneRange r t (fun u ls => [(ls.any (fun n => u.laneUp n && !laneOff u n), St.state)])
    (fun u n => if flag r.body 4 0 then enterPaddock u n else leavePaddock u n))

/-- LANE_ROLE_MOVE (R113 to R115, R498): it answers once the move is complete. -/
def cmdLaneRoleMove (r : Req) (s : State) : CmdOut :=
  sized r 4 s (fun t =>
    let role := fld r.body 0 0 7
    let new := fld r.body 0 8 7
    let fitted := fun n => decide (n < lanesMax) && decide (t.part.lanes ≤ n)
    firstFail t [(fitted role || fitted new, St.notFitted), (decide (lanesMax ≤ role) || decide (lanesMax ≤ new), St.badArg),
      (roleParked t role || !t.shedUp (laneShed new) || !t.on F.tx_PADDOCK new || (roleLane t role).isNone, St.state),
      (t.tx.any (fun e => e.2.moveTo == some new), St.state)]
      (fun u => match roleLane u role with
        | none => no u St.state
        | some old =>
          if (u.txLane old).moveTo.isSome then no u St.state
          else .wait (u.putTx old { u.txLane old with moveTo := some new }) (.roleMove old old)))

/-! ### Rows -/

def execLaneModeSet (r : Req) (s : State) : Host.Outcome State Fault Refusal :=
  .next (cmdRow 0x0201 true true cmdLaneModeSet r s)

def execLaneRxSet (r : Req) (s : State) : Host.Outcome State Fault Refusal :=
  .next (cmdRow 0x0202 true true cmdLaneRxSet r s)

def execLaneTxSet (r : Req) (s : State) : Host.Outcome State Fault Refusal :=
  .next (cmdRow 0x0203 true true cmdLaneTxSet r s)

def execLaneStatusGet (r : Req) (s : State) : Host.Outcome State Fault Refusal :=
  .next (cmdRow 0x0204 false true cmdLaneStatusGet r s)

def execLaneCntClr (r : Req) (s : State) : Host.Outcome State Fault Refusal :=
  .next (cmdRow 0x0205 false true cmdLaneCntClr r s)

def execLaneEvenSet (r : Req) (s : State) : Host.Outcome State Fault Refusal :=
  .next (cmdRow 0x0206 true true cmdLaneEvenSet r s)

def execLaneRearm (r : Req) (s : State) : Host.Outcome State Fault Refusal :=
  .next (cmdRow 0x0207 false true cmdLaneRearm r s)

def execLanePaddockSet (r : Req) (s : State) : Host.Outcome State Fault Refusal :=
  .next (cmdRow 0x0208 true true cmdLanePaddockSet r s)

def execLaneRoleMove (r : Req) (s : State) : Host.Outcome State Fault Refusal :=
  .next (cmdRow 0x0209 true true cmdLaneRoleMove r s)

end Sys2Proof.Machine
end

