-- ==== Sys2Proof/Machine/CmdRouter.lean ====
section
/-! DEFINITION. The router, parser and voter commands (R499 to R501). -/

namespace Sys2Proof.Machine

/-! ### Host sentences (R500) -/

/-- ROUTER_SENTENCE_SEND: 8 to 496 bytes; it waits for its turn and answers when its sentence closes or is refused. -/
def cmdSentenceSend (r : Req) (s : State) : CmdOut :=
  if r.body.length < 8 || decide (496 < r.body.length) then no s St.badLength else .wait s (.sentence false)

/-- Host sentences whose turn has come begin (R500). -/
def startSentences (s : State) : State := startHostSentence s s.waits.length

/-! ### Tables (R157 to R165, R176) -/

/-- The records of a table write: `n` words each from offset 4. -/
def recordsOf (r : Req) (n : Nat) : List (List Word) :=
  (List.range (rangeCount r.body)).map (fun i => bodyWords r (4 + 4 * n * i) n)

/-- Table writes and commits wait while COPYBACK reads 1, and behind a commit whose swap is still to come (R176): they are
carried out in mailbox order. -/
def tablesHeld (s : State) : Bool := s.on F.router_COPYBACK 0 || s.commitAsked

/-- A write into the inactive copy, or one that waits its turn (R176). -/
def tableWrite (r : Req) (s : State) (size most total : Nat) (absent : List (List Word) → Bool)
    (checks : List (List Word) → List (Bool × Nat)) (put : State → Nat → List Word → State) : CmdOut :=
  let recs := recordsOf r size
  unfitted (absent recs) s
    (lengthCheck (decide (most < rangeCount r.body) || r.body.length != 4 + 4 * size * rangeCount r.body) s
      (withRange s r.body total total (fun ids t =>
        firstFail t (checks recs) (fun u =>
          if tablesHeld u then .wait u .held
          else ok { (ids.zip recs).foldl (fun v e => put v e.1 e.2) u with routerStaged := true } []))))

/-- ROUTER_ENTRY_WRITE (R157, R158, R499). -/
def cmdEntryWrite (r : Req) (s : State) : CmdOut :=
  tableWrite r s 14 8 4096 (fun _ => false) (fun _ => []) (fun t n w => t.putEntry t.rtInactive n (entryClean w))

/-- The largest HOOK_TARGET of a kind (R172). -/
def hookMax (kind : Nat) : Nat := if kind == 0 then 1023 else if kind == 1 then 0 else if kind == 2 then 255 else
  if kind == 3 then 1023 else 31

/-- R161: what makes an action record BAD_ARG. A group that holds any of Q240 to Q255 cannot be written. -/
def actionBad (w : List Word) : Bool :=
  let cls := wfld w 0 1 2
  let kind := wfld w 2 0 3
  (cls == 0 && (decide (1 < wfld w 0 16 16) || wfld w 1 0 20 != 0)) || decide (5 ≤ kind) ||
    decide (hookMax kind < wfld w 2 3 10) || (kind == 4 && cls != 1) || (cls == 0 && kind != 0 && wfld w 0 0 1 == 0)

/-- A hook the PLV-9624 has no pixel pipeline for (R161). -/
def hookAbsent (s : State) (w : List Word) : Bool :=
  !s.part.hasPixel && decide (1 ≤ wfld w 2 0 3) && decide (wfld w 2 0 3 ≤ 3)

/-- ROUTER_ACTION_WRITE (R160, R161, R499). -/
def cmdActionWrite (r : Req) (s : State) : CmdOut :=
  tableWrite r s 4 30 4096 (fun ws => ws.any (hookAbsent s)) (fun ws => [(ws.any actionBad, St.badArg)])
    (fun t n w => t.putAction t.rtInactive n (actionClean w))

/-- A group naming a reserved or a CREDIT stall (R34, R226). -/
def groupBad (s : State) (w : List Word) : Bool :=
  wfld w 7 16 16 != 0 || (groupStalls w).any (fun q => s.on F.stall_MODE q)

/-- ROUTER_GROUP_WRITE (R165, R499). -/
def cmdGroupWrite (r : Req) (s : State) : CmdOut :=
  tableWrite r s 8 15 1024 (fun _ => false) (fun ws => [(ws.any (groupBad s), St.badArg)])
    (fun t n w => t.putGroup t.rtInactive n (groupClean w))

/-- ROUTER_COMMIT (R176, R177): it answers at the swap. -/
def cmdRouterCommit (r : Req) (s : State) : CmdOut :=
  sized r 0 s (fun t =>
    if tablesHeld t then .wait t .held else .wait { t with commitAsked := true } .routerSwap)

/-! ### Sources and eligibility (R125, R156, R198, R501) -/

/-- A source ID of the PLV-9664 (R125). -/
def sourceExists (n : Nat) : Bool := Part.plv9664.hasSource n

/-- Checks on source IDs: absent ones, then ones that no variant has. -/
def sourceChecks (s : State) (ids : List Nat) : List (Bool × Nat) :=
  [(ids.any (fun n => sourceExists n && !s.part.hasSource n), St.notFitted), (ids.any (fun n => !sourceExists n), St.badArg)]

/-- The eligible set after a change (R501). -/
def newEligible (s : State) (op : Nat) (ids : List Nat) : List Nat :=
  if op == 0 then ids.eraseDups
  else if op == 1 then s.eligible ++ (ids.eraseDups.filter (fun n => !s.eligible.contains n))
  else s.eligible.filter (fun n => !ids.contains n)

/-- ROUTER_ELIGIBLE_SET (R501). -/
def cmdEligibleSet (r : Req) (s : State) : CmdOut :=
  let count := rangeCount r.body
  let ids := (List.range count).map (fun i => u16 r.body (4 + 2 * i))
  let op := fld r.body 0 0 2
  let set := newEligible s op ids
  lengthCheck (decide (48 < count) || r.body.length != 4 + (2 * count + 3) / 4 * 4) s
    (firstFail s (sourceChecks s ids ++ [(op == 3, St.badArg), (decide (48 < set.length), St.noSpace),
      (!set.isEmpty && !s.shedUp 3, St.state)])
      (fun t => ok { t with eligible := set } (le 4 set.length)))

/-! ### Bindings (R169, R179, R230) -/

/-- A stall bound to a listener other than `l`. -/
def boundElsewhere (s : State) (l q : Nat) : Bool :=
  s.bindings.any (fun e => e.1 != l && (boundStalls e.2).any (fun x => x.1 == q))

/-- Write a listener's binding: its G is 0 (R171), stalls it leaves out wait for the listener's next choice (R179), those
it binds get READER 3 and RUN (R230, R231). -/
def bindListener (s : State) (l : Nat) (w0 w1 : Word) : State :=
  let old := (boundStalls (s.binding l)).map (·.1)
  let rec0 := [w0, w1 &&& 0xF]
  let new := (boundStalls rec0).map (·.1)
  let left := ((tget s.unbound l []) ++ old).eraseDups.filter (fun q => !new.contains q)
  let others : Tbl (List Nat) := s.unbound.map (fun e => (e.1, e.2.filter (fun q => !new.contains q)))
  let s1 := { s with
    bindings := tput s.bindings l rec0 [0, 0]
    unbound := (if left.isEmpty then tdrop others l else tput others l left []) }
  new.foldl (fun t q => runStall (setReader t q 3) q) s1

/-- ROUTER_BIND (R169, R230, R499). -/
def cmdBind (r : Req) (s : State) : CmdOut :=
  sized r 12 s (fun t =>
    let l := fld r.body 0 0 7
    let w := bodyWords r 4 2
    let qs := (boundStalls w).map (·.1)
    let absent := (decide (t.part.lanes ≤ l) && decide (l < 96)) || (decide (96 + t.part.ports ≤ l) && decide (l < 98))
    firstFail t [(absent, St.notFitted), (decide (98 ≤ l), St.badArg),
      (qs.any (fun q => decide (240 ≤ q)) || qs.eraseDups.length != qs.length || qs.any (boundElsewhere t l), St.badArg),
      (qs.any (fun q => [1, 2, 4].contains (t.get F.stall_READER q)), St.state)]
      (fun u => ok (bindListener u l (w.getD 0 0) (w.getD 1 0)) []))

/-! ### Reads -/

/-- A record as bytes, `n` words. -/
def recordBytes (w : List Word) (n : Nat) : List Byte := (List.range n).flatMap (fun i => le 4 (w.getD i 0).toNat)

/-- An entry's fourteen words as they read. -/
def entryWords (w : List Word) : List Byte := recordBytes w 14

/-- A listener that this part lacks (R4, R169). -/
def listenerAbsent (s : State) (l : Nat) : Bool :=
  (decide (s.part.lanes ≤ l) && decide (l < 96)) || (decide (96 + s.part.ports ≤ l) && decide (l < 98))

/-- ROUTER_READ (R499): a binding of an absent listener is NOT_FITTED before any other check (R472). -/
def cmdRouterRead (r : Req) (s : State) : CmdOut :=
  let b := r.body.drop 4
  unfitted (fld r.body 0 0 2 == 3 && (rangeOf b).any (listenerAbsent s)) s (sized r 8 s (fun t =>
    let table := fld r.body 0 0 2
    let copy := if flag r.body 0 2 then t.rtInactive else t.rtActive
    let total := if table ≤ 1 then 4096 else if table == 2 then 1024 else 98
    let most := if table == 0 then 8 else if table == 1 then 30 else if table == 2 then 15 else 61
    withRange t b total total (fun ids u =>
      firstFail u [(decide (most < ids.length), St.badArg)] (fun v =>
        ok v (ids.flatMap (fun n =>
          if table == 0 then entryWords (v.entry copy n)
          else if table == 1 then recordBytes (v.action copy n) 4
          else if table == 2 then recordBytes (v.group copy n) 8
          else recordBytes (v.binding n) 2))))))

/-- ROUTER_STATUS_GET (R499). -/
def cmdRouterStatusGet (r : Req) (s : State) : CmdOut :=
  sized r 0 s (fun t => ok t (readWords t .router 0 4 2 ++ readWords t .router 0 0x10 13))

/-- ROUTER_HITS_GET (R188, R499). -/
def cmdHitsGet (r : Req) (s : State) : CmdOut :=
  sized r 4 s (fun t => withRange t r.body 4096 4096 (fun ids u =>
    if 123 < ids.length then no u St.badArg else ok u (ids.flatMap (fun n => le 4 (tget u.hits n 0)))))

/-! ### The parser (R152, R153, R499) -/

/-- PARSE_CFG of a source: its RW bits, then CNT_CLR and SEQ_CLR act. -/
def writeParseCfg (s : State) (src : Nat) (w : Word) : State :=
  let s1 := putReg s .parse src 0 w
  let s2 := if w.toNat.testBit 4 then clearParseCounters s1 src else s1
  if w.toNat.testBit 5 then clearSeq s2 src else s2

/-- PARSE_SET (R499). -/
def cmdParseSet (r : Req) (s : State) : CmdOut :=
  sized r 8 s (fun t =>
    let first := rangeFirst r.body
    let ids := rangeOf r.body
    if ids.isEmpty then okSame t []
    else firstFail t (sourceChecks t ids ++ [(ids.any (fun n => n / 4096 != first / 4096), St.badArg)])
      (fun u => ok (ids.foldl (fun v n => writeParseCfg v n (bodyWord r 4)) u) []))

/-- PARSE_STATUS_GET (R499). -/
def cmdParseStatusGet (r : Req) (s : State) : CmdOut :=
  sized r 4 s (fun t =>
    let src := fld r.body 0 0 16
    firstFail t (sourceChecks t [src]) (fun u => ok u (readWords u .parse src 0 15)))

/-! ### The voter (R196, R197, R206, R207, R499) -/

/-- VOTE_JUDGE_OUT (R196): it answers once the judge is out. -/
def cmdJudgeOut (r : Req) (s : State) : CmdOut :=
  sized r 4 s (fun t =>
    let j := fld r.body 0 0 2
    firstFail t [(j == 3, St.badArg), (t.get F.vote_OUT_JUDGE 0 != 3 || !t.shedUp 3, St.state)]
      (fun u => ok (judgeOut u j) []))

/-- VOTE_JUDGE_IN (R197): it answers once stage 1 has begun. A judge that is on its way back is not out. -/
def cmdJudgeIn (r : Req) (s : State) : CmdOut :=
  sized r 4 s (fun t =>
    let j := fld r.body 0 0 2
    firstFail t [(j == 3, St.badArg),
      (t.get F.vote_OUT_JUDGE 0 != j || t.on F.vote_PENDING_IN 0 || !t.shedUp 3, St.state)]
      (fun u => ok (autoOut (judgeIn u)) []))

/-- A character of R128's address set: a digit or an upper-case letter. -/
def addressChar (b : Byte) : Bool :=
  (decide (0x30 ≤ b.toNat) && decide (b.toNat ≤ 0x39)) || (decide (0x41 ≤ b.toNat) && decide (b.toNat ≤ 0x5A))

/-- An override type that some sentence can match (R207). -/
def typeOk (t : List Byte) : Bool :=
  let name := t.takeWhile (fun b => b != 0#8)
  decide (3 ≤ name.length) && name.all addressChar && (t.drop name.length).all (fun b => b == 0#8)

/-- VOTE_CFG_SET (R206, R207): CNT_CLR is a WO bit and is ignored (R487). -/
def cmdVoteCfgSet (r : Req) (s : State) : CmdOut :=
  sized r 36 s (fun t =>
    let types := (List.range 4).map (fun k => (r.body.drop (4 + 8 * k)).take 8)
    let en := ((List.range 4).filter (fun k => (fld r.body 0 6 4).testBit k)).map (fun k => types.getD k [])
    firstFail t [(!types.all typeOk, St.badArg), (en.eraseDups.length != en.length, St.badArg)]
      (fun u => ok (autoOut (putRegs (putReg u .vote 0 0 (bodyWord r 0)) .vote 0 0x40 (bodyWords r 4 8))) []))

/-- VOTE_STATUS_GET (R499): state, scores, flags, the eight counters. -/
def cmdVoteStatusGet (r : Req) (s : State) : CmdOut :=
  sized r 0 s (fun t =>
    ok t (readWords t .vote 0 4 1 ++ readWords t .vote 0 0x30 1 ++ readWords t .vote 0 8 1 ++ readWords t .vote 0 0x10 8))

/-! ### Rows -/

def execRouterSentenceSend (r : Req) (s : State) : Host.Outcome State Fault Refusal :=
  .next (startSentences (cmdRow 0x0301 false true cmdSentenceSend r s))

def execRouterEntryWrite (r : Req) (s : State) : Host.Outcome State Fault Refusal :=
  .next (cmdRow 0x0302 true true cmdEntryWrite r s)

def execRouterActionWrite (r : Req) (s : State) : Host.Outcome State Fault Refusal :=
  .next (cmdRow 0x0303 true true cmdActionWrite r s)

def execRouterGroupWrite (r : Req) (s : State) : Host.Outcome State Fault Refusal :=
  .next (cmdRow 0x0304 true true cmdGroupWrite r s)

def execRouterCommit (r : Req) (s : State) : Host.Outcome State Fault Refusal :=
  .next (cmdRow 0x0305 true true cmdRouterCommit r s)

def execRouterEligibleSet (r : Req) (s : State) : Host.Outcome State Fault Refusal :=
  .next (cmdRow 0x0306 true true cmdEligibleSet r s)

def execRouterBind (r : Req) (s : State) : Host.Outcome State Fault Refusal :=
  .next (cmdRow 0x0307 true true cmdBind r s)

def execRouterRead (r : Req) (s : State) : Host.Outcome State Fault Refusal :=
  .next (cmdRow 0x0308 false true cmdRouterRead r s)

def execRouterStatusGet (r : Req) (s : State) : Host.Outcome State Fault Refusal :=
  .next (cmdRow 0x0309 false true cmdRouterStatusGet r s)

def execRouterHitsGet (r : Req) (s : State) : Host.Outcome State Fault Refusal :=
  .next (cmdRow 0x030A false true cmdHitsGet r s)

def execParseSet (r : Req) (s : State) : Host.Outcome State Fault Refusal :=
  .next (cmdRow 0x030C true true cmdParseSet r s)

def execParseStatusGet (r : Req) (s : State) : Host.Outcome State Fault Refusal :=
  .next (cmdRow 0x030D false true cmdParseStatusGet r s)

def execVoteJudgeOut (r : Req) (s : State) : Host.Outcome State Fault Refusal :=
  .next (cmdRow 0x0310 false true cmdJudgeOut r s)

def execVoteJudgeIn (r : Req) (s : State) : Host.Outcome State Fault Refusal :=
  .next (cmdRow 0x0311 false true cmdJudgeIn r s)

def execVoteCfgSet (r : Req) (s : State) : Host.Outcome State Fault Refusal :=
  .next (cmdRow 0x0312 true true cmdVoteCfgSet r s)

def execVoteStatusGet (r : Req) (s : State) : Host.Outcome State Fault Refusal :=
  .next (cmdRow 0x0313 false true cmdVoteStatusGet r s)

end Sys2Proof.Machine
end

