-- ==== Sys2Proof/Machine/Overlay.lean ====
section
/-! DEFINITION. Overlay slots and entries as they lie in memory (R30, R518 to R522): headers, entry lists, signatures and
seals, and the overlay of ROLE 1 that is in force (R521). -/

namespace Sys2Proof.Machine

/-- Where slot n lies (R30). -/
def slotAddr (n : Nat) : Nat := 0x1F00000 + 16384 * n

/-- Bytes of a slot. -/
def slotBytes (s : State) (n len : Nat) : List Byte := s.peek (slotAddr n) len

/-- The header word at offset `o` of a slot. -/
def slotFld (s : State) (n o lo w : Nat) : Nat := bits (ofLe (s.peek (slotAddr n + o) 4)) lo w

/-- ROLE of the overlay in a slot: 0 mode, 1 SERVICE mode, 2 EMERGENCY (R521). -/
def slotRole (s : State) (n : Nat) : Nat := slotFld s n 0 16 2

/-- SIZE of the overlay in a slot. -/
def slotSize (s : State) (n : Nat) : Nat := slotFld s n 0x10 0 32

/-- The overlay bytes of a slot. -/
def overlayBytes (s : State) (n : Nat) : List Byte := slotBytes s n (min 16384 (slotSize s n))

/-- A SERVICE overlay is in force (R521). -/
def serviceOn (s : State) : Bool :=
  match s.mode with
  | none => false
  | some n => slotRole s n == 1

/-! ### Entries (R519) -/

/-- `count` entries from the bytes, opcode and body; `none` when they run past the end. -/
def parseEntries : Nat → List Byte → Option (List (Nat × List Byte))
  | 0, _ => some []
  | n + 1, b =>
    let len := u16 b 2
    let pad := (len + 3) / 4 * 4
    if b.length < 4 + pad then none
    else (parseEntries n (b.drop (4 + pad))).map (fun r => (u16 b 0, slice b 4 len) :: r)

/-- The leading entries that lie whole inside the bytes. -/
def parseLeading : Nat → List Byte → List (Nat × List Byte)
  | 0, _ => []
  | n + 1, b =>
    let len := u16 b 2
    let pad := (len + 3) / 4 * 4
    if b.length < 4 + pad then [] else (u16 b 0, slice b 4 len) :: parseLeading n (b.drop (4 + pad))

/-- The entries of a sealed overlay; none where they do not parse. -/
def overlayEntries (b : List Byte) : List (Nat × List Byte) :=
  let stop := if flag b 0 18 then u32 b 0x10 - 64 else u32 b 0x10
  (parseEntries (min (u32 b 0x14) 4096) ((b.take stop).drop 0x20)).getD []

/-- Opcodes an overlay's entry may carry (R520): commands of kind G or S but for the exceptions, and the image-only ones. -/
def overlayOpcode (op : Nat) : Bool :=
  [0x0110, 0x0112, 0x0201, 0x0202, 0x0203, 0x0206, 0x0208, 0x0209, 0x0302, 0x0303, 0x0304, 0x0306, 0x0307, 0x030C, 0x0312, 0x0401,
   0x0501, 0x0503, 0x0508, 0x0518, 0x0601, 0x0602, 0x0603, 0x0604, 0x0605, 0x0606, 0x060A, 0x060B, 0x0701, 0x0703, 0x0707,
   0x0A02, 0x01F1, 0x01F2, 0x01F3].contains op

/-- Opcodes a base image's entry may carry (R520). -/
def imageOpcode (op : Nat) : Bool := overlayOpcode op || [0x01F0, 0x01F4, 0x01F5, 0x01F6, 0x01F7, 0x01F8].contains op

/-! ### Seals (R516, R518, R521, R522, R569) -/

/-- An integrator signature over all but the last 64 bytes, by the enrolled key (R518). -/
def integratorSigned (s : State) (b : List Byte) : Bool :=
  match s.enrolled with
  | none => false
  | some k => decide (64 ≤ b.length) && ecdsaOk k (b.take (b.length - 64)) (b.drop (b.length - 64))

/-- The seal of an overlay of `size` bytes verifies (R520 to R522): SIZE, FORMAT, ROLE, BASE_ID against the image in use,
the signature, the opcodes of its entries. SIGNED 0 is accepted in OPEN and SERVICE (R569). -/
def sealOk (s : State) (b : List Byte) (size : Nat) : Bool :=
  let signed := flag b 0 18
  let stop := if signed then size - 64 else size
  u32 b 0x10 == size && decide (96 ≤ size) && decide (size ≤ 16384) && b.length == size && u16 b 0 == 1 &&
    fld b 0 16 2 != 3 && u32 b 4 == s.image.id.toNat &&
    (if signed then integratorSigned s b else s.life == 0 || s.life == 2) &&
    (match parseEntries (min (u32 b 0x14) 4096) ((b.take stop).drop 0x20) with
     | none => false
     | some es => u32 b 0x14 == es.length && es.all (fun e => overlayOpcode e.1))

/-- The seal of a slot verifies again (R525). -/
def slotSealOk (s : State) (n : Nat) : Bool := sealOk s (overlayBytes s n) (slotSize s n)

end Sys2Proof.Machine
end

