-- ==== Sys2Proof/Machine/CmdStall.lean ====
section
/-! DEFINITION. The stall commands (R212, R226, R228, R230, R502). -/

namespace Sys2Proof.Machine

/-- A stall named in a multicast group of either copy (R226). -/
def groupNames (s : State) (q : Nat) : Bool := s.groups.any (fun e => (groupStalls e.2).contains q)

/-- The CAPT_STALL of a lane whose CAPT_EDGE selects an edge (R121, R226). -/
def senseNames (s : State) (q : Nat) : Bool :=
  (List.range s.part.lanes).any (fun n => s.shedUp (laneShed n) && s.get F.tx_CAPT_EDGE n != 0 && s.get F.tx_CAPT_STALL n == q)

/-- A producer that holds no credit names the stall (R226). -/
def stallNamed (s : State) (q : Nat) : Bool := groupNames s q || senseNames s q || capNames s 8 q

/-- The size, mode and base that a stall has, or will have when its reset ends. -/
def stallShape (s : State) (q : Nat) : Nat × Nat × Nat :=
  match (s.stall q).reset.bind (·.newCfg) with
  | some c => c
  | none => (s.get F.stall_SIZE_LOG2 q, s.get F.stall_MODE q, (s.stall q).base)

/-- READER and WM change at once (R212). An unallocated stall has no reader but a listener that binds it (R211, R230);
firmware that becomes the reader issues RUN (R231). -/
def setReaderWm (s : State) (q reader wm : Nat) : State :=
  let t := (setReader s q (if s.get F.stall_SIZE_LOG2 q == 0 && reader != 3 then 0 else reader)).set F.stall_WM q wm
  if reader == 2 && s.get F.stall_READER q != 2 then runStall t q else t

/-- STALL_RESET commands on a stall answer with RESETS. -/
def answerStallReset (s : State) (q : Nat) : State :=
  answerWaits s (fun w => match w with
    | .stallReset p => p == q
    | _ => false) false (fun t _ => (St.ok, le 4 (t.get F.stall_RESETS q)))

/-- A stall takes a configuration that its checks passed (R212, R234): freeing, allocation, a reset with CAUSE 2, or a
change of READER and WM alone. -/
def configStall (s : State) (q k mode reader wm base : Nat) : State :=
  let cur := stallShape s q
  if k == 0 then (if cur.1 == 0 then (setReaderWm s q reader wm).set F.stall_MODE q mode
    else answerStallReset (stallFreeUp s q mode wm) q)
  else if cur.1 == 0 then
    let t := stallAllocate s q k mode reader wm base
    if reader == 2 || reader == 3 then runStall t q else t
  else if cur.1 == k && cur.2.1 == mode then setReaderWm s q reader wm
  else startReset (setReaderWm s q reader wm) q 2 0 (some (k, mode, base))

/-- STALL_CONFIG (R502). -/
def cmdStallConfig (r : Req) (s : State) : CmdOut :=
  sized r 8 s (fun t =>
    let q := fld r.body 0 0 8
    let k := fld r.body 0 8 5
    let mode := fld r.body 0 13 1
    let reader := fld r.body 0 14 3
    let wm := u32 r.body 4
    let cur := stallShape t q
    let bound := t.get F.stall_READER q == 3
    let base := if k == 0 || k == cur.1 then some cur.2.2
      else if 0x400000 < regionUsed t q + 2 ^ k then none else place t q k
    let checks := [(decide (240 ≤ q), St.denied),
      ((k != 0 && (decide (k < 8) || decide (20 < k))) || wm % 8 != 0 || decide (2 ^ k < wm) || decide (3 ≤ reader), St.badArg)]
    let checks2 := [((k == 0 && (bound || stallNamed t q)) || (mode == 1 && stallNamed t q) || (bound && reader != 0), St.state)]
    firstFail t checks (fun u =>
      match base with
      | none => .done u St.noSpace 0 (le 4 (let g := largestBlock u q; if g == 0 then 0 else 2 ^ g)) false
      | some b => firstFail u checks2 (fun v => ok (configStall v q k mode (if bound then 3 else reader) wm b) [])))

/-- STALL_RESET (R234, R502): it answers at the reset's end. -/
def cmdStallReset (r : Req) (s : State) : CmdOut :=
  sized r 4 s (fun t =>
    let q := fld r.body 0 0 8
    firstFail t [(decide (240 ≤ q), St.denied), (t.get F.stall_SIZE_LOG2 q == 0, St.state)]
      (fun u => .wait (startReset u q 1 0 none) (.stallReset q)))

/-- STALL_STATUS_GET (R502): the fifteen words of each window. -/
def cmdStallStatusGet (r : Req) (s : State) : CmdOut :=
  sized r 4 s (fun t => withRange t r.body 256 256 (fun qs u =>
    if 8 < qs.length then no u St.badArg else ok u (qs.flatMap (fun q => readWords u .stall q 0 15))))

def execStallConfig (r : Req) (s : State) : Host.Outcome State Fault Refusal :=
  .next (cmdRow 0x0401 true true cmdStallConfig r s)

def execStallReset (r : Req) (s : State) : Host.Outcome State Fault Refusal :=
  .next (cmdRow 0x0402 false true cmdStallReset r s)

def execStallStatusGet (r : Req) (s : State) : Host.Outcome State Fault Refusal :=
  .next (cmdRow 0x0403 false true cmdStallStatusGet r s)

end Sys2Proof.Machine
end

