-- ==== Sys2Proof/Machine/CmdTime.lean ====
section
/-! DEFINITION. The time commands (R288 to R308, R503 to R505). -/

namespace Sys2Proof.Machine

/-! ### PTP (R504) -/

/-- A signed log interval is in its range or takes the profile's default (R298, R504). -/
def logOk (v lo hi : Nat) : Bool := v == 0x80 || (decide (-(lo : Int) ≤ sx 8 v) && decide (sx 8 v ≤ (hi : Int)))

/-- TIME_PTP_CFG takes its settings: a change of PTP_PORT, DOMAIN, PROFILE or TRANSPORT loses the reference. -/
def setPtp (s : State) (r : Req) : State :=
  let w := u32 r.body 0
  let old := ptpWord s 0
  let same := bits w 0 3 == bits old 0 3 && bits w 4 7 == bits old 4 7 && bits w 12 1 == s.get F.time_PTP_PORT 0
  let ws := ((bodyWords r 0 6).take 6).set 0 (BitVec.ofNat 32 (w % 32768 / 8 * 8 + w % 8))
  let s1 := ((s.set F.time_PTP_EN 0 (bits w 11 1)).set F.time_PTP_PORT 0 (bits w 12 1)).set F.time_ROLE 0 (bits w 13 2)
  let s2 := { s1 with servo := { s1.servo with ptpCfg := ws ++ [0#32],
                                               master := if same && bits w 11 1 == 1 then s1.servo.master else none
                                               foreign := if same && bits w 11 1 == 1 then s1.servo.foreign else [] } }
  if same then s2 else if s2.get F.time_REF 0 == 1 then loseReference s2 else s2

/-- TIME_PTP_CFG (R503, R504). -/
def cmdTimePtpCfg (r : Req) (s : State) : CmdOut :=
  sized r 28 s (fun t =>
    let w := u32 r.body 0
    let v := u32 r.body 4
    firstFail t [(flag r.body 0 12 && decide (t.part.ports < 2), St.notFitted),
      (bits w 0 2 == 3 || bits w 13 2 == 3 || decide (bits v 24 8 < 2) ||
        !(logOk (bits v 0 8) 7 1 && logOk (bits v 8 8) 3 3 && logOk (bits v 16 8) 7 5), St.badArg)]
      (fun u => ok (setPtp u r) []))

/-! ### Status and reference -/

/-- The last offset, signed ns; 0x8000_0000 for none (R503). An offset that 32 bits do not hold is a free value. -/
def lastOffset (s : State) : State × Nat :=
  match s.servo.offset with
  | none => (s, 0x80000000)
  | some o =>
    if -2147483648 < o ∧ o ≤ 2147483647 then (s, ux 32 o)
    else ({ s with drawn := s.drawn + 1 }, (Config.freeWord s.drawn).toNat)

/-- The grandmaster's clock identity, 0 while PTP_EN is 0 or no master has been seen (R503). -/
def grandmaster (s : State) : Nat := if s.on F.time_PTP_EN 0 then s.servo.master.getD 0 % 18446744073709551616 else 0

/-- TIME_STATUS_GET (R288, R503). -/
def cmdTimeStatusGet (r : Req) (s : State) : CmdOut :=
  sized r 0 s (fun t =>
    let u := snapshotTime t
    let o := lastOffset u
    ok o.1 (readWords u .time 0 0x14 4 ++ readWords u .time 0 4 2 ++ le 4 o.2 ++ le 8 (grandmaster u) ++
      readWords u .time 0 0x30 1))

/-- REF changes (R290, R291, R295): to 0 the reference is lost; a reference selected takes FREE to ACQUIRE and, from REF 0,
HOLDOVER to SLEW. REF 3 behaves as 0 (R311). -/
def setRef (s : State) (ref : Nat) : State :=
  let old := s.get F.time_REF 0 % 3
  let v := s.get F.time_SERVO 0
  if ref % 3 == old then s.set F.time_REF 0 ref
  else
    let s1 := if ref % 3 == 0 then loseReference s
      else if v == 0 || decide (4 < v) then
        setServo { s with servo := { s.servo with first := true, inRun := 0, outRun := 0, offset := none } } 1
      else if v == 4 && old == 0 then
        setServo { s with servo := { s.servo with inRun := 0, outRun := 0, jumped := false } } 3
      else s
    { s1.set F.time_REF 0 ref with servo := { s1.servo with ppsEdge := none, ppsLabel := none } }

/-- TIME_REF_SET (R313, R503). -/
def cmdTimeRefSet (r : Req) (s : State) : CmdOut :=
  sized r 24 s (fun t =>
    let ref := fld r.body 0 0 2
    firstFail t [(ref == 3, St.badArg)] (fun u =>
      let s1 := ((setRef u ref).set F.time_PPS_PIN 0 (fld r.body 0 2 3)).set F.time_PPS_NEXT 0 (fld r.body 0 5 1)
      let s2 := putRegs s1 .time 0 0x34 (bodyWords r 4 2)
      ok { s2 with servo := { s2.servo with utcOffset := fld r.body 0 8 8, ppsSource := fld r.body 0xC 0 16,
                                            ppsType := bodyWords r 0x10 2 } } []))

/-! ### Steps (R296, R297) -/

/-- The measurement that a step to measurement takes: within the last 2 s, whatever steps lie between (R296). -/
def recentOffset (s : State) : Option Int :=
  match s.servo.measuredAt, s.servo.offset with
  | some t, some o => if s.ran ≤ t + 2 * secUnit then some o else none
  | _, _ => none

/-- The response data of TIME_STEP: STEPS and the step applied in ns. -/
def stepData (s : State) (d : Int) : List Byte := le 4 (s.get F.time_STEPS 0) ++ le 8 (ux 64 d)

/-- TIME_STEP (R296): DENIED unless a SERVICE overlay is in force; what a step before first lock answers the spec does
not say beyond "once EVER_LOCKED is 1". -/
def cmdTimeStep (r : Req) (s : State) : CmdOut :=
  sized r 12 s (fun t =>
    let by' := flag r.body 0 0
    let amount : Int := if by' then sx 64 (u32 r.body 4 + u32 r.body 8 * 4294967296) else -((recentOffset t).getD 0)
    let after := (t.nowNs : Int) + amount
    firstFail t [(!serviceOn t, St.denied),
      (!t.on F.time_EVER_LOCKED 0 || (List.range 8).any (fun n => t.on F.pulse_ARMED n) ||
        (!by' && (recentOffset t).isNone), St.state),
      (decide (after < 0), St.badArg)]
      (fun u =>
        if amount == 0 then ok u (stepData u 0)
        else
          let v := setServo (stepCounter u amount) 3
          ok { v with servo := { v.servo with inRun := 0, outRun := 0, jumped := false } } (stepData v amount)))

/-! ### The frame tick (R306, R308, R505) -/

/-- The rate and PHASE of R306. -/
def rateOk (num den phase : Nat) : Bool :=
  decide (1 ≤ num) && decide (num ≤ 1048575) && decide (1 ≤ den) && decide (den ≤ 65535) &&
    decide (24000 * den ≤ num * 1001) && decide (num ≤ 240 * den) && decide (phase * num < den * 1000000000)

/-- The pixel copy in force would fit at the new rate (R328, R425, R505). -/
def fitsAt (s : State) (num den : Nat) : Bool :=
  let t := { s with stagedEnc := [], stagedGroup := [], stagedDelay := none }
  !s.part.hasPixel || framesFit (((t.set F.pixel_ACTIVE 0 s.pixInactive).set F.time_NUM 0 num).set F.time_DEN 0 den)

/-- The checks of a TIME_FRAME_SET whose turn has come (R306, R505); the setting is staged for the next tick (R308). -/
def frameSetNow (r : Req) (s : State) : CmdOut :=
  let num := u32 r.body 0
  let den := u32 r.body 4
  let ph := u32 r.body 8
  firstFail s [(!rateOk num den ph || !fitsAt s num den, St.badArg)]
    (fun u => .wait { u with frame := { u.frame with staged := some (num, den, ph) } } (.frameSet true))

/-- A TIME_FRAME_SET waits or is under way. -/
def frameSetWaits (s : State) : Bool := s.waits.any (fun w => w.on = .frameSet true || w.on = .frameSet false)

/-- TIME_FRAME_SET (R505): one at a time. -/
def cmdTimeFrameSet (r : Req) (s : State) : CmdOut :=
  sized r 12 s (fun t => if frameSetWaits t then .wait t (.frameSet false) else frameSetNow r t)

/-! ### Pulses and captures (R301 to R305) -/

/-- What R301 rejects. -/
def pulseBad (s : State) (b : List Byte) : Bool :=
  let frame := flag b 4 2
  let per := u32 b 0x14
  let width := max 4 (u32 b 0x18)
  let count := u32 b 0x1C
  if frame then decide (max 1 (fld b 4 4 8) * frameDen s * 1000000000 ≤ width * frameNum s)
  else (decide (1 ≤ per) && decide (per < 8)) || (per == 0 && count != 1) || (per != 0 && decide (per ≤ width))

/-- TIME_PULSE_ARM (R303, R503): 28 bytes of the block after the pin. A TIME_STEP lands at once, so none waits. -/
def cmdTimePulseArm (r : Req) (s : State) : CmdOut :=
  sized r 32 s (fun t =>
    firstFail t [(pulseBad t r.body, St.badArg)] (fun u => ok (armPulse u (fld r.body 0 0 3) (bodyWords r 4 7)) []))

/-- TIME_PULSE_DISARM (R304, R503): it answers when every output named is disarmed. -/
def cmdTimePulseDisarm (r : Req) (s : State) : CmdOut :=
  sized r 4 s (fun t =>
    let m := fld r.body 0 0 8
    let u := (setBits 8 m).foldl disarmPulse t
    if (setBits 8 m).all (fun n => !u.on F.pulse_ARMED n) then ok u [] else .wait u (.disarm m))

/-- TIME_CAP_CFG (R305): EDGE_COUNT starts at 0, VALID falls. -/
def cmdTimeCapCfg (r : Req) (s : State) : CmdOut :=
  sized r 8 s (fun t =>
    let n := fld r.body 0 0 3
    let q := fld r.body 4 2 8
    let on := fld r.body 4 0 2 != 0
    firstFail t [(decide (240 ≤ q) || (on && (t.on F.stall_MODE q || senseNames t q || capNames t n q)), St.badArg)]
      (fun u =>
        let v := (putReg u .cap n 0 (bodyWord r 4)).set F.cap_VALID n 0
        ok { v with caps := tput v.caps n {} {} } []))

/-! ### Rows -/

def execTimePtpCfg (r : Req) (s : State) : Host.Outcome State Fault Refusal :=
  .next (cmdRow 0x0501 true true cmdTimePtpCfg r s)

def execTimeStatusGet (r : Req) (s : State) : Host.Outcome State Fault Refusal :=
  .next (cmdRow 0x0502 false true cmdTimeStatusGet r s)

def execTimeRefSet (r : Req) (s : State) : Host.Outcome State Fault Refusal :=
  .next (cmdRow 0x0503 true true cmdTimeRefSet r s)

def execTimeStep (r : Req) (s : State) : Host.Outcome State Fault Refusal :=
  .next (cmdRow 0x0504 false true cmdTimeStep r s)

def execTimeFrameSet (r : Req) (s : State) : Host.Outcome State Fault Refusal :=
  .next (cmdRow 0x0508 true true cmdTimeFrameSet r s)

def execTimePulseArm (r : Req) (s : State) : Host.Outcome State Fault Refusal :=
  .next (cmdRow 0x0510 false true cmdTimePulseArm r s)

def execTimePulseDisarm (r : Req) (s : State) : Host.Outcome State Fault Refusal :=
  .next (cmdRow 0x0511 false true cmdTimePulseDisarm r s)

def execTimeCapCfg (r : Req) (s : State) : Host.Outcome State Fault Refusal :=
  .next (cmdRow 0x0518 true true cmdTimeCapCfg r s)

end Sys2Proof.Machine
end

