-- ==== Sys2Proof/Machine/CmdPixel.lean ====
section
/-! DEFINITION. The pixel commands (R323 to R344, R367 to R371, R506, R507). -/

namespace Sys2Proof.Machine

/-- The pixel pipeline is fitted (R506). -/
def pixFit (s : State) : Bool := s.part.hasPixel

/-- Write a record of the inactive copy. -/
def putRecord (s : State) (a : Nat) (ws : List Word) : State := s.poke a (wordsBytes ws)

/-- While COPYBACK reads 1 a write or commit is carried out after it (R342). -/
def afterCopyback (s : State) (f : State → CmdOut) : CmdOut := if s.on F.pixel_COPYBACK 0 then .wait s .held else f s

/-! ### Segments (R327, R328) -/

/-- A segment without its reserved bits. -/
def segClean (w : List Word) : List Word :=
  [w.getD 0 0, w.getD 1 0 &&& 0xFFFF3FFF, w.getD 2 0 &&& 0xF1FF03FF, w.getD 3 0 &&& 0x7FF]

/-- A field of a segment is outside its range, or a lamp would read a pixel outside the source. -/
def segBad (w : List Word) : Bool :=
  let g := segRec (wordsBytes w)
  let last : Int := (g.start : Int) + (g.count - 1 : Nat) * g.stride
  decide (8 < g.depth) || g.slots == 0 || decide (4 < g.slots) || decide (8192 < g.count) ||
    (g.count != 0 && (decide (pixelMax ≤ g.start) || decide (last < 0) || decide ((pixelMax : Int) ≤ last)))

/-- The COUNTs of a role's valid segments in the inactive copy (R328). -/
def segSum (s : State) (role : Nat) : Nat := lampsOf (segments s s.pixInactive role)

/-- PIXEL_SEGMENT_WRITE (R328, R506). -/
def cmdSegmentWrite (r : Req) (s : State) : CmdOut :=
  let role := fld r.body 0 0 7
  let first := fld r.body 0 8 6
  let count := fld r.body 0 16 6
  let ws := (List.range count).map (fun i => segClean (bodyWords r (4 + 16 * i) 4))
  let put := fun (t : State) => (List.range count).foldl (fun u i => putRecord u (segAddr u.pixInactive role (first + i)) (ws.getD i [])) t
  lengthCheck (decide (30 < count) || r.body.length != 4 + 16 * count) s
    (firstFail s [(decide (s.part.lanes ≤ role) && decide (role < 96), St.notFitted),
      (decide (96 ≤ role) || decide (64 < first + count), St.badArg), (ws.any segBad, St.badArg), (roleParked s role, St.state)]
      (fun t => afterCopyback t (fun u => if 8192 < segSum (put u) role then no u St.badArg else ok (put u) [])))

/-! ### Profiles, zones, sources -/

/-- A RANGE write of records of `words` words each into the inactive copy. -/
def pixelWrite (r : Req) (s : State) (words most total : Nat) (addr : Nat → Nat → Nat) (clean : List Word → List Word)
    (absent bad : List Word → Bool) (after : State → List (Bool × Nat)) : CmdOut :=
  let ws := (recordsOf r words).map clean
  unfitted (ws.any absent) s
    (lengthCheck (decide (most < rangeCount r.body) || r.body.length != 4 + 4 * words * rangeCount r.body) s
      (withRange s r.body total total (fun ids t =>
        firstFail t [(ws.any bad, St.badArg)] (fun u => afterCopyback u (fun v =>
          let v1 := (ids.zip ws).foldl (fun x e => putRecord x (addr x.pixInactive e.1) e.2) v
          firstFail v (after v1) (fun _ => ok v1 []))))))

/-- A profile without its reserved bits. -/
def profClean (w : List Word) : List Word :=
  (List.range 28).map (fun i => w.getD i 0) ++ [w.getD 28 0 &&& 0x3F3F3F3F, 0, 0, 0]

/-- T[0] < T[1] < … < T[7] (R331). -/
def profBad (w : List Word) : Bool :=
  let p := wordsBytes w
  !((List.range 7).all (fun k => decide (profTemp p k < profTemp p (k + 1))))

/-- PIXEL_PROFILE_WRITE (R331, R506). -/
def cmdProfileWrite (r : Req) (s : State) : CmdOut :=
  pixelWrite r s 32 3 256 profAddr profClean (fun _ => false) profBad (fun _ => [])

/-- A zone without its reserved bits. -/
def zoneClean (w : List Word) : List Word :=
  [w.getD 0 0 &&& 0xFF07FDFF, w.getD 1 0, w.getD 2 0, w.getD 3 0, w.getD 4 0, w.getD 5 0, w.getD 6 0, w.getD 7 0 &&& 0xFFFFFF]

/-- A zone's field is outside its range (R333). -/
def zoneBad (w : List Word) : Bool :=
  let b := wordsBytes w
  let kind := fld b 0 0 2
  let idx := fld b 0 2 7
  let light := fld b 0 10 2
  (kind == 1 && decide (24 ≤ idx)) || (kind == 2 && decide (96 ≤ idx)) || light == 3 ||
    (light == 1 && decide (24 ≤ fld b 0 12 5)) || (flag b 0 18 && light != 2) ||
    decide (32768 < fld b 0x10 0 16) || decide (32768 < fld b 0x10 16 16)

/-- A zone names a SENSE lane that is not fitted (R5). -/
def zoneAbsent (s : State) (w : List Word) : Bool :=
  let b := wordsBytes w
  fld b 0 0 2 == 2 && decide (s.part.lanes ≤ fld b 0 2 7) && decide (fld b 0 2 7 < 96)

/-- PIXEL_ZONE_WRITE (R333, R506). -/
def cmdZoneWrite (r : Req) (s : State) : CmdOut :=
  pixelWrite r s 8 15 1024 zoneAddr zoneClean (zoneAbsent s) zoneBad (fun _ => [])

/-- A source record without its reserved bits. -/
def sourceClean (w : List Word) : List Word := [w.getD 0 0 &&& 0xFFFFFF, w.getD 1 0 &&& 0x1FFFFFFF]

/-- A record's field is outside its range, or its pixels pass the buffer (R323, R324). -/
def sourceBad (w : List Word) : Bool :=
  let g := srcRec (wordsBytes w)
  g.kind == 3 || g.first == 0 || ((g.kind == 1 || g.kind == 2) &&
    (g.ch == 0 || decide (4 < g.ch) ||
     (g.kind == 1 && (g.id == 0 || decide (63999 < g.id))) || (g.kind == 2 && decide (96 ≤ g.id)) ||
     decide (pixelMax < g.dest + g.pixels)))

/-- A record names a lane that is not fitted. -/
def sourceAbsent (s : State) (w : List Word) : Bool :=
  let g := srcRec (wordsBytes w)
  g.kind == 2 && decide (s.part.lanes ≤ g.id) && decide (g.id < 96)

/-- Two records of the inactive copy name one universe or one lane role, or together cover too many pixels (R324). -/
def sourcesClash (s : State) : Bool :=
  let rs := (sourcesOf s s.pixInactive).map (sourceRecord s s.pixInactive)
  let names := rs.map (fun g => (g.kind, g.id))
  names.eraseDups.length != names.length || decide (393216 < rs.foldl (fun n g => n + g.pixels) 0)

/-- PIXEL_SOURCE_WRITE (R324, R506). -/
def cmdSourceWrite (r : Req) (s : State) : CmdOut :=
  pixelWrite r s 2 61 2048 sourceAddr sourceClean (sourceAbsent s) sourceBad
    (fun t => [(sourcesClash t, St.badArg)])

/-! ### Configuration, curves, commit -/

/-- PIXEL_CFG_SET (R344, R506): START_DELAY is staged; RUN and SRC apply at the next tick. -/
def cmdPixelCfgSet (r : Req) (s : State) : CmdOut :=
  sized r 8 s (fun t =>
    firstFail t [(flag r.body 0 0 && !t.tablesReady, St.state)] (fun u =>
      ok { ((u.set F.pixel_RUN 0 (fld r.body 0 0 1)).set F.pixel_SRC 0 (fld r.body 0 1 1)) with
           stagedDelay := some (fld r.body 4 0 16) } []))

/-- A curve that a profile of the copy in force names (R343). -/
def curveNamed (s : State) (c : Nat) : Bool :=
  (List.range 256).any (fun p => (List.range 4).any (fun e =>
    (s.peek (profAddr s.pixActive p + 0x70 + e) 1).headD 0 &&& 0x3F#8 == BitVec.ofNat 8 c))

/-- PIXEL_CURVE_WRITE (R338, R343, R506): the yard, as the processor's port writes it, and the working
store. -/
def cmdCurveWrite (r : Req) (s : State) : CmdOut :=
  let c := fld r.body 0 0 6
  let count := fld r.body 0 8 7
  let first := fld r.body 0 16 12
  if 122 < count || r.body.length != 4 + 4 * count then no s St.badLength
  else
    firstFail s [(curveNamed s c, St.state), (decide (4096 < first + count), St.badArg)] (fun t =>
      let ws := (bodyWords r 4 count).map (fun w => w &&& 0xFFFFF)
      let t1 := pokePort t 6 (curveBase + 16384 * c + 4 * first) (wordsBytes ws)
      ok (if t1.shedUp 5 then loadCurves t1 else t1) [])

/-- A commit's checks (R328, R352). -/
def commitOk (s : State) : Bool := framesFit s && groupsOk s

/-- PIXEL_COMMIT (R342, R506): it answers at its tick. -/
def cmdPixelCommit (r : Req) (s : State) : CmdOut :=
  sized r 0 s (fun t => afterCopyback t (fun u =>
    if commitOk u then .wait (u.set F.pixel_COMMIT_PENDING 0 1) .pixelCommit else no u St.badArg))

/-! ### Levels and zone inputs -/

/-- PIXEL_LEVEL_SET (R174, R339, R506): the entries latch in order. -/
def cmdLevelSet (r : Req) (s : State) : CmdOut :=
  let count := u32 r.body 0
  if 123 < count || r.body.length != 4 + 4 * count then no s St.badLength
  else ok ((List.range count).foldl (fun t i =>
    let o := 4 + 4 * i
    latchValue t (if flag r.body o 24 then { kind := 2, target := fld r.body o 16 8, value := fld r.body o 0 16 }
      else { kind := 1, target := 0, value := fld r.body o 0 16 })) s) []

/-- An entry of PIXEL_ZONE_INPUT names a zone that does not take it (R507). -/
def zoneInputBad (s : State) (b : List Byte) (o : Nat) : Bool :=
  let rec0 := zoneRec s (fld b o 0 10)
  if flag b o 16 then fld rec0 0 10 2 != 2 else fld rec0 0 0 2 != 3

/-- One entry takes effect: a temperature, or one or four light readings. -/
def zoneInput (s : State) (b : List Byte) (o : Nat) : State :=
  let z := fld b o 0 10
  let x := s.zone z
  if flag b o 16 then
    let v := [u16 b (o + 4), u16 b (o + 6), u16 b (o + 8), u16 b (o + 10)]
    s.putZone z { x with fwLight := if perEmitter (zoneRec s z) then v else v.take 1, fwLightAge := 0 }
  else s.putZone z { x with fwTemp := some (sx 16 (u16 b (o + 4))), fwTempAge := 0 }

/-- PIXEL_ZONE_INPUT (R507). -/
def cmdZoneInput (r : Req) (s : State) : CmdOut :=
  let count := u32 r.body 0
  if 41 < count || r.body.length != 4 + 12 * count then no s St.badLength
  else
    let os := (List.range count).map (fun i => 4 + 12 * i)
    firstFail s [(os.any (zoneInputBad s r.body), St.badArg)] (fun t => ok (os.foldl (fun u o => zoneInput u r.body o) t) [])

/-! ### Encoders (R366 to R371) -/

/-- What PIXEL_ENC_SET rejects: the one-wire timings (R354) and the rejected values of R367 to R369. -/
def encBad (b : List Byte) : Bool :=
  let t0h := fld b 8 0 12
  let t1h := fld b 8 16 12
  let tbit := fld b 0xC 0 12
  decide (t0h < 4) || decide (t1h < t0h + 4) || decide (tbit < t1h + 4) || decide (tbit < 125) ||
    decide (95 < fld b 4 9 7) || decide (fld b 0x10 0 8 < 8) || decide (32 < fld b 0x10 8 6) || decide (8 < fld b 0x10 16 4) ||
    decide (64 < fld b 0x18 0 7) || decide (fld b 0x1C 0 24 < 100000)

/-- PIXEL_ENC_SET (R353, R367 to R369, R506): staged for the next commit. -/
def cmdEncSet (r : Req) (s : State) : CmdOut :=
  sized r 36 s (fun t => roleRange r t [(encBad r.body, St.badArg)] (fun u n =>
    { u with stagedEnc := tput u.stagedEnc n (bodyWords r 4 8) [] }))

/-- PIXEL_GROUP_SET (R371, R506): groups 1 to 63, staged. -/
def cmdGroupSet (r : Req) (s : State) : CmdOut :=
  let count := rangeCount r.body
  if r.body.length != 4 + (count + 3) / 4 * 4 then no s St.badLength
  else
    let sizes := (List.range count).map (fun i => (byteAt r.body (4 + i)).toNat % 128)
    withRange s r.body 64 64 (fun ids t =>
      firstFail t [(ids.contains 0, St.badArg), (sizes.any (fun z => z == 0 || decide (96 < z)), St.badArg)] (fun u =>
        ok ((ids.zip sizes).foldl (fun v e => { v with stagedGroup := tput v.stagedGroup e.1 e.2 0 }) u) []))

/-- PIXEL_STATUS_GET (R506). -/
def cmdPixelStatusGet (r : Req) (s : State) : CmdOut :=
  sized r 4 s (fun t =>
    let n := fld r.body 0 0 7
    firstFail t [(decide (t.part.lanes ≤ n) && decide (n < 96), St.notFitted), (decide (96 ≤ n), St.badArg)] (fun u =>
      ok u (readWords u .pixel 0 4 2 ++ readWords u .encGlobal 0 4 1 ++ readWords u .pixel 0 0x10 8 ++
        readWords u .encLane n 0x20 6)))

/-! ### Rows -/

def execPixelSegmentWrite (r : Req) (s : State) : Host.Outcome State Fault Refusal :=
  .next (cmdRow 0x0601 true (pixFit s) cmdSegmentWrite r s)

def execPixelProfileWrite (r : Req) (s : State) : Host.Outcome State Fault Refusal :=
  .next (cmdRow 0x0602 true (pixFit s) cmdProfileWrite r s)

def execPixelZoneWrite (r : Req) (s : State) : Host.Outcome State Fault Refusal :=
  .next (cmdRow 0x0603 true (pixFit s) cmdZoneWrite r s)

def execPixelSourceWrite (r : Req) (s : State) : Host.Outcome State Fault Refusal :=
  .next (cmdRow 0x0604 true (pixFit s) cmdSourceWrite r s)

def execPixelCfgSet (r : Req) (s : State) : Host.Outcome State Fault Refusal :=
  .next (cmdRow 0x0605 true (pixFit s) cmdPixelCfgSet r s)

def execPixelCurveWrite (r : Req) (s : State) : Host.Outcome State Fault Refusal :=
  .next (cmdRow 0x0606 true (pixFit s) cmdCurveWrite r s)

def execPixelCommit (r : Req) (s : State) : Host.Outcome State Fault Refusal :=
  .next (cmdRow 0x0607 true (pixFit s) cmdPixelCommit r s)

def execPixelLevelSet (r : Req) (s : State) : Host.Outcome State Fault Refusal :=
  .next (cmdRow 0x0608 false (pixFit s) cmdLevelSet r s)

def execPixelZoneInput (r : Req) (s : State) : Host.Outcome State Fault Refusal :=
  .next (cmdRow 0x0609 false (pixFit s) cmdZoneInput r s)

def execPixelEncSet (r : Req) (s : State) : Host.Outcome State Fault Refusal :=
  .next (cmdRow 0x060A true (pixFit s) cmdEncSet r s)

def execPixelGroupSet (r : Req) (s : State) : Host.Outcome State Fault Refusal :=
  .next (cmdRow 0x060B true (pixFit s) cmdGroupSet r s)

def execPixelStatusGet (r : Req) (s : State) : Host.Outcome State Fault Refusal :=
  .next (cmdRow 0x060C false (pixFit s) cmdPixelStatusGet r s)

end Sys2Proof.Machine
end

