-- ==== Sys2Proof/Machine/Meas.lean ====
section
/-! DEFINITION. The measurement block (R372 to R388): samples and their correction, limits, calibration with a spare
converter, slews, the calibration log, and their rows. -/

namespace Sys2Proof.Machine

/-! ### Channels -/

/-- A channel's run-time values. -/
def State.channel (s : State) (n : Nat) : Channel := tget s.channels n {}

/-- Store them. -/
def State.putChannel (s : State) (n : Nat) (x : Channel) : State := { s with channels := tput s.channels n x {} }

/-- KIND; 3 to 7 behave as 0 (R387). -/
def chKind (s : State) (n : Nat) : Nat := let k := s.get F.ch_KIND n; if k == 1 || k == 2 then k else 0

/-- Samples per second of RATE (R373). -/
def chRate (s : State) (n : Nat) : Nat := [10000, 5000, 2000, 1000, 500, 100, 50, 10].getD (s.get F.ch_RATE n) 10

/-- L[k] of a channel (R374, R385). -/
def linEntry (s : State) (n k : Nat) : Int :=
  sx 16 (bits (s.reg ⟨.measLin, n, 4 * (k / 2)⟩).toNat (16 * (k % 2)) 16)

/-- The corrected value before its clamp (R374). -/
def rawCorrect (raw off : Int) (gain : Nat) : Int := (raw - off) * gain / 32768

/-- c (R374). -/
def correct (raw off : Int) (gain : Nat) : Nat := (clampI 0 65535 (rawCorrect raw off gain)).toNat

/-- The table value of c (R374). -/
def linearise (s : State) (n c : Nat) : Int :=
  let i := c / 4096
  linEntry s n i + (linEntry s n (i + 1) - linEntry s n i) * (c % 4096 : Nat) / 4096

/-- What a channel delivers for c: c, or a temperature with LIN_EN. -/
def chValue (s : State) (n c : Nat) : Int := if s.on F.ch_LIN_EN n then linearise s n c else c

/-! ### Limits (R376, R556) -/

/-- The value lies outside the limits. -/
def outside (s : State) (n : Nat) (v : Int) : Bool :=
  if s.on F.ch_LIN_EN n then decide (v < s.getI F.ch_LIM_LO n) || decide (s.getI F.ch_LIM_HI n < v)
  else decide (v < (s.get F.ch_LIM_LO n : Nat)) || decide ((s.get F.ch_LIM_HI n : Nat) < v)

/-- LIM_ACTIVE rises: LIMIT, and SUPPLY_LIMIT for a PRIVILEGED channel. -/
def limitRise (s : State) (n : Nat) : State :=
  let s1 := raiseMeas ((s.set F.ch_LIM_ACTIVE n 1).inc F.ch_LIMIT n) Bit.msLimit
  if s1.on F.ch_PRIVILEGED n then raisePower s1 Bit.pwSupplyLimit else s1

/-- One delivered value against the limits; with LIM_COUNT 0 none is compared, and no run of them goes on. -/
def limitCheck (s : State) (n : Nat) (v : Int) : State :=
  let k := s.get F.ch_LIM_COUNT n
  if k == 0 then s.putChannel n { s.channel n with outRun := 0, inRun := 0 }
  else
    let x := s.channel n
    let o := outside s n v
    let y := { x with outRun := if o then min (x.outRun + 1) 16 else 0, inRun := if o then 0 else min (x.inRun + 1) 16 }
    let s1 := s.putChannel n y
    if !s1.on F.ch_LIM_ACTIVE n && decide (k ≤ y.outRun) then limitRise s1 n
    else if s1.on F.ch_LIM_ACTIVE n && decide (k ≤ y.inRun) then s1.set F.ch_LIM_ACTIVE n 0
    else s1

/-! ### Delivery (R373 to R375) -/

/-- A sample is delivered: MEAS_CH_DATA, OVERRANGE, the limits, and the pixel pipeline. -/
def deliver (s : State) (n : Nat) (raw off : Int) (gain : Nat) (fromSpare : Bool) : State :=
  let c := correct raw off gain
  let beyond := decide (rawCorrect raw off gain ≠ (c : Int))
  let v := chValue s n c
  let w := ux 16 v
  let s1 := (((s.set F.ch_VALUE n w).setB F.ch_FROM_SPARE n fromSpare).setB F.ch_OVER n beyond).incWrap F.ch_SAMPLE_N n
  let s2 := if beyond then raiseMeas (s1.inc F.ch_OVERRANGE n) Bit.msOverrange else s1
  let s3 := limitCheck (s2.putChannel n { s2.channel n with sampledAt := s.tod }) n v
  if s3.part.hasPixel && s3.shedUp 5 then offerSample s3 n v c else s3

/-- The slew's next step (R381). -/
def slewStep (s : State) (n : Nat) : State :=
  let x := s.channel n
  match x.slew with
  | none => s
  | some w =>
    let j := w.j + 1
    let o := w.o0 + (w.o1 - w.o0) * (j : Nat) / (w.s : Nat)
    let g := ((w.g0 : Int) + ((w.g1 : Int) - w.g0) * (j : Nat) / (w.s : Nat)).toNat
    let s1 := (s.setI F.ch_OFFSET n o).set F.ch_GAIN n g
    if w.s ≤ j then
      let s2 := s1.putChannel n { x with slew := none }
      if s2.get F.ch_STATE n == 4 then s2.set F.ch_STATE n 2 else s2
    else s1.putChannel n { x with slew := some { w with j := j } }

/-- The channel's own converter ends a window: discarded while it settles, else delivered. -/
def ownSample (s : State) (n : Nat) (raw : Int) : State :=
  let x := s.channel n
  if 0 < x.settle then
    let s1 := s.putChannel n { x with settle := x.settle - 1 }
    if x.settle == 1 && s1.get F.ch_STATE n == 1 then s1.set F.ch_STATE n (if x.slew.isSome then 4 else 2) else s1
  else
    let s1 := slewStep s n
    deliver s1 n raw (s1.getI F.ch_OFFSET n) (s1.get F.ch_GAIN n) false

/-! ### Spares (R379, R386) -/

/-- The fields of MEAS_SPARE for spare m. -/
def chMs (m : Nat) : Field := if m == 0 then F.meas_CH_MS0 else F.meas_CH_MS1

def stMs (m : Nat) : Field := if m == 0 then F.meas_ST_MS0 else F.meas_ST_MS1

def validMs (m : Nat) : Field := if m == 0 then F.meas_VALID_MS0 else F.meas_VALID_MS1

/-- A spare's coefficients. -/
def State.spare (s : State) (m : Nat) : Spare := tget s.spares m {}

/-- The spare's coefficients hold for the channel's KIND and RATE; a SPARE_VALID of 0 calibrates it every time. -/
def spareValid (s : State) (m n : Nat) : Bool :=
  s.on (validMs m) 0 && s.get F.meas_SPARE_VALID 0 != 0 && (s.spare m).kind == chKind s n && (s.spare m).rate == s.get F.ch_RATE n

/-- The spare is free and not faulty (R377). -/
def spareIdle (s : State) (m : Nat) : Bool := s.get (stMs m) 0 == 0 && s.get (chMs m) 0 == 31

/-- The spare goes back; a faulty one stays faulty. -/
def releaseSpare (s : State) (m : Nat) : State :=
  let s1 := s.set (chMs m) 0 31
  if s1.get (stMs m) 0 == 6 then s1 else s1.set (stMs m) 0 0

/-! ### The calibration log (R383, R384) -/

/-- A record waits for credit; of more than 16 the oldest goes. -/
def holdCal (s : State) (r : List Byte) : State :=
  let l := s.calHeld ++ [r]
  if 16 < l.length then { s.inc F.meas_CAL_LOG_LOST 0 with calHeld := l.drop 1 } else { s with calHeld := l }

/-- A pair of coefficients as two 16-bit fields. -/
def pairWord (p : Option (Int × Int)) : List Byte :=
  match p with
  | some (o, g) => le 2 (ux 16 o) ++ le 2 (ux 16 g)
  | none => le 4 0

/-- The calibration record (R384), with the time of the judgement. -/
def calRecord (s : State) (n : Nat) (c : Cal) : List Byte :=
  let new := if c.outcome == 0 then c.result else some (c.oldOffset, (c.oldGain : Int))
  mkRecord { s.ownHdr 6 s.calSeq with stamp := c.judged }
    (le 4 (n % 32 + c.spare % 2 * 32 + b2n c.system * 64 + c.outcome % 8 * 128 + s.get F.ch_PRIVILEGED n * 1024 + b2n c.diff * 2048) ++
     pairWord (some (c.oldOffset, (c.oldGain : Int))) ++ pairWord c.p1 ++ pairWord c.p2 ++ pairWord new ++
     le 2 (min c.spread 65535) ++ le 2 (if c.system then c.expect else 0) ++ le 2 (min c.handover 65535) ++ le 2 0 ++ le 4 0)

/-- The record of an outcome goes to Q242. -/
def logCal (s : State) (n : Nat) (c : Cal) : State :=
  let r := calRecord s n c
  flushCal (holdCal { s with calSeq := (s.calSeq + 1) % 4294967296 } r) 16

/-! ### Passes and the judgement (R378, R380) -/

/-- The mean of a set of samples. The spec does not say how a mean that is no integer is rounded: down or up is free. -/
def meanOf (s : State) (l : List Int) : State × Int :=
  let n : Int := l.length
  if l.isEmpty then (s, 0)
  else
    let sum := l.foldl (· + ·) 0
    if sum % n == 0 then (s, sum / n)
    else ({ s with drawn := s.drawn + 1 }, sum / n + ((Config.freeWord s.drawn).toNat % 2 : Nat))

/-- Largest less smallest of a set. -/
def spreadOf (l : List Int) : Nat :=
  match l with
  | [] => 0
  | x :: r => (r.foldl max x - r.foldl min x).natAbs

/-- x_B of internal calibration (R378). -/
def pointB (kind : Nat) : Int := if kind == 1 then 52429 else 65536

/-- An internal pass: GAIN and OFFSET. With R_B = R_A the spec states no GAIN: a free value. -/
def internalPass (s : State) (kind : Nat) (p : CalPass) : State × (Int × Int) :=
  let a := meanOf s p.a
  let b := meanOf a.1 p.b
  if b.2 == a.2 then ({ b.1 with drawn := b.1.drawn + 1 }, (a.2, ((Config.freeWord b.1.drawn).toNat % 65536 : Nat)))
  else (b.1, (a.2, (32768 * pointB kind).fdiv (b.2 - a.2)))

/-- A system pass (R378): GAIN is kept. With GAIN 0 the spec states no OFFSET: a free value. -/
def systemPass (s : State) (gain expect : Nat) (p : CalPass) : State × (Int × Int) :=
  let a := meanOf s p.a
  if gain == 0 then ({ a.1 with drawn := a.1.drawn + 1 }, (sx 16 (Config.freeWord a.1.drawn).toNat, 0))
  else (a.1, (a.2 - (expect * 32768 / gain : Nat), (gain : Int)))

/-- CAL_AVG; 0 behaves as 1. -/
def calAvg (s : State) : Nat := max 1 (s.get F.meas_CAL_AVG 0)

/-- The sets of a pass have CAL_AVG samples each. -/
def passShape (s : State) (system : Bool) (p : CalPass) : Bool :=
  p.a.length == calAvg s && (system || p.b.length == calAvg s)

/-- The spread of a pass, and whether a set is beyond SPREAD_MAX. -/
def passSpread (s : State) (system : Bool) (p : CalPass) : Nat × Bool :=
  let d := if system then spreadOf p.a else max (spreadOf p.a) (spreadOf p.b)
  let m := s.get F.meas_SPREAD_MAX 0
  (d, m != 0 && decide (m < d))

/-- The result of two passes, rounded toward zero. -/
def passMean (p q : Int × Int) (system : Bool) (gain : Nat) : Int × Int :=
  ((p.1 + q.1).tdiv 2, if system then (gain : Int) else (p.2 + q.2).tdiv 2)

/-- Check 2 (R380). -/
def passesAgree (s : State) (p q : Int × Int) (system : Bool) : Bool :=
  decide ((p.1 - q.1).natAbs ≤ s.get F.meas_OFFS_TOL 0) &&
    (system || decide (((p.2 - q.2).natAbs : Int) ≤ p.2 * (s.get F.meas_GAIN_TOL 0 : Nat) / 10000))

/-- Check 3 (R380): a field of 0 is off (R386); `old` is given where PLAUS_STEP applies. -/
def plausible (s : State) (r : Int × Int) (old : Option Int) : Bool :=
  let off := fun (f : Field) (d : Nat) => s.get f 0 == 0 || decide (d ≤ s.get f 0)
  off F.meas_PLAUS_OFFS r.1.natAbs && off F.meas_PLAUS_GAIN (r.2 - 32768).natAbs &&
    (match old with
     | some o => off F.meas_PLAUS_STEP (r.1 - o).natAbs
     | none => true)

/-- The judgement: 0 accepted, 2 SPREAD, 3 AGREE, 4 PLAUS. -/
def judgePasses (s : State) (spreadBad : Bool) (p q : Int × Int) (system : Bool) (gain : Nat) (old : Option Int) : Nat :=
  if spreadBad then 2
  else if !passesAgree s p q system then 3
  else if !plausible s (passMean p q system gain) old then 4
  else 0

/-! ### The phases (R379, R381, R382) -/

/-- Store a channel's calibration. -/
def putCal (s : State) (n : Nat) (c : Option Cal) : State := s.putChannel n { s.channel n with cal := c }

/-- The channel's STATE once it no longer calibrates. -/
def idleState (s : State) (n : Nat) : State :=
  let x := s.channel n
  s.set F.ch_STATE n (if chKind s n == 0 then 0 else if 0 < x.settle then 1 else if x.slew.isSome then 4 else 2)

/-- The calibration is over and the spare released. -/
def endCal (s : State) (n m : Nat) : State := idleState (releaseSpare (putCal s n none) m) n

/-- The spare joins the channel's pin (phase 2). -/
def connectSpare (s : State) (n : Nat) (c : Cal) : State :=
  (putCal s n (some { c with phase := 2, settle := 2, overlap := 0 })).set (stMs c.spare) 0 2

/-- Start a calibration (R377): phase 1 for a spare whose coefficients do not hold, else phase 2. -/
def startCal (s : State) (n m : Nat) (system : Bool) (expect : Nat) : State :=
  let c : Cal := { spare := m, system := system, expect := expect, phase := 1, oldOffset := s.getI F.ch_OFFSET n, oldGain := s.get F.ch_GAIN n }
  let s1 := (s.set (chMs m) 0 n).set F.ch_STATE n 3
  if spareValid s m n then connectSpare s1 n c else (putCal s1 n (some c)).set (stMs m) 0 1

/-- Phase 8 begins: internal mode rejoins, settles and overlaps; system mode only waits for the boundary. -/
def beginReturn (s : State) (n : Nat) (c : Cal) : State :=
  (putCal s n (some { c with phase := 8, settle := if c.system then 0 else 2, overlap := 0 })).set (stMs c.spare) 0 5

/-- MEAS_CAL_ABORT, or S6 going down (R382). -/
def abortCal (s : State) (n : Nat) : State :=
  match (s.channel n).cal with
  | none => s
  | some c =>
    if c.phase == 8 && c.outcome != 0 then s
    else
      let d := { c with outcome := 5, result := none, judged := s.stamp }
      let s1 := logCal (raiseMeas s Bit.msCalAbort) n d
      if c.phase < 3 then endCal s1 n c.spare
      else if c.phase == 8 then putCal s1 n (some d)
      else beginReturn s1 n d

/-- Both converters' windows in phase 2 and in an internal phase 8: settling, then the overlap's differences, with the
coefficients that the window is delivered with. -/
def overlapStep (s : State) (n : Nat) (raw spare : Int) (c : Cal) : State :=
  if 0 < c.settle then
    let s1 := putCal s n (some { c with settle := c.settle - 1 })
    if c.settle == 1 && c.phase == 2 then s1.set (stMs c.spare) 0 3 else s1
  else
    let sp := s.spare c.spare
    let a := chValue s n (correct spare sp.offset sp.gain)
    let b := chValue s n (correct raw (s.getI F.ch_OFFSET n) (s.get F.ch_GAIN n))
    let d := (a - b).natAbs
    putCal s n (some (if c.phase == 2 then { c with overlap := c.overlap + 1, handover := max c.handover d }
      else { c with overlap := c.overlap + 1, back := max c.back d }))

/-- One window of a channel (R373): `raw` from its own converter, `spare` from the spare that serves it. -/
def sampleStep (s : State) (n : Nat) (raw spare : Int) : State :=
  match (s.channel n).cal with
  | none => ownSample s n raw
  | some c =>
    let s1 := if c.phase ≤ 2 then ownSample s n raw
      else deliver s n spare (s.spare c.spare).offset (s.spare c.spare).gain true
    if c.phase == 2 || (c.phase == 8 && !c.system) then overlapStep s1 n raw spare c else s1

/-- The sample a converter gives lies in its range (R372). -/
def inRange18 (r : Int) : Int := clampI (-65536) 131071 r

/-- MEAS_SAMPLE (R373). -/
def execMeasSample (ch : Nat) (raw spare : Int) (s : State) : Host.Outcome State Fault Refusal :=
  .next (if s.shedUp 6 && chKind s ch != 0 then sampleStep s ch (inRange18 raw) (inRange18 spare) else s)

/-- The calibration of a channel, in a phase that `p` accepts, with S6 up. -/
def calIn (s : State) (n : Nat) (p : Cal → Bool) : Option Cal :=
  if s.shedUp 6 then (s.channel n).cal.filter p else none

/-- HANDOVER_DIFF (R379). -/
def handoverDiff (s : State) (n d : Nat) : State :=
  if s.get F.meas_HANDOVER_TOL 0 < d || (s.get F.meas_HANDOVER_TOL 0 == 0 && d != 0) then
    let c := (s.channel n).cal.map (fun c => { c with diff := true })
    raiseMeas (putCal s n c) Bit.msHandoverDiff
  else s

/-- The spare's own calibration ends (R379): it connects (its coefficients stay valid for SPARE_VALID s, for none with 0), or is faulty and the channel's calibration ends. -/
def spareChecked (s : State) (n : Nat) (c : Cal) (p1 p2 : CalPass) : State :=
  let k := chKind s n
  let a := internalPass s k p1
  let b := internalPass a.1 k p2
  let bad := (passSpread s false p1).2 || (passSpread s false p2).2
  let o := judgePasses b.1 bad a.2 b.2 false 0 none
  if o == 0 then
    let r := passMean a.2 b.2 false 0
    let s1 : State := { b.1 with spares := tput b.1.spares c.spare { offset := r.1, gain := r.2.toNat, kind := k, rate := s.get F.ch_RATE n } {} }
    connectSpare (s1.setB (validMs c.spare) 0 (s1.get F.meas_SPARE_VALID 0 != 0)) n c
  else
    let s1 := raiseMeas (raiseMeas ((b.1.set (stMs c.spare) 0 6).set (validMs c.spare) 0 0) Bit.msSpareBad) Bit.msCalReject
    endCal (logCal s1 n { c with outcome := 1, judged := s.stamp }) n c.spare

/-- CAL_SPARE_CHECK_DONE (R379). -/
def execCalSpareCheckDone (ch : Nat) (p1 p2 : CalPass) (s : State) : Host.Outcome State Fault Refusal :=
  match calIn s ch (fun c => c.phase == 1 && passShape s false p1 && passShape s false p2) with
  | none => .next s
  | some c => .next (spareChecked s ch c p1 p2)

/-- CAL_SWITCH (R379): after the overlap the spare delivers. -/
def execCalSwitch (ch : Nat) (s : State) : Host.Outcome State Fault Refusal :=
  match calIn s ch (fun c => c.phase == 2 && c.settle == 0 && decide (s.get F.meas_OVERLAP 0 ≤ c.overlap)) with
  | none => .next s
  | some c => .next (handoverDiff ((putCal s ch (some { c with phase := 4 })).set (stMs c.spare) 0 4) ch c.handover)

/-- A pass's coefficients. -/
def passResult (s : State) (n : Nat) (c : Cal) (p : CalPass) : State × (Int × Int) :=
  if c.system then systemPass s (s.get F.ch_GAIN n) c.expect p else internalPass s (chKind s n) p

/-- The judgement after pass 2 (R380): the channel is handed back either way. -/
def judgeCal (s : State) (n : Nat) (c : Cal) (p q : Int × Int) : State :=
  let g := s.get F.ch_GAIN n
  let o := judgePasses s c.spreadBad p q c.system g (some c.oldOffset)
  let d := { c with outcome := o, judged := s.stamp, result := if o == 0 then some (passMean p q c.system g) else none }
  if o == 0 then beginReturn s n d else beginReturn (logCal (raiseMeas s Bit.msCalReject) n d) n d

/-- CAL_PASS_END (R379): pass 1 leads to the gap, or to pass 2 with CAL_GAP 0; pass 2 to the judgement. -/
def execCalPassEnd (ch : Nat) (p : CalPass) (s : State) : Host.Outcome State Fault Refusal :=
  match calIn s ch (fun c => (c.phase == 4 || c.phase == 6) && passShape s c.system p) with
  | none => .next s
  | some c =>
    let sp := passSpread s c.system p
    let r := passResult s ch c p
    let d := { c with spread := max c.spread sp.1, spreadBad := c.spreadBad || sp.2 }
    if c.phase == 4 then
      .next (putCal r.1 ch (some { d with p1 := some r.2, phase := if s.get F.meas_CAL_GAP 0 == 0 then 6 else 5 }))
    else .next (judgeCal r.1 ch { d with p2 := some r.2 } (c.p1.getD (0, 0)) r.2)

/-- CAL_GAP_END (R379). -/
def execCalGapEnd (ch : Nat) (s : State) : Host.Outcome State Fault Refusal :=
  match calIn s ch (fun c => c.phase == 5) with
  | none => .next s
  | some c => .next (putCal s ch (some { c with phase := 6 }))

/-- A 16-bit register takes a result; one that falls outside its format is a free value. -/
def fit16 (s : State) (signed : Bool) (v : Int) : State × Int :=
  let lo : Int := if signed then -32768 else 0
  let hi : Int := if signed then 32767 else 65535
  if lo ≤ v ∧ v ≤ hi then (s, v)
  else
    let w := (Config.freeWord s.drawn).toNat % 65536
    ({ s with drawn := s.drawn + 1 }, if signed then sx 16 w else (w : Int))

/-- New coefficients come into force (R381): a slew, or one step on a PRIVILEGED channel or with S = 0. -/
def applyCoefs (s : State) (n : Nat) (off gain : Int) : State :=
  let a := fit16 s true off
  let b := fit16 a.1 false gain
  let s1 := (b.1.setI F.ch_T_OFFSET n a.2).set F.ch_T_GAIN n b.2.toNat
  let k := s1.get F.meas_SLEW_MS 0 * chRate s1 n / 1000
  let s2 : State := { s1 with calUnsaved := s1.calUnsaved.filter (fun e => e.1 != n) ++ [(n, a.2, b.2.toNat)] }
  if s2.on F.ch_PRIVILEGED n || k == 0 then
    ((s2.setI F.ch_OFFSET n a.2).set F.ch_GAIN n b.2.toNat).putChannel n { s2.channel n with slew := none }
  else
    s2.putChannel n { s2.channel n with
      slew := some { o0 := s2.getI F.ch_OFFSET n, g0 := s2.get F.ch_GAIN n, o1 := a.2, g1 := b.2.toNat, j := 0, s := k } }

/-- A coefficient write (R381): a step, ending any slew. -/
def stepCoefs (s : State) (n : Nat) (w : Word) : State :=
  let s1 := putReg s .measCh n 4 w
  let s2 := (s1.set F.ch_T_OFFSET n (s1.get F.ch_OFFSET n)).set F.ch_T_GAIN n (s1.get F.ch_GAIN n)
  let s3 := s2.putChannel n { s2.channel n with slew := none }
  if s3.get F.ch_STATE n == 4 then s3.set F.ch_STATE n 2 else s3

/-- CAL_RETURN (R381): the channel delivers again; accepted coefficients come into force, with CAL_DONE and the record. -/
def returnCal (s : State) (n : Nat) (c : Cal) : State :=
  let s0 := if c.system then s else handoverDiff s n c.back
  let d := { c with diff := ((s0.channel n).cal.map (·.diff)).getD c.diff }
  let s1 := s0.set F.ch_FROM_SPARE n 0
  let s2 := match c.result with
    | some r => applyCoefs (raiseMeas (logCal s1 n d) Bit.msCalDone) n r.1 r.2
    | none => s1
  endCal s2 n c.spare

/-- CAL_RETURN. -/
def execCalReturn (ch : Nat) (s : State) : Host.Outcome State Fault Refusal :=
  match calIn s ch (fun c => c.phase == 8 && c.settle == 0 && (c.system || decide (s.get F.meas_OVERLAP 0 ≤ c.overlap))) with
  | none => .next s
  | some c => .next (returnCal s ch c)

/-- MEAS_COEF_PERSIST (R383): firmware writes each accepted set of coefficients, as it was accepted, to boot flash. -/
def execMeasCoefPersist (s : State) : Host.Outcome State Fault Refusal :=
  .next (if s.shedUp 6 && s.running then
      { s with calUnsaved := []
               calSaved := s.calUnsaved.foldl (fun t n => tput t n.1 n.2 (0, 32768)) s.calSaved }
    else s)

/-- SPARE_VALID_EXPIRY (R379). -/
def execSpareValidExpiry (spare : Nat) (s : State) : Host.Outcome State Fault Refusal :=
  .next (if s.shedUp 6 then s.set (validMs spare) 0 0 else s)

/-- SPARE_VALID of 0 s leaves no spare's coefficients valid (R379, R386). -/
def spareValidity (s : State) : State :=
  if s.get F.meas_SPARE_VALID 0 == 0 then (s.set F.meas_VALID_MS0 0 0).set F.meas_VALID_MS1 0 0 else s

/-- A channel's KIND or RATE was written: a change settles again (R373), and STATE follows. -/
def settleChannel (s0 s : State) (n : Nat) : State :=
  if chKind s n == chKind s0 n && s.get F.ch_RATE n == s0.get F.ch_RATE n then s
  else idleState (s.putChannel n { s.channel n with settle := if chKind s n == 0 then 0 else 2 }) n

/-- A register write of a channel block (R373, R381, R382, R387); `s0` is the state before it. While the channel calibrates,
KIND, RATE and PRIVILEGED stay (R382 says it of PRIVILEGED; R377 refuses the command that sets the others: DEDUCED). -/
def afterChannelWrite (s0 s : State) (n off : Nat) : State :=
  if off == 0 then
    if (s0.channel n).cal.isSome then
      [F.ch_KIND, F.ch_RATE, F.ch_PRIVILEGED].foldl (fun t f => t.set f n (s0.get f n)) s
    else settleChannel s0 s n
  else if off == 4 then stepCoefs s n (s.reg ⟨.measCh, n, 4⟩)
  else s

/-- MEAS_CFG.CNT_CLR (R386): every channel's counters and CAL_LOG_LOST. -/
def clearMeasCounters (s : State) : State :=
  (List.range 24).foldl (fun t n => t.clear [F.ch_OVERRANGE, F.ch_LIMIT] n) (s.set F.meas_CAL_LOG_LOST 0 0)

/-- MEAS_CNT_CLR. -/
def execMeasCntClr (s : State) : Host.Outcome State Fault Refusal :=
  .next (if s.shedUp 6 then clearMeasCounters s else s)

end Sys2Proof.Machine
end

