-- ==== Sys2Proof/Machine/CmdMeas.lean ====
section
/-! DEFINITION. The measurement commands (R372 to R387, R508). -/

namespace Sys2Proof.Machine

/-- The channel is calibrating. -/
def calibrating (s : State) (n : Nat) : Bool := (s.channel n).cal.isSome

/-- A command naming one channel 0 to 23. -/
def oneChannel (r : Req) (size : Nat) (s : State) (f : Nat → State → CmdOut) : CmdOut :=
  sized r size s (fun t =>
    let n := fld r.body 0 0 5
    if 24 ≤ n then no t St.badArg else f n t)

/-- A channel takes its word 0x00 and its limits: a change of KIND or RATE settles again (R373). -/
def setChannel (w lim : Word) (s : State) (n : Nat) : State :=
  settleChannel s (putReg (putReg s .measCh n 0 w) .measCh n 0xC lim) n

/-- MEAS_CH_SET (R377, R382, R387, R508). -/
def cmdMeasChSet (r : Req) (s : State) : CmdOut :=
  sized r 12 s (fun t => withRange t r.body 24 24 (fun ids u =>
    firstFail u [(decide (3 ≤ fld r.body 4 0 3), St.badArg), (ids.any (calibrating u), St.state)]
      (fun v => ok (ids.foldl (setChannel (bodyWord r 4) (bodyWord r 8)) v) [])))

/-- A channel's latest sample and its instant (R375, R508). -/
def measReadOne (s : State) (n : Nat) : List Byte :=
  let ns := (s.channel n).sampledAt / nsUnit
  let sec := ns / 1000000000
  readWords s .measCh n 0x10 1 ++ le 4 (ns % 1000000000) ++ le 4 (sec % 4294967296) ++ le 4 (sec / 4294967296 % 65536)

/-- MEAS_READ (R375, R508). -/
def cmdMeasRead (r : Req) (s : State) : CmdOut :=
  sized r 4 s (fun t => withRange t r.body 24 24 (fun ids u => ok u (ids.flatMap (measReadOne u))))

/-- MEAS_TABLE_SET (R374, R508): seventeen points and two bytes of padding. -/
def cmdMeasTableSet (r : Req) (s : State) : CmdOut :=
  oneChannel r 40 s (fun n t =>
    firstFail t [(calibrating t n, St.state)] (fun u => ok (putRegs u .measLin n 0 (bodyWords r 4 9)) []))

/-- The table of a channel rises or falls strictly (R377). -/
def tableMonotonic (s : State) (n : Nat) : Bool :=
  (List.range 16).all (fun k => decide (linEntry s n k < linEntry s n (k + 1))) ||
    (List.range 16).all (fun k => decide (linEntry s n (k + 1) < linEntry s n k))

/-- The values of c at which the table gives `t`. -/
def inverseLin (s : State) (n : Nat) (t : Int) : List Nat :=
  ((List.range 16).filter (fun i => (decide (linEntry s n i ≤ t) && decide (t ≤ linEntry s n (i + 1))) ||
    (decide (linEntry s n (i + 1) ≤ t) && decide (t ≤ linEntry s n i)))).flatMap (fun i =>
      ((List.range 4096).map (fun f => 4096 * i + f)).filter (fun c => decide (linearise s n c = t)))

/-- The expected c of a calibration (R378): a temperature goes through the inverse of L; where that has no single value
the spec states none, and it is free. -/
def expectC (s : State) (n : Nat) (temp : Bool) (v : Nat) : State × Nat :=
  if !temp then (s, v)
  else
    match inverseLin s n (sx 16 v) with
    | [c] => (s, c)
    | _ => ({ s with drawn := s.drawn + 1 }, (Config.freeWord s.drawn).toNat % 65536)

/-- The spare that a start takes: the one named, or the lower-numbered free one. -/
def pickSpare (s : State) (which : Nat) : Option Nat :=
  if which < 2 then (if spareIdle s which then some which else none) else (List.range 2).find? (spareIdle s)

/-- MEAS_CAL_START (R377, R508). -/
def cmdMeasCalStart (r : Req) (s : State) : CmdOut :=
  oneChannel r 8 s (fun n t =>
    let sys := flag r.body 0 8
    let which := fld r.body 0 9 2
    let temp := flag r.body 0 11
    firstFail t [(which == 3, St.badArg), (chKind t n == 0 || calibrating t n, St.state), ((pickSpare t which).isNone, St.busy),
      (sys && temp && !tableMonotonic t n, St.badArg)] (fun u =>
        let e := if sys then expectC u n temp (fld r.body 4 0 16) else (u, 0)
        ok (startCal e.1 n ((pickSpare u which).getD 0) sys e.2) []))

/-- MEAS_CAL_ABORT (R382, R508). -/
def cmdMeasCalAbort (r : Req) (s : State) : CmdOut :=
  oneChannel r 4 s (fun n t => firstFail t [(!calibrating t n, St.state)] (fun u => ok (abortCal u n) []))

/-- MEAS_COEF_SET (R381, R508). -/
def cmdMeasCoefSet (r : Req) (s : State) : CmdOut :=
  oneChannel r 8 s (fun n t =>
    firstFail t [(calibrating t n, St.state)] (fun u => ok (if u.shedUp 6 then stepCoefs u n (bodyWord r 4) else u) []))

/-- MEAS_PARAM_SET (R386, R508): CNT_CLR acts. -/
def cmdMeasParamSet (r : Req) (s : State) : CmdOut :=
  sized r 20 s (fun t =>
    firstFail t [((List.range 24).any (calibrating t), St.state)] (fun u =>
      let v := spareValidity (putRegs (putReg u .meas 0 0 (bodyWord r 0)) .meas 0 0xC (bodyWords r 4 4))
      ok (if flag r.body 0 0 then clearMeasCounters v else v) []))

def execMeasChSet (r : Req) (s : State) : Host.Outcome State Fault Refusal :=
  .next (cmdRow 0x0701 true true cmdMeasChSet r s)

def execMeasRead (r : Req) (s : State) : Host.Outcome State Fault Refusal :=
  .next (cmdRow 0x0702 false true cmdMeasRead r s)

def execMeasTableSet (r : Req) (s : State) : Host.Outcome State Fault Refusal :=
  .next (cmdRow 0x0703 true true cmdMeasTableSet r s)

def execMeasCalStart (r : Req) (s : State) : Host.Outcome State Fault Refusal :=
  .next (cmdRow 0x0704 false true cmdMeasCalStart r s)

def execMeasCalAbort (r : Req) (s : State) : Host.Outcome State Fault Refusal :=
  .next (cmdRow 0x0705 false true cmdMeasCalAbort r s)

def execMeasCoefSet (r : Req) (s : State) : Host.Outcome State Fault Refusal :=
  .next (cmdRow 0x0706 false true cmdMeasCoefSet r s)

def execMeasParamSet (r : Req) (s : State) : Host.Outcome State Fault Refusal :=
  .next (cmdRow 0x0707 true true cmdMeasParamSet r s)

end Sys2Proof.Machine
end

