-- ==== Sys2Proof/Machine/CmdTwin.lean ====
section
/-! DEFINITION. The twin commands (R408, R409, R426 to R431, R509). -/

namespace Sys2Proof.Machine

/-- The tether and the interlock are fitted (R509). -/
def twinFit (s : State) : Bool := s.part.hasTwin

/-- TWIN_STATUS_GET (R509): ILK, STATE, GEN, FLAGS, the nine counters, MARK_MISS. -/
def cmdTwinStatusGet (r : Req) (s : State) : CmdOut :=
  sized r 0 s (fun t =>
    let u := showUnit t
    ok u (readWords u .twin 0 0 1 ++ readWords u .twin 0 0x10 3 ++ readWords u .twin 0 0x20 9 ++ le 4 u.twin.markMiss))

/-- TWIN_CFG_SET (R426 to R428, R509): TWIN_CFG and TWIN_CFG_B, then TWIN_ILK_CFG. -/
def cmdTwinCfgSet (r : Req) (s : State) : CmdOut :=
  sized r 12 s (fun t =>
    ok (showUnit (putReg (putRegs t .twin 0 8 (bodyWords r 0 2)) .twin 0 4 (bodyWord r 8))) [])

/-- TWIN_SWAP (R409, R423, R424): the owner invites its standby, a standby asks; it answers when the handover is over. -/
def cmdTwinSwap (r : Req) (s : State) : CmdOut :=
  sized r 0 s (fun t =>
    let give := isActive t && (t.twin.peer.map (·.qualified)).getD false && tetherUp t
    let take := tetherOn t && qualified t
    if t.twin.handover.isSome || !(give || take) then no t St.state
    else if give then .wait (showUnit (sendHandover (beginHandover t true false 1) 0 false 0)) .twinSwap
    else .wait (showUnit (askHandover t false)) .twinSwap)

/-- The nine counters (R431). -/
def clearTwinCounters (s : State) : State :=
  s.clear [F.twin_TAKEOVERS, F.twin_CLAIM_FAILS, F.twin_V_DRIVERS, F.twin_V_ACTIVE, F.twin_V_STANDBY, F.twin_V_UNDECIDED,
    F.twin_SNAP_DISCARDED, F.twin_DUP_SENT, F.twin_TETHER_ERR] 0

/-- TWIN_CLEAR_FAULT (R408, R431, R509): the unit leaves FAULTED; with CNT_CLR the counters go to 0. -/
def cmdTwinClearFault (r : Req) (s : State) : CmdOut :=
  sized r 4 s (fun t =>
    let clr := flag r.body 0 0
    firstFail t [(!t.twin.faulted && !clr, St.state)] (fun u =>
      let v := { u with twin := { u.twin with faulted := false, faultLane := none, lineFault := [] } }
      ok (showUnit (if clr then clearTwinCounters v else v)) []))

def execTwinStatusGet (r : Req) (s : State) : Host.Outcome State Fault Refusal :=
  .next (cmdRow 0x0801 false (twinFit s) cmdTwinStatusGet r s)

def execTwinCfgSet (r : Req) (s : State) : Host.Outcome State Fault Refusal :=
  .next (cmdRow 0x0802 true (twinFit s) cmdTwinCfgSet r s)

def execTwinSwap (r : Req) (s : State) : Host.Outcome State Fault Refusal :=
  .next (cmdRow 0x0803 false (twinFit s) cmdTwinSwap r s)

def execTwinClearFault (r : Req) (s : State) : Host.Outcome State Fault Refusal :=
  .next (cmdRow 0x0804 false (twinFit s) cmdTwinClearFault r s)

end Sys2Proof.Machine
end

