-- ==== Sys2Proof/Machine/Bypass.lean ====
section
/-! DEFINITION. The wire-level bypass (R559 to R564): its pairs, engagement and hand-back, and BYPASS_MASK. -/

namespace Sys2Proof.Machine

/-- Bypass pairs of the variant (R559). -/
def pairCount (s : State) : Nat := s.part.lanes / 2

/-- Lane 2k + 1 of an engaged pair: the record being sent is cut off and released as TX_ABORT (R561); one of which nothing
is being sent stays at the head of its stall (R563). -/
def cutPair (s : State) (k : Nat) : State :=
  let n := 2 * k + 1
  let x := s.txLane n
  if !s.laneUp n || x.granted.isNone then s
  else if x.phase != .sending then (ungrant s n).putTx n { (ungrant s n).txLane n with phase := .idle, de := false }
  else
    let s1 := raiseTx ((dropRecord s n).inc F.tx_N_TX_ABORT n) n Bit.txAbort
    s1.putTx n { s1.txLane n with phase := .idle, de := false }

/-- Every masked pair is taken (R561). -/
def engagePairs (s : State) : State :=
  let ks := (setBits (pairCount s) (bypassMask s)).filter (fun k => !s.pairs.contains k)
  let s1 := ks.foldl cutPair s
  { s1 with pairs := s1.pairs ++ ks }

/-- The bypass follows its causes (R560 to R562): a cause engages the masked pairs and prompts a claim. Pairs are handed
back one by one by BYPASS_HANDBACK. -/
def followBypass (s : State) : State := if bypassCause s != 0 then bypassClaim (engagePairs s) else s

/-- The bypass is engaged, for BYPASS_MASK (R564). -/
def bypassOn (s : State) : Bool := bypassCause s != 0 || !s.pairs.isEmpty

/-- BYPASS_MASK for the configuration in force (R564): a lane carries the mode that is written for it. -/
def wantedMask (s : State) : Nat :=
  let mode := fun n => if s.laneUp n then s.get F.tx_MODE n else 0
  maskOf ((List.range (pairCount s)).filter (fun k =>
    (mode (2 * k) == 1 || mode (2 * k) == 5) && (mode (2 * k + 1) == 2 || mode (2 * k + 1) == 4)))

/-- Store a mask. -/
def putMask (s : State) (m : Nat) : State := (s.set F.sec_MASK_LO 0 (m % 4294967296)).set F.sec_MASK_HI 0 (m / 4294967296)

/-- Firmware sets BYPASS_MASK at a boot and at a mode switch, while the bypass is not engaged (R564). -/
def setMask (s : State) : State := if bypassOn s then s else putMask s (wantedMask s)

/-- BYPASS_PIN: the filtered level of BYPASS_EN (R560). -/
def execBypassPin (level : Bool) (s : State) : Host.Outcome State Fault Refusal :=
  .next (followBypass { s with bypassPin := level })

/-- Lane 2k's receiver after the hand-back: its mode again, arming under R80 (R561). -/
def handPair (s : State) (k : Nat) : State :=
  let n := 2 * k
  let s1 := { s with pairs := s.pairs.filter (fun j => j != k) }
  if s1.laneUp n && receives (laneMode s1 n) then (abortRx s1 n).set F.rx_STATE n 1 else s1
where
  /-- A character in progress is cut; an open sentence stays open, since no bit of it was lost on the pin. -/
  abortRx (s : State) (n : Nat) : State := s.putRx n { s.rxLane n with confirmed := false }

/-- BYPASS_HANDBACK (R561): a pair goes back once no cause remains. -/
def execBypassHandback (pair : Nat) (s : State) : Host.Outcome State Fault Refusal :=
  .next (if bypassCause s == 0 && s.pairs.contains pair then handPair s pair else s)

end Sys2Proof.Machine
end

