-- ==== Sys2Proof/Machine/CmdSecurity.lean ====
section
/-! DEFINITION. The security commands (R510, R511, R568 to R573) and the life cycle. -/

namespace Sys2Proof.Machine

/-! ### Keys and signatures (R571, R572) -/

/-- A signature over `m` by the enrolled key. -/
def signedByEnrolled (s : State) (m sig : List Byte) : Bool :=
  match s.enrolled with
  | none => false
  | some k => ecdsaOk k m sig

/-- A signature that fails sets SIG_FAIL (R571). -/
def sigFail (s : State) : CmdOut := no (raiseSec s Bit.scSigFail) St.signature

/-- The fuse key slots hold these keys; KEYS_USED counts them (R572, R574). -/
def burnKeys (s : State) (l : List (Nat × Nat)) : State := { s.set F.sec_KEYS_USED 0 l.length with fuseKeys := l }

/-- Firmware copies the newest fuse key into the tack room, outside OPEN (R572). -/
def reloadKey (s : State) : State := if s.life == 0 then s else { s with enrolled := s.fuseKeys.getLast? }

/-! ### Sessions (R510, R573) -/

/-- The session key (R573). -/
def sessionKey (priv : Nat) (k : Nat × Nat) (nonce hubNonce : List Byte) (number : Nat) : List Byte :=
  hmac (be32 (((ecMul 256 priv (some k)).map (·.1)).getD 0)) (ascii8 "PLVSESS" ++ nonce ++ hubNonce ++ le 4 number)

/-- A session opens. -/
def openSession (s : State) (r : Req) (k : Nat × Nat) : CmdOut :=
  let e := ephemeral (Config.freshScalar s.drawn).toNat
  let number := (Config.freshSession s.drawn).toNat
  let nonce := slice r.body 0xC 32
  let hub := be32 e.2.1
  let x : Session := { number := number, port := fld r.body 0 0 1, ip := bodyWord r 4, udp := fld r.body 8 0 16,
                       key := sessionKey e.1 k nonce hub number, peerCounter := 0, ownCounter := 0 }
  ok { s with drawn := s.drawn + 1, sessions := s.sessions ++ [x] } (le 4 number ++ hub)

/-- SESSION_OPEN (R510, R511, R571, R573). -/
def cmdSessionOpen (r : Req) (s : State) : CmdOut :=
  sized r 108 s (fun t =>
    let port := fld r.body 0 0 1
    let inside := match r.via with
      | .session _ => true
      | _ => false
    firstFail t [(decide (t.part.ports ≤ port), St.notFitted), (inside, St.denied)] (fun u =>
      match u.enrolled with
      | none => no u St.denied
      | some k =>
        if !ecdsaOk k (ascii8 "PLVSESS" ++ slice r.body 0 44) (slice r.body 0x2C 64) then sigFail u
        else if 4 ≤ (u.sessions.filter (fun x => x.port == port)).length then no u St.noSpace
        else openSession u r k))

/-- SESSION_CLOSE (R510): 0 closes all. -/
def cmdSessionClose (r : Req) (s : State) : CmdOut :=
  sized r 4 s (fun t =>
    let n := u32 r.body 0
    if n == 0 then ok { t with sessions := [] } []
    else if t.sessions.any (fun x => x.number == n) then ok { t with sessions := t.sessions.filter (fun x => x.number != n) } []
    else no t St.badArg)

/-- KEY_ENROLL (R510, R511, R572): in OPEN without a signature into the tack room; elsewhere the next of four fuse slots. -/
def cmdKeyEnroll (r : Req) (s : State) : CmdOut :=
  let isOpen := s.life == 0
  let key := (ofBe (slice r.body 0 32), ofBe (slice r.body 32 32))
  if r.body.length != (if isOpen then 64 else 128) then no s St.badLength
  else firstFail s [(!(r.via = .spi), St.denied), (!isOpen && decide (4 ≤ s.fuseKeys.length), St.denied)] (fun t =>
    if isOpen then ok { t with enrolled := some key, sessions := [] } []
    else if !signedByEnrolled t (ascii8 "PLVKEY" ++ slice r.body 0 64 ++ t.nonce) (slice r.body 64 64) then sigFail t
    else ok { burnKeys t (t.fuseKeys ++ [key]) with enrolled := some key, sessions := [] } [])

/-! ### The life cycle (R569, R570) -/

/-- What the transition burns or starts; SEALED burns the armed tamper inputs too (R565). -/
def lifeEffect (s : State) (target : Nat) : State :=
  if target == 3 then { s with fuseRetired := true, fuseMask := bypassMask s, service := false, retireDue := true }
  else if target == 2 then { s.set F.sec_SERVICE_LEFT 0 480 with service := true }
  else if s.life == 2 then { s.set F.sec_SERVICE_LEFT 0 0 with service := false }
  else { burnKeys s s.enrolled.toList with fuseSealed := true, fuseArmed := BitVec.ofNat 3 (s.get F.sec_ARMED 0) }

/-- A transition (R570): its effect, the wipe, a new nonce, the log entry, LIFE; the bypass engages in RETIRED (R560). -/
def lifeMove (s : State) (target : Nat) : State :=
  let frm := s.life
  let s1 := newNonce (wipeTack (lifeEffect s target))
  followBypass (reloadKey (raiseSec (logTamper s1 6 frm) Bit.scLife))

/-- Transitions of R570: allowed, and whether the signature is checked. -/
def lifeAllowed (s : State) (target : Nat) : Bool :=
  (s.life == 0 && target == 1 && s.enrolled.isSome) || (s.life == 1 && target == 2) || (s.life == 2 && target == 1) ||
    (decide (s.life < 3) && target == 3)

/-- LIFE_SET (R510, R511, R570, R571). -/
def cmdLifeSet (r : Req) (s : State) : CmdOut :=
  sized r 68 s (fun t =>
    let target := fld r.body 0 0 3
    firstFail t [(!(r.via = .spi) || !lifeAllowed t target, St.denied)] (fun u =>
      if u.life != 2 || target != 1 then
        (if signedByEnrolled u (ascii8 "PLVLIFE" ++ slice r.body 0 4 ++ u.nonce) (slice r.body 4 64) then ok (lifeMove u target) []
         else sigFail u)
      else ok (lifeMove u target) []))

/-- TAMPER_LOG_GET (R510, R568): entries 0 to 63. -/
def cmdTamperLogGet (r : Req) (s : State) : CmdOut :=
  sized r 4 s (fun t => withRange t r.body 64 64 (fun ids u =>
    if 30 < ids.length then no u St.badArg
    else
      let g := tackGet u (tamperLog + 16 * ids.headD 0) (2 * ids.length)
      ok g.1 g.2))

/-- RETIRE_RESET (R570): the software reset 1 ms after the response. -/
def execRetireReset (s : State) : Host.Outcome State Fault Refusal :=
  .next (if s.retireDue then hubReset s .software else s)

/-- SERVICE_EXPIRY (R569): 8 h have passed and the state returns to SEALED. It is no transition of LIFE_SET, so nothing is
wiped (DEDUCED; log entry on the life cycle). -/
def execServiceExpiry (s : State) : Host.Outcome State Fault Refusal :=
  .next (if s.life == 2 then { s.set F.sec_SERVICE_LEFT 0 0 with service := false } else s)

def execSessionOpen (r : Req) (s : State) : Host.Outcome State Fault Refusal :=
  .next (cmdRow 0x0901 false true cmdSessionOpen r s)

def execSessionClose (r : Req) (s : State) : Host.Outcome State Fault Refusal :=
  .next (cmdRow 0x0902 false true cmdSessionClose r s)

def execKeyEnroll (r : Req) (s : State) : Host.Outcome State Fault Refusal :=
  .next (cmdRow 0x0903 true true cmdKeyEnroll r s)

def execLifeSet (r : Req) (s : State) : Host.Outcome State Fault Refusal :=
  .next (cmdRow 0x0904 false true cmdLifeSet r s)

def execTamperLogGet (r : Req) (s : State) : Host.Outcome State Fault Refusal :=
  .next (cmdRow 0x0905 false true cmdTamperLogGet r s)

end Sys2Proof.Machine
end

