-- ==== Sys2Proof/Machine/Power.lean ====
section
/-! DEFINITION. Sheds (R37, R38, R542 to R547): lowering and raising them, SHED_SET's plan, and the rails (R537 to R539). -/

namespace Sys2Proof.Machine

/-! ### Order and dependence (R37, R542) -/

/-- The order in which sheds are raised; they are lowered in the reverse order. -/
def raiseOrder : List Nat := [4, 1, 2, 3, 5, 6, 7, 8, 9, 10, 11]

/-- The shed that shed `n` depends on, beside S0. -/
def shedNeeds (n : Nat) : Option Nat :=
  match n with
  | 1 => some 4
  | 2 => some 4
  | 3 => some 2
  | 5 => some 4
  | 6 => some 4
  | _ => none

/-- A shed's need is met under a mask of powered sheds. -/
def needMet (up n : Nat) : Bool :=
  match shedNeeds n with
  | none => true
  | some d => up.testBit d

/-- A powered shed depends on shed `n`. -/
def neededBy (up n : Nat) : Bool := (List.range 12).any (fun m => up.testBit m && shedNeeds m == some n)

/-- The sheds powered. -/
def upMask (s : State) : Nat := s.get F.pwr_UP 0

/-! ### Lowering (R544 to R546) -/

/-- A shed's isolation engages: it is no longer up. -/
def isolate (s : State) (n : Nat) : State := s.set F.pwr_UP 0 (maskOf ((setBits 12 (upMask s)).filter (fun m => m != n)))

/-- The blocks of some kinds take their Reset values. -/
def resetKinds (s : State) (bs : List Blk) : State := s.resetBlks (fun b _ _ => bs.any (fun k => blkCode k == b))

/-- A record that a transmitter is sending is cut off and released as consumed; one of which nothing has been sent stays
at the head of its stall. -/
def cutLane (s : State) (n : Nat) : State :=
  if (s.txLane n).phase = .sending then dropRecord s n else ungrant s n

/-- A role move from lane `n` can no longer come about: its command is answered STATE. -/
def dropMove (s : State) (n : Nat) : State :=
  answerWaits (s.putTx n { s.txLane n with moveTo := none }) (fun w => match w with
    | .roleMove l _ => l == n
    | _ => false) true (fun _ _ => (St.state, []))

/-- The lanes with a role on its way to lane `n`, and `n` itself. -/
def movesWith (s : State) (n : Nat) : List Nat :=
  (s.tx.filter (fun e => e.2.moveTo == some n || (e.1 == n && e.2.moveTo.isSome))).map (·.1)

/-- A lane of a bank that is lowered: an open sentence is discarded as a mode change (R82, R544), the block and all the
lane held are gone. -/
def lowerLane (s : State) (n : Nat) : State :=
  let s1 := leaveMode (cutLane s n) n
  let s2 := (movesWith s1 n).foldl dropMove s1
  let s3 := s2.resetBlks (fun b i _ => (b == blkCode .laneRx || b == blkCode .laneTx) && i == n)
  { s3 with rx := tdrop s3.rx n, tx := tdrop s3.tx n }

/-- A lane bank is lowered. -/
def lowerBank (s : State) (n : Nat) : State :=
  let lanes := ((List.range 24).map (fun i => 24 * (n - 8) + i)).filter (fun l => decide (l < s.part.lanes))
  isolate (lanes.foldl lowerLane s) n

/-- A lane while S2 is down (R546): a sentence transmitter's record is cut, a receive lane stands at STATE 1. -/
def idleLane (s : State) (n : Nat) : State :=
  let m := laneMode s n
  if m == 2 || m == 3 then
    let s1 := cutLane s n
    let s2 := s1.putTx n { s1.txLane n with phase := .idle, de := false }
    if m == 3 then s2.set F.rx_STATE n 1 else s2
  else if receives m then
    (s.putRx n { s.rxLane n with confirmed := false, hold := none, dmxOpen := false, dmxSlots := [] }).set F.rx_STATE n 1
  else s

/-- The two copies of a table of `n` records change places (R184). -/
def exchange (n : Nat) (t : Tbl (List Word)) : Tbl (List Word) :=
  (t.filter (fun e => decide (n ≤ e.1))).map (fun e => (e.1 - n, e.2)) ++
    (t.filter (fun e => decide (e.1 < n))).map (fun e => (e.1 + n, e.2))

/-- Copy 0 holds the tables that were in force (R184). -/
def levelCopies (s : State) : State :=
  if s.rtActive == 0 then s
  else { s with entries := exchange 4096 s.entries, actions := exchange 4096 s.actions, groups := exchange 1024 s.groups }

/-- Datagrams that the parser has not taken wait in the ports' receive buffers (R59, R444). -/
def keepDatagrams (s : State) : Tbl Source :=
  (s.srcs.filter (fun e => decide (0x1000 ≤ e.1) && decide (e.1 < 0x2000) && !e.2.input.isEmpty)).map
    (fun e => (e.1, { input := e.2.input }))

/-- S2 is lowered (R544): every sentence open or not fully enqueued is discarded, its staging bytes are freed, the host's
open sentence is answered with OUTCOME 5, and the tables in force become copy 0 (R184). -/
def lowerRouter (s : State) : State :=
  let s1 := (List.range s.part.lanes).foldl idleLane s
  let held := heldSentences s1
  let s2 := isolate (levelCopies s1) 2
  let s3 := answerHost { s2 with srcs := keepDatagrams s2, routerQ := [], voterQ := [], ballots := [] } hostSource 5 0
  let s4 := held.foldl freeSentence s3
  { resetKinds s4 [.parse, .router] with
    eligible := [], lastElig := none, lastOther := none, hits := [], acts := [], routerStaged := s.routerStaged }

/-- S3 is lowered, with no eligible source (R198). -/
def lowerVoter (s : State) : State :=
  let held := s.ballots.map (·.sent) ++ s.voterQ.map (·.sent)
  let s1 := held.foldl freeSentence (isolate { s with ballots := [], voterQ := [] } 3)
  { resetKinds s1 [.vote] with agreeRun := [] }

/-- S5 is lowered (R202, R365, R544): frames stop at once, overrides and what was staged are lost. Firmware leaves both
copies of the tables as the one in force, so that RUN may follow the next raise (R344). -/
def lowerPixel (s : State) : State :=
  let s1 := isolate (pixelCopyback s) 5
  let s2 := answerWaits s1 (fun w => w = .pixelCommit) true (fun _ _ => (St.state, []))
  { resetKinds s2 [.pixel, .pixelCue, .encLane, .encGlobal, .encGroup] with
    enc := [], zones := [], stagedEnc := [], stagedGroup := [], stagedDelay := none, runNow := false, srcNow := false,
    latches := [], seedLeft := [], seedHeld := [], curves := [], curveDue := [], readings := [], pixDue := [], pixTicked := false }

/-- S6 is lowered (R382): every calibration ends as aborted. -/
def lowerMeas (s : State) : State :=
  let s1 := (List.range 24).foldl abortCal s
  { resetKinds (isolate s1 6) [.meas, .measCh, .measLin] with channels := [], spares := [] }

/-- What the twin unit keeps while S7 is down: the part that S0, firmware and the yard hold. -/
def keepTwin (t : Twin) : Twin :=
  { alive := t.alive, holdRise := t.holdRise, claiming := t.claiming, ownedBefore := t.ownedBefore, startup := t.startup,
    joined := t.joined, faulted := t.faulted, faultLane := t.faultLane, snapBuf := t.snapBuf, commitMark := t.commitMark,
    commitGen := t.commitGen, journalFrom := t.journalFrom, peer := t.peer, hbAt := t.hbAt,
    journal := t.journal, replaying := t.replaying, replayQ := t.replayQ, exact := t.exact, markMiss := t.markMiss }

/-- A port's frame in transmission is cut off and released as consumed; what its receive buffer held for the parser is gone. -/
def cutPort (s : State) (p : Nat) : State :=
  let s1 := match (s.ethPort p).granted with
    | none => s
    | some g => releaseGranted s (96 + p) g
  endPayload (s1.putSource (0x1000 + p) { s1.source (0x1000 + p) with input := [] }) (0x1000 + p)

/-- S7 is lowered: the ports, the stream and the tether lose all they held; a handover under way is over. -/
def lowerPorts (s : State) : State :=
  let s1 := (List.range s.part.ports).foldl cutPort s
  let s2 := if s1.twin.handover.isSome then endHandover s1 St.timeout else s1
  let s3 := (resetKinds (isolate s2 7) [.stream, .eth]).resetBlks (fun b _ o => b == blkCode .twin && decide (8 ≤ o))
  { s3 with eth := [], stream := {}, univs := [], syncOff := [], twin := keepTwin s3.twin }

/-- SHED_LOWER (R544). S0, S1 and S4 go only by a reset. -/
def lowerShed (s : State) (n : Nat) : State :=
  if !s.shedUp n then s
  else match n with
    | 2 => lowerRouter s
    | 3 => lowerVoter s
    | 5 => lowerPixel s
    | 6 => lowerMeas s
    | 7 => lowerPorts s
    | 8 | 9 | 10 | 11 => lowerBank s n
    | _ => s

/-! ### Raising (R542, R543) -/

/-- A place that the clear of the yard leaves: the frame buffers, and the spares outside the yard's addresses (R269, R543). -/
def keptByClear (a : Nat) : Bool := decide (a < 0x1200000) || decide (8 * spareWord 0 ≤ a)

/-- YARD_CLEAR (R543): every word outside the frame buffers is zero, with zero check bytes. -/
def clearYard (s : State) : State :=
  { s with
    yard := s.yard.filter (fun e => keptByClear e.1)
    yardErr := s.yardErr.filter (fun e => keptByClear (8 * e.1))
    tablesReady := false }

/-- The registers of a shed take their Reset values. -/
def resetShed (s : State) (n : Nat) : State :=
  match n with
  | 2 => resetKinds s [.parse, .router]
  | 3 => resetKinds s [.vote]
  | 4 => { resetKinds s [.stall, .yard, .farrierMap] with stalls := [] }
  | 5 => { resetKinds s [.pixel, .pixelCue, .encLane, .encGlobal, .encGroup] with
           runNow := false, srcNow := false, readings := [], pixTicked := false }
  | 6 => resetKinds s [.meas, .measCh, .measLin]
  | 7 => (resetKinds s [.stream, .eth]).resetBlks (fun b _ o => b == blkCode .twin && decide (8 ≤ o))
  | _ =>
    if n < 8 then s
    else s.resetBlks (fun b i _ => (b == blkCode .laneRx || b == blkCode .laneTx) && laneShed i == n)

/-- The listeners whose transmitter is in a shed: lane roles of a bank, the Ethernet ports of S7. -/
def shedListeners (s : State) (n : Nat) : List Nat :=
  if n == 7 then (List.range s.part.ports).map (96 + ·)
  else (List.range s.part.lanes).filter (fun l => (roleLane s l).any (fun p => laneShed p == n))

/-- The slot counters G of a shed's listeners are 0 (R171). -/
def clearSlots (s : State) (n : Nat) : State := (shedListeners s n).foldl (fun t l => setSlotG t l 0) s

/-- A shed's power-good has arrived (R542): its registers hold their Reset values. -/
def raiseShed (s : State) (n : Nat) : State :=
  let s0 := clearSlots (resetShed s n) n
  let s1 := s0.set F.pwr_UP 0 (upMask s0 ||| 2 ^ n)
  match n with
  | 4 => clearYard s1
  | 2 => if s1.running then protectTables s1 else s1
  | 5 => loadCurves s1
  | _ => s1

/-! ### SHED_SET (R38, R198, R513, R547) -/

/-- The sheds of a mask in the order in which they are lowered. -/
def lowerList (m : Nat) : List Nat := raiseOrder.reverse.filter (fun n => m.testBit n)

/-- The sheds of a mask in the order in which they are raised. -/
def raiseList (m : Nat) : List Nat := raiseOrder.filter (fun n => m.testBit n)

/-- R38 at every intermediate state of the lowering: the mask that is left, or `none`. -/
def lowerChecks (up : Nat) : List Nat → Option Nat
  | [] => some up
  | n :: r => if !up.testBit n then lowerChecks up r else if neededBy up n then none else lowerChecks (up - 2 ^ n) r

/-- R38 at every intermediate state of the raising. -/
def raiseChecks (up : Nat) : List Nat → Bool
  | [] => true
  | n :: r => if up.testBit n then raiseChecks up r else needMet up n && raiseChecks (up + 2 ^ n) r

/-- R38 over a whole SHED_SET. -/
def shedsOk (s : State) (up down : Nat) : Bool :=
  match lowerChecks (upMask s) (lowerList down) with
  | none => false
  | some m => raiseChecks m (raiseList up)

/-- The checks of a SHED_SET when its turn has come. -/
def shedState (s : State) (up down : Nat) : Bool :=
  down.testBit 1 || down.testBit 4 || (down.testBit 3 && s.shedUp 3 && !s.eligible.isEmpty) || !shedsOk s up down

/-- The sheds up, as a response carries them. -/
def shedsData (s : State) : List Byte := le 4 (upMask s)

/-- A plan starts: `raise` are the sheds still to come up. -/
def startPlan (s : State) (raise : List Nat) (cmd : Bool) : State :=
  if raise.isEmpty then s
  else { s.set F.pwr_SWITCHING 0 1 with shedPlan := some { raise := raise, fromCommand := cmd } }

/-- A SHED_SET begins: what DOWN names is lowered at once, what UP names is to come. -/
def beginSheds (s : State) (up down : Nat) : State :=
  let s1 := (lowerList down).foldl lowerShed s
  startPlan s1 ((raiseList up).filter (fun n => !s1.shedUp n)) true

/-- UP and DOWN of a request. -/
def reqUp (r : Req) : Nat := fld r.body 0 0 12

def reqDown (r : Req) : Nat := fld r.body 4 0 12

/-- SHED_SETs that wait for an earlier one. -/
def shedWaits (s : State) : List Wait := s.waits.filter (fun w => w.on = .sheds)

/-- S2 is lowered only while its COPYBACK reads 0 (R184). -/
def shedHeld (s : State) (down : Nat) : Bool := down.testBit 2 && s.shedUp 2 && s.on F.router_COPYBACK 0

/-- The next SHED_SET whose turn has come runs until one has sheds to raise (R513). -/
def nextSheds (s : State) : Nat → State
  | 0 => s
  | n + 1 =>
    if s.shedPlan.isSome then s
    else match shedWaits s with
      | [] => s
      | w :: _ =>
        if shedHeld s (reqDown w.req) then s
        else if shedState s (reqUp w.req) (reqDown w.req) then
          nextSheds (answerWait (dropWait s w) w false St.state 0 []) n
        else
          let s1 := beginSheds s (reqUp w.req) (reqDown w.req)
          if s1.shedPlan.isSome then s1 else nextSheds (answerWait (dropWait s1 w) w false St.ok 0 (shedsData s1)) n

/-- SHED_SET (R513): one at a time; it answers when its last shed is up. -/
def cmdShedSet (r : Req) (s : State) : CmdOut :=
  sized r 8 s (fun t =>
    let up := reqUp r
    let down := reqDown r
    firstFail t [(decide ((up ||| down) &&& t.part.sheds ≠ up ||| down), St.notFitted),
      (up.testBit 0 || down.testBit 0 || decide (up &&& down ≠ 0), St.badArg)] (fun u =>
        if u.shedPlan.isSome || !(shedWaits u).isEmpty || shedHeld u down then .wait u .sheds
        else if shedState u up down then no u St.state
        else
          let v := beginSheds u up down
          if v.shedPlan.isSome then .wait v .sheds else ok v (shedsData v)))

def execShedSet (r : Req) (s : State) : Host.Outcome State Fault Refusal :=
  .next (cmdRow 0x0B01 false true cmdShedSet r s)

/-- The plan is over: its SHED_SET answers and the next one begins. -/
def endPlan (s : State) (status : Nat) : State :=
  let cmd := (s.shedPlan.map (·.fromCommand)).getD false
  let s1 := { s.set F.pwr_SWITCHING 0 0 with shedPlan := none }
  let s2 := match cmd, shedWaits s1 with
    | true, w :: _ => answerWait (dropWait s1 w) w false status 0 (shedsData s1)
    | _, _ => s1
  nextSheds s2 s2.waits.length

/-- A plan's head shed has come up. -/
def planUp (s : State) (n : Nat) : State :=
  match s.shedPlan with
  | none => s
  | some p =>
    match p.raise with
    | [] => s
    | m :: r =>
      if m != n then s
      else
        let s1 := raiseShed s n
        if r.isEmpty then endPlan s1 St.ok else { s1 with shedPlan := some { p with raise := r } }

/-- A plan's head shed has failed (R513, R542): a SHED_SET answers TIMEOUT and leaves the later ones down; at boot, and
after a rail fault, the sheds that do not need it still come up. -/
def planFault (s : State) (n : Nat) : State :=
  match s.shedPlan with
  | none => s
  | some p =>
    match p.raise with
    | [] => s
    | m :: r =>
      if m != n then s
      else
        let s1 := raisePower s Bit.pwShedFault
        let rest := r.filter (fun k => shedNeeds k != some n && !(n == 2 && k == 3))
        if p.fromCommand then endPlan s1 St.timeout
        else if rest.isEmpty then endPlan s1 St.ok else { s1 with shedPlan := some { p with raise := rest } }

/-! ### Rails (R537, R539, R555) -/

/-- The rails' bits in POWER_RAILS: VCORE, VYARD, VAON, VPLL, VIO33, VIO18, VLV are 0 to 6, VANA is 7 (R555). -/
def setRail (s : State) (rail : Nat) (good : Bool) : State :=
  if rail == 7 then s.setB F.pwr_VANA_OK 0 good
  else
    let others := (setBits 7 (s.get F.pwr_IN_RANGE 0)).filter (fun i => i != rail)
    s.set F.pwr_IN_RANGE 0 (maskOf (if good then rail :: others else others))

/-- The sheds that a rail's fault lowers (R537). -/
def railSheds (rail : Nat) : List Nat :=
  match rail with
  | 4 => [11, 10, 9, 8]
  | 6 => [7]
  | 7 => [6]
  | _ => []

/-- The host port answers: VIO18 is in range (R537). -/
def portAlive (s : State) : Bool := !s.railDown.any (fun e => e.1 == 5)

/-- RAIL_FAULT (R537): VIO33, VIO18, VLV or VANA below its threshold. -/
def execRailFault (rail : Nat) (s : State) : Host.Outcome State Fault Refusal :=
  if rail < 4 || s.railDown.any (fun e => e.1 == rail) then .next s
  else
    let lost := (railSheds rail).filter (fun n => s.shedUp n)
    let s1 := raisePower ((railSheds rail).foldl lowerShed (setRail s rail false)) Bit.pwShedFault
    .next { s1 with railDown := s1.railDown ++ [(rail, maskOf lost)] }

/-- RAIL_RESTORED (R537): 10 ms inside its range; firmware raises the sheds that the fault lowered. -/
def execRailRestored (rail : Nat) (s : State) : Host.Outcome State Fault Refusal :=
  match s.railDown.find? (fun e => e.1 == rail) with
  | none => .next s
  | some e =>
    let s1 := { setRail s rail true with railDown := s.railDown.filter (fun x => x.1 != rail) }
    if !s1.running then .next s1
    else .next (match s1.shedPlan with
      | none => startPlan s1 (raiseList e.2) false
      | some p => { s1 with shedPlan := some { p with raise := p.raise ++ raiseList e.2 } })

/-- ECONOMY (R44, R539, R555): VCORE moves; a crossing of 0.80 V sets the flag. -/
def execEconomy (millivolts : Nat) (s : State) : Host.Outcome State Fault Refusal :=
  let low := decide (millivolts < 800)
  let s1 := s.set F.pwr_VCORE 0 millivolts
  if low == s1.on F.pwr_ECON 0 then .next s1 else .next (raisePower (s1.setB F.pwr_ECON 0 low) Bit.pwEconomy)

/-- BROWNOUT (R537, R548): VCORE, VYARD or VPLL; with VPLL the counter stops (R287). -/
def execBrownout (rail : Nat) (s : State) : Host.Outcome State Fault Refusal :=
  if !(rail == 0 || rail == 1 || rail == 3) || s.brownRails.contains rail then .next s
  else
    let s1 := setRail { s with brownRails := s.brownRails ++ [rail], refclk := s.refclk && rail != 3 } rail false
    .next (hubReset s1 .brownout)

/-- BROWNOUT_END (R548): every rail is back in range and the boot goes on with the raise of S4. -/
def execBrownoutEnd (s : State) : Host.Outcome State Fault Refusal :=
  .next { s.brownRails.foldl (fun t r => setRail t r true) s with brownRails := [] }

end Sys2Proof.Machine
end

