-- ==== Sys2Proof/Machine/CmdService.lean ====
section
/-! DEFINITION. The service, test and power commands (R512, R513, R558, R560) but for SHED_SET. -/

namespace Sys2Proof.Machine

/-- YARD_STATUS_GET (R512): the yard block 0x000 to 0x06B. -/
def cmdYardStatusGet (r : Req) (s : State) : CmdOut := sized r 0 s (fun t => ok t (readWords t .yard 0 0 27))

/-- GROOM_SET (R268, R279, R282, R512). -/
def cmdGroomSet (r : Req) (s : State) : CmdOut :=
  sized r 8 s (fun t =>
    let t1 := putReg t .yard 0 0x30 (bodyWord r 0)
    ok (t1.set F.yard_CE_REPEAT 0 (fld r.body 4 0 4)) [])

/-- FARRIER_MAP_GET (R283, R512): the 64 map entries of a bank. -/
def cmdFarrierMapGet (r : Req) (s : State) : CmdOut :=
  sized r 4 s (fun t =>
    ok t ((List.range 64).flatMap (fun i => readWords t .farrierMap (64 * fld r.body 0 0 4 + i) 0 1)))

/-- JUDGE_TEST (R512, R558): `failStep` is the first step that failed, 0 for none; 201 stands for a test that did not end
within 100 ms, which counts as a failure. -/
def cmdJudgeTest (failStep : Nat) (r : Req) (s : State) : CmdOut :=
  sized r 4 s (fun t =>
    let j := fld r.body 0 0 2
    firstFail t [(j == 3, St.badArg),
      (!t.shedUp 3 || t.get F.vote_OUT_JUDGE 0 != j || t.on F.vote_PENDING_IN 0, St.state)] (fun u =>
        if 200 < failStep then no u St.timeout else ok u (le 4 (b2n (failStep == 0) + failStep * 256))))

/-- BYPASS_SET (R512, R560): it answers once the pairs are engaged, or the cause is gone. -/
def cmdBypassSet (r : Req) (s : State) : CmdOut :=
  sized r 4 s (fun t =>
    firstFail t [(!serviceOn t, St.denied)] (fun u => ok (followBypass { u with bypassCmd := flag r.body 0 0 }) []))

/-- The stream port's counters (R454). -/
def clearStreamCounters (s : State) : State :=
  s.clear [F.str_FRAMES, F.str_BAD_FRAMES, F.str_CODE_ERR, F.str_N_CRD_VIOL, F.str_LINK_DOWNS, F.str_SB_MSGS, F.str_N_SB_ERR,
    F.str_STRAY] 0

/-- An Ethernet port's counters (R455). -/
def clearEthCounters (s : State) (p : Nat) : State :=
  s.clear [F.eth_RX_FRAMES, F.eth_N_RX_ERR, F.eth_RX_NOTME, F.eth_RX_OTHER, F.eth_N_RX_NOBUF, F.eth_TX_FRAMES,
    F.eth_N_E131_DROP, F.eth_N_AUTH_FAIL] p

/-- STR_CNT_CLR (R454). -/
def execStrCntClr (s : State) : Host.Outcome State Fault Refusal :=
  .next (if s.part.hasPixel && s.shedUp 7 then clearStreamCounters s else s)

/-- ETH_CNT_CLR (R455). -/
def execEthCntClr (port : Nat) (s : State) : Host.Outcome State Fault Refusal :=
  .next (if port < s.part.ports && s.shedUp 7 then clearEthCounters s port else s)

/-- The source IDs fitted (R125). -/
def fittedSources (s : State) : List Nat :=
  List.range s.part.lanes ++ (List.range s.part.ports).map (fun p => 0x1000 + p) ++ [0x2000, 0x3000]

/-- One bit of COUNTERS_CLEAR, on a powered unit. -/
def clearUnit (s : State) (k : Nat) : State :=
  match k with
  | 0 => if s.shedUp 2 then { clearRouterCounters s with hits := [] } else s
  | 1 => if s.shedUp 3 then clearVoteCounters s else s
  | 2 => if s.shedUp 4 then clearYardCounters s else s
  | 3 => if s.shedUp 5 then (List.range s.part.lanes).foldl clearEncCounters (clearPixelCounters s) else s
  | 4 => if s.shedUp 7 then clearStreamCounters s else s
  | 5 => if s.shedUp 7 then clearEthCounters s 0 else s
  | 6 => if s.shedUp 7 then clearEthCounters s 1 else s
  | _ => if s.shedUp 2 then (fittedSources s).foldl clearParseCounters s else s

/-- COUNTERS_CLEAR (R512). -/
def cmdCountersClear (r : Req) (s : State) : CmdOut :=
  sized r 4 s (fun t =>
    let m := fld r.body 0 0 8
    let absent := ((m.testBit 3 || m.testBit 4) && !t.part.hasPixel) || (m.testBit 6 && decide (t.part.ports < 2))
    firstFail t [(absent, St.notFitted)] (fun u => ok ((setBits 8 m).foldl clearUnit u) []))

/-- POWER_STATUS_GET (R513, R555): no step of the table moves the junction temperature, so its reading is a free value. -/
def cmdPowerStatusGet (r : Req) (s : State) : CmdOut :=
  sized r 0 s (fun t =>
    let tj := (Config.freeWord t.drawn).toNat % 65536
    ok { t with drawn := t.drawn + 1 } (le 4 (upMask t) ++ le 4 (tj + t.get F.pwr_VCORE 0 * 65536) ++ readWords t .power 0 8 1))

def execYardStatusGet (r : Req) (s : State) : Host.Outcome State Fault Refusal :=
  .next (cmdRow 0x0A01 false true cmdYardStatusGet r s)

def execGroomSet (r : Req) (s : State) : Host.Outcome State Fault Refusal :=
  .next (cmdRow 0x0A02 true true cmdGroomSet r s)

def execFarrierMapGet (r : Req) (s : State) : Host.Outcome State Fault Refusal :=
  .next (cmdRow 0x0A03 false true cmdFarrierMapGet r s)

def execJudgeTest (r : Req) (failStep : Nat) (s : State) : Host.Outcome State Fault Refusal :=
  .next (cmdRow 0x0A04 false true (cmdJudgeTest failStep) r s)

def execBypassSet (r : Req) (s : State) : Host.Outcome State Fault Refusal :=
  .next (cmdRow 0x0A05 false true cmdBypassSet r s)

def execCountersClear (r : Req) (s : State) : Host.Outcome State Fault Refusal :=
  .next (cmdRow 0x0A06 false true cmdCountersClear r s)

def execPowerStatusGet (r : Req) (s : State) : Host.Outcome State Fault Refusal :=
  .next (cmdRow 0x0B02 false true cmdPowerStatusGet r s)

end Sys2Proof.Machine
end

