-- ==== Sys2Proof/Machine/Stream.lean ====
section
/-! DEFINITION. The stream port (R432 to R441, R454): its link, the beats of a frame, credits, the commit, and sideband
packets. A beat takes its effect in the step that brings it; `fifo` counts the beats that have not left the FIFO. -/

namespace Sys2Proof.Machine

/-! ### Link and credits (R433, R438, R439) -/

/-- The stream port is fitted and S7 is up. -/
def streamOn (s : State) : Bool := s.part.hasPixel && s.shedUp 7 && s.shedUp 4

/-- The link is up. -/
def streamLinked (s : State) : Bool := streamOn s && s.on F.str_LINKED 0

/-- The stream port beside its block changes. -/
def State.putStream (s : State) (x : Stream) : State := { s with stream := x }

/-- CREDITS follows the sender's allowance: a credit is spent with the first of its 16 beats. -/
def showCredits (s : State) : State := s.set F.str_CREDITS 0 (s.stream.allowance / 16)

/-- The open frame is declared bad (R437). -/
def badFrame (s : State) : State :=
  match s.stream.frame with
  | none => s
  | some _ =>
    let s1 := (s.inc F.str_BAD_FRAMES 0).set F.str_IN_FRAME 0 0
    raiseStr (s1.putStream { s1.stream with frame := none, skipping := true }) Bit.srBadFrame

/-- The link goes down (R433). -/
def linkDown (s : State) : State :=
  if !s.on F.str_LINKED 0 then s
  else
    let s1 := badFrame s
    let s2 := raiseStr ((s1.inc F.str_LINK_DOWNS 0).set F.str_LINKED 0 0) Bit.srLinkChange
    showCredits (s2.putStream { s2.stream with fifo := 0, allowance := 0 })

/-- STREAM_LINK_UP (R433): 16 credits are returned. -/
def execStreamLinkUp (s : State) : Host.Outcome State Fault Refusal :=
  .next (if streamOn s && s.on F.str_EN 0 && !s.on F.str_LINKED 0 then
    let s1 := raiseStr (s.set F.str_LINKED 0 1) Bit.srLinkChange
    showCredits (s1.putStream { s1.stream with fifo := 0, allowance := 256 })
  else s)

/-- STREAM_LINK_DOWN (R433): `errors` are the code and disparity errors that no beat of a frame or packet carried. -/
def execStreamLinkDown (errors : Nat) (s : State) : Host.Outcome State Fault Refusal :=
  .next (if streamLinked s then linkDown (s.addTo F.str_CODE_ERR 0 errors) else s)

/-- CREDIT_RETURN (R438): 16 beats have left the FIFO. -/
def execCreditReturn (s : State) : Host.Outcome State Fault Refusal :=
  .next (if streamLinked s && decide (16 ≤ s.stream.fifo) then
    showCredits (s.putStream { s.stream with fifo := s.stream.fifo - 16, allowance := min 256 (s.stream.allowance + 16) })
  else s)

/-- A beat enters the FIFO; `false` where it is discarded because the FIFO is full (R438). -/
def enterFifo (s : State) : State × Bool :=
  if 256 ≤ s.stream.fifo then (badFrame (raiseStr (s.inc F.str_N_CRD_VIOL 0) Bit.srCrdViol), false)
  else (showCredits (s.putStream { s.stream with fifo := s.stream.fifo + 1, allowance := s.stream.allowance - 1 }), true)

/-- A beat of a frame (R434, R437, R438): it enters the FIFO, a code or disparity error makes an open frame bad and the
beat says nothing more, and a beat beyond the sender's credit makes the frame bad. -/
def takeBeat (s : State) (b : Beat) (sof : Bool) (f : State → State) : State :=
  if !streamLinked s then s
  else
    let beyond := s.stream.allowance == 0
    match enterFifo s with
    | (s1, false) => s1
    | (s1, true) =>
      if b.err then badFrame (s1.inc F.str_CODE_ERR 0)
      else if beyond && !sof then (if s1.stream.frame.isSome then badFrame s1 else f s1)
      else if beyond then badFrame (f s1)
      else f s1

/-! ### Frames (R434 to R437) -/

/-- The bytes of a beat (R432). -/
def beatBytes (b : Beat) : List Byte := wordsBytes [b.w0, b.w1, b.w2, b.w3]

/-- A beat inside an open frame; outside one it is stray, and after a bad frame it is ignored up to the next SOF. -/
def inFrame (s : State) (f : StreamFrame → State) : State :=
  match s.stream.frame with
  | some x => f x
  | none => if s.stream.skipping then s else s.inc F.str_STRAY 0

/-- The open frame moves on. -/
def putFrame (s : State) (x : StreamFrame) : State := s.putStream { s.stream with frame := some x }

/-- An SOF opens a frame; one that was open is bad. -/
def openFrame (s : State) (b : Beat) : State :=
  let s1 := badFrame s
  let x : StreamFrame := { id := b.w0, pixels := bits b.w1.toNat 0 20, lines := bits b.w2.toNat 0 16 }
  (s1.set F.str_IN_FRAME 0 1).putStream { s1.stream with frame := some x, skipping := false }

/-- STREAM_SOF. -/
def execStreamSof (b : Beat) (s : State) : Host.Outcome State Fault Refusal := .next (takeBeat s b true (fun t => openFrame t b))

/-- An SOL opens a line: in its order, with the next LINE, inside the buffer. -/
def openLine (s : State) (b : Beat) : State :=
  inFrame s (fun x =>
    let dest := bits b.w0.toNat 0 20
    let count := bits b.w1.toNat 0 13
    if x.inLine || bits b.w1.toNat 16 16 != x.line % 65536 || decide (pixelMax < dest + count) then badFrame s
    else putFrame s { x with inLine := true, dest := dest, count := count, beats := 0, bytes := beatBytes b })

/-- STREAM_SOL. -/
def execStreamSol (b : Beat) (s : State) : Host.Outcome State Fault Refusal := .next (takeBeat s b false (fun t => openLine t b))

/-- The two pixels of data beat k (R436); with SRC 1 in force the data are discarded (R320). -/
def writeBeat (s : State) (x : StreamFrame) (b : Beat) : State :=
  if !s.shedUp 5 then s
  else if s.srcNow then srcIgnored s
  else
    let fill := s.get F.pixel_FILL 0
    let k := 2 * x.beats
    let s1 := writePixel s fill (x.dest + k) (wordsBytes [b.w0, b.w1])
    if k + 1 < x.count then writePixel s1 fill (x.dest + k + 1) (wordsBytes [b.w2, b.w3]) else s1

/-- A data beat of the open line. -/
def takeData (s : State) (b : Beat) : State :=
  inFrame s (fun x =>
    if !x.inLine || decide ((x.count + 1) / 2 ≤ x.beats) then badFrame s
    else
      let s1 := writeBeat s x b
      putFrame s1 { x with beats := x.beats + 1, bytes := x.bytes ++ beatBytes b, stored := x.stored || (s.shedUp 5 && !s.srcNow) })

/-- STREAM_DATA_BEAT (R436). -/
def execStreamDataBeat (b : Beat) (s : State) : Host.Outcome State Fault Refusal :=
  .next (takeBeat s b false (fun t => takeData t b))

/-- An EOL ends the line: all its beats, and LINE_CRC. -/
def endLine (s : State) (b : Beat) : State :=
  inFrame s (fun x =>
    if !x.inLine || x.beats != (x.count + 1) / 2 || crc32c x.bytes != b.w0.toNat then badFrame s
    else putFrame s { x with inLine := false, line := x.line + 1, sum := x.sum + x.count, bytes := [] })

/-- STREAM_EOL. -/
def execStreamEol (b : Beat) (s : State) : Host.Outcome State Fault Refusal := .next (takeBeat s b false (fun t => endLine t b))

/-- The checks at an EOF (R437). -/
def frameGood (x : StreamFrame) (b : Beat) : Bool :=
  !x.inLine && x.line == x.lines && x.sum == x.pixels && x.pixels != 0 && x.lines != 0 && b.w0 == x.id

/-- A good EOF goes to its commit. -/
def endFrame (s : State) (b : Beat) : State :=
  inFrame s (fun x =>
    if !frameGood x b then badFrame s
    else (s.set F.str_IN_FRAME 0 0).putStream { s.stream with frame := none, toCommit := s.stream.toCommit ++ [(x.id, x.stored)] })

/-- STREAM_EOF. -/
def execStreamEof (b : Beat) (s : State) : Host.Outcome State Fault Refusal := .next (takeBeat s b false (fun t => endFrame t b))

/-- STREAM_COMMIT (R53, R321, R437): with SRC 1 in force, or S5 down, the frame is discarded. Under SRC 1 what was stored of
it before SRC changed is a discard of its own (R320; DESIGN CHOICE: the data beats that came later were counted one by one). -/
def execStreamCommit (s : State) : Host.Outcome State Fault Refusal :=
  match s.stream.toCommit with
  | [] => .next s
  | (id, stored) :: r =>
    let s1 := s.putStream { s.stream with toCommit := r }
    if !s.shedUp 5 then .next s1
    else if s.srcNow then .next (if stored then srcIgnored s1 else s1)
    else .next (((commitFrame s1).inc F.str_FRAMES 0).setReg (F.str_LAST_ID.addr 0) id)

/-! ### Messages for a mailbox of another transport (R440, R471, R475) -/

/-- A message takes its mailbox, which becomes FULL. -/
def placeMessage (s : State) (i : Nat) (via : Transport) (msg : List Byte) : State :=
  { setMbState s i 1 with
    mbi := memWrite s.mbi 0 (512 * i) (msg.take 512), ringNo := s.ringNo + 1
    rungBy := tput s.rungBy i (s.ringNo + 1) 0, mbFrom := tput s.mbFrom i via .spi }

/-- The next message that waits for mailbox i takes it once it is EMPTY. -/
def fillMailbox (s : State) (i : Nat) : State :=
  if mbState s i != 0 then s
  else match s.mbWait.find? (fun e => e.1 == i) with
    | none => s
    | some e => placeMessage { s with mbWait := s.mbWait.erase e } i e.2.1 e.2.2

/-- A message comes by a transport (R475): DENIED on that transport unless it owns the mailbox; else to the mailbox, in
order, waiting while the mailbox is not EMPTY. -/
def deliverMessage (s : State) (i : Nat) (via : Transport) (msg : List Byte) : State :=
  if mbOwner s i != ownerOf via then
    let m := parseMsg msg
    respond s via i m.opcode m.tag false false St.denied 0 [] none
  else fillMailbox { s with mbWait := s.mbWait ++ [(i, via, msg)] } i

/-! ### Sideband packets (R440) -/

/-- A packet's beats enter the FIFO; `false` where one finds it full. -/
def enterBeats : Nat → State → State × Bool
  | 0, s => (s, true)
  | n + 1, s =>
    let r := enterFifo s
    let r2 := enterBeats n r.1
    (r2.1, r.2 && r2.2)

/-- A packet is discarded. -/
def sidebandError (s : State) : State := raiseStr (s.inc F.str_N_SB_ERR 0) Bit.srSbErr

/-- The packet's own checks, and its message on the way to its mailbox. -/
def takePacket (s : State) (mbox beats : Nat) (msg : List Byte) (whole : Bool) : State :=
  if !s.on F.str_SB_EN 0 || beats == 0 || decide (32 < beats) || !whole || beats != (16 + u16 msg 4 + 15) / 16 then sidebandError s
  else deliverMessage (s.inc F.str_SB_MSGS 0) mbox .sideband (msg.take (16 + u16 msg 4))

/-- SIDEBAND_PACKET: `msg` is what its continuation beats carried, `whole` that all of them arrived. A packet inside a line
makes the frame bad; after a bad frame every beat up to the next SOF is ignored (R437). -/
def execSidebandPacket (mbox beats : Nat) (msg : List Byte) (whole : Bool) (s : State) : Host.Outcome State Fault Refusal :=
  if !streamLinked s then .next s
  else
    let n := 1 + (if whole then min beats 32 else (msg.length + 15) / 16)
    let beyond := decide (s.stream.allowance < n)
    let line := (s.stream.frame.map (·.inLine)).getD false
    let r := enterBeats n s
    let s1 := if beyond || line then badFrame r.1 else r.1
    if s1.stream.skipping then .next s1
    else if !r.2 then .next (sidebandError s1)
    else .next (takePacket s1 mbox beats msg whole)

end Sys2Proof.Machine
end

