-- ==== Sys2Proof/Machine/Ethernet.lean ====
section
/-! DEFINITION. The Ethernet ports (R442 to R453): link, the checks of a received frame, sentence datagrams, E1.31,
session datagrams, and the end of a transmitted frame. Frames are given from the destination address to the FCS. -/

namespace Sys2Proof.Machine

/-! ### Link and transmitter (R442, R443) -/

/-- The link takes a state. -/
def setLink (s : State) (p : Nat) (up badSpeed : Bool) : State :=
  let s1 := (s.setB F.eth_LINK p up).setB F.eth_BAD_SPEED p badSpeed
  if s.on F.eth_LINK p == up then s1 else raiseEth s1 p Bit.etLinkChange

/-- ETH_LINK_CHANGE: a PHY at another speed or at half duplex holds the link down (R442). -/
def execEthLinkChange (port : Nat) (up speedOk : Bool) (s : State) : Host.Outcome State Fault Refusal :=
  .next (if ethOn s port && s.on F.eth_EN port then setLink s port (up && speedOk) (up && !speedOk) else s)

/-- The record that a port sent is released; after a gap marker the listener issues RUN (R231, R236). -/
def releaseSent (s : State) (p : Nat) : State :=
  match (s.ethPort p).granted with
  | none => s
  | some g =>
    let s1 := s.putEth p { s.ethPort p with granted := none }
    runAfterMarker (releaseGranted s1 (96 + p) g) g

/-- ETH_TX_FRAME_END (R443): a frame and its gap have ended. After a listener frame another waiting frame goes first;
`otherWaits` says that one waits (PTP, ARP, ICMP) that the model does not hold. -/
def execEthTxFrameEnd (port : Nat) (otherWaits : Bool) (s : State) : Host.Outcome State Fault Refusal :=
  if !ethOn s port || !(s.ethPort port).sending then .next s
  else
    let s1 := releaseSent (s.inc F.eth_TX_FRAMES port) port
    let x := s1.ethPort port
    .next (s1.putEth port (if x.sentListener && (otherWaits || x.waiting != 0) then
      { x with sentListener := false, waiting := x.waiting - 1 }
    else { x with sending := false }))

/-! ### E1.31 (R448 to R450) -/

/-- A discarded E1.31 packet that counts. -/
def e131Drop (s : State) (p : Nat) : State := raiseEth (s.inc F.eth_N_E131_DROP p) p Bit.etE131Drop

/-- A universe's state. -/
def State.univ (s : State) (u : Nat) : Univ := tget s.univs u {}

/-- Store a universe's state. -/
def State.putUniv (s : State) (u : Nat) (x : Univ) : State := { s with univs := tput s.univs u x {} }

/-- The number at big-endian bytes. -/
def be (b : List Byte) (o n : Nat) : Nat := ofBe (slice b o n)

/-- The ACN packet identifier of ANSI E1.17 (PRESUMED: the standard's, R448 names it only). -/
def acnId : List Byte := [0x41, 0x53, 0x43, 0x2D, 0x45, 0x31, 0x2E, 0x31, 0x37, 0, 0, 0]

/-- The root layer is sound (R448). -/
def rootOk (b : List Byte) : Bool := be b 0 2 == 0x10 && be b 2 2 == 0 && slice b 4 12 == acnId

/-- The framing and DMP layers of a data packet are sound (R448). -/
def dataOk (b : List Byte) : Bool :=
  let n := be b 123 2
  be b 18 4 == 4 && be b 40 4 == 2 && (byteAt b 117).toNat == 2 && byteAt b 118 == 0xA1#8 && be b 119 2 == 0 &&
    be b 121 2 == 1 && decide (1 ≤ n) && decide (n ≤ 513) && decide (125 + n ≤ b.length)

/-- The source records in force that take universe `u`, in rising order (R323). -/
def recordsFor (s : State) (u : Nat) (ok : SrcRec → Bool) : List Nat :=
  if !(s.part.hasPixel && s.shedUp 5) then []
  else (sourcesOf s s.pixActive).filter (fun i =>
    let r := sourceRecord s s.pixActive i
    r.kind == 1 && r.id == u && ok r)

/-- A packet's slots are written, or discarded while SRC 0 is in force (R320, R324). -/
def writeUniverse (s : State) (i : Nat) (slots : List Byte) : State :=
  if !s.srcNow then srcIgnored s else offerSource s i slots

/-- A packet of the source that holds the universe: held for its sync, or written as it arrives (R450). -/
def takePacketData (s : State) (u sync : Nat) (slots : List Byte) (x : Univ) : State :=
  if sync != 0 && !s.syncOff.contains sync then s.putUniv u { x with held := some (sync, slots) }
  else
    let s1 := s.putUniv u { x with held := none }
    (recordsFor s1 u (fun _ => true)).foldl (fun t i => writeUniverse t i slots) s1

/-- The sequence rule of R448. -/
def seqStale (new last : Nat) : Bool :=
  let d := (new + 256 - last % 256) % 256
  d == 0 || decide (237 ≤ d)

/-- A sound data packet of start code 0 for a universe of the records (R448, R449). -/
def universePacket (s : State) (p u : Nat) (b : List Byte) : State :=
  let cid := be b 22 16
  let prio := (byteAt b 108).toNat
  let sn := (byteAt b 111).toNat
  let opts := (byteAt b 112).toNat
  let x := s.univ u
  let slots := slice b 125 (be b 123 2)
  if 200 < prio || (opts.testBit 7 && s.on F.eth_PREVIEW_IGNORE p) then s
  else
    let mine := x.cid == some cid
    if mine && seqStale sn x.seqn then s
    else if opts.testBit 6 then (if mine then s.putUniv u {} else s)
    else if mine || x.cid.isNone || decide (x.priority < prio) then
      takePacketData s u (be b 109 2) slots { cid := some cid, priority := prio, seqn := sn, held := x.held }
    else s

/-- An E1.31 data packet (R448). -/
def e131Data (s : State) (p : Nat) (b : List Byte) : State :=
  let u := be b 113 2
  if !dataOk b || byteAt b 125 != 0#8 || (recordsFor s u (fun r => r.ports.testBit p)).isEmpty then e131Drop s p
  else universePacket s p u b

/-- A synchronization packet (R450): every universe held for its address by its CID is written, in ascending record order. -/
def e131Sync (s : State) (b : List Byte) : State :=
  let addr := be b 45 2
  let cid := be b 22 16
  let due := s.univs.filter (fun e => e.2.cid == some cid && (e.2.held.map (·.1)) == some addr)
  let s1 := due.foldl (fun t e => t.putUniv e.1 { e.2 with held := none }) { s with syncOff := s.syncOff.filter (fun a => a != addr) }
  if !(s1.part.hasPixel && s1.shedUp 5) then s1
  else (sourcesOf s1 s1.pixActive).foldl (fun t i =>
    let r := sourceRecord s1 s1.pixActive i
    match if r.kind == 1 then due.find? (fun e => e.1 == r.id) else none with
    | none => t
    | some e => writeUniverse t i ((e.2.held.map (·.2)).getD [])) s1

/-- A frame for firmware (ARP, ICMP, universe discovery). -/
def toFirmware (s : State) (p : Nat) (b : List Byte) : State :=
  s.putEth p { s.ethPort p with others := (s.ethPort p).others ++ [b] }

/-- The UDP payload of a datagram to port 5568. -/
def e131Packet (s : State) (p : Nat) (b : List Byte) : State :=
  if !rootOk b then e131Drop s p
  else if be b 18 4 == 4 then e131Data s p b
  else if be b 18 4 == 8 && be b 40 4 == 1 && decide (49 ≤ b.length) then e131Sync s b
  else if be b 18 4 == 8 && be b 40 4 == 2 then toFirmware s p b
  else e131Drop s p

/-- E131_SOURCE_TIMEOUT (R449): 2.5 s without packets. -/
def execE131SourceTimeout (univ : Nat) (s : State) : Host.Outcome State Fault Refusal := .next (s.putUniv univ {})

/-- E131_SYNC_TIMEOUT (R450): no sync for 2.5 s. -/
def execE131SyncTimeout (sync : Nat) (s : State) : Host.Outcome State Fault Refusal :=
  .next (if s.syncOff.contains sync || !s.shedUp 7 then s else { s with syncOff := s.syncOff ++ [sync] })

/-! ### A received frame (R444 to R446) -/

/-- Internet checksum: the one's complement sum of the 16-bit words is all ones. -/
def ipSum : List Byte → Nat
  | [] => 0
  | [a] => a.toNat * 256
  | a :: b :: r => a.toNat * 256 + b.toNat + ipSum r

/-- The header checksum of an IPv4 header holds. -/
def ipSumOk (h : List Byte) : Bool := ipSum h != 0 && ipSum h % 65535 == 0

/-- Where the EtherType of a frame stands: after one IEEE 802.1Q tag, or at 12. -/
def typeAt (b : List Byte) : Nat := if be b 12 2 == 0x8100 then 16 else 12

/-- Test 1 of R445: FCS, length and tag. -/
def frameSound (s : State) (p : Nat) (b : List Byte) : Bool :=
  let tagged := be b 12 2 == 0x8100
  let vid := s.get F.eth_VID p
  let inner := be b 16 2
  ofLe (b.drop (b.length - 4)) == crc32 (b.take (b.length - 4)) && decide (64 ≤ b.length) &&
    decide (b.length ≤ (if tagged then 1522 else 1518)) &&
    (!tagged || (vid != 0 && vid != 4095 && be b 14 2 % 4096 == vid && inner != 0x8100 && inner != 0x88A8))

/-- The port's own address (R455). -/
def ownMac (s : State) (p : Nat) : List Byte := le 4 (s.get F.eth_MAC_LO p) ++ le 2 (s.get F.eth_MAC_HI p)

/-- Test 2 of R445: this port, broadcast, or an IPv4 multicast address. -/
def forUs (s : State) (p : Nat) (b : List Byte) : Bool :=
  b.take 6 == ownMac s p || b.take 6 == List.replicate 6 0xFF#8 ||
    (b.take 3 == [0x01, 0x00, 0x5E] && decide ((byteAt b 3).toNat < 128))

/-- A PAUSE frame, which is RX_OTHER whatever its address (R442). -/
def isPause (b : List Byte) : Bool := be b (typeAt b) 2 == 0x8808

/-- A frame counted and discarded as RX_OTHER. -/
def rxOther (s : State) (p : Nat) : State := s.inc F.eth_RX_OTHER p

/-- Where byte `k` of a frame stands in its port's receive buffer (R444). -/
def frameSpot (s : State) (p id k : Nat) : Option Nat :=
  ((s.ethPort p).frames.find? (fun e => e.1 == id)).bind (fun e => (e.2[k / 8]?).map (fun w => 0x1FB0000 + 32768 * p + 8 * w + k % 8))

/-- The sentences of a datagram enter the port's source (R446); their bytes wait for the parser. -/
def takeSentences (s : State) (p id stamp off : Nat) (payload : List Byte) : State :=
  let src := 0x1000 + p
  let so := s.source src
  let ins : List InByte := payload.zipIdx.map (fun d =>
    { data := d.1, stamp := stamp, tsSrc := 1, tsState := s.tsAt stamp, frame := id, spot := frameSpot s p id (off + d.2) })
  s.putSource src { so with input := so.input ++ (match ins.reverse with
    | [] => []
    | l :: r => (({ l with last := true } : InByte) :: r).reverse) }

/-- A UDP datagram by its destination port (R445). -/
def udpDatagram (s : State) (p id stamp off : Nat) (u : List Byte) : State :=
  let port := be u 2 2
  let payload := slice u 8 (be u 4 2 - 8)
  if port == 319 || port == 320 then s
  else if port == 5568 then e131Packet s p payload
  else if port != 0 && port == s.get F.eth_SENT_UDP p then takeSentences s p id stamp (off + 8) payload
  else if port != 0 && port == s.get F.eth_MBX_UDP p then
    s.putEth p { s.ethPort p with inbox := (s.ethPort p).inbox ++ [(id, payload)] }
  else rxOther s p

/-- Tests 5 and 6 of R445 on an IPv4 packet. -/
def ipPacket (s : State) (p id stamp off : Nat) (frame ip : List Byte) : State :=
  let ihl := (byteAt ip 0).toNat % 16
  let total := min (be ip 2 2) ip.length
  if (byteAt ip 0).toNat / 16 != 4 || decide (ihl < 5) || !ipSumOk (ip.take (4 * ihl)) || be ip 6 2 % 16384 != 0 then rxOther s p
  else if (byteAt ip 9).toNat == 1 then toFirmware s p frame
  else if (byteAt ip 9).toNat == 17 then udpDatagram s p id stamp (off + 4 * ihl) ((ip.take total).drop (4 * ihl))
  else rxOther s p

/-- Tests 2 to 6 of R445. PTP frames go to the time unit: PTP_MESSAGE. -/
def classifyFrame (s : State) (p id stamp : Nat) (b : List Byte) : State :=
  let t := typeAt b
  let ety := be b t 2
  let body := (b.take (b.length - 4)).drop (t + 2)
  if isPause b then rxOther s p
  else if !forUs s p b then s.inc F.eth_RX_NOTME p
  else if ety == 0x88F7 then s
  else if ety == 0x0806 then toFirmware s p b
  else if ety == 0x0800 then ipPacket s p id stamp (t + 2) b body
  else rxOther s p

/-- The eight bytes of word `k` of a frame, the last one filled with zeros. -/
def frameWord (b : List Byte) (k : Nat) : List Byte := (slice b (8 * k) 8 ++ List.replicate 8 0#8).take 8

/-- A frame written through P4 to the receive buffer, in whole words (R455: RXBUF_FREE is a multiple of 8), the lowest free
ones (DESIGN CHOICE: the spec gives a frame no place in the buffer). -/
def bufferFrame (s : State) (p : Nat) (b : List Byte) : State × Nat :=
  let x := s.ethPort p
  let id := x.frameNo + 1
  let kept := x.frames.filter (fun e => frameInUse s p e.1)
  let used := kept.flatMap (·.2)
  let ws := ((List.range 4096).filter (fun w => !used.contains w)).take ((b.length + 7) / 8)
  let s1 := s.putEth p { x with frameNo := id, frames := kept ++ [(id, ws)] }
  (ws.zipIdx.foldl (fun t w => t.poke (0x1FB0000 + 32768 * p + 8 * w.1) (frameWord b w.2)) s1, id)

/-- ETH_FRAME_RECEIVED (R444, R445): `ago` says how many SGMII bits ago the frame's first symbol came (R299). -/
def execEthFrameReceived (port : Nat) (bytes : List Byte) (ago : Nat) (s : State) : Host.Outcome State Fault Refusal :=
  if !ethOn s port || !s.on F.eth_LINK port then .next s
  else if ethFree s port < 1536 then .next (raiseEth (s.inc F.eth_N_RX_NOBUF port) port Bit.etRxNobuf)
  else if !frameSound s port bytes then .next (raiseEth (s.inc F.eth_N_RX_ERR port) port Bit.etRxErr)
  else
    let r := bufferFrame (s.inc F.eth_RX_FRAMES port) port bytes
    .next (classifyFrame r.1 port r.2 (rxStamp s ago) bytes)

/-! ### Session datagrams (R451, R452, R475) -/

/-- A datagram that fails a check of R452. -/
def authFail (s : State) (p : Nat) : State := raiseEth (s.inc F.eth_N_AUTH_FAIL p) p Bit.etAuthFail

/-- The four checks, in order, and the message on its way to its mailbox. -/
def takeSession (s : State) (p : Nat) (b : List Byte) : State :=
  let len := u16 b 0x14
  match s.sessions.find? (fun x => x.number == u32 b 0) with
  | none => authFail s p
  | some x =>
    let counter := ofLe (slice b 4 8)
    if b.length != 64 + len || b.drop (b.length - 32) != hmac x.key (b.take (b.length - 32)) || decide (counter ≤ x.peerCounter) then
      authFail s p
    else
      let s1 := { s with sessions := s.sessions.map (fun y => if y.number == x.number then { y with peerCounter := counter } else y) }
      deliverMessage s1 (fld b 0xC 0 3) (.session x.number) (slice b 0x10 (16 + len))

/-- SESSION_DATAGRAM: firmware takes a datagram's payload, whose frame then leaves the receive buffer; a frame that reads DUE there
is discarded with RX_ERR (R453). -/
def execSessionDatagram (port : Nat) (bytes : List Byte) (s : State) : Host.Outcome State Fault Refusal :=
  if !ethOn s port || !s.running then .next s
  else
    let x := s.ethPort port
    match x.inbox.find? (fun e => e.2 == bytes) with
    | none => .next (takeSession s port bytes)
    | some e =>
      let t := touchBytes (s.putEth port { x with inbox := x.inbox.erase e }) 4
        ((List.range (8 * ((x.frames.find? (fun f => f.1 == e.1)).map (·.2.length)).getD 0)).filterMap (frameSpot s port e.1))
      .next (if t.2 then raiseEth (t.1.inc F.eth_N_RX_ERR port) port Bit.etRxErr else takeSession t.1 port bytes)

end Sys2Proof.Machine
end

