-- ==== Sys2Proof/Machine/Entries.lean ====
section
/-! DEFINITION. STREAM_SET, ETH_SET and their reads (R496), the commands of kind G or S that an image or an overlay may
carry, and how an entry is applied (R12, R519, R520, R529, R532 to R535). -/

namespace Sys2Proof.Machine

/-! ### Stream and Ethernet commands (R496) -/

/-- The stream port is fitted. -/
def streamFit (s : State) : Bool := s.part.hasPixel

/-- STREAM_SET: STR_CFG; EN 0 takes the link down (R433). -/
def cmdStreamSet (r : Req) (s : State) : CmdOut :=
  sized r 4 s (fun t =>
    if !t.shedUp 7 then ok t []
    else
      let u := putReg t .stream 0 0 (bodyWord r 0)
      ok (if u.on F.str_EN 0 then u else linkDown u) [])

/-- STREAM_STATUS_GET: the stream block 0x04 to 0x33. -/
def cmdStreamStatusGet (r : Req) (s : State) : CmdOut := sized r 0 s (fun t => ok t (readWords t .stream 0 4 12))

/-- ETH_SET: the port block 0x00 to 0x23; VID 4,095 is rejected (R455). A port switched off loses its link. -/
def cmdEthSet (r : Req) (s : State) : CmdOut :=
  sized r 40 s (fun t =>
    let p := fld r.body 0 0 1
    firstFail t [(decide (t.part.ports ≤ p), St.notFitted), (fld r.body 4 16 12 == 4095, St.badArg)] (fun u =>
      if !u.shedUp 7 then ok u []
      else
        let v := putRegs u .eth p 0 (bodyWords r 4 9)
        ok (if v.on F.eth_EN p then v else setLink v p false false) []))

/-- ETH_STATUS_GET: the port block 0x24 to 0x4F. -/
def cmdEthStatusGet (r : Req) (s : State) : CmdOut :=
  sized r 4 s (fun t =>
    let p := fld r.body 0 0 1
    firstFail t [(decide (t.part.ports ≤ p), St.notFitted)] (fun u => ok u (readWords u .eth p 0x24 11)))

def execStreamSet (r : Req) (s : State) : Host.Outcome State Fault Refusal :=
  .next (cmdRow 0x0110 true (streamFit s) cmdStreamSet r s)

def execStreamStatusGet (r : Req) (s : State) : Host.Outcome State Fault Refusal :=
  .next (cmdRow 0x0111 false (streamFit s) cmdStreamStatusGet r s)

def execEthSet (r : Req) (s : State) : Host.Outcome State Fault Refusal :=
  .next (cmdRow 0x0112 true true cmdEthSet r s)

def execEthStatusGet (r : Req) (s : State) : Host.Outcome State Fault Refusal :=
  .next (cmdRow 0x0113 false true cmdEthStatusGet r s)

/-! ### Commands by opcode -/

/-- A mailbox command: whether it steps the generation, whether what its opcode names is fitted, what it does. -/
structure Cmd where
  g : Bool
  fit : State → Bool
  run : Req → State → CmdOut

/-- What is fitted on every variant. -/
def anyPart (_ : State) : Bool := true

/-- The commands that an entry may carry (R520). -/
def entryCommands : List (Nat × Cmd) :=
  [(0x0110, ⟨true, streamFit, cmdStreamSet⟩), (0x0112, ⟨true, anyPart, cmdEthSet⟩), (0x0201, ⟨true, anyPart, cmdLaneModeSet⟩),
   (0x0202, ⟨true, anyPart, cmdLaneRxSet⟩), (0x0203, ⟨true, anyPart, cmdLaneTxSet⟩), (0x0206, ⟨true, anyPart, cmdLaneEvenSet⟩),
   (0x0208, ⟨true, anyPart, cmdLanePaddockSet⟩), (0x0209, ⟨true, anyPart, cmdLaneRoleMove⟩),
   (0x0302, ⟨true, anyPart, cmdEntryWrite⟩), (0x0303, ⟨true, anyPart, cmdActionWrite⟩), (0x0304, ⟨true, anyPart, cmdGroupWrite⟩),
   (0x0306, ⟨true, anyPart, cmdEligibleSet⟩), (0x0307, ⟨true, anyPart, cmdBind⟩), (0x030C, ⟨true, anyPart, cmdParseSet⟩),
   (0x0312, ⟨true, anyPart, cmdVoteCfgSet⟩), (0x0401, ⟨true, anyPart, cmdStallConfig⟩), (0x0501, ⟨true, anyPart, cmdTimePtpCfg⟩),
   (0x0503, ⟨true, anyPart, cmdTimeRefSet⟩), (0x0508, ⟨true, anyPart, cmdTimeFrameSet⟩), (0x0518, ⟨true, anyPart, cmdTimeCapCfg⟩)] ++
  [(0x0601, ⟨true, pixFit, cmdSegmentWrite⟩), (0x0602, ⟨true, pixFit, cmdProfileWrite⟩), (0x0603, ⟨true, pixFit, cmdZoneWrite⟩),
   (0x0604, ⟨true, pixFit, cmdSourceWrite⟩), (0x0605, ⟨true, pixFit, cmdPixelCfgSet⟩), (0x0606, ⟨true, pixFit, cmdCurveWrite⟩),
   (0x060A, ⟨true, pixFit, cmdEncSet⟩), (0x060B, ⟨true, pixFit, cmdGroupSet⟩), (0x0701, ⟨true, anyPart, cmdMeasChSet⟩),
   (0x0703, ⟨true, anyPart, cmdMeasTableSet⟩), (0x0707, ⟨true, anyPart, cmdMeasParamSet⟩), (0x0A02, ⟨true, anyPart, cmdGroomSet⟩)]

/-- A command of a list by its opcode. -/
def findCommand (l : List (Nat × Cmd)) (op : Nat) : Option Cmd := (l.find? (fun e => e.1 == op)).map (·.2)

/-! ### Image-only entries (R520, R529, R532 to R535) -/

/-- What became of an entry. -/
inductive Applied where
  | done (s : State)
  | unfitted
  | failed
deriving DecidableEq, Repr

/-- The input of a key belongs to an encoder pair (R532, R533). -/
def inPair (s : State) (k : Nat) : Bool := (s.get F.panel_ENC_MASK 0).testBit (k / 2)

/-- A KEY binding (R532). -/
def keyEntry (s : State) (b : List Byte) : Applied :=
  let k := fld b 0 0 4
  if b.length != 8 || inPair s k || decide (6 ≤ fld b 0 4 4) then .failed
  else
    let x := tget s.keys k {}
    let y := { x with action := fld b 0 4 4, slot := fld b 0 8 5, report := flag b 0 13, holdMs := fld b 0 16 16,
                      value := fld b 4 0 16, cue := fld b 4 16 8 }
    .done { s with keys := tput s.keys k y {} }

/-- An ENC binding (R533). -/
def encEntry (s : State) (b : List Byte) : Applied :=
  let i := fld b 0 0 3
  if b.length != 4 || fld b 0 12 2 == 3 then .failed
  else
    let x := tget s.panelEncs i {}
    let y := { x with bound := true, cueTarget := flag b 0 3, cue := fld b 0 4 8, div := fld b 0 12 2, report := flag b 0 14,
                      stepBy := sx 16 (fld b 0 16 16) }
    .done { s with panelEncs := tput s.panelEncs i y {} }

/-- PANEL_LED as the bindings show it (R534); a LED driven by firmware alone is off, since nothing here drives it. -/
def ledOn (s : State) (n : Nat) : Bool :=
  let b := tget s.leds n (0, 0)
  (b.1 == 1 && s.mode == some b.2) || (b.1 == 2 && s.emerg.isSome) || (b.1 == 3 && s.modeWait.isSome)

/-- The LEDs follow their bindings. -/
def showLeds (s : State) : State := s.set F.panel_LED 0 (maskOf ((List.range 8).filter (ledOn s)))

/-- An LED binding (R534). -/
def ledEntry (s : State) (b : List Byte) : Applied :=
  if b.length != 4 then .failed
  else .done (showLeds { s with leds := tput s.leds (fld b 0 0 3) (fld b 0 3 2, fld b 0 5 5) (0, 0) })

/-- An OVERLAY entry (R520, R522): the slot takes the overlay, whose seal must verify. -/
def overlayEntry (s : State) (b : List Byte) : Applied :=
  let n := fld b 0 0 5
  let o := b.drop 4
  if b.length < 4 || !sealOk s o o.length then .failed
  else .done { s.poke (slotAddr n) o with sealed := n :: s.sealed.filter (fun k => k != n) }

/-- A SCHEDULE entry (R529). -/
def schedEntry (s : State) (b : List Byte) : Applied :=
  let daily := flag b 0 0
  let time := u32 b 4 + fld b 8 0 16 * 4294967296
  if b.length != 12 || decide (64 ≤ s.sched.length) || (daily && decide (86400 ≤ time)) then .failed
  else .done { s with sched := s.sched ++ [{ daily := daily, slot := fld b 0 1 5, emerg := flag b 0 6, time := time }] }

/-- A reserved stall is laid out afresh (R212, R213): allocation, so it holds nothing and no marker; firmware issues RUN on
the stalls that it reads (R231). -/
def resizeReserved (s : State) (q k a : Nat) : State :=
  let t := stallAllocate s q k (s.get F.stall_MODE q) (s.get F.stall_READER q) (s.get F.stall_WM q) a
  if t.get F.stall_READER q == 1 then t else runStall t q

/-- A STALL_SIZE entry (R213, R520). -/
def stallSizeEntry (s : State) (b : List Byte) : Applied :=
  let q := fld b 0 0 8
  let k := fld b 0 8 5
  if b.length != 4 || !([240, 241, 242, 243, 254, 255].contains q) || decide (k < 8) || decide (20 < k) then .failed
  else if k == s.get F.stall_SIZE_LOG2 q then .done s
  else if 0x400000 < regionUsed s q + 2 ^ k then .failed
  else match place s q k with
    | none => .failed
    | some a => .done (resizeReserved s q k a)

/-- A request that firmware makes for itself. -/
def ownReq (body : List Byte) : Req :=
  { mbox := 0, via := ownVia, tag := 0, fence := false, quiet := true, genCheck := false, cfgGen := 0, body := body }

/-- A TWIN entry (R520): the one for this unit's strap acts as TWIN_CFG_SET, the other is ignored. -/
def twinEntry (s : State) (b : List Byte) : Applied :=
  if !s.part.hasTwin then .unfitted
  else if b.length != 16 then .failed
  else if fld b 0 0 1 != s.get F.twin_ROLE 0 then .done s
  else match cmdTwinCfgSet (ownReq (b.drop 4)) s with
    | .done t 0 _ _ _ => .done t
    | _ => .failed

/-- An entry of an image-only opcode. -/
def imageEntry (s : State) (op : Nat) (b : List Byte) : Applied :=
  if op == 0x01F0 then
    (if b.length != 4 then .failed
     else .done ((s.set F.host_OWNER 0 (fld b 0 0 16)).set F.host_NOTICE 0 (fld b 0 16 3)))
  else if op == 0x01F1 then keyEntry s b
  else if op == 0x01F2 then encEntry s b
  else if op == 0x01F3 then ledEntry s b
  else if op == 0x01F4 then (if b.length != 4 then .failed else .done (s.putRw ⟨.panel, 0, 0⟩ (BitVec.ofNat 32 (u32 b 0))))
  else if op == 0x01F5 then overlayEntry s b
  else if op == 0x01F6 then schedEntry s b
  else if op == 0x01F7 then stallSizeEntry s b
  else if op == 0x01F8 then twinEntry s b
  else .failed

/-! ### Entries (R519) -/

/-- What a command came to, as an entry: one that waits has been carried out, or is queued behind another. -/
def entryResult (op : Nat) (r : Req) (out : CmdOut) : Applied :=
  match out with
  | .done t st _ _ _ => if st == 0 then .done t else if st == St.notFitted then .unfitted else .failed
  | .wait t (.frameSet b) => .done { t with waits := t.waits ++ [{ entry := none, opcode := op, req := r, on := .frameSet b }] }
  | .wait t _ => .done t

/-- An entry runs its command with the command's own checks, or its image-only effect. -/
def applyEntry (s : State) (op : Nat) (body : List Byte) : Applied :=
  match findCommand entryCommands op with
  | some c => if !c.fit s then .unfitted else entryResult op (ownReq body) (c.run (ownReq body) s)
  | none => imageEntry s op body

/-- The entries of an image or overlay that are aimed at units that are not fitted (R12). -/
def unfittedCount (s : State) (es : List (Nat × List Byte)) : Nat :=
  (es.filter (fun e => applyEntry s e.1 e.2 = .unfitted)).length

end Sys2Proof.Machine
end

