-- ==== Sys2Proof/Machine/CmdPort.lean ====
section
/-! DEFINITION. The boot flash (R514 to R518), IMAGE_WRITE, IMAGE_COMMIT, OVERLAY_WRITE and OVERLAY_SEAL (R496, R516, R522). -/

namespace Sys2Proof.Machine

/-! ### Flash (R514, R515) -/

/-- Where copy 1 (A) or 2 (B) starts. -/
def copyBase (c : Nat) : Nat := if c == 2 then 0x400000 else 0

/-- Bytes of a copy, and where its base image starts. -/
def copySize : Nat := 0x400000

def imageOffset : Nat := 0x100000

/-- Bytes of the flash; erased bytes read 0xFF. -/
def State.flashRead (s : State) (a n : Nat) : List Byte := memRead s.flash 0xFF a n

/-- A word of a copy, as a number. -/
def copyWord (s : State) (c o : Nat) : Nat := ofLe (s.flashRead (copyBase c + o) 4)

/-- Program bytes: NOR flash stores the AND of two writes to one byte (R516). -/
def State.program (s : State) (a : Nat) (bs : List Byte) : State :=
  { s with flash := memWrite s.flash 0xFF a ((s.flashRead a bs.length).zip bs |>.map (fun e => e.1 &&& e.2)) }

/-- Erase a 64 KiB sector. -/
def State.eraseSector (s : State) (n : Nat) : State :=
  { s with flash := s.flash.filter (fun e => e.1 / 65536 != n) }

/-- The copy that IMAGE_WRITE addresses: the one not in use; copy A where none is (R516, R552). -/
def writeCopyNo (s : State) : Nat := if s.get F.host_COPY 0 == 1 then 2 else 1

/-- Erase a sector that a write reaches for the first time. -/
def eraseOnce (s : State) (n : Nat) : State :=
  if s.erased.contains n then s else { s.eraseSector n with erased := s.erased ++ [n] }

/-- The first write makes the copy invalid: the sector of its header is erased. -/
def touchCopy (s : State) (c : Nat) : State :=
  if s.imageTouched then s else { eraseOnce { s with erased := [] } (copyBase c / 65536) with imageTouched := true }

/-- Store bytes of an IMAGE_WRITE; those at copy offsets 0x3C to 0x3F are ignored. -/
def storeCopy (s : State) (c off : Nat) (bs : List Byte) : State :=
  let a := copyBase c + off
  let s1 := [a / 65536, (a + bs.length - 1) / 65536].eraseDups.foldl eraseOnce (touchCopy s c)
  s1.program a ((List.range bs.length).map (fun i =>
    if decide (0x3C ≤ off + i) && decide (off + i < 0x40) then 0xFF else byteAt bs i))

/-- IMAGE_WRITE (R496, R516). -/
def cmdImageWrite (r : Req) (s : State) : CmdOut :=
  let off := u32 r.body 0
  let bs := r.body.drop 4
  if bs.length < 4 || 488 < bs.length then no s St.badLength
  else firstFail s [(off % 4 != 0 || decide (copySize < off + bs.length), St.badArg)]
    (fun t => ok (storeCopy t (writeCopyNo t) off bs) [])

/-! ### The checks of a copy (R515 to R518) -/

/-- The firmware block of a copy. -/
def firmwareBlock (s : State) (c : Nat) : List Byte := s.flashRead (copyBase c + 0x40) (copyWord s c 4)

/-- FORMAT and the firmware signature. -/
def firmwareOk (s : State) (c : Nat) : Bool :=
  bits (copyWord s c 0) 0 16 == 1 && decide (1 ≤ copyWord s c 4) && decide (copyWord s c 4 ≤ 1048512) &&
    Config.firmwareSigned (firmwareBlock s c)

/-- A field of a copy's base image header (R518). -/
def imageWord (s : State) (c o : Nat) : Nat := copyWord s c (imageOffset + o)

/-- The base image of a copy. -/
def imageBytes (s : State) (c : Nat) : List Byte := s.flashRead (copyBase c + imageOffset) (imageWord s c 0xC)

/-- The base image is sound: FORMAT, SIZE, its signature, or SIGNED 0 in OPEN. -/
def imageOk (s : State) (c : Nat) : Bool :=
  bits (imageWord s c 0) 0 16 == 1 && decide (64 ≤ imageWord s c 0xC) && decide (imageWord s c 0xC ≤ 3145728) &&
    (if (imageWord s c 0x14).testBit 6 then integratorSigned s (imageBytes s c) else s.life == 0)

/-- The entries of a copy's base image. -/
def imageEntries (s : State) (c : Nat) : List (Nat × List Byte) :=
  let b := imageBytes s c
  let stop := if (imageWord s c 0x14).testBit 6 then b.length - 64 else b.length
  let rec0 := (b.take stop).drop 0x40
  parseLeading (min (imageWord s c 0x10) rec0.length) rec0

/-- A copy's SERIAL. -/
def copySerial (s : State) (c : Nat) : Nat := copyWord s c 0x3C

/-- The SERIAL that a commit writes (R516). -/
def nextSerial (s : State) : Nat :=
  let other := if s.get F.host_COPY 0 == 0 then 2 else s.get F.host_COPY 0
  let n := copySerial s other
  if n == 4294967295 || n + 1 == 4294967295 then 0 else n + 1

/-- A committed copy: its SERIAL is written last. -/
def commitCopy (s : State) (c : Nat) : State := s.program (copyBase c + 0x3C) (le 4 (nextSerial s))

/-- IMAGE_COMMIT (R496, R516): the checks in order; the next IMAGE_WRITE starts anew. -/
def cmdImageCommit (r : Req) (s : State) : CmdOut :=
  sized r 4 s (fun t =>
    let size := u32 r.body 0
    firstFail t [(size == 0 || decide (copySize < size), St.badArg)] (fun u =>
      let c := writeCopyNo u
      let v := { u with imageTouched := false }
      if !firmwareOk u c || !imageOk u c then no v St.signature
      else ok (commitCopy v c) (le 4 (unfittedCount u (imageEntries u c)) ++ le 4 (imageWord u c 8))))

/-! ### Overlay slots (R496, R522) -/

/-- The slot a switch under way is putting in force. -/
def switchingTo (s : State) (n : Nat) : Bool :=
  match s.modeWait with
  | some (q, _) => q.what != 2 && q.slot == n
  | none => false

/-- A slot is in force. -/
def slotInForce (s : State) (n : Nat) : Bool := s.mode == some n || s.emerg == some n || switchingTo s n

/-- OVERLAY_WRITE: it clears the slot's seal. The processor's port writes part of a word as R259 says. -/
def cmdOverlayWrite (r : Req) (s : State) : CmdOut :=
  let n := fld r.body 0 0 5
  let off := fld r.body 0 16 16
  let bs := r.body.drop 4
  if bs.length < 4 || 488 < bs.length then no s St.badLength
  else firstFail s [(slotInForce s n, St.state), (decide (16384 < off + bs.length), St.badArg)]
    (fun t => ok { pokePort t 6 (slotAddr n + off) bs with sealed := t.sealed.filter (fun k => k != n) } [])

/-- OVERLAY_SEAL (R521, R522). -/
def cmdOverlaySeal (r : Req) (s : State) : CmdOut :=
  sized r 8 s (fun t =>
    let n := fld r.body 0 0 5
    let size := u32 r.body 4
    firstFail t [(size == 0 || decide (16384 < size), St.badArg), (!sealOk t (slotBytes t n size) size, St.signature)] (fun u =>
      ok { u with sealed := n :: u.sealed.filter (fun k => k != n) } (le 4 (unfittedCount u (overlayEntries (slotBytes u n size))))))

def execImageWrite (r : Req) (s : State) : Host.Outcome State Fault Refusal :=
  .next (cmdRow 0x0101 false true cmdImageWrite r s)

def execImageCommit (r : Req) (s : State) : Host.Outcome State Fault Refusal :=
  .next (cmdRow 0x0102 false true cmdImageCommit r s)

def execOverlayWrite (r : Req) (s : State) : Host.Outcome State Fault Refusal :=
  .next (cmdRow 0x0103 false true cmdOverlayWrite r s)

def execOverlaySeal (r : Req) (s : State) : Host.Outcome State Fault Refusal :=
  .next (cmdRow 0x0104 true true cmdOverlaySeal r s)

end Sys2Proof.Machine
end

