-- ==== Sys2Proof/Machine/Modes.lean ====
section
/-! DEFINITION. Modes (R523 to R528): the configuration that image and overlays make, the switch, MODE_SET and
EMERGENCY_SET; the schedule (R529) and the panel (R530 to R535). -/

namespace Sys2Proof.Machine

/-! ### Entries as objects (R523) -/

/-- An entry of the configuration: its layer (0 image, 1 mode overlay, 2 EMERGENCY overlay) and its index there. -/
structure CEntry where
  layer : Nat
  idx : Nat
  op : Nat
  body : List Byte
deriving DecidableEq, Repr

/-- One record or register that an entry writes: the opcode, the object's number, and a body that writes it alone. -/
structure Obj where
  src : CEntry
  key : Nat
  body : List Byte
deriving DecidableEq, Repr

/-- Entries with their numbers. -/
def numbered (layer : Nat) (es : List (Nat × List Byte)) : List CEntry :=
  ((List.range es.length).zip es).map (fun e => { layer := layer, idx := e.1, op := e.2.1, body := e.2.2 })

/-- The entries of the overlay in a slot. -/
def slotEntries (s : State) (layer : Nat) (n : Option Nat) : List CEntry :=
  match n with
  | none => []
  | some k => numbered layer (overlayEntries (overlayBytes s k))

/-- The configuration that a mode and an EMERGENCY overlay make over the image, as far as a switch can change it. -/
def configOf (s : State) (mode emerg : Option Nat) : List CEntry :=
  (numbered 0 s.image.entries).filter (fun e => overlayOpcode e.op) ++ slotEntries s 1 mode ++ slotEntries s 2 emerg

/-- Opcodes whose entries write router or pixel tables. -/
def tableOp (op : Nat) : Bool := [0x0302, 0x0303, 0x0304, 0x0601, 0x0602, 0x0603, 0x0604].contains op

/-- Opcodes whose body is a RANGE and a payload common to its objects. -/
def rangeOp (op : Nat) : Bool := [0x0201, 0x0202, 0x0203, 0x0206, 0x0208, 0x030C, 0x060A, 0x0701].contains op

/-- The bits of word 0 that number the object of an entry that writes one. -/
def keyBits (op : Nat) : Nat :=
  if op == 0x0112 then 1 else if op == 0x0307 || op == 0x0209 then 7 else if op == 0x0401 then 8
  else if op == 0x0518 || op == 0x01F2 || op == 0x01F3 then 3 else if op == 0x0703 then 5 else if op == 0x01F1 then 4 else 0

/-- A RANGE word for one object. -/
def rangeOne (k : Nat) : List Byte := le 2 k ++ le 2 1

/-- An entry as the objects it writes. -/
def splitEntry (e : CEntry) : List Obj :=
  if tableOp e.op || e.op == 0x0306 then []
  else if rangeOp e.op then (rangeOf e.body).map (fun k => { src := e, key := k, body := rangeOne k ++ e.body.drop 4 })
  else if e.op == 0x060B then
    (List.range (rangeCount e.body)).map (fun i =>
      { src := e, key := rangeFirst e.body + i, body := rangeOne (rangeFirst e.body + i) ++ [byteAt e.body (4 + i), 0, 0, 0] })
  else if e.op == 0x0606 then
    (List.range (fld e.body 0 8 7)).map (fun i =>
      let k := fld e.body 0 0 6 * 4096 + fld e.body 0 16 12 + i
      { src := e, key := k, body := le 4 (k / 4096 + 256 + k % 4096 * 65536) ++ slice e.body (4 + 4 * i) 4 })
  else [{ src := e, key := fld e.body 0 0 (keyBits e.op), body := e.body }]

/-- Two objects are the same record or register. -/
def sameObj (a b : Obj) : Bool := a.src.op == b.src.op && a.key == b.key

/-- Where two entries write the same object, the later one stands. -/
def lastOnly : List Obj → List Obj
  | [] => []
  | x :: r => if r.any (sameObj x) then lastOnly r else x :: lastOnly r

/-- Words of a register block at reset, as bytes. -/
def resetBytes (b : Blk) (i off n : Nat) : List Byte := (List.range n).flatMap (fun j => le 4 (resetWord ⟨b, i, off + 4 * j⟩).toNat)

/-- A field at reset. -/
def resetField (f : Field) : Nat := bits (resetWord (f.addr 0)).toNat f.lo f.width

/-- The body that returns an object to what it is with no entry. -/
def defaultBody (op k : Nat) : Option (List Byte) :=
  if op == 0x0110 then some (resetBytes .stream 0 0 1)
  else if op == 0x0112 then some (le 4 k ++ resetBytes .eth k 0 9)
  else if op == 0x0201 || op == 0x0208 then some (rangeOne k ++ le 4 0)
  else if op == 0x0202 then some (rangeOne k ++ resetBytes .laneRx k 0 5)
  else if op == 0x0203 then some (rangeOne k ++ resetBytes .laneTx k 4 8)
  else if op == 0x0206 then some (rangeOne k ++ resetBytes .laneRx k 0x1C 1 ++ resetBytes .laneTx k 0x34 1)
  else if op == 0x0307 then some (le 4 k ++ le 8 0)
  else if op == 0x030C then some (rangeOne k ++ resetBytes .parse k 0 1)
  else if op == 0x0312 then some (resetBytes .vote 0 0 1 ++ resetBytes .vote 0 0x40 8)
  else if op == 0x0401 then some (le 4 k ++ le 4 0)
  else if op == 0x0501 then some (wordsBytes ({} : Servo).ptpCfg)
  else if op == 0x0503 then
    some (le 4 (resetField F.time_PPS_PIN * 4 + resetField F.time_PPS_NEXT * 32) ++ resetBytes .time 0 0x34 2 ++ le 4 0 ++ le 8 0)
  else if op == 0x0508 then some (le 4 (resetField F.time_NUM) ++ le 4 (resetField F.time_DEN) ++ le 4 (resetField F.time_FRAME_PHASE))
  else if op == 0x0518 then some (le 4 k ++ resetBytes .cap k 0 1)
  else if op == 0x0605 then some (le 4 0 ++ le 4 (resetField F.encg_START_DELAY))
  else if op == 0x0606 then some (le 4 (k / 4096 + 256 + k % 4096 * 65536) ++ le 4 (256 * (k % 4096)))
  else if op == 0x060A then some (rangeOne k ++ resetBytes .encLane k 0 8)
  else if op == 0x060B then some (rangeOne k ++ le 4 (bits (resetWord (F.grp_SIZE.addr k)).toNat F.grp_SIZE.lo F.grp_SIZE.width))
  else if op == 0x0701 then some (rangeOne k ++ resetBytes .measCh k 0 1 ++ resetBytes .measCh k 0xC 1)
  else if op == 0x0703 then some (le 4 k ++ resetBytes .measLin k 0 9)
  else if op == 0x0707 then some (resetBytes .meas 0 0 1 ++ resetBytes .meas 0 0xC 4)
  else if op == 0x0A02 then
    some (le 4 (putField (resetWord ⟨.yard, 0, 0x30⟩) F.yard_GROOM_EN 1).toNat ++ le 4 (resetField F.yard_CE_REPEAT))
  else if op == 0x01F1 || op == 0x01F3 then some (le (if op == 0x01F1 then 8 else 4) k)
  else if op == 0x01F2 then some [BitVec.ofNat 8 k]
  else none

/-! ### Checks and the tables (R525 steps 3 and 4) -/

/-- The status an entry would give on a state. -/
def entryStatus (s : State) (e : CEntry) : Nat :=
  match findCommand entryCommands e.op with
  | some c =>
    if !c.fit s then St.notFitted
    else match c.run (ownReq e.body) s with
      | .done _ st _ _ _ => st
      | .wait _ _ => 0
  | none => match imageEntry s e.op e.body with
    | .done _ => 0
    | .unfitted => St.notFitted
    | .failed => St.badArg

/-- Clear the inactive copies of the router and pixel tables. -/
def clearInactive (s : State) : State :=
  let c := s.rtInactive
  let s1 := { s with
    entries := s.entries.filter (fun e => e.1 / 4096 != c), actions := s.actions.filter (fun e => e.1 / 4096 != c)
    groups := s.groups.filter (fun e => e.1 / 1024 != c) }
  if s.part.hasPixel && s.tablesReady then
    s1.blankSpan (pixelCopy s.pixInactive) (pixelCopy s.pixInactive + 0x2C000)
  else s1

/-- Write the tables of a configuration; `some` is the index of the overlay entry that fails. An entry of the image that
fails is skipped, as at its load. -/
def buildTables (s : State) : List CEntry → State × Option Nat
  | [] => (s, none)
  | e :: r =>
    if !tableOp e.op then buildTables s r
    else match applyEntry s e.op e.body with
      | .done t => buildTables t r
      | .unfitted => buildTables s r
      | .failed => if e.layer == 0 then buildTables s r else (s, some e.idx)

/-- The entries that apply, judged one by one, or the index of an overlay entry that fails: a length or an argument that
its command refuses. What depends on the state is left to the application. -/
def goodEntries (s : State) : List CEntry → List CEntry × Option Nat
  | [] => ([], none)
  | e :: r =>
    let st := if tableOp e.op then 0 else entryStatus s e
    if st == St.notFitted then goodEntries s r
    else if st == St.badLength || st == St.badArg then (if e.layer == 0 then goodEntries s r else ([], some e.idx))
    else
      let q := goodEntries s r
      (e :: q.1, q.2)

/-- The state on which entries are judged: the new tables in force, no listener bound. -/
def judgingState (s : State) : State :=
  { s.set F.pixel_ACTIVE 0 (if s.part.hasPixel then s.pixInactive else s.pixActive) with bindings := [], unbound := [] }

/-- Objects that the new configuration writes otherwise than the old one, and those it no longer writes. -/
def changedObjs (old new : List Obj) : List Obj := new.filter (fun x => !old.any (fun y => sameObj x y && y.body == x.body))

def goneObjs (old new : List Obj) : List Obj := old.filter (fun x => !new.any (sameObj x))

/-- The eligible set that a configuration's entries make (R501). -/
def configEligible (s : State) (es : List CEntry) : List Nat :=
  (es.filter (fun e => e.op == 0x0306)).foldl (fun acc e =>
    newEligible { s with eligible := acc } (fld e.body 0 0 2)
      ((List.range (rangeCount e.body)).map (fun i => u16 e.body (4 + 2 * i)))) []

/-- An entry that writes an eligible set. -/
def eligibleEntry (l : List Nat) : Nat × List Byte :=
  let ids := l.flatMap (le 2)
  (0x0306, le 2 0 ++ le 2 l.length ++ ids ++ List.replicate ((4 - ids.length % 4) % 4) 0)

/-- What a switch applies beside the tables, in order: listeners that change are unbound, then what the new configuration
no longer writes returns to its default, then what differs, in R523 order, and last the eligible set. -/
def switchWork (s : State) (old new : List CEntry) : List (Obj) × List (Nat × List Byte) :=
  let o := lastOnly (old.flatMap splitEntry)
  let n := lastOnly (new.flatMap splitEntry)
  let ch := changedObjs o n
  let gone := goneObjs o n
  let unbind := ((ch ++ gone).filter (fun x => x.src.op == 0x0307)).map (fun x => (0x0307, le 4 x.key ++ le 8 0))
  let rev := (gone.filter (fun x => x.src.op != 0x0307)).filterMap (fun x => (defaultBody x.src.op x.key).map (fun b => (x.src.op, b)))
  let e0 := configEligible s old
  let e1 := configEligible s new
  (ch, unbind ++ rev ++ ch.map (fun x => (x.src.op, x.body)) ++ (if e0 = e1 then [] else [eligibleEntry e1]))

/-- Opcodes whose staged values the pixel commit takes. -/
def stagedOp (op : Nat) : Bool := [0x0605, 0x060A, 0x060B].contains op

/-- An encoder loses its binding. -/
def unbindEnc (s : State) (i : Nat) : State :=
  { s with panelEncs := tput s.panelEncs i { tget s.panelEncs i {} with bound := false, report := false, trans := 0 } {} }

/-- Apply one step of a switch; one that its command refuses now is skipped. An ENC body of one byte is its default. -/
def applyWork (s : State) (w : Nat × List Byte) : State :=
  if w.1 == 0x01F2 && w.2.length == 1 then unbindEnc s (byteAt w.2 0).toNat
  else match applyEntry s w.1 w.2 with
  | .done t => t
  | _ => s

/-- Run the work on a scratch state: the index of the first overlay entry whose object fails. -/
def tryWork (ch : List Obj) (s : State) : List (Nat × List Byte) → Option Nat
  | [] => none
  | w :: r => match applyEntry s w.1 w.2 with
    | .done t => tryWork ch t r
    | .unfitted => tryWork ch s r
    | .failed => match ch.find? (fun x => x.src.op == w.1 && x.body == w.2) with
      | some x => if x.src.layer == 0 then tryWork ch s r else some x.src.idx
      | none => tryWork ch s r

/-- The outcome of steps 3 and 4. -/
inductive Plan where
  | fails (detail : Nat)
  | misfit
  | go (s : State) (post : List (Nat × List Byte))
deriving DecidableEq, Repr

/-- Steps 3 and 4 for a new pair of overlays. -/
def planSwitch (s : State) (mode emerg : Option Nat) : Plan :=
  let old := configOf s s.mode s.emerg
  let new := configOf s mode emerg
  match buildTables (clearInactive s) new with
  | (_, some i) => .fails i
  | (t, none) =>
    match goodEntries (judgingState t) new with
    | (_, some i) => .fails i
    | (good, none) =>
      let was := (goodEntries (judgingState t) old).1
      let w := switchWork s was good
      let pre := w.2.filter (fun e => stagedOp e.1)
      let post := w.2.filter (fun e => !stagedOp e.1)
      match tryWork w.1 (judgingState (pre.foldl applyWork t)) post with
      | some i => .fails i
      | none =>
        let t1 := pre.foldl applyWork t
        if t1.part.hasPixel && t1.shedUp 5 && !commitOk t1 then .misfit else .go t1 post

/-! ### Requests (R524 to R526) -/

/-- How a request stands: the state it names is in force, it is refused with a status, or it runs. -/
inductive Judged where
  | same
  | refused (status : Nat)
  | runs
deriving DecidableEq, Repr

/-- A kind-4 hook that names a slot of ROLE 2 turns that EMERGENCY overlay on (R524). -/
def normalReq (s : State) (q : ModeReq) : ModeReq :=
  if q.origin == 1 && q.what == 0 && s.sealed.contains q.slot && slotRole s q.slot == 2 then { q with what := 1 } else q

/-- Judge a request (R496, R524, R526). -/
def judgeReq (s : State) (q : ModeReq) : Judged :=
  if q.what == 2 then (if s.emerg.isNone then .same else .runs)
  else if q.what == 0 && s.mode == some q.slot then .same
  else if q.what == 1 && s.emerg == some q.slot then .same
  else if !s.sealed.contains q.slot || (slotRole s q.slot == 2) != (q.what == 1) then .refused St.state
  else if !slotSealOk s q.slot then .refused St.signature
  else .runs

/-- The overlays in force once a request has run. -/
def targetMode (s : State) (q : ModeReq) : Option Nat := if q.what == 0 then some q.slot else s.mode

def targetEmerg (s : State) (q : ModeReq) : Option Nat :=
  if q.what == 1 then some q.slot else if q.what == 2 then none else s.emerg

/-- FRAME_N and SWAPS of an answer. -/
def modeData (s : State) : List Byte := le 4 (s.get F.time_FRAME_N 0) ++ le 4 (s.get F.router_SWAPS 0)

/-- The third word of a notice (R526). -/
def noticeWord (q : ModeReq) : Nat := q.slot % 32 + q.origin % 8 * 32 + b2n (q.what != 0) * 256

/-- A request is over: its command answers, or, for another origin, a notice goes out. -/
def answerReq (s : State) (q : ModeReq) (status detail : Nat) (switched : Bool) : State :=
  if q.origin == 0 then
    match s.waits.find? (fun w => w.on = .modeSwitch) with
    | none => s
    | some w => answerWait (dropWait s w) w false status detail (if status == 0 then modeData s else [])
  else if status == 0 && !switched then s
  else postNotice s 0x0105 status detail
    (le 4 (if status == 0 then s.get F.time_FRAME_N 0 else 0) ++ le 4 (s.get F.router_SWAPS 0) ++ le 4 (noticeWord q))

/-- Steps 1 to 4 of a switch for the request at the head of the queue. -/
def beginSwitch (s : State) : State :=
  match s.modeReqs with
  | [] => s
  | q0 :: r =>
    let s1 := { s with modeReqs := r }
    let q := normalReq s1 q0
    match judgeReq s1 q with
    | .same => answerReq s1 q St.ok 0 false
    | .refused st => answerReq s1 q st 0 false
    | .runs =>
      match planSwitch s1 (targetMode s1 q) (targetEmerg s1 q) with
      | .fails i => answerReq s1 q St.state i false
      | .misfit => answerReq { s1 with drawn := s1.drawn + 1 } q St.state ((Config.freeWord s1.drawn).toNat % 65536) false
      | .go t post => showLeds { t with commitAsked := true, modeWait := some (q, 0), modePost := post }

/-- MODE_SWITCH (R525): firmware takes the next request once no switch runs and both COPYBACKs read 0. -/
def execModeSwitch (s : State) : Host.Outcome State Fault Refusal :=
  .next (if s.running && s.modeWait.isNone && !s.on F.router_COPYBACK 0 && !s.on F.pixel_COPYBACK 0 then beginSwitch s else s)

/-- The router has switched: the pixel commit is pending for the next tick. -/
def switchRouter (s : State) : State :=
  match s.modeWait with
  | some (q, 0) =>
    let s1 := if s.part.hasPixel && s.shedUp 5 then s.set F.pixel_COMMIT_PENDING 0 1 else s
    { s1 with modeWait := some (q, 1) }
  | _ => s

/-- Steps 5 and 6, at the tick of the pixel switch. -/
def finishSwitch (s : State) : State :=
  match s.modeWait with
  | some (q, 1) =>
    let s1 := s.modePost.foldl applyWork { s with modeWait := none, modePost := [] }
    let s2 := stepGen { s1 with mode := targetMode s q, emerg := targetEmerg s q, switched := true }
    answerReq (showLeds (setMask s2)) q St.ok 0 true
  | _ => s

/-- A mailbox request (R496, R525): answered at once where no switch is to run, else in its turn. -/
def cmdModeReq (s : State) (q : ModeReq) : CmdOut :=
  if s.modeReqs.isEmpty && s.modeWait.isNone then
    match judgeReq s q with
    | .same => okSame s (modeData s)
    | .refused st => no s st
    | .runs => .wait { s with modeReqs := [q] } .modeSwitch
  else .wait { s with modeReqs := s.modeReqs ++ [q] } .modeSwitch

/-- MODE_SET. -/
def cmdModeSet (r : Req) (s : State) : CmdOut :=
  sized r 4 s (fun t => cmdModeReq t { origin := 0, what := 0, slot := fld r.body 0 0 5 })

/-- EMERGENCY_SET. -/
def cmdEmergencySet (r : Req) (s : State) : CmdOut :=
  sized r 4 s (fun t => cmdModeReq t { origin := 0, what := if flag r.body 0 0 then 1 else 2, slot := fld r.body 0 1 5 })

def execModeSet (r : Req) (s : State) : Host.Outcome State Fault Refusal :=
  .next (cmdRow 0x0105 true true cmdModeSet r s)

def execEmergencySet (r : Req) (s : State) : Host.Outcome State Fault Refusal :=
  .next (cmdRow 0x0106 true true cmdEmergencySet r s)

/-! ### The schedule (R529) -/

/-- Whole seconds of the counter, and the second of the local day. -/
def nowSec (s : State) : Nat := s.tod / secUnit

def localSec (s : State) : Nat :=
  (((nowSec s : Int) - s.servo.utcOffset + s.image.localOffset) % 86400).toNat

/-- A schedule entry's request. -/
def schedReq (e : Sched) : ModeReq := { origin := 3, what := b2n e.emerg, slot := e.slot }

/-- When an entry's time last came, in seconds; a daily one within the last 24 h. -/
def lastDue (s : State) (e : Sched) : Option Nat :=
  if e.daily then
    let ago := (localSec s + 86400 - e.time) % 86400
    if ago ≤ nowSec s then some (nowSec s - ago) else none
  else if e.time ≤ nowSec s then some e.time else none

/-- An entry whose time has come since it was last seen to come, with the second at which it came. -/
def dueAt (s : State) (e : Sched) : Option Nat :=
  (lastDue s e).filter (fun u => match e.seen with
    | none => true
    | some v => decide (v < u))

/-- Entries whose time has come count as seen. -/
def markSeen (s : State) : State :=
  { s with sched := s.sched.map (fun e => if (dueAt s e).isSome then { e with seen := some (nowSec s) } else e) }

/-- An entry fires, and what came before it counts as seen: where time passes several, only the latest fires. -/
def fireEntry (s : State) (e : Sched) (u : Nat) : State :=
  { s with
    sched := s.sched.map (fun x =>
      if x = e || ((dueAt s x).map (fun v => decide (v < u))).getD false then { x with seen := some (nowSec s) } else x)
    modeReqs := s.modeReqs ++ [schedReq e] }

/-- SCHEDULE_FIRE: time has reached entry n, under TS_STATE 0 or 1, and no later one. -/
def execScheduleFire (n : Nat) (s : State) : Host.Outcome State Fault Refusal :=
  match s.sched[n]? with
  | none => .next s
  | some e =>
    match dueAt s e with
    | none => .next s
    | some u =>
      .next (if !s.running || 1 < s.tsState || s.sched.any (fun x => ((dueAt s x).map (fun v => decide (u < v))).getD false) then s
        else fireEntry s e u)

/-- SCHEDULE_CATCHUP: at first lock after boot, unless a switch of another origin has happened. -/
def catchUp (s : State) : State :=
  if !s.running || s.caughtUp then s
  else if s.switched || s.modeWait.isSome then { markSeen s with caughtUp := true }
  else
    let best := s.sched.foldl (fun (m : Option (Nat × Sched)) e => match lastDue s e, m with
      | some t, some (u, f) => if u ≤ t then some (t, e) else some (u, f)
      | some t, none => some (t, e)
      | none, x => x) none
    let s1 := { markSeen s with caughtUp := true }
    match best with
    | none => s1
    | some (_, e) => { s1 with modeReqs := s1.modeReqs ++ [schedReq e] }

/-! ### The panel (R528, R530 to R535) -/

/-- A request of origin 2; the twin peer is told (R528). -/
def panelReq (s : State) (what slot : Nat) : State :=
  let s1 := { s with modeReqs := s.modeReqs ++ [{ origin := 2, what := what, slot := slot }] }
  if s1.on F.twin_PAIRED 0 then tetherSend s1 3 (le 4 (10 + slot % 32 * 256 + what % 4 * 8192)) else s1

/-- A key acts (R531, R532). -/
def actKey (s : State) (k : Nat) : State :=
  let x := tget s.keys k {}
  let s1 := { s with keys := tput s.keys k { x with acted := true } {} }
  if x.action == 1 then panelReq s1 0 x.slot
  else if x.action == 2 then panelReq s1 1 x.slot
  else if x.action == 3 then panelReq s1 2 x.slot
  else if !s.part.hasPixel then s1
  else if x.action == 4 then latchValue s1 { kind := 1, target := 0, value := x.value }
  else if x.action == 5 then latchValue s1 { kind := 2, target := x.cue, value := x.value }
  else s1

/-- A decimal number as ASCII. -/
def decimal (n : Int) : List Byte :=
  (if n < 0 then [0x2D#8] else []) ++ (Nat.toDigits 10 n.natAbs).map (fun c => BitVec.ofNat 8 c.toNat)

/-- The processor sends a sentence (R532, R533): fields and checksum, through its own source. -/
def sendOwn (s : State) (body : List Byte) : State :=
  let c := (xorSum body).toNat
  let hex := fun n => BitVec.ofNat 8 (if n < 10 then 0x30 + n else 0x37 + n)
  let bs : List Byte := [0x24#8] ++ body ++ [0x2A#8, hex (c / 16), hex (c % 16), 0x0D#8, 0x0A#8]
  let so := s.source 0x3000
  s.putSource 0x3000 { so with input := so.input ++ bs.map (fun d => { data := d, stamp := s.stamp, tsSrc := 2 }) }

/-- A panel input's level (R535). -/
def setLevel (s : State) (i : Nat) (level : Bool) : State :=
  let others := (setBits 16 (s.get F.panel_LEVEL 0)).filter (fun j => j != i)
  s.set F.panel_LEVEL 0 (maskOf (if level then i :: others else others))

/-- KEY_DEBOUNCE (R530, R531): an input that is no encoder's has a new debounced level; low is pressed. -/
def execKeyDebounce (key : Nat) (level : Bool) (s : State) : Host.Outcome State Fault Refusal :=
  if inPair s key || decide (16 ≤ key) || (s.get F.panel_LEVEL 0).testBit key == level then .next s
  else
    let x := tget s.keys key {}
    let s1 := setLevel s key level
    let s2 := { s1 with keys := tput s1.keys key { x with pressed := !level, acted := false } {} }
    let s3 := if level then s2.set F.panel_STUCK 0 (maskOf ((setBits 16 (s2.get F.panel_STUCK 0)).filter (fun j => j != key))) else s2
    if !s.running then .next s3
    else
      let s4 := if x.report then sendOwn s3 (ascii8 "PNKEY," ++ decimal key ++ [0x2C#8] ++ decimal (b2n !level)) else s3
      .next (if !level && x.holdMs == 0 && x.action != 0 then actKey s4 key else s4)

/-- KEY_ACTION (R531): HOLD_MS has elapsed on a key held down. -/
def execKeyAction (key : Nat) (s : State) : Host.Outcome State Fault Refusal :=
  let x := tget s.keys key {}
  .next (if s.running && x.pressed && !x.acted && x.action != 0 && !inPair s key then actKey s key else s)

/-- KEY_STUCK (R531): held for 30 s, the key does nothing more until its release. -/
def execKeyStuck (key : Nat) (s : State) : Host.Outcome State Fault Refusal :=
  let x := tget s.keys key {}
  .next (if s.running && x.pressed then
    { s.set F.panel_STUCK 0 (s.get F.panel_STUCK 0 ||| 2 ^ key) with keys := tput s.keys key { x with acted := true } {} }
  else s)

/-- The level a latch is about to give, or the one in force (R174, R339). -/
def levelNow (s : State) (kind target : Nat) : Nat :=
  match s.latches.reverse.find? (fun l => l.kind == kind && l.target == target) with
  | some l => l.value
  | none => if kind == 1 then s.master else s.cue target

/-- A detent moves its level by STEP, and is reported (R533). -/
def detent (s : State) (i : Nat) (x : PanelEnc) (d : Int) : State :=
  let kind := if x.cueTarget then 2 else 1
  let target := if x.cueTarget then x.cue else 0
  let v := (clampI 0 65535 ((levelNow s kind target : Int) + d * x.stepBy)).toNat
  let s1 := if s.part.hasPixel then latchValue s { kind := kind, target := target, value := v } else s
  if x.report then sendOwn s1 (ascii8 "PNENC," ++ decimal i ++ [0x2C#8] ++ decimal d) else s1

/-- Where a state of A and B stands in the sequence 00, 01, 11, 10. -/
def quadPos (ab : BitVec 2) : Nat := if ab = 0 then 0 else if ab = 1 then 1 else if ab = 3 then 2 else 3

/-- Firmware turns transitions into detents (R533). -/
def countDetent (s : State) (i : Nat) (d : Int) : State :=
  let x := tget s.panelEncs i {}
  if !x.bound || !s.running then s
  else
    let t := x.trans + d
    let per : Int := if x.div == 1 then 2 else if x.div == 2 then 4 else 1
    if t.natAbs < per.natAbs then { s with panelEncs := tput s.panelEncs i { x with trans := t } {} }
    else detent { s with panelEncs := tput s.panelEncs i { x with trans := 0, detents := x.detents + t.sign } {} } i x t.sign

/-- ENCODER_TRANSITION (R533): the filtered state of A (bit 1) and B (bit 0). -/
def execEncoderTransition (enc : Nat) (ab : BitVec 2) (s : State) : Host.Outcome State Fault Refusal :=
  let x := tget s.panelEncs enc {}
  if !(s.get F.panel_ENC_MASK 0).testBit enc || x.state = ab then .next s
  else
    let s1 := setLevel (setLevel s (2 * enc) (ab.getLsbD 1)) (2 * enc + 1) (ab.getLsbD 0)
    let s2 := { s1 with panelEncs := tput s1.panelEncs enc { x with state := ab } {} }
    let m := (quadPos ab + 4 - quadPos x.state) % 4
    if m == 2 then .next (s2.inc (F.panel_ENC_ERR.at (4 * enc)) 0)
    else
      let d : Int := if m == 1 then 1 else -1
      let f := F.panel_ENC_COUNT.at (4 * enc)
      .next (countDetent (s2.setI f 0 (s2.getI f 0 + d)) enc d)

end Sys2Proof.Machine
end

