-- ==== Sys2Proof/Machine/Commands.lean ====
section
/-! DEFINITION. Every mailbox command by its opcode (R494 to R513), and how firmware runs one that it took from its queue. -/

namespace Sys2Proof.Machine

/-- JUDGE_TEST from a mailbox: which step of the test fails is the judge's hardware, so the result is free. -/
def cmdJudgeFree (r : Req) (s : State) : CmdOut :=
  cmdJudgeTest ((Config.freeWord s.drawn).toNat % 202) r { s with drawn := s.drawn + 1 }

/-- The commands that no entry carries, 0x00xx to 0x04xx. -/
def commandsLow : List (Nat × Cmd) :=
  [(0x0000, ⟨false, anyPart, cmdNop⟩), (0x0001, ⟨false, anyPart, cmdIdentGet⟩), (0x0002, ⟨false, anyPart, cmdEcho⟩),
   (0x0101, ⟨false, anyPart, cmdImageWrite⟩), (0x0102, ⟨false, anyPart, cmdImageCommit⟩),
   (0x0103, ⟨false, anyPart, cmdOverlayWrite⟩), (0x0104, ⟨true, anyPart, cmdOverlaySeal⟩), (0x0105, ⟨true, anyPart, cmdModeSet⟩),
   (0x0106, ⟨true, anyPart, cmdEmergencySet⟩), (0x0111, ⟨false, streamFit, cmdStreamStatusGet⟩),
   (0x0113, ⟨false, anyPart, cmdEthStatusGet⟩), (0x0204, ⟨false, anyPart, cmdLaneStatusGet⟩),
   (0x0205, ⟨false, anyPart, cmdLaneCntClr⟩), (0x0207, ⟨false, anyPart, cmdLaneRearm⟩)] ++
  [(0x0301, ⟨false, anyPart, cmdSentenceSend⟩), (0x0305, ⟨true, anyPart, cmdRouterCommit⟩), (0x0308, ⟨false, anyPart, cmdRouterRead⟩),
   (0x0309, ⟨false, anyPart, cmdRouterStatusGet⟩), (0x030A, ⟨false, anyPart, cmdHitsGet⟩),
   (0x030D, ⟨false, anyPart, cmdParseStatusGet⟩), (0x0310, ⟨false, anyPart, cmdJudgeOut⟩), (0x0311, ⟨false, anyPart, cmdJudgeIn⟩),
   (0x0313, ⟨false, anyPart, cmdVoteStatusGet⟩), (0x0402, ⟨false, anyPart, cmdStallReset⟩),
   (0x0403, ⟨false, anyPart, cmdStallStatusGet⟩)]

/-- The commands that no entry carries, 0x05xx to 0x0Bxx. -/
def commandsHigh : List (Nat × Cmd) :=
  [(0x0502, ⟨false, anyPart, cmdTimeStatusGet⟩), (0x0504, ⟨false, anyPart, cmdTimeStep⟩),
   (0x0510, ⟨false, anyPart, cmdTimePulseArm⟩), (0x0511, ⟨false, anyPart, cmdTimePulseDisarm⟩),
   (0x0607, ⟨true, pixFit, cmdPixelCommit⟩), (0x0608, ⟨false, pixFit, cmdLevelSet⟩), (0x0609, ⟨false, pixFit, cmdZoneInput⟩),
   (0x060C, ⟨false, pixFit, cmdPixelStatusGet⟩), (0x0702, ⟨false, anyPart, cmdMeasRead⟩),
   (0x0704, ⟨false, anyPart, cmdMeasCalStart⟩), (0x0705, ⟨false, anyPart, cmdMeasCalAbort⟩),
   (0x0706, ⟨false, anyPart, cmdMeasCoefSet⟩), (0x0801, ⟨false, twinFit, cmdTwinStatusGet⟩), (0x0802, ⟨true, twinFit, cmdTwinCfgSet⟩),
   (0x0803, ⟨false, twinFit, cmdTwinSwap⟩), (0x0804, ⟨false, twinFit, cmdTwinClearFault⟩)] ++
  [(0x0901, ⟨false, anyPart, cmdSessionOpen⟩), (0x0902, ⟨false, anyPart, cmdSessionClose⟩), (0x0903, ⟨true, anyPart, cmdKeyEnroll⟩),
   (0x0904, ⟨false, anyPart, cmdLifeSet⟩), (0x0905, ⟨false, anyPart, cmdTamperLogGet⟩),
   (0x0A01, ⟨false, anyPart, cmdYardStatusGet⟩), (0x0A03, ⟨false, anyPart, cmdFarrierMapGet⟩),
   (0x0A04, ⟨false, anyPart, cmdJudgeFree⟩), (0x0A05, ⟨false, anyPart, cmdBypassSet⟩), (0x0A06, ⟨false, anyPart, cmdCountersClear⟩),
   (0x0B01, ⟨false, anyPart, cmdShedSet⟩), (0x0B02, ⟨false, anyPart, cmdPowerStatusGet⟩)]

/-- Every command. -/
def allCommands : List (Nat × Cmd) := commandsLow ++ entryCommands ++ commandsHigh

/-- Firmware runs a command (R472 checks 3 to 6). -/
def runCommand (op : Nat) (r : Req) (e : Option Nat) (replayed : Bool) (s : State) : State :=
  let t := match findCommand allCommands op with
    | none => if s.life == 3 then finish op false r e replayed (no s St.denied) else finish op false r e replayed (no s St.badOpcode)
    | some c => runReq op c.g (c.fit s) c.run r e replayed s
  if op == 0x0301 then startSentences t else t

/-- Commands held while a COPYBACK read 1 are carried out after it (R176, R342), in their order; those behind a commit are
held again until its swap. -/
def rerunHeld (s : State) : State :=
  (s.waits.filter (fun w => w.on = .held)).foldl (fun t w =>
    runCommand w.opcode { w.req with genCheck := false } w.entry (waitReplayed s w) t)
    { s with waits := s.waits.filter (fun w => !(w.on = .held)) }

end Sys2Proof.Machine
end

