-- ==== Sys2Proof/Machine/Frame.lean ====
section
/-! DEFINITION. The frame tick (R307, R308) with all that happens at it, the servo's measurement row (R292, R529), and the
commits and copybacks of the router and the pixel tables (R176, R177, R342). -/

namespace Sys2Proof.Machine

/-! ### Commands that wait for a tick (R491, R505, R506) -/

/-- FRAME_N as a response carries it. -/
def frameData (s : State) : List Byte := le 4 (s.get F.time_FRAME_N 0)

/-- The next TIME_FRAME_SET whose turn has come (R505). -/
def nextFrameSet (s : State) : Nat → State
  | 0 => s
  | n + 1 =>
    match s.waits.find? (fun w => w.on = .frameSet false) with
    | none => s
    | some w =>
      match frameSetNow w.req (dropWait s w) with
      | .done t st d data _ => nextFrameSet (answerWait t w true st d data) n
      | .wait t on => { t with waits := t.waits ++ [{ w with on := on }] }

/-- The first tick of a new grid answers its TIME_FRAME_SET, and the next one is sent. -/
def answerFrameSets (s : State) : State :=
  let t := answerWaits s (fun w => w = .frameSet true) true (fun u _ => (St.ok, frameData u))
  nextFrameSet t t.waits.length

/-- A commit's tick answers PIXEL_COMMIT. -/
def answerPixelCommits (s : State) : State :=
  answerWaits s (fun w => w = .pixelCommit) true (fun u _ => (St.ok, frameData u))

/-- FRAME_TICK fires: FRAME_N and the pulses, the twin's adoption, the pixel pipeline, the DMX lanes that wait for it (R105), the
twin's mark with the zone factors in force for frame n (R410), the zones for frame n + 1, then the commands that waited for
this tick and the switch under way. -/
def fireFrame (s : State) : State :=
  let own := s.frame.staged.isNone
  let commit := s.on F.pixel_COMMIT_PENDING 0
  let s1 := pixelZones (twinAfterTick (syncDmx (pixelTick (twinBeforeTick (fireTick s)))))
  let s2 := if own && s1.waits.any (fun w => w.on = .frameSet true) then answerFrameSets s1 else s1
  let s3 := if commit then answerPixelCommits s2 else s2
  finishSwitch s3

/-- FRAME_TICK (R307, R308): once its instant has come, it fires or, too early after a realignment, is skipped. -/
def execFrameTick (s : State) : Host.Outcome State Fault Refusal :=
  .next (if !tickDue s then s else if tickTooEarly s then suppressTick s else fireFrame s)

/-- SERVO_MEASUREMENT (R292, R529): the first lock after boot makes up for the schedule. -/
def execServoMeasurement (offset rate : Int) (s : State) : Host.Outcome State Fault Refusal :=
  let t := servoMeasure s offset rate
  .next (if s.get F.time_SERVO 0 != 2 && t.get F.time_SERVO 0 == 2 then catchUp t else t)

/-! ### Commits (R176, R177, R342) -/

/-- A swap is due: for a commit, or for the groom's sweep while no write is staged (R176, R263). -/
def swapDue (s : State) : Bool := s.commitAsked || (s.sweepDue && !s.routerStaged)

/-- ROUTER_SWAP (R177): between two classifications the copies swap; ROUTER_COMMIT answers, a switch goes on. -/
def execRouterSwap (s : State) : Host.Outcome State Fault Refusal :=
  .next (if swapDue s && upstream s && !s.on F.router_COPYBACK 0 then
    let t := swapTables s
    switchRouter (answerWaits t (fun w => w = .routerSwap) true (fun u _ =>
      (St.ok, le 4 (u.get F.router_ACTIVE 0) ++ le 4 (u.get F.router_SWAPS 0))))
  else s)

/-- ROUTER_COPYBACK_DONE (R176): the copies are level; held commands run, and a SHED_SET that waits to lower S2. -/
def execRouterCopybackDone (s : State) : Host.Outcome State Fault Refusal :=
  .next (if s.on F.router_COPYBACK 0 && s.running then
    let t := rerunHeld (levelTables s)
    nextSheds t t.waits.length
  else s)

/-- PIXEL_COPYBACK_DONE (R342, R345): the copies are level; DUE records are rewritten, held commands run. -/
def execPixelCopybackDone (s : State) : Host.Outcome State Fault Refusal :=
  .next (if s.on F.pixel_COPYBACK 0 && s.running then rerunHeld (healTables (pixelCopyback s)) else s)

end Sys2Proof.Machine
end

