-- ==== Sys2Proof/Machine/HostRows.lean ====
section
/-! DEFINITION. The rows of the host port (R456 to R486): SPI transactions, register writes, mailboxes and the command
record, spilled messages, events, warm restarts and the watchdog. -/

namespace Sys2Proof.Machine

/-! ### SPI (R457 to R462); the port stops answering while VIO18 is out of range (R537) -/

/-- SPI_WRITE. -/
def execSpiWrite (addr : BitVec 24) (words : List Word) (commit : Nat) (ovf : List Nat) (s : State) :
    Host.Outcome State Fault Refusal := .next (if portAlive s then spiWriteTxn s addr words commit ovf else s)

/-- SPI_QWRITE: the same transaction on four lines. -/
def execSpiQwrite (addr : BitVec 24) (words : List Word) (commit : Nat) (ovf : List Nat) (s : State) :
    Host.Outcome State Fault Refusal := .next (if portAlive s then spiWriteTxn s addr words commit ovf else s)

/-- SPI_READ. -/
def execSpiRead (addr : BitVec 24) (count : Nat) (late : List Nat) (s : State) : Host.Outcome State Fault Refusal :=
  .next (if portAlive s then spiReadTxn s addr count late else s)

/-- SPI_QREAD. -/
def execSpiQread (addr : BitVec 24) (count : Nat) (late : List Nat) (s : State) : Host.Outcome State Fault Refusal :=
  .next (if portAlive s then spiReadTxn s addr count late else s)

/-- The instructions that the port knows (R457): WRITE, READ, QWRITE and QREAD. -/
def knownInstr (c : Byte) : Bool := [0x02#8, 0x03#8, 0x32#8, 0xEB#8].contains c

/-- BAD_INSTR (R458). -/
def execBadInstr (code : Byte) (s : State) : Host.Outcome State Fault Refusal :=
  .next (if portAlive s && !knownInstr code then hostErr s Bit.erBadInstr else s)

/-! ### Register writes (R15, R16, R18) -/

/-- The RW fields that have a row of their own, by register: REGISTER_WRITE leaves them. -/
def ownRowMask (r : RegAddr) : Nat :=
  ([F.tx_MODE, F.rx_DIV_FRAC, F.rx_DIV_INT, F.tx_DIV_FRAC, F.tx_DIV_INT, F.time_ADJ, F.yard_GROOM_EN].filter
    (fun f => f.blk = r.blk && f.off == r.off)).foldl (fun m f => m ||| f.mask) 0

/-- TIME_CFG takes a word (R290, R295, R504): another REF acts as TIME_REF_SET's does, another PTP_PORT loses a PTP reference. -/
def writeTimeCfg (s0 s : State) : State :=
  let t := setRef (s.set F.time_REF 0 (s0.get F.time_REF 0)) (s.get F.time_REF 0)
  if s.get F.time_PTP_PORT 0 != s0.get F.time_PTP_PORT 0 && t.get F.time_REF 0 == 1 then loseReference t else t

/-- NUM, DEN or PHASE takes a word (R308): the new grid comes into force at the next tick of the old one, and the registers show
it from there, as for TIME_FRAME_SET (DESIGN CHOICE for what they show until then). -/
def stageGrid (s0 s : State) (off : Nat) : State :=
  let now := s0.frame.staged.getD (s0.get F.time_NUM 0, s0.get F.time_DEN 0, s0.get F.time_FRAME_PHASE 0)
  let num := if off == 0x24 then s.get F.time_NUM 0 else now.1
  let den := if off == 0x28 then s.get F.time_DEN 0 else now.2.1
  let phase := if off == 0x2C then s.get F.time_FRAME_PHASE 0 else now.2.2
  { s0 with frame := { s0.frame with staged := some (num, den, phase) } }

/-- The first word of a capture block takes a word (R305, R317): EDGE_COUNT starts at 0, VALID falls. -/
def restartCapture (s : State) (n : Nat) : State := { s.set F.cap_VALID n 0 with caps := tput s.caps n {} {} }

/-- What follows at once from a register's new value; `s0` is the state before the write. -/
def afterWrite (s0 s : State) (r : RegAddr) : State :=
  match r.blk, r.off with
  | .time, 0 => writeTimeCfg s0 s
  | .time, 4 => setServo (s.set F.time_SERVO 0 (s0.get F.time_SERVO 0)) (s.get F.time_SERVO 0)
  | .time, 0x24 => stageGrid s0 s 0x24
  | .time, 0x28 => stageGrid s0 s 0x28
  | .time, 0x2C => stageGrid s0 s 0x2C
  | .cap, 0 => restartCapture s r.inst
  | .vote, 0 => autoOut s
  | .farrierMap, 0 => farrierCount s
  | .meas, _ => spareValidity s
  | .measCh, o => afterChannelWrite s0 s r.inst o
  | .stream, 0 => if s.on F.str_EN 0 then s else linkDown s
  | .eth, 0 => if s.on F.eth_EN r.inst then s else setLink s r.inst false false
  | .twin, _ => showUnit s
  | _, _ => s

/-- REGISTER_WRITE: RW fields take the word; an absent unit, or one whose shed is down, ignores it (R5). -/
def execRegisterWrite (r : RegAddr) (v : Word) (s : State) : Host.Outcome State Fault Refusal :=
  if !blkFitted s.part r.blk r.inst || !s.shedUp (regShed r) then .next s
  else
    let own := BitVec.ofNat 32 (ownRowMask r)
    .next (afterWrite s (s.putRw r ((v &&& ~~~ own) ||| (s.reg r &&& own))) r)

/-- W1C_WRITE: `latched` are flag bits that the hub latches in the same access, which stay set (R16); one that stood at 0
latches as it does at any other time, with its event. -/
def execW1cWrite (r : RegAddr) (v latched : Word) (s : State) : Host.Outcome State Fault Refusal :=
  .next (if blkFitted s.part r.blk r.inst && s.shedUp (regShed r) then
      latchFlags (writeW1c s r v (latched &&& s.reg r)) r (latched &&& ~~~ s.reg r)
    else s)

/-! ### Doorbells, releases, resets (R466, R471, R473, R478, R548) -/

/-- DOORBELL. -/
def execDoorbell (ring : Byte) (s : State) : Host.Outcome State Fault Refusal :=
  .next (if portAlive s then ringMailboxes s ring.toNat else s)

/-- MBO_REL. -/
def execMboRel (rel : Byte) (s : State) : Host.Outcome State Fault Refusal :=
  .next (if portAlive s then releaseMbo s rel.toNat else s)

/-- SW_RESET: HOST_RESET with SW_RESET 1 and a KEY. -/
def execSwReset (key : Byte) (s : State) : Host.Outcome State Fault Refusal :=
  .next (if portAlive s then writeReset s (1 + key.toNat * 256) else s)

/-- FW_RESTART: HOST_RESET with FW_RESTART 1 and a KEY. -/
def execFwRestart (key : Byte) (s : State) : Host.Outcome State Fault Refusal :=
  .next (if portAlive s then writeReset s (2 + key.toNat * 256) else s)

/-! ### The command record (R471, R472, R476, R480) -/

/-- Entries of a mailbox's queue. -/
def queueOf (s : State) (i : Nat) : List Entry := s.cmds.filter (fun e => e.mbox == i)

/-- A mailbox that the same write rang and that has a lower number comes first (R471). -/
def ringTurn (s : State) (i : Nat) : Bool :=
  !(List.range i).any (fun j => mbState s j == 1 && tget s.rungBy j 0 == tget s.rungBy i 0)

/-- Acknowledge the message of mailbox i: it enters its queue; a command that submits a sentence leaves it HELD. -/
def ackMailbox (s : State) (i : Nat) : State :=
  let m := parseMsg (mbiBytes s i 512)
  let e : Entry := { id := s.ackNo, mbox := i, via := tget s.mbFrom i .spi, msg := m }
  let s1 := { s with cmds := s.cmds ++ [e], ackNo := s.ackNo + 1 }
  let s2 := setMbState s1 i (if m.opcode == 0x0301 then 2 else 0)
  if mbOwner s i == 0 then s2.incWrap F.host_ACKS 0 else s2

/-- MAILBOX_ACK. -/
def execMailboxAck (i : Nat) (s : State) : Host.Outcome State Fault Refusal :=
  if !s.running || decide (8 ≤ i) then .next s
  else
    let t := fillMailbox s i
    .next (if mbState t i == 1 && decide ((queueOf t i).length < 16) && ringTurn t i then ackMailbox t i else t)

/-- An entry may begin (R476): it is the first of its mailbox that is not complete; with FENCE nothing acknowledged before
it is left; no earlier FENCE is left. -/
def mayBegin (s : State) (e : Entry) : Bool :=
  let before := s.cmds.filter (fun x => decide (x.id < e.id))
  e.st = .acked && !before.any (fun x => x.mbox == e.mbox) && (!e.msg.flags.getLsbD 0 || before.isEmpty) &&
    !before.any (fun x => x.msg.flags.getLsbD 0)

/-- The request that a message makes. -/
def reqOf (e : Entry) : Req :=
  { mbox := e.mbox, via := e.via, tag := e.msg.tag, fence := e.msg.flags.getLsbD 0, quiet := e.msg.flags.getLsbD 1,
    genCheck := e.msg.flags.getLsbD 2, cfgGen := e.msg.cfgGen, body := e.msg.body }

/-- RSV bits of the header are set (R468, R472). -/
def rsvSet (m : Msg) : Bool := (m.flags &&& 0xFC78#16) != 0

/-- Checks 1 to 3 of R472 and the command: the first failure decides. -/
def beginEntry (s : State) (e : Entry) : State :=
  let m := e.msg
  let s1 := { s with cmds := s.cmds.map (fun x => if x.id == e.id then { x with st := .started } else x) }
  let fail := fun (t : State) (st detail : Nat) =>
    respond t e.via e.mbox m.opcode m.tag false e.replayed st detail [] (some e.id)
  if 496 < m.length then fail s1 St.badLength 0
  else if m.crc.toNat != msgCrc m then
    fail (fireDetail s1 253 (e.mbox + ownerOf e.via * 16)) St.badArg 0xFFFF
  else if rsvSet m && s.life != 3 then fail s1 St.badOpcode 0
  else runCommand m.opcode (reqOf e) (some e.id) e.replayed s1

/-- A command that was to submit a sentence and did not leaves its mailbox free. -/
def freeUnsent (s : State) (e : Entry) : State :=
  if e.msg.opcode == 0x0301 && mbState s e.mbox == 2 && !s.waits.any (fun w => w.entry == some e.id) &&
      !(heldSentences s).any (fun x => x.mbox == some e.mbox) then setMbState s e.mbox 0
  else s

/-- COMMAND_BEGIN: the first command of mailbox i that has not begun; host sentences that waited for it may follow. -/
def execCommandBegin (i : Nat) (s : State) : Host.Outcome State Fault Refusal :=
  if !s.running then .next s
  else match (queueOf s i).find? (fun e => e.st = .acked) with
    | none => .next s
    | some e => if !mayBegin s e then .next s else .next (startSentences (freeUnsent (beginEntry s e) e))

/-! ### Spilled messages (R474) -/

/-- SPILL_RECORD_WRITE: the oldest message that firmware holds goes into Q243 once there is credit, and E255 fires. -/
def execSpillRecordWrite (s : State) : Host.Outcome State Fault Refusal :=
  match s.spill with
  | [] => .next s
  | m :: r =>
    if !s.running then .next s
    else match ownWrite s 243 (spillRecord s m.mbo m.bytes) with
      | none => .next s
      | some t =>
        let n := tget t.spillCount m.mbo 0 + 1
        let t1 := { t with spill := r, spillSeq := (t.spillSeq + 1) % 4294967296, spillCount := tput t.spillCount m.mbo n 0 }
        .next (fireDetail (completeEntry t1 m.entry) 255 (m.mbo % 8 + min n 255 * 256))

/-! ### Events (R35, R482 to R485) -/

/-- The host has enabled event e. -/
def eventEnabled (s : State) (e : Nat) : Bool := (s.reg ⟨.host, 0, 0x40 + 4 * (e / 32)⟩).toNat.testBit (e % 32)

/-- A firing joins the pending record of its event (R482). -/
def mergeEvent (s : State) (fi : Firing) (detail : Nat) : State :=
  let x := tget s.evts fi.event {}
  let y : EvtRec :=
    if x.count == 0 then { count := 1, detail := BitVec.ofNat 32 detail, stamp := fi.stamp, tsState := fi.tsState, late := fi.late }
    else { x with count := min 65535 (x.count + 1), detail := x.detail ||| BitVec.ofNat 32 detail, late := x.late || fi.late }
  { s with evts := tput s.evts fi.event y {} }

/-- EVENT_FIRE: firmware takes a fired event. -/
def execEventFire (e : Nat) (s : State) : Host.Outcome State Fault Refusal :=
  match s.fired.find? (fun x => x.event == e) with
  | none => .next s
  | some fi =>
    if !s.running then .next s
    else
      let d := eventDetail s fi
      let s1 := { eventTake s e with fired := s.fired.erase fi }
      .next (if eventEnabled s e then mergeEvent s1 fi d else s1)

/-- The KIND 4 record of an event (R483). -/
def eventRecord (s : State) (e : Nat) (x : EvtRec) : List Byte :=
  mkRecord { s.ownHdr 4 s.evtSeq with stamp := x.stamp, tsState := x.tsState }
    (le 4 (e % 256 + b2n x.late * 256 + x.count % 65536 * 65536) ++ le 4 x.detail.toNat)

/-- EVENT_RECORD_WRITE: the event unit in S1 writes a pending record into Q240 once there is credit. -/
def execEventRecordWrite (e : Nat) (s : State) : Host.Outcome State Fault Refusal :=
  let x := tget s.evts e {}
  if x.count == 0 || !s.shedUp 1 then .next s
  else match ownWrite s 240 (eventRecord s e x) with
    | none => .next s
    | some t => .next { t with evts := tdrop t.evts e, evtSeq := (t.evtSeq + 1) % 4294967296 }

/-! ### Warm restarts and the watchdog (R478 to R481, R550) -/

/-- WARM_RESTART: 0 a DUE in processor memory, 1 a failed self-check, 2 FW_RESTART. -/
def execWarmRestart (cause : Nat) (s : State) : Host.Outcome State Fault Refusal := .next (beginRestart s cause)

/-- An entry whose read returns DUE is not run (R480). -/
def dueEntry (s : State) (n : Nat) : State :=
  match s.cmds.find? (fun e => e.id == n) with
  | none => s
  | some e =>
    let s1 := { s with waits := s.waits.filter (fun w => w.entry != some n) }
    freeUnsent (respond s1 e.via e.mbox e.msg.opcode e.msg.tag false false St.restarted 0xFFFD [] (some n)) e

/-- The response saved with an entry is posted (R480). -/
def postSaved (s : State) (e : Entry) : State :=
  match e.saved with
  | none => s
  | some (g, st, d, data) =>
    respond (genAfter s g true st) e.via e.mbox e.msg.opcode e.msg.tag (e.msg.flags.getLsbD 1) e.replayed st d data (some e.id)

/-- A message that was never acknowledged is answered RESTARTED, and its mailbox is EMPTY (R479). -/
def answerFull (s : State) (i : Nat) : State :=
  if mbState s i != 1 then s
  else
    let m := parseMsg (mbiBytes s i 512)
    respond (setMbState s i 0) (tget s.mbFrom i .spi) i m.opcode m.tag false false St.restarted 0 [] none

/-- Every enabled flag that stands is forwarded again, marked LATE (R481). -/
def refireStanding (s : State) : State :=
  let late := ((List.range 253).filter (eventStanding s)).map (fun e =>
    ({ event := e, stamp := s.stamp, tsState := s.tsState, late := true } : Firing))
  { s with fired := s.fired.filter (fun f => decide (253 ≤ f.event)) ++ late }

/-- Entries that run, or run again, after the restart. -/
def markReplayed (s : State) : State :=
  { s with cmds := s.cmds.map (fun e => if e.st = .acked then { e with replayed := true } else e) }

/-- The processor's own open sentence is discarded under its RERUN_FAIL (R481). -/
def dropOwnSentence (s : State) : State :=
  let so := s.source 0x3000
  let s1 := s.putSource 0x3000 { so with sent := none, input := [] }
  if so.sent.isSome then s1.inc F.parse_RERUN_FAIL 0x3000 else s1

/-- The claim of R404 after a warm restart. -/
def reclaim (s : State) : State :=
  let s1 := { s with twin := { s.twin with ownedBefore := false } }
  if s.twin.ownedBefore && !s.owns && !(((livePeer s).map (·.owns)).getD false) then claimIlk s1 else s1

/-- WARM_RESTART_END (R479 to R481): `due` are the entries whose read returns DUE. -/
def endRestart (s : State) (due : List Nat) : State :=
  let s1 := { s.set F.host_RUNNING 0 1 with restarting := false, fwStarted := s.tod }
  let s2 := (s1.inc F.host_FW_RESTARTS 0).set F.host_PEND_W1C 0 (s1.get F.host_PEND_W1C 0 ||| 1)
  let s3 := due.foldl dueEntry s2
  let s4 := (s3.cmds.filter (fun e => e.st = .done)).foldl postSaved s3
  let s5 := (List.range 8).foldl answerFull s4
  let s6 := markReplayed (dropOwnSentence ((List.range 24).foldl abortCal s5))
  let n := (s6.cmds.filter (fun e => e.st = .acked)).length
  let s7 := fireDetail (refireStanding s6) 254 (s.restartCause % 4 + min n 65535 * 65536)
  startSentences (autoOut (reclaim s7))

/-- WARM_RESTART_END. -/
def execWarmRestartEnd (due : List Nat) (s : State) : Host.Outcome State Fault Refusal :=
  .next (if s.restarting then endRestart s due else s)

/-- Firmware, or the ROM in its recovery, has started the watchdog (R550). -/
def watchdogRuns (s : State) : Bool :=
  s.boot = .firmware || s.boot = .loaded || s.boot = .recovery

/-- WATCHDOG_EXPIRY (R550). -/
def execWatchdogExpiry (s : State) : Host.Outcome State Fault Refusal :=
  .next (if watchdogRuns s then hubReset s .watchdog else s)

end Sys2Proof.Machine
end

