-- ==== Sys2Proof/Machine/Boot.lean ====
section
/-! DEFINITION. PORST_N and the boot (R542, R548, R551 to R553): the raise of S4 and S1, the ROM's choice of a copy and its
recovery (R517, R552), the start of firmware, the base image (R518 to R520, R526, R527), and tamper (R565, R566). -/

namespace Sys2Proof.Machine

/-! ### Tamper (R565, R566) -/

/-- A tamper source becomes active: the wipe, the log entry, the flag, the tamper reset. -/
def tamperHit (s : State) (cause : Nat) : State :=
  let s1 := { s with tamperOn := s.tamperOn ++ [cause], refclk := s.refclk && cause != 5 }
  let s2 := if cause < 3 then s1.set F.sec_ACTIVE 0 (s1.get F.sec_ACTIVE 0 ||| 2 ^ cause) else s1
  let s3 := if cause == 3 then setRail s2 2 false else s2
  hubReset (raiseSec (logTamper (wipeTack s3) cause 0) Bit.scTamper) .tamper

/-- TAMPER_DETECT: an input that is not armed, and a source that is active already, make no tamper. -/
def execTamperDetect (cause : Nat) (s : State) : Host.Outcome State Fault Refusal :=
  .next (if 5 < cause || s.tamperOn.contains cause || (cause < 3 && !(s.get F.sec_ARMED 0).testBit cause) then s
    else tamperHit s cause)

/-- TAMPER_CLEAR: a source has been inactive for 1 ms; the boot goes on once none is left. -/
def execTamperClear (cause : Nat) (s : State) : Host.Outcome State Fault Refusal :=
  if !s.tamperOn.contains cause then .next s
  else
    let s1 := { s with tamperOn := s.tamperOn.filter (fun c => c != cause) }
    let left := (setBits 3 (s1.get F.sec_ACTIVE 0)).filter (fun i => i != cause)
    let s2 := s1.set F.sec_ACTIVE 0 (maskOf left)
    .next (if cause == 3 then setRail s2 2 true else s2)

/-! ### PORST_N (R17, R538, R548, R555, R565) -/

/-- Every rail is in range when PORST_N rises (R538). The spec gives no value for VCORE: a free value in 650 to 950 mV. -/
def railsAtRelease (s : State) : State :=
  let mv := 650 + (Config.freeWord s.drawn).toNat % 301
  let s1 := (((s.set F.pwr_IN_RANGE 0 127).set F.pwr_VANA_OK 0 1).set F.pwr_VCORE 0 mv).setB F.pwr_ECON 0 (decide (mv < 800))
  { s1 with railDown := [], brownRails := [], tamperOn := [], refclk := true, drawn := s1.drawn + 1 }

/-- The inputs armed at the release of PORST_N: in OPEN those that read low, else the burnt set (R565). -/
def armedAtRelease (s : State) (pins : BitVec 3) : BitVec 3 := if s.life == 0 then ~~~ pins else s.fuseArmed

/-- PORST_N: everything at its Reset value, the straps latched, and, outside OPEN, an armed input that reads high is a
tamper at once; HOST_RST_CAUSE then still shows PORST_N, the first of the two (R549). -/
def porst (straps : Straps) (s : State) : State :=
  let s1 := railsAtRelease (afterPorst s straps.vaonRose)
  let armed := armedAtRelease s1 straps.tamper
  let s2 := ((s1.set F.sec_ARMED 0 armed.toNat).set F.sec_KEYS_USED 0 s1.fuseKeys.length).setB F.twin_ROLE 0 straps.role
  let s3 := newNonce { s2 with bypassPin := straps.bypass }
  let hit := (List.range 3).filter (fun i => armed.getLsbD i && straps.tamper.getLsbD i)
  bypassClaim (if hit.isEmpty then s3 else setCause (hit.foldl tamperHit s3) F.host_PORST)

def execPorstN (straps : Straps) (s : State) : Host.Outcome State Fault Refusal := .next (porst straps s)

/-! ### S4, S1 and the ROM (R516, R517, R551, R552, R569) -/

/-- The copy is committed and its two signatures verify. -/
def copyOk (s : State) (c : Nat) : Bool := copySerial s c != 4294967295 && firmwareOk s c && imageOk s c

/-- The copy that is tried first: the committed one with the later SERIAL (R517); copy A where they are equal. -/
def firstCopy (s : State) : Nat :=
  if copySerial s 2 == 4294967295 then 1
  else if copySerial s 1 == 4294967295 then 2
  else if decide (0 < (copySerial s 2 + 4294967296 - copySerial s 1) % 4294967296) &&
      decide ((copySerial s 2 + 4294967296 - copySerial s 1) % 4294967296 < 2147483648) then 2
  else 1

/-- The ROM runs: in RETIRED it loads BYPASS_MASK and the boot ends; else it chooses a copy, or waits in recovery. -/
def romRuns (s : State) : State :=
  if s.life == 3 then followBypass { putMask s s.fuseMask with boot := .held }
  else
    let t := reloadKey s
    let a := firstCopy t
    if copyOk t a then { t.set F.host_COPY 0 a with boot := .rom }
    else if copyOk t (3 - a) then { t.set F.host_COPY 0 (3 - a) with boot := .rom, fellBack := true }
    else { t with boot := .recovery }

/-- Nothing holds the hub in reset: no tamper source, no brown-out. -/
def mayBoot (s : State) : Bool := s.tamperOn.isEmpty && s.brownRails.isEmpty

/-- SHED_RAISE_DONE: the boot's own S4 and S1, or the next shed of a plan. -/
def execShedRaiseDone (shed : Nat) (s : State) : Host.Outcome State Fault Refusal :=
  .next (if !mayBoot s then s
    else if s.boot = .waitS4 then (if shed == 4 then { raiseShed s 4 with boot := .waitS1 } else s)
    else if s.boot = .waitS1 then (if shed == 1 then romRuns (raiseShed s 1) else s)
    else planUp s shed)

/-- SHED_FAULT: without S4 or S1 the boot goes no further (log entry on the boot). -/
def execShedFault (shed : Nat) (s : State) : Host.Outcome State Fault Refusal :=
  .next (if !mayBoot s then s
    else if s.boot = .waitS4 then (if shed == 4 then { raisePower s Bit.pwShedFault with boot := .held } else s)
    else if s.boot = .waitS1 then (if shed == 1 then { raisePower s Bit.pwShedFault with boot := .held } else s)
    else planFault s shed)

/-- The ROM takes its message from MBI0. -/
def romTakes (s : State) : State := if mbState s 0 == 1 then (setMbState s 0 0).incWrap F.host_ACKS 0 else s

/-- IMAGE_COMMIT in the recovery: one that returns OK is followed by a software reset. -/
def cmdRomCommit (r : Req) (s : State) : CmdOut :=
  match cmdImageCommit r s with
  | .done t 0 d data b => .done { t with recoveryDue := true } 0 d data b
  | o => o

/-- ROM_RECOVERY (R552), and IDENT_GET in RETIRED (R569): on MBI0 over SPI only. -/
def execRomRecovery (r : Req) (opcode : Nat) (s : State) : Host.Outcome State Fault Refusal :=
  .next (if r.mbox != 0 || r.via != .spi then s
    else if s.boot = .recovery then
      let t := romTakes s
      if opcode == 0x0001 then runReq opcode false true cmdIdentGet r none false t
      else if opcode == 0x0101 then runReq opcode false true cmdImageWrite r none false t
      else if opcode == 0x0102 then runReq opcode false true cmdRomCommit r none false t
      else finish opcode false r none false (no t St.badOpcode)
    else if s.boot = .held && s.life == 3 && s.shedUp 1 then
      let t := romTakes s
      if opcode == 0x0001 then runReq opcode false true cmdIdentGet r none false t
      else finish opcode false r none false (no t St.denied)
    else s)

/-- RECOVERY_RESET. -/
def execRecoveryReset (s : State) : Host.Outcome State Fault Refusal :=
  .next (if s.recoveryDue then hubReset s .software else s)

/-! ### Firmware starts (R213, R268, R274, R341, R482, R542, R551) -/

/-- The reserved stalls (R213): number, SIZE_LOG2, MODE, READER. -/
def reservedStalls (s : State) : List (Nat × Nat × Nat × Nat) :=
  [(240, 16, 1, 1), (241, 16, 0, 1)] ++
  (if s.part.hasTwin then
    [(244, 16, 1, 4), (245, 16, 1, 4), (246, 16, 1, 4), (247, 16, 1, 4), (248, 16, 1, 2), (249, 16, 1, 2), (250, 16, 1, 2),
     (251, 16, 1, 2), (252, 21, 0, 2), (253, 21, 0, 2)] else []) ++
  [(242, 14, 1, 1), (243, 14, 1, 1), (254, 14, 0, 2), (255, 14, 0, 2)]

/-- One of them is allocated; firmware and the tether transmitter issue RUN themselves (R231). -/
def allocReserved (s : State) (e : Nat × Nat × Nat × Nat) : State :=
  match place s e.1 e.2.1 with
  | none => s
  | some a =>
    let t := stallAllocate s e.1 e.2.1 e.2.2.1 e.2.2.2 0 a
    if e.2.2.2 == 1 then t else runStall t e.1

/-- Firmware restores a remap entry (R274): CAUSE 3, POISON 0, and a zero word in the spare of a row outside the frame
buffers. -/
def restoreEntry (s : State) (e : Nat × Word) : State :=
  let s1 := ((s.setReg (F.map_ROW.addr e.1) e.2).set F.map_CAUSE e.1 3).set F.map_POISON e.1 0
  let w := 16 * s1.get F.map_ROW e.1 + e.1 / 64
  if s1.on F.map_VALID e.1 && decide (0x1200000 ≤ 8 * w) then s1.poke (8 * w) (List.replicate 8 0#8) else s1

/-- The remap tables are restored; the free spares follow (R273, R283). -/
def restoreMap (s : State) : State :=
  let t := s.persistMap.foldl restoreEntry s
  let fr := (List.range 16).map (freeSpares t)
  let m := fr.foldl min 64
  let t1 := ((t.set F.yard_FREE_MIN 0 m).set F.yard_BANK_MIN 0 ((fr.findIdx? (· == m)).getD 0)).setB F.yard_FULL 0 (m == 0)
  if m ≤ 8 then raiseYard t1 Bit.ydSpareLow else t1

/-- Flags that stand in S0 when firmware first runs are forwarded (R482, R556, R566). -/
def fireStanding (s : State) : State :=
  { s with fired := s.fired ++ ((List.range 253).filter (fun e => decide (244 ≤ e) && eventStanding s e)).map (fun e =>
      ({ event := e, stamp := s.stamp, tsState := s.tsState } : Firing)) }

/-- The sheds that firmware raises at boot. -/
def bootSheds (s : State) : List Nat := [2, 3, 5, 6, 7, 8, 9, 10, 11].filter (fun n => s.part.sheds.testBit n)

/-- FIRMWARE_START. -/
def startFirmware (s : State) : State :=
  let s1 := { (s.set F.host_ISSUE 0 0x0204).set F.host_RUNNING 0 1 with fwStarted := s.tod, boot := .firmware }
  let s2 := (restoreMap s1).set F.yard_GROOM_EN 0 1
  let s3 := (reservedStalls s2).foldl allocReserved s2
  let s4 := if s3.part.hasPixel then initPixelTables s3 else s3
  startPlan (fireStanding s4) (bootSheds s4) false

def execFirmwareStart (s : State) : Host.Outcome State Fault Refusal :=
  .next (if s.boot = .rom && mayBoot s then startFirmware s else s)

/-! ### The layout of the stalls at load (R212) -/

/-- Allocated stalls of the stall region with the size they have or are taking: (SIZE_LOG2, stall); `q` counts with size `k`. -/
def regionStalls (s : State) (q k : Nat) : List (Nat × Nat) :=
  ((List.range 256).filter (fun p => p != 252 && p != 253)).filterMap (fun p =>
    let n := if p == q then k else (stallShape s p).1
    if n == 0 then none else some (n, p))

/-- In descending size, equal sizes by number: where each starts. -/
def descending (l : List (Nat × Nat)) : List (Nat × Nat) :=
  let order := (List.range 21).flatMap (fun i => l.filter (fun e => e.1 == 20 - i))
  (order.foldl (fun (acc : Nat × List (Nat × Nat)) e => (acc.1 + 2 ^ e.1, acc.2 ++ [(e.2, acc.1)])) (stallRegion, [])).2

/-- A stall moves; unread records go with it. -/
def moveStall (s : State) (e : Nat × Nat) : State :=
  let x := s.stall e.1
  match x.reset.bind (·.newCfg) with
  | some c => s.putStall e.1 { x with reset := x.reset.map (fun r => { r with newCfg := some (c.1, e.2) }) }
  | none => s.putStall e.1 { x with base := e.2 }

/-- The ring of a stall that holds records. -/
def ringBytes (s : State) (e : Nat × Nat) : Option (Nat × List Byte) :=
  let x := s.stall e.1
  if x.lens.isEmpty || x.base == e.2 then none else some (e.2, s.peek x.base (stallSize s e.1))

/-- Firmware lays out every stall afresh in descending size, leaving room for stall `q` at size `k`. -/
def relayout (s : State) (q k : Nat) : State :=
  let plan := (descending (regionStalls s q k)).filter (fun e => (stallShape s e.1).1 != 0)
  let rings := plan.filterMap (ringBytes s)
  rings.foldl (fun t r => t.poke r.1 r.2) (plan.foldl moveStall s)

/-- An entry that sizes a stall: its stall and size. -/
def sizingEntry (e : Nat × List Byte) : Option (Nat × Nat) :=
  if e.1 == 0x0401 || e.1 == 0x01F7 then some (fld e.2 0 0 8, fld e.2 0 8 5) else none

/-! ### The base image (R518 to R520, R526, R527) -/

/-- What a load has come to: entries skipped because their unit is not fitted, and because they failed. -/
structure Load where
  st : State
  unfitted : Nat := 0
  failed : Nat := 0
deriving DecidableEq, Repr

/-- A stall that would not fit into what is free may fit once the stalls are laid out afresh. -/
def applySized (s : State) (e : Nat × List Byte) : Applied :=
  match applyEntry s e.1 e.2, sizingEntry e with
  | .failed, some (q, k) =>
    if 8 ≤ k && k ≤ 20 && regionUsed s q + 2 ^ k ≤ 0x400000 then applyEntry (relayout s q k) e.1 e.2 else .failed
  | r, _ => r

/-- One entry of the image (R519, R520). -/
def loadEntry (l : Load) (e : Nat × List Byte) : Load :=
  if !imageOpcode e.1 then { l with failed := l.failed + 1 }
  else match applySized l.st e with
    | .done t => { l with st := t }
    | .unfitted => { l with unfitted := l.unfitted + 1 }
    | .failed => { l with failed := l.failed + 1 }

/-- The header of the copy in use (R518). -/
def takeHeader (s : State) : State :=
  let c := s.get F.host_COPY 0
  let w := imageWord s c 0x14
  { s with
    image := { id := BitVec.ofNat 32 (imageWord s c 4), gen := BitVec.ofNat 32 (imageWord s c 8),
               defaultMode := if w.testBit 5 then none else some (w % 32),
               localOffset := sx 32 (imageWord s c 0x18), entries := imageEntries s c }
    gen := BitVec.ofNat 32 (imageWord s c 8) }

/-- Stored calibration coefficients come into force, on every channel before its KIND (R383). -/
def restoreCoefs (s : State) : State :=
  if !s.shedUp 6 then s
  else s.calSaved.foldl (fun t e =>
    let t1 := (t.setI F.ch_OFFSET e.1 e.2.1).set F.ch_GAIN e.1 e.2.2
    (t1.setI F.ch_T_OFFSET e.1 e.2.1).set F.ch_T_GAIN e.1 e.2.2) s

/-- The commits of the load, with both copies level afterwards (R520, R551). -/
def loadCommits (s : State) : State :=
  let s1 := if s.shedUp 2 then levelTables (swapTables s) else s
  if s1.part.hasPixel && s1.shedUp 5 && commitOk s1 then pixelCopyback (applyCommit s1) else s1

/-- The default mode (R527): the tables with its entries, what else they change, and whether it failed. -/
def loadMode (s : State) : State × Bool :=
  match s.image.defaultMode with
  | none => (loadCommits s, false)
  | some n =>
    if !s.sealed.contains n || slotRole s n == 2 || !slotSealOk s n then (loadCommits s, true)
    else match planSwitch s (some n) none with
      | .go t post => (post.foldl applyWork { loadCommits t with mode := some n }, false)
      | _ => (loadCommits s, true)

/-- The claim of R404: a primary claims, a secondary waits for its heartbeats. -/
def joinPair (s : State) : State :=
  let sec := s.part.hasTwin && s.on F.twin_ROLE 0 && !s.owns && !(((livePeer s).map (·.alive)).getD false)
  let s1 := { s with twin := { s.twin with joined := true, startup := sec } }
  showUnit (if s1.part.hasTwin && !s1.on F.twin_ROLE 0 then claimIlk s1 else s1)

/-- BOOT_DONE rises and the boot notice is posted (R526). -/
def bootDone (s : State) (unfitted failed : Nat) : State :=
  let s1 := (s.set F.host_BOOT_DONE 0 1).set F.host_PEND_W1C 0 (s.get F.host_PEND_W1C 0 ||| 2)
  postNotice { s1 with boot := .loaded } 0x0102 St.ok 0
    (le 4 unfitted ++ le 4 failed ++ le 4 (s1.get F.host_COPY 0) ++ le 4 (b2n s1.fellBack))

/-- BASE_IMAGE_LOAD: the entries in image order, the layout, the mode and the commits, BYPASS_MASK, the claim, BOOT_DONE. -/
def loadImage (s : State) : State :=
  let c := s.get F.host_COPY 0
  let s1 := restoreCoefs (takeHeader s)
  let l := s1.image.entries.foldl loadEntry { st := s1 }
  let lost := imageWord s c 0x10 - s1.image.entries.length
  let m := loadMode (relayout l.st 252 0)
  let s2 := joinPair (setMask (showLeds { m.1 with gen := s1.gen }))
  let s3 := bootDone s2 l.unfitted (l.failed + lost + b2n m.2)
  if s3.get F.time_SERVO 0 == 2 then catchUp s3 else if s3.tsState ≤ 1 then markSeen s3 else s3

def execBaseImageLoad (s : State) : Host.Outcome State Fault Refusal :=
  .next (if s.boot = .firmware && s.running && s.shedPlan.isNone then loadImage s else s)

end Sys2Proof.Machine
end

