-- ==== Sys2Proof/Machine/Dispatch.lean ====
section
/-! DEFINITION. The dispatch: one arm per command, each a direct call of that command's meaning. -/

namespace Sys2Proof.Machine

/-- The effect of a command on everything but the queue. -/
def exec (i : Instr) (s : State) : Host.Outcome State Fault Refusal :=
  match i with
  | .spiWrite addr words commit ovf => Sys2Proof.Machine.execSpiWrite addr words commit ovf s
  | .spiQwrite addr words commit ovf => Sys2Proof.Machine.execSpiQwrite addr words commit ovf s
  | .spiRead addr count late => Sys2Proof.Machine.execSpiRead addr count late s
  | .spiQread addr count late => Sys2Proof.Machine.execSpiQread addr count late s
  | .badInstr code => Sys2Proof.Machine.execBadInstr code s
  | .registerWrite r v => Sys2Proof.Machine.execRegisterWrite r v s
  | .w1cWrite r v latched => Sys2Proof.Machine.execW1cWrite r v latched s
  | .doorbell ring => Sys2Proof.Machine.execDoorbell ring s
  | .mboRel rel => Sys2Proof.Machine.execMboRel rel s
  | .swReset key => Sys2Proof.Machine.execSwReset key s
  | .fwRestart key => Sys2Proof.Machine.execFwRestart key s
  | .mailboxAck k => Sys2Proof.Machine.execMailboxAck k s
  | .commandBegin k => Sys2Proof.Machine.execCommandBegin k s
  | .spillRecordWrite => Sys2Proof.Machine.execSpillRecordWrite s
  | .sessionDatagram port bytes => Sys2Proof.Machine.execSessionDatagram port bytes s
  | .sidebandPacket mbox beats msg whole => Sys2Proof.Machine.execSidebandPacket mbox beats msg whole s
  | .eventFire e => Sys2Proof.Machine.execEventFire e s
  | .eventRecordWrite e => Sys2Proof.Machine.execEventRecordWrite e s
  | .warmRestart cause => Sys2Proof.Machine.execWarmRestart cause s
  | .warmRestartEnd due => Sys2Proof.Machine.execWarmRestartEnd due s
  | .watchdogExpiry => Sys2Proof.Machine.execWatchdogExpiry s
  | .nop r => Sys2Proof.Machine.execNop r s
  | .identGet r => Sys2Proof.Machine.execIdentGet r s
  | .echo r => Sys2Proof.Machine.execEcho r s
  | .imageWrite r => Sys2Proof.Machine.execImageWrite r s
  | .imageCommit r => Sys2Proof.Machine.execImageCommit r s
  | .overlayWrite r => Sys2Proof.Machine.execOverlayWrite r s
  | .overlaySeal r => Sys2Proof.Machine.execOverlaySeal r s
  | .modeSet r => Sys2Proof.Machine.execModeSet r s
  | .emergencySet r => Sys2Proof.Machine.execEmergencySet r s
  | .streamSet r => Sys2Proof.Machine.execStreamSet r s
  | .streamStatusGet r => Sys2Proof.Machine.execStreamStatusGet r s
  | .ethSet r => Sys2Proof.Machine.execEthSet r s
  | .ethStatusGet r => Sys2Proof.Machine.execEthStatusGet r s
  | .laneModeSet r => Sys2Proof.Machine.execLaneModeSet r s
  | .laneRxSet r => Sys2Proof.Machine.execLaneRxSet r s
  | .laneTxSet r => Sys2Proof.Machine.execLaneTxSet r s
  | .laneStatusGet r => Sys2Proof.Machine.execLaneStatusGet r s
  | .laneCntClr r => Sys2Proof.Machine.execLaneCntClr r s
  | .laneEvenSet r => Sys2Proof.Machine.execLaneEvenSet r s
  | .laneRearm r => Sys2Proof.Machine.execLaneRearm r s
  | .lanePaddockSet r => Sys2Proof.Machine.execLanePaddockSet r s
  | .laneRoleMove r => Sys2Proof.Machine.execLaneRoleMove r s
  | .routerSentenceSend r => Sys2Proof.Machine.execRouterSentenceSend r s
  | .routerEntryWrite r => Sys2Proof.Machine.execRouterEntryWrite r s
  | .routerActionWrite r => Sys2Proof.Machine.execRouterActionWrite r s
  | .routerGroupWrite r => Sys2Proof.Machine.execRouterGroupWrite r s
  | .routerCommit r => Sys2Proof.Machine.execRouterCommit r s
  | .routerEligibleSet r => Sys2Proof.Machine.execRouterEligibleSet r s
  | .routerBind r => Sys2Proof.Machine.execRouterBind r s
  | .routerRead r => Sys2Proof.Machine.execRouterRead r s
  | .routerStatusGet r => Sys2Proof.Machine.execRouterStatusGet r s
  | .routerHitsGet r => Sys2Proof.Machine.execRouterHitsGet r s
  | .parseSet r => Sys2Proof.Machine.execParseSet r s
  | .parseStatusGet r => Sys2Proof.Machine.execParseStatusGet r s
  | .voteJudgeOut r => Sys2Proof.Machine.execVoteJudgeOut r s
  | .voteJudgeIn r => Sys2Proof.Machine.execVoteJudgeIn r s
  | .voteCfgSet r => Sys2Proof.Machine.execVoteCfgSet r s
  | .voteStatusGet r => Sys2Proof.Machine.execVoteStatusGet r s
  | .stallConfig r => Sys2Proof.Machine.execStallConfig r s
  | .stallReset r => Sys2Proof.Machine.execStallReset r s
  | .stallStatusGet r => Sys2Proof.Machine.execStallStatusGet r s
  | .timePtpCfg r => Sys2Proof.Machine.execTimePtpCfg r s
  | .timeStatusGet r => Sys2Proof.Machine.execTimeStatusGet r s
  | .timeRefSet r => Sys2Proof.Machine.execTimeRefSet r s
  | .timeStep r => Sys2Proof.Machine.execTimeStep r s
  | .timeFrameSet r => Sys2Proof.Machine.execTimeFrameSet r s
  | .timePulseArm r => Sys2Proof.Machine.execTimePulseArm r s
  | .timePulseDisarm r => Sys2Proof.Machine.execTimePulseDisarm r s
  | .timeCapCfg r => Sys2Proof.Machine.execTimeCapCfg r s
  | .pixelSegmentWrite r => Sys2Proof.Machine.execPixelSegmentWrite r s
  | .pixelProfileWrite r => Sys2Proof.Machine.execPixelProfileWrite r s
  | .pixelZoneWrite r => Sys2Proof.Machine.execPixelZoneWrite r s
  | .pixelSourceWrite r => Sys2Proof.Machine.execPixelSourceWrite r s
  | .pixelCfgSet r => Sys2Proof.Machine.execPixelCfgSet r s
  | .pixelCurveWrite r => Sys2Proof.Machine.execPixelCurveWrite r s
  | .pixelCommit r => Sys2Proof.Machine.execPixelCommit r s
  | .pixelLevelSet r => Sys2Proof.Machine.execPixelLevelSet r s
  | .pixelZoneInput r => Sys2Proof.Machine.execPixelZoneInput r s
  | .pixelEncSet r => Sys2Proof.Machine.execPixelEncSet r s
  | .pixelGroupSet r => Sys2Proof.Machine.execPixelGroupSet r s
  | .pixelStatusGet r => Sys2Proof.Machine.execPixelStatusGet r s
  | .measChSet r => Sys2Proof.Machine.execMeasChSet r s
  | .measRead r => Sys2Proof.Machine.execMeasRead r s
  | .measTableSet r => Sys2Proof.Machine.execMeasTableSet r s
  | .measCalStart r => Sys2Proof.Machine.execMeasCalStart r s
  | .measCalAbort r => Sys2Proof.Machine.execMeasCalAbort r s
  | .measCoefSet r => Sys2Proof.Machine.execMeasCoefSet r s
  | .measParamSet r => Sys2Proof.Machine.execMeasParamSet r s
  | .twinStatusGet r => Sys2Proof.Machine.execTwinStatusGet r s
  | .twinCfgSet r => Sys2Proof.Machine.execTwinCfgSet r s
  | .twinSwap r => Sys2Proof.Machine.execTwinSwap r s
  | .twinClearFault r => Sys2Proof.Machine.execTwinClearFault r s
  | .sessionOpen r => Sys2Proof.Machine.execSessionOpen r s
  | .sessionClose r => Sys2Proof.Machine.execSessionClose r s
  | .keyEnroll r => Sys2Proof.Machine.execKeyEnroll r s
  | .lifeSet r => Sys2Proof.Machine.execLifeSet r s
  | .tamperLogGet r => Sys2Proof.Machine.execTamperLogGet r s
  | .yardStatusGet r => Sys2Proof.Machine.execYardStatusGet r s
  | .groomSet r => Sys2Proof.Machine.execGroomSet r s
  | .farrierMapGet r => Sys2Proof.Machine.execFarrierMapGet r s
  | .judgeTest r failStep => Sys2Proof.Machine.execJudgeTest r failStep s
  | .bypassSet r => Sys2Proof.Machine.execBypassSet r s
  | .countersClear r => Sys2Proof.Machine.execCountersClear r s
  | .shedSet r => Sys2Proof.Machine.execShedSet r s
  | .powerStatusGet r => Sys2Proof.Machine.execPowerStatusGet r s
  | .laneRxCntClr lane => Sys2Proof.Machine.execLaneRxCntClr lane s
  | .rearm lane => Sys2Proof.Machine.execRearm lane s
  | .laneTxCntClr lane => Sys2Proof.Machine.execLaneTxCntClr lane s
  | .parseCntClr src => Sys2Proof.Machine.execParseCntClr src s
  | .seqClr src => Sys2Proof.Machine.execSeqClr src s
  | .routerCntClr => Sys2Proof.Machine.execRouterCntClr s
  | .voteCntClr => Sys2Proof.Machine.execVoteCntClr s
  | .yardCntClr => Sys2Proof.Machine.execYardCntClr s
  | .snap => Sys2Proof.Machine.execSnap s
  | .pixelCntClr => Sys2Proof.Machine.execPixelCntClr s
  | .encCntClr lane => Sys2Proof.Machine.execEncCntClr lane s
  | .measCntClr => Sys2Proof.Machine.execMeasCntClr s
  | .strCntClr => Sys2Proof.Machine.execStrCntClr s
  | .ethCntClr port => Sys2Proof.Machine.execEthCntClr port s
  | .keep => Sys2Proof.Machine.execKeep s
  | .claim => Sys2Proof.Machine.execClaim s
  | .release => Sys2Proof.Machine.execRelease s
  | .laneModeWrite lane mode => Sys2Proof.Machine.execLaneModeWrite lane mode s
  | .laneRxBaudWrite lane v => Sys2Proof.Machine.execLaneRxBaudWrite lane v s
  | .laneTxBaudWrite lane v => Sys2Proof.Machine.execLaneTxBaudWrite lane v s
  | .addendWrite v => Sys2Proof.Machine.execAddendWrite v s
  | .groomEnWrite en => Sys2Proof.Machine.execGroomEnWrite en s
  | .stallNext q mis => Sys2Proof.Machine.execStallNext q mis s
  | .stallMark c => Sys2Proof.Machine.execStallMark c s
  | .stallRewind c => Sys2Proof.Machine.execStallRewind c s
  | .stallRelease q mis => Sys2Proof.Machine.execStallRelease q mis s
  | .stallDrop c => Sys2Proof.Machine.execStallDrop c s
  | .stallRun c => Sys2Proof.Machine.execStallRun c s
  | .stallTest c => Sys2Proof.Machine.execStallTest c s
  | .stallCntClr c => Sys2Proof.Machine.execStallCntClr c s
  | .stallNextRelease c => Sys2Proof.Machine.execStallNextRelease c s
  | .startBit lane level edge => Sys2Proof.Machine.execStartBit lane level edge s
  | .laneCharacter lane smp wave => Sys2Proof.Machine.execLaneCharacter lane smp wave s
  | .breakEnd lane => Sys2Proof.Machine.execBreakEnd lane s
  | .lineStuckLow lane => Sys2Proof.Machine.execLineStuckLow lane s
  | .laneArm lane => Sys2Proof.Machine.execLaneArm lane s
  | .talkerSilent lane => Sys2Proof.Machine.execTalkerSilent lane s
  | .fragment lane => Sys2Proof.Machine.execFragment lane s
  | .laneModeBoundary lane => Sys2Proof.Machine.execLaneModeBoundary lane s
  | .listenerGrant listener => Sys2Proof.Machine.execListenerGrant listener s
  | .hdxTurnReady lane => Sys2Proof.Machine.execHdxTurnReady lane s
  | .txLeadEnd lane => Sys2Proof.Machine.execTxLeadEnd lane s
  | .txCharacterEnd lane echo => Sys2Proof.Machine.execTxCharacterEnd lane echo s
  | .deTailEnd lane => Sys2Proof.Machine.execDeTailEnd lane s
  | .backoffEnd lane => Sys2Proof.Machine.execBackoffEnd lane s
  | .echoGuardEnd lane => Sys2Proof.Machine.execEchoGuardEnd lane s
  | .dmxBreak lane => Sys2Proof.Machine.execDmxBreak lane s
  | .dmxRxBreak lane low mab edge => Sys2Proof.Machine.execDmxRxBreak lane low mab edge s
  | .dmxRxPacketEnd lane => Sys2Proof.Machine.execDmxRxPacketEnd lane s
  | .senseEdge lane rising cycles edge => Sys2Proof.Machine.execSenseEdge lane rising cycles edge s
  | .senseOvf lane => Sys2Proof.Machine.execSenseOvf lane s
  | .noSignal lane => Sys2Proof.Machine.execNoSignal lane s
  | .parserByte src => Sys2Proof.Machine.execParserByte src s
  | .sentenceClose src fault => Sys2Proof.Machine.execSentenceClose src fault s
  | .classify fault => Sys2Proof.Machine.execClassify fault s
  | .enqueueCopy src fault => Sys2Proof.Machine.execEnqueueCopy src fault s
  | .stallRecordWrite q kind src seqn body mis => Sys2Proof.Machine.execStallRecordWrite q kind src seqn body mis s
  | .creditRequest q n => Sys2Proof.Machine.execCreditRequest q n s
  | .creditHandback q n => Sys2Proof.Machine.execCreditHandback q n s
  | .stallResetRun q => Sys2Proof.Machine.execStallResetRun q s
  | .routerSwap => Sys2Proof.Machine.execRouterSwap s
  | .routerCopybackDone => Sys2Proof.Machine.execRouterCopybackDone s
  | .vote upset => Sys2Proof.Machine.execVote upset s
  | .judgeInComplete => Sys2Proof.Machine.execJudgeInComplete s
  | .overrideApply lane atBoundary => Sys2Proof.Machine.execOverrideApply lane atBoundary s
  | .yardAccess reqs since => Sys2Proof.Machine.execYardAccess reqs since s
  | .groomPassStart => Sys2Proof.Machine.execGroomPassStart s
  | .groomPassEnd march verify => Sys2Proof.Machine.execGroomPassEnd march verify s
  | .farrierRemap bank row cause => Sys2Proof.Machine.execFarrierRemap bank row cause s
  | .farrierPersist => Sys2Proof.Machine.execFarrierPersist s
  | .tackAccess secure addr op flips => Sys2Proof.Machine.execTackAccess secure addr op flips s
  | .frameTick => Sys2Proof.Machine.execFrameTick s
  | .pulseEdge n => Sys2Proof.Machine.execPulseEdge n s
  | .timeCapEdge n rising edge => Sys2Proof.Machine.execTimeCapEdge n rising edge s
  | .ptpMessage port msg => Sys2Proof.Machine.execPtpMessage port msg s
  | .ptpTransmit kind => Sys2Proof.Machine.execPtpTransmit kind s
  | .servoMeasurement offset rate => Sys2Proof.Machine.execServoMeasurement offset rate s
  | .lockLost => Sys2Proof.Machine.execLockLost s
  | .refclkReturn => Sys2Proof.Machine.execRefclkReturn s
  | .streamCommit => Sys2Proof.Machine.execStreamCommit s
  | .seedDone => Sys2Proof.Machine.execSeedDone s
  | .laneFrameStart lane ready => Sys2Proof.Machine.execLaneFrameStart lane ready s
  | .segmentBoundary lane => Sys2Proof.Machine.execSegmentBoundary lane s
  | .underrun lane => Sys2Proof.Machine.execUnderrun lane s
  | .lampBitsEnd lane late => Sys2Proof.Machine.execLampBitsEnd lane late s
  | .latchWordStart lane => Sys2Proof.Machine.execLatchWordStart lane s
  | .frameLatched lane => Sys2Proof.Machine.execFrameLatched lane s
  | .pwmPeriodStart lane => Sys2Proof.Machine.execPwmPeriodStart lane s
  | .pwmActiveEnd lane => Sys2Proof.Machine.execPwmActiveEnd lane s
  | .measSample ch raw spare => Sys2Proof.Machine.execMeasSample ch raw spare s
  | .calSpareCheckDone ch p1 p2 => Sys2Proof.Machine.execCalSpareCheckDone ch p1 p2 s
  | .calSwitch ch => Sys2Proof.Machine.execCalSwitch ch s
  | .calPassEnd ch p => Sys2Proof.Machine.execCalPassEnd ch p s
  | .calGapEnd ch => Sys2Proof.Machine.execCalGapEnd ch s
  | .calReturn ch => Sys2Proof.Machine.execCalReturn ch s
  | .measCoefPersist => Sys2Proof.Machine.execMeasCoefPersist s
  | .streamLinkUp => Sys2Proof.Machine.execStreamLinkUp s
  | .streamLinkDown errors => Sys2Proof.Machine.execStreamLinkDown errors s
  | .streamSof b => Sys2Proof.Machine.execStreamSof b s
  | .streamSol b => Sys2Proof.Machine.execStreamSol b s
  | .streamDataBeat b => Sys2Proof.Machine.execStreamDataBeat b s
  | .streamEol b => Sys2Proof.Machine.execStreamEol b s
  | .streamEof b => Sys2Proof.Machine.execStreamEof b s
  | .creditReturn => Sys2Proof.Machine.execCreditReturn s
  | .ethLinkChange port up speedOk => Sys2Proof.Machine.execEthLinkChange port up speedOk s
  | .ethFrameReceived port bytes ago => Sys2Proof.Machine.execEthFrameReceived port bytes ago s
  | .e131SourceTimeout univ => Sys2Proof.Machine.execE131SourceTimeout univ s
  | .e131SyncTimeout sync => Sys2Proof.Machine.execE131SyncTimeout sync s
  | .ethTxFrameEnd port otherWaits => Sys2Proof.Machine.execEthTxFrameEnd port otherWaits s
  | .heartbeatSend => Sys2Proof.Machine.execHeartbeatSend s
  | .tetherFrameReceived header payload crc clean => Sys2Proof.Machine.execTetherFrameReceived header payload crc clean s
  | .heartbeatReceived hb => Sys2Proof.Machine.execHeartbeatReceived hb s
  | .peerLost => Sys2Proof.Machine.execPeerLost s
  | .keepAliveLapse => Sys2Proof.Machine.execKeepAliveLapse s
  | .holdInChange level => Sys2Proof.Machine.execHoldInChange level s
  | .claimWindowEnd => Sys2Proof.Machine.execClaimWindowEnd s
  | .replayEnd => Sys2Proof.Machine.execReplayEnd s
  | .intentWindowEnd => Sys2Proof.Machine.execIntentWindowEnd s
  | .intentReceived last part window items => Sys2Proof.Machine.execIntentReceived last part window items s
  | .compareWaitExpiry window line => Sys2Proof.Machine.execCompareWaitExpiry window line s
  | .yieldReceived verdict role => Sys2Proof.Machine.execYieldReceived verdict role s
  | .txcReport => Sys2Proof.Machine.execTxcReport s
  | .txcReceived final more tickN items => Sys2Proof.Machine.execTxcReceived final more tickN items s
  | .snapshotCopy => Sys2Proof.Machine.execSnapshotCopy s
  | .snapshotChunkReceived gen index data => Sys2Proof.Machine.execSnapshotChunkReceived gen index data s
  | .snapshotCommitReceived gen count crc markN len => Sys2Proof.Machine.execSnapshotCommitReceived gen count crc markN len s
  | .handoverMessageReceived stepNo revert reason cfgGen => Sys2Proof.Machine.execHandoverMessageReceived stepNo revert reason cfgGen s
  | .handoverDrained => Sys2Proof.Machine.execHandoverDrained s
  | .handoverLane lane => Sys2Proof.Machine.execHandoverLane lane s
  | .twinSwapTimeout => Sys2Proof.Machine.execTwinSwapTimeout s
  | .autoRevert => Sys2Proof.Machine.execAutoRevert s
  | .cfgCheckSend => Sys2Proof.Machine.execCfgCheckSend s
  | .cfgCheckReceived issue cfgGen imageId modeState => Sys2Proof.Machine.execCfgCheckReceived issue cfgGen imageId modeState s
  | .faultReceived code role windows => Sys2Proof.Machine.execFaultReceived code role windows s
  | .modeReqReceived slot req => Sys2Proof.Machine.execModeReqReceived slot req s
  | .resyncReceived => Sys2Proof.Machine.execResyncReceived s
  | .porstN straps => Sys2Proof.Machine.execPorstN straps s
  | .firmwareStart => Sys2Proof.Machine.execFirmwareStart s
  | .baseImageLoad => Sys2Proof.Machine.execBaseImageLoad s
  | .romRecovery r opcode => Sys2Proof.Machine.execRomRecovery r opcode s
  | .recoveryReset => Sys2Proof.Machine.execRecoveryReset s
  | .brownout rail => Sys2Proof.Machine.execBrownout rail s
  | .railFault rail => Sys2Proof.Machine.execRailFault rail s
  | .railRestored rail => Sys2Proof.Machine.execRailRestored rail s
  | .economy millivolts => Sys2Proof.Machine.execEconomy millivolts s
  | .shedRaiseDone shed => Sys2Proof.Machine.execShedRaiseDone shed s
  | .shedFault shed => Sys2Proof.Machine.execShedFault shed s
  | .tamperDetect cause => Sys2Proof.Machine.execTamperDetect cause s
  | .tamperClear cause => Sys2Proof.Machine.execTamperClear cause s
  | .serviceExpiry => Sys2Proof.Machine.execServiceExpiry s
  | .retireReset => Sys2Proof.Machine.execRetireReset s
  | .bypassPin level => Sys2Proof.Machine.execBypassPin level s
  | .bypassHandback pair => Sys2Proof.Machine.execBypassHandback pair s
  | .modeSwitch => Sys2Proof.Machine.execModeSwitch s
  | .scheduleFire n => Sys2Proof.Machine.execScheduleFire n s
  | .keyDebounce key level => Sys2Proof.Machine.execKeyDebounce key level s
  | .keyAction key => Sys2Proof.Machine.execKeyAction key s
  | .keyStuck key => Sys2Proof.Machine.execKeyStuck key s
  | .encoderTransition enc ab => Sys2Proof.Machine.execEncoderTransition enc ab s
  | .pixelCopybackDone => Sys2Proof.Machine.execPixelCopybackDone s
  | .leadCollision lane => Sys2Proof.Machine.execLeadCollision lane s
  | .brownoutEnd => Sys2Proof.Machine.execBrownoutEnd s
  | .tetherAlignment aligned => Sys2Proof.Machine.execTetherAlignment aligned s
  | .spareValidExpiry spare => Sys2Proof.Machine.execSpareValidExpiry spare s
  | .secondaryStartupClaim => Sys2Proof.Machine.execSecondaryStartupClaim s

end Sys2Proof.Machine
end

