-- ==== Sys2Proof/Machine/Pins.lean ====
section
/-! DEFINITION. The pins as the state sets them (R93, R316, R355, R361, R365, R367, R391, R392, R401, R545, R559): levels,
high-Z, and the symbols of the tether pairs. Where a moment inside a bit matters, it is an argument: that time is no state. -/

namespace Sys2Proof.Machine

/-- What the hub does with a pin (R93): nothing, or a driven level. -/
inductive PinLevel where
  | highZ
  | low
  | high
deriving DecidableEq, Repr

/-- A driven level. -/
def driveLevel (b : Bool) : PinLevel := if b then .high else .low

/-- LNn_TX and LNn_DE. -/
structure LanePins where
  tx : PinLevel
  de : PinLevel
deriving DecidableEq, Repr

/-- Both pins high-Z, as in OFF and in SENSE (R93). -/
def LanePins.off : LanePins := { tx := .highZ, de := .highZ }

/-- Both pins driven. -/
def LanePins.driven (tx de : Bool) : LanePins := { tx := driveLevel tx, de := driveLevel de }

/-! ### Who drives a lane (R93, R391, R401, R545, R559) -/

/-- The interlock lets the lane's pins drive: the unit owns it, or the lane is one that an agreed handover leaves to finish;
one that the peer still finishes waits (R401, R424). -/
def ilkDrives (s : State) (n : Nat) : Bool := (s.owns && !s.twin.taking.contains n) || s.twin.finishing.contains n

/-- The lane belongs to an engaged bypass pair (R559). -/
def inBypassPair (s : State) (n : Nat) : Bool := decide (n < s.part.lanes) && s.pairs.contains (n / 2)

/-- The lane's own unit is powered: its bank, and S5 for a pixel or PWM lane; and no paddock holds it (R93, R545). -/
def lanePowered (s : State) (n : Nat) : Bool :=
  decide (n < s.part.lanes) && s.laneUp n && !s.on F.tx_PADDOCK n && (!pixelMode (s.get F.tx_ACTIVE n) || s.shedUp 5)

/-! ### What a mode puts on the pins (R93, R97, R354 to R356, R361, R365, R367) -/

/-- Bit `j` of the character that a sentence or DMX transmitter is sending; the line is high outside characters (R93, R97).
A DMX packet's break and mark are time, so the slots alone are told. -/
def txBit (s : State) (n j : Nat) : Bool :=
  let x := s.txLane n
  if x.dmxRunning then (charBits false 0 2 0 (tget x.dmxImage x.pos 0).toNat).getD j true
  else match x.phase, x.granted with
    | .sending, some g => (sentBits s n g.body x.pos).getD j true
    | _, _ => true

/-- The level of a one-wire bit, `c` LBC cycles after its rising edge (R354). -/
def oneWire (x : EncLane) (b : Bool) (c : Nat) : Bool :=
  decide (c < frameField x (if b then F.enc_T1H else F.enc_T0H))

/-- The chain clock `c` LBC cycles into a bit: low for the first half of CLK_DIV cycles (R355). -/
def chainClock (x : EncLane) (c : Nat) : Bool := decide (frameField x F.enc_CLK_DIV / 2 ≤ c)

/-- A two-wire lane has bits on the wire: lamp bits, or its latch word (R355, R356). -/
def clocking (x : EncLane) : Bool := decide (x.phase = .sending) || decide (x.phase = .latching)

/-- The pins of an encoder lane, `c` cycles into the bit `b` (for a two-wire lane that waits: the last bit sent), each inverted
with POL 1 (R355, R361, R365, R367). -/
def encPins (s : State) (n : Nat) (b : Bool) (c : Nat) : LanePins :=
  let x := s.encLane n
  let pol := s.on F.enc_POL n
  match s.get F.tx_ACTIVE n with
  | 6 => .driven ((decide (x.phase = .sending) && oneWire x b c) != pol) false
  | 7 => .driven (b != pol) ((clocking x && chainClock x c) != pol)
  | _ => .driven (x.active != pol) false

/-- The pins in the mode in force (R93). `j` is the bit of a character, `b` and `c` say where an encoder's bit stands. -/
def modePins (s : State) (n j : Nat) (b : Bool) (c : Nat) : LanePins :=
  match s.get F.tx_ACTIVE n with
  | 1 | 5 => .driven true false
  | 2 | 3 | 4 => .driven (txBit s n j) (s.txLane n).de
  | 6 | 7 | 8 => encPins s n b c
  | _ => .off

/-- The pins of a lane of an engaged pair (R559): the odd lane repeats the even lane's input `rx`, the even lane is idle. -/
def bypassPins (n : Nat) (rx : Bool) : LanePins := if n % 2 == 1 then .driven rx true else .driven true false

/-- LNn_TX and LNn_DE (R93, R391, R401, R545, R559): high-Z without the interlock and without power. -/
def lanePins (s : State) (n j : Nat) (b : Bool) (c : Nat) (rx : Bool) : LanePins :=
  if !ilkDrives s n then .off
  else if inBypassPair s n then bypassPins n rx
  else if !lanePowered s n then .off
  else modePins s n j b c

/-- A lane drives at least one pin: what the line of a pair sees of it. -/
def drives (s : State) (n : Nat) : Bool := decide (lanePins s n 0 false 0 true ≠ .off)

/-! ### The other pins (R316, R403, R545) -/

/-- TIME_PULSE n (R316): high in a pulse, low outside one and while not armed; inverted with POLARITY 1. -/
def pulsePin (s : State) (n : Nat) : PinLevel := driveLevel ((tget s.pulses n {}).high != s.on F.pulse_POLARITY n)

/-- HOLD_OUT (R403, R427); a variant without the tether has no interlock. -/
def holdPin (s : State) : PinLevel := if s.part.hasTwin then driveLevel (s.on F.twin_HOLD_OUT 0) else .highZ

/-- The SGMII transmit pair of a port, STR_CRD and the tether pairs are driven only while S7 is up; their receive pairs are
terminated with them (R545). -/
def lvdsDriven (s : State) : Bool := s.shedUp 7

/-- MEAS_IN0 to MEAS_IN23 and the reference pins carry a load only while S6 is up (R545). -/
def measLoaded (s : State) : Bool := s.shedUp 6

/-! ### The tether's symbols (R392) -/

/-- A symbol of a tether pair. -/
inductive TetherSym where
  | idle
  | start
  | stop
  | data (b : Nat)
deriving DecidableEq, Repr

/-- What pair `j` sends for a frame of words (header, payload, CRC): byte j of each word between K27.7 and K29.7 (R392). -/
def pairSymbols (frame : List Word) (j : Nat) : List TetherSym :=
  [.start] ++ frame.map (fun w => .data (bits w.toNat (8 * j) 8)) ++ [.stop]

/-- The six-bit codes of the values 0 to 31 at negative running disparity, first bit most significant. PRESUMED: the published
8b/10b code, which R392 names and does not print. -/
def sixCodes : List Nat :=
  [0b100111, 0b011101, 0b101101, 0b110001, 0b110101, 0b101001, 0b011001, 0b111000,
   0b111001, 0b100101, 0b010101, 0b110100, 0b001101, 0b101100, 0b011100, 0b010111,
   0b011011, 0b100011, 0b010011, 0b110010, 0b001011, 0b101010, 0b011010, 0b111010,
   0b110011, 0b100110, 0b010110, 0b110110, 0b001110, 0b101110, 0b011110, 0b101011]

/-- The four-bit codes of the values 0 to 7 at negative running disparity. PRESUMED, as above. -/
def fourCodes : List Nat := [0b1011, 0b1001, 0b0101, 0b1100, 0b1101, 0b1010, 0b0110, 0b1110]

/-- Ones among the low `w` bits. -/
def onesOf (w v : Nat) : Nat := (setBits w v).length

/-- A code at running disparity `pos`: complemented after a positive one, where it is unbalanced or one of the two balanced
codes `twin` that alternate. -/
def codeAt (w twin : Nat) (pos : Bool) (v : Nat) : Nat :=
  if pos && (2 * onesOf w v != w || v == twin) then 2 ^ w - 1 - v else v

/-- The running disparity after a code: an unbalanced one flips it. -/
def runAfter (w : Nat) (pos : Bool) (v : Nat) : Bool := pos != (2 * onesOf w v != w)

/-- The four-bit code of y after the six-bit code of x: the alternate one of 7 keeps five equal bits from standing together. -/
def fourAt (x y : Nat) (pos : Bool) : Nat :=
  let alt := y == 7 && (if pos then [11, 13, 14].contains x else [17, 18, 20].contains x)
  if alt then (if pos then 0b1000 else 0b0111) else codeAt 4 0b1100 pos (fourCodes.getD y 0)

/-- The ten bits of a data byte. -/
def dataCode (b : Nat) (pos : Bool) : Nat :=
  let six := codeAt 6 0b111000 pos (sixCodes.getD (b % 32) 0)
  six * 16 + fourAt (b % 32) (b / 32 % 8) (runAfter 6 pos six)

/-- The ten bits of a symbol at a running disparity: K28.5, K27.7 and K29.7 are the controls (R392). -/
def tenBits (pos : Bool) (x : TetherSym) : Nat :=
  match x with
  | .idle => codeAt 10 0 pos 0b0011111010
  | .start => if pos then 0b0010010111 else 0b1101101000
  | .stop => if pos then 0b0100010111 else 0b1011101000
  | .data b => dataCode b pos

/-- The codes a pair sends for symbols, from its own running disparity (R392). -/
def pairCodes (pos : Bool) : List TetherSym → List Nat
  | [] => []
  | x :: r => tenBits pos x :: pairCodes (runAfter 10 pos (tenBits pos x)) r

end Sys2Proof.Machine
end

