-- ==== Sys2Proof/WellFormed.lean ====
section
/-! DEFINITION. Well-formed commands: operands inside the ranges that the spec's own field widths and object numbers
give them (R4, R13, R33, R125, R249, R289, R457). A command that is not well formed names nothing of the hub. -/

namespace Sys2Proof

/-- A lane number (L0 to L95). -/
def wfLane (n : Nat) : Bool := decide (n < 96)

/-- A stall number (Q0 to Q255). -/
def wfStall (q : Nat) : Bool := decide (q < 256)

/-- A source ID of R125. -/
def wfSource (n : Nat) : Bool := decide (n < 96) || n == 0x1000 || n == 0x1001 || n == 0x2000 || n == 0x3000

/-- An edge lies in one of the eight LBC cycles of 20 ns (R289). -/
def wfEdge (e : EdgeAt) : Bool := decide (e.m < 8)

/-- A mailbox request: eight mailboxes, a body of at most 496 bytes (R468). -/
def wfReq (r : Req) : Bool := decide (r.mbox < 8) && decide (r.body.length ≤ 496)

/-- A yard request: a port P0 to P7 and 1 to 8 bytes (R249). -/
def wfYard (r : YardReq) : Bool :=
  decide (r.port < 8) && (match r.op with
    | .read n => decide (1 ≤ n) && decide (n ≤ 8)
    | .write bs => decide (1 ≤ bs.length) && decide (bs.length ≤ 8))

/-- A register address is a whole word of its block. -/
def wfReg (r : RegAddr) : Bool := r.off % 4 == 0 && decide (r.off < 4096) && decide (r.inst < 65536)

/-- The well-formedness of a command. -/
def WellFormed (i : Instr) : Bool :=
  match i with
  | .spiWrite _ w _ _ | .spiQwrite _ w _ _ => decide (w.length ≤ 1024)
  | .spiRead _ n _ | .spiQread _ n _ => decide (n ≤ 1024)
  | .registerWrite r _ => wfReg r
  | .w1cWrite r _ _ => wfReg r
  | .mailboxAck k | .commandBegin k => decide (k < 8)
  | .sidebandPacket m b _ _ => decide (m < 8) && decide (b ≤ 32)
  | .eventFire e | .eventRecordWrite e => decide (e < 256)
  | .warmRestart c => decide (c < 3)
  | .nop r | .identGet r | .echo r | .imageWrite r | .imageCommit r | .overlayWrite r | .overlaySeal r
  | .modeSet r | .emergencySet r | .streamSet r | .streamStatusGet r | .ethSet r | .ethStatusGet r
  | .laneModeSet r | .laneRxSet r | .laneTxSet r | .laneStatusGet r | .laneCntClr r | .laneEvenSet r
  | .laneRearm r | .lanePaddockSet r | .laneRoleMove r | .routerSentenceSend r | .routerEntryWrite r
  | .routerActionWrite r | .routerGroupWrite r | .routerCommit r | .routerEligibleSet r | .routerBind r
  | .routerRead r | .routerStatusGet r | .routerHitsGet r | .parseSet r | .parseStatusGet r | .voteJudgeOut r
  | .voteJudgeIn r | .voteCfgSet r | .voteStatusGet r | .stallConfig r | .stallReset r | .stallStatusGet r
  | .timePtpCfg r | .timeStatusGet r | .timeRefSet r | .timeStep r | .timeFrameSet r | .timePulseArm r
  | .timePulseDisarm r | .timeCapCfg r | .pixelSegmentWrite r | .pixelProfileWrite r | .pixelZoneWrite r
  | .pixelSourceWrite r | .pixelCfgSet r | .pixelCurveWrite r | .pixelCommit r | .pixelLevelSet r
  | .pixelZoneInput r | .pixelEncSet r | .pixelGroupSet r | .pixelStatusGet r | .measChSet r | .measRead r
  | .measTableSet r | .measCalStart r | .measCalAbort r | .measCoefSet r | .measParamSet r | .twinStatusGet r
  | .twinCfgSet r | .twinSwap r | .twinClearFault r | .sessionOpen r | .sessionClose r | .keyEnroll r
  | .lifeSet r | .tamperLogGet r | .yardStatusGet r | .groomSet r | .farrierMapGet r | .bypassSet r
  | .countersClear r | .shedSet r | .powerStatusGet r | .romRecovery r _ => wfReq r
  | .judgeTest r n => wfReq r && decide (n ≤ 201)
  | .laneRxCntClr n | .rearm n | .laneTxCntClr n | .encCntClr n | .laneRxBaudWrite n _ | .laneTxBaudWrite n _ => wfLane n
  | .laneModeWrite n m => wfLane n && decide (m < 16)
  | .parseCntClr n | .seqClr n | .parserByte n | .sentenceClose n _ | .enqueueCopy n _ => wfSource n
  | .ethCntClr p | .ethTxFrameEnd p _ | .ethLinkChange p _ _ | .ptpMessage p _ | .ethFrameReceived p _ _
  | .sessionDatagram p _ => decide (p < 2)
  | .stallNext q _ | .stallRelease q _ | .creditRequest q _ | .creditHandback q _ | .stallResetRun q => wfStall q
  | .stallMark c | .stallRewind c | .stallDrop c | .stallRun c | .stallTest c | .stallCntClr c | .stallNextRelease c => wfStall c.q
  | .stallRecordWrite q k _ _ b _ => wfStall q && decide (k < 16) && decide (b.length < 65536)
  | .startBit n _ e => wfLane n && wfEdge e
  | .laneCharacter n c w => wfLane n && wfEdge c.edge && decide (w.length ≤ 16)
  | .breakEnd n | .lineStuckLow n | .laneArm n | .talkerSilent n | .fragment n | .laneModeBoundary n | .hdxTurnReady n
  | .txLeadEnd n | .txCharacterEnd n _ | .deTailEnd n | .backoffEnd n | .echoGuardEnd n | .dmxBreak n
  | .dmxRxPacketEnd n | .senseOvf n | .noSignal n | .overrideApply n _ | .laneFrameStart n _ | .segmentBoundary n
  | .underrun n | .lampBitsEnd n _ | .latchWordStart n | .frameLatched n | .pwmPeriodStart n | .pwmActiveEnd n
  | .handoverLane n | .leadCollision n => wfLane n
  | .dmxRxBreak n _ _ e => wfLane n && wfEdge e
  | .senseEdge n _ _ e => wfLane n && wfEdge e
  | .listenerGrant n => decide (n < 98)
  | .yardAccess rs _ => rs.all wfYard && decide (rs.length ≤ 8)
  | .farrierRemap b r c => decide (b < 16) && decide (r < 262144) && decide (c < 4)
  | .pulseEdge n => decide (n < 8)
  | .timeCapEdge n _ e => decide (n < 8) && wfEdge e
  | .measSample c _ _ | .calSpareCheckDone c _ _ | .calSwitch c | .calPassEnd c _ | .calGapEnd c | .calReturn c =>
    decide (c < 24)
  | .spareValidExpiry m => decide (m < 2)
  | .intentReceived _ p _ l => decide (p < 128) && decide (l.length ≤ 170)
  | .txcReceived _ _ _ l => decide (l.length ≤ 256)
  | .shedRaiseDone n | .shedFault n => decide (n < 12)
  | .brownout r | .railFault r | .railRestored r => decide (r < 8)
  | .tamperDetect c | .tamperClear c => decide (c < 6)
  | .bypassHandback k => decide (k < 48)
  | .keyDebounce k _ | .keyAction k | .keyStuck k => decide (k < 16)
  | .encoderTransition e _ => decide (e < 8)
  | .badInstr _ | .doorbell _ | .mboRel _ | .swReset _ | .fwRestart _ | .spillRecordWrite | .warmRestartEnd _
  | .watchdogExpiry | .routerCntClr | .voteCntClr | .yardCntClr | .snap | .pixelCntClr | .measCntClr | .strCntClr
  | .keep | .claim | .release | .addendWrite _ | .groomEnWrite _
  | .classify _ | .routerSwap | .routerCopybackDone | .vote _ | .judgeInComplete | .groomPassStart
  | .groomPassEnd _ _ | .farrierPersist | .tackAccess _ _ _ _ | .frameTick | .ptpTransmit _
  | .servoMeasurement _ _ | .lockLost | .refclkReturn | .streamCommit | .seedDone | .measCoefPersist
  | .streamLinkUp | .streamLinkDown _ | .streamSof _ | .streamSol _ | .streamDataBeat _ | .streamEol _
  | .streamEof _ | .creditReturn | .e131SourceTimeout _ | .e131SyncTimeout _ | .heartbeatSend
  | .tetherFrameReceived _ _ _ _ | .heartbeatReceived _ | .peerLost | .keepAliveLapse | .holdInChange _
  | .claimWindowEnd | .replayEnd | .intentWindowEnd | .compareWaitExpiry _ _ | .yieldReceived _ _ | .txcReport
  | .snapshotCopy | .snapshotChunkReceived _ _ _ | .snapshotCommitReceived _ _ _ _ _
  | .handoverMessageReceived _ _ _ _ | .handoverDrained | .twinSwapTimeout | .autoRevert | .cfgCheckSend
  | .cfgCheckReceived _ _ _ _ | .faultReceived _ _ _ | .modeReqReceived _ _ | .resyncReceived | .porstN _
  | .firmwareStart | .baseImageLoad | .recoveryReset | .economy _ | .serviceExpiry | .retireReset | .bypassPin _
  | .modeSwitch | .scheduleFire _ | .pixelCopybackDone | .brownoutEnd | .tetherAlignment _
  | .secondaryStartupClaim => true

end Sys2Proof
end

