-- ==== Sys2Proof/Safety.lean ====
section
/-! DEFINITION. What claims speak of: canonical memories, the parts of the state that a command leaves, when firmware
carries out a mailbox request, and how it answers one. -/

namespace Sys2Proof.Machine

/-- Every memory of the hub is in its canonical form: addresses strictly rise and no entry is what an unlisted address
reads as. -/
def State.memWf (s : State) : Bool :=
  yardWfFrom s.tablesReady 0 s.yard && Memory.wf 0xFF s.flash && Memory.wf 0 s.tack && Memory.wf 0 s.mbi &&
    Memory.wf 0 s.mbo

/-- The bits of a register that belong to the fields listed, each with its object number. -/
def namedBits (l : List (Field × Nat)) (r : RegAddr) : Word :=
  BitVec.ofNat 32 ((l.filter (fun e => e.1.addr e.2 = r)).foldl (fun m e => m ||| e.1.mask) 0)

/-- Every register bit but those of the fields listed is as it was. -/
def keepsRegsBut (l : List (Field × Nat)) (s t : State) : Prop :=
  ∀ r : RegAddr, wfReg r = true → t.reg r &&& ~~~ namedBits l r = s.reg r &&& ~~~ namedBits l r

/-- Every register that `p` does not pick is as it was. -/
def keepsRegsOutside (p : RegAddr → Bool) (s t : State) : Prop :=
  ∀ r : RegAddr, wfReg r = true → p r = false → t.reg r = s.reg r

/-- Every register but one is as it was. -/
def keepsRegsExcept (q : RegAddr) (s t : State) : Prop := keepsRegsOutside (fun r => r == q) s t

/-- The RW fields of a register hold those of `w`, and its other bits are as they were (R15). -/
def rwWritten (q : RegAddr) (w : Word) (s t : State) : Prop :=
  t.reg q = (s.reg q &&& ~~~ regMask q (fun a => a == .rw)) ||| (w &&& regMask q (fun a => a == .rw))

/-- Firmware carries out a mailbox request: it runs, the hub is not retired (R569) and the request's generation is not
stale (R472 check 4, R477). -/
def takes (s : State) (r : Req) : Bool := s.running && s.life != 3 && (!r.genCheck || r.cfgGen == s.gen)

/-- The answer OK with data to a request (R469, R473): where `g`, the configuration generation steps first (R477). -/
def answered (op : Nat) (g : Bool) (r : Req) (t : State) (data : List Byte) : State :=
  respond (if g then stepGen t else t) r.via r.mbox op r.tag r.quiet false St.ok 0 data none

/-- The answer with a status other than OK: nothing else changes (R490). -/
def refusedWith (op st : Nat) (r : Req) (s : State) : State :=
  respond s r.via r.mbox op r.tag r.quiet false st 0 [] none

/-- A flag bit is latched, and its event fires, now, where the bit rose under its enable (R16, R35). -/
def flagged (fl ev : Field) (i bit e : Nat) (s t : State) : Prop :=
  t.get fl i = s.get fl i ||| 2 ^ bit ∧
    t.fired = s.fired ++ (if !(s.get fl i).testBit bit && (s.get ev i).testBit bit then
      [{ event := e, stamp := s.stamp, tsState := s.tsState }] else [])

/-- A HOST_ERR bit is latched, and E252 fires where the bit rose (R466, R485). -/
def hostFlagged (bit : Nat) (s t : State) : Prop :=
  t.get F.host_ERR 0 = s.get F.host_ERR 0 ||| 2 ^ bit ∧
    t.fired = s.fired ++ (if (s.get F.host_ERR 0).testBit bit then [] else
      [{ event := 252, stamp := s.stamp, tsState := s.tsState }])

/-- Only the registers and the firings may differ. -/
def onlyRegs (s t : State) : Prop := t = { s with regs := t.regs, fired := t.fired }

/-- The fields of an object read 0 and nothing else has changed. -/
def cleared (fs : List Field) (i : Nat) (s t : State) : Prop :=
  t = { s with regs := t.regs } ∧ (∀ f ∈ fs, t.get f i = 0) ∧ keepsRegsBut (fs.map (fun f => (f, i))) s t

/-- Bytes written into a memory from an address: every byte, written or not, reads as it must. -/
def wroteBytes (m m' : List Host.Cell) (d : Byte) (a : Nat) (bs : List Byte) : Prop :=
  ∀ x, memByte m' d x = if a ≤ x ∧ x < a + bs.length then bs.getD (x - a) 0 else memByte m d x

end Sys2Proof.Machine
end

