-- ==== Sys2Proof/Certificates/Slice0/Obligations.lean ====
section
/-! DEFINITION. The statements for the provers, each a proposition about the machine. -/

open Sys2Proof Sys2Proof.Machine

/-- With a command at the front of the queue, a step is that command carried out on the hub with the rest of the queue.
With none waiting, a step is one tick of the time unit: while REFCLK is present SEC, NS and FRAC together add 4 ns +
ADJ × 2^-32 ns modulo 2^48 s, and nothing else changes; while REFCLK is absent nothing changes. That the tick is what
an idle step does is the model's choice (the log entry on the tick). (R285, R286, R287) -/
def Obligations.StepTakesTheFrontCommand : Prop :=
  (∀ (s : State) (c : Instr) (rest : List Instr), s.pending = c :: rest → step s = exec c { s with pending := rest }) ∧
  (∀ s : State, s.pending = [] → s.refclk = true → step s = .next { s with
    tod := ((s.tod : Int) + 4 * 2 ^ 32 + sx 32 (s.get F.time_ADJ 0)).toNat % (2 ^ 48 * 10 ^ 9 * 2 ^ 32) }) ∧
  (∀ s : State, s.pending = [] → s.refclk = false → step s = .next s)

/-- Right after PORST_N every register word is what its fields' Reset values give; HOST_FW shows no firmware running,
HOST_RST_CAUSE shows PORST alone, POWER_SHEDS.UP shows S0 alone, every mailbox is EMPTY and free, time of day and ADJ
are 0, no lane's bank is powered, no command is waiting, and no event has fired. The yard, the flash, the tack room
and the mailbox memories are in canonical form: each lists its bytes in rising order, none of them equal to what an
unlisted byte reads as. (R4, R17, R275, R285, R287, R464, R466, R467, R468, R548, R568) -/
def Obligations.ResetLeavesResetValues : Prop :=
  (∀ r : RegAddr, State.reset.reg r = resetWord r) ∧ State.reset.running = false ∧
  State.reset.get F.host_BOOT_DONE 0 = 0 ∧ State.reset.reg ⟨.host, 0, 0x14⟩ = 1#32 ∧ State.reset.get F.pwr_UP 0 = 1 ∧
  State.reset.get F.host_STATE 0 = 0 ∧ State.reset.get F.host_FULL 0 = 0 ∧ State.reset.tod = 0 ∧
  State.reset.get F.time_ADJ 0 = 0 ∧ (∀ n, State.reset.laneUp n = false) ∧ State.reset.pending = [] ∧ State.reset.fired = [] ∧
  State.reset.memWf = true

/-- Whatever command is at the front of the queue, and in whatever state the hub is: if every memory lists its bytes in
rising order without a byte that an unlisted address reads as, then after the step each memory does so again. Two
memories that read alike are thus the same data, after every step as before it. (R13, R248, R275, R468, R516) -/
def Obligations.EveryStepKeepsMemoriesCanonical : Prop :=
  ∀ s t : State, s.memWf = true → step s = .next t → t.memWf = true

/-- Every step answers a next state: no command stops the hub. What waits after the step is the queue without its front
command, so no command puts another into the queue or takes one out, and the variant and its stepping (HOST_ID.PART,
HOST_ID.STEPPING) are as before. (R4, R464) -/
def Obligations.EveryStepTakesOneCommand : Prop :=
  ∀ s : State, ∃ t, step s = .next t ∧ t.pending = s.pending.tail ∧ t.part = s.part ∧ t.stepping = s.stepping

/-- A request that firmware carries out, of the LENGTH its row gives, is answered OK and nothing else changes: NOP with no
data; IDENT_GET with the eight words of R495 (HOST_ID, HOST_FW, HOST_CAP0, HOST_CAP1, the configuration generation,
the image's identifier, the mode word, the seconds since firmware last started, holding at 0xFFFF_FFFF); ECHO with the
body it was sent, up to 492 bytes, and BAD_LENGTH above that. (R464, R465, R469, R473, R494, R495) -/
def Obligations.IdentityCommandsAnswer : Prop :=
  ∀ (r : Req) (s : State), takes s r = true →
    (r.body = [] → exec (.nop r) s = .next (answered 0x0000 false r s [])) ∧
    (r.body = [] → exec (.identGet r) s = .next (answered 0x0001 false r s
      (le 4 (hostWord s 0x00).toNat ++ le 4 (hostWord s 0x04).toNat ++ le 4 (hostWord s 0x08).toNat ++
        le 4 (hostWord s 0x0C).toNat ++ le 4 s.gen.toNat ++ le 4 s.image.id.toNat ++ le 4 (modeWord s) ++
        le 4 (min 0xFFFFFFFF ((s.tod - s.fwStarted) / 4294967296000000000))))) ∧
    (r.body.length ≤ 492 → exec (.echo r) s = .next (answered 0x0002 false r s r.body)) ∧
    (492 < r.body.length → exec (.echo r) s = .next (refusedWith 0x0002 St.badLength r s))

/-- With OFFSET a multiple of 4, 4 to 488 data bytes and none past the 4 MiB copy, IMAGE_WRITE answers OK. It addresses
copy B (0x400000) while copy A is in use (HOST_FW.COPY 1), else copy A. A sector that it reaches for the first time
since boot or the last commit, and on the first write the sector of the copy's header, reads 0xFF before it is
programmed. Every byte of flash then reads: in the addressed range, but for copy offsets 0x3C to 0x3F, the AND of what
stood there and the byte written; everywhere else what stood there. Apart from the flash, the record of erased sectors
and the mark that a write has begun, nothing changes. (R496, R514, R516) -/
def Obligations.ImageWriteProgramsTheCopyNotInUse : Prop :=
  ∀ (r : Req) (s : State), takes s r = true → 8 ≤ r.body.length → r.body.length ≤ 492 → u32 r.body 0 % 4 = 0 →
    u32 r.body 0 + (r.body.length - 4) ≤ 0x400000 →
    let copy := if s.get F.host_COPY 0 == 1 then 0x400000 else 0
    let first := copy + u32 r.body 0
    let last := first + (r.body.length - 4) - 1
    let fresh := fun sector : Nat =>
      ((sector = first / 65536 ∨ sector = last / 65536) ∧ (s.imageTouched = false ∨ sector ∉ s.erased)) ∨
        (sector = copy / 65536 ∧ s.imageTouched = false)
    ∃ t, exec (.imageWrite r) s = .next (answered 0x0101 false r t []) ∧
      t = { s with flash := t.flash, erased := t.erased, imageTouched := true } ∧
      ∀ a, ∃ before, (fresh (a / 65536) → before = 0xFF#8) ∧ (¬ fresh (a / 65536) → before = memByte s.flash 0xFF a) ∧
        memByte t.flash 0xFF a =
          if first ≤ a ∧ a ≤ last ∧ ¬ (copy + 0x3C ≤ a ∧ a < copy + 0x40) then before &&& byteAt r.body (4 + (a - first))
          else before

/-- IMAGE_COMMIT of LENGTH 4 with SIZE 1 to 4 MiB: where the format, the firmware signature and the image's signature of
the copy not in use verify, it answers OK with the entries skipped and the image's CFG_GEN, having programmed the four
bytes at copy offset 0x3C with the next SERIAL; where one fails, SIGNATURE. OVERLAY_WRITE of 4 to 488 bytes within
16,384 of a slot not in force: the slot is unsealed, and in a yard free of symbol errors the yard bytes of the slot at
OFFSET read as sent and every other yard byte below the groom's save buffers as before, with every register as before.
OVERLAY_SEAL of LENGTH 8 with SIZE 1 to 16,384: sealed where SIZE, FORMAT, ROLE, BASE_ID, the signature and the
entries' opcodes pass; else SIGNATURE and the slot as it was. (R496, R515, R516, R521, R522) -/
def Obligations.ImageCommitAndOverlaysStore : Prop :=
  ∀ (r : Req) (s : State), takes s r = true →
    let copy := if s.get F.host_COPY 0 == 1 then 2 else 1
    let at3C := (if s.get F.host_COPY 0 == 1 then 0x400000 else 0) + 0x3C
    let slot := fld r.body 0 0 5
    let start := 0x1F00000 + 16384 * slot + fld r.body 0 16 16
    let n := r.body.length - 4
    (r.body.length = 4 → 1 ≤ u32 r.body 0 → u32 r.body 0 ≤ 0x400000 → firmwareOk s copy = true → imageOk s copy = true →
      ∃ t, exec (.imageCommit r) s = .next (answered 0x0102 false r t
          (le 4 (unfittedCount s (imageEntries s copy)) ++ le 4 (imageWord s copy 8))) ∧
        t = { s with flash := t.flash, imageTouched := false } ∧
        (∀ a, memByte t.flash 0xFF a = if at3C ≤ a ∧ a < at3C + 4
          then memByte s.flash 0xFF a &&& (le 4 (nextSerial s)).getD (a - at3C) 0 else memByte s.flash 0xFF a)) ∧
    (r.body.length = 4 → 1 ≤ u32 r.body 0 → u32 r.body 0 ≤ 0x400000 → (firmwareOk s copy && imageOk s copy) = false →
      exec (.imageCommit r) s = .next (refusedWith 0x0102 St.signature r { s with imageTouched := false })) ∧
    (8 ≤ r.body.length → r.body.length ≤ 492 → slotInForce s slot = false → fld r.body 0 16 16 + n ≤ 16384 →
      ∃ t, exec (.overlayWrite r) s = .next (answered 0x0103 false r t []) ∧
        t.sealed = s.sealed.filter (fun k => k != slot) ∧
        (s.yardErr = [] →
          t = { s with yard := t.yard, yardErr := t.yardErr, poison := t.poison, groomPass := t.groomPass, sealed := t.sealed } ∧
          ∀ a, a < 0x1FFFC00 →
            t.yardCell a = if start ≤ a ∧ a < start + n then byteAt r.body (4 + (a - start)) else s.yardCell a)) ∧
    (r.body.length = 8 → 1 ≤ u32 r.body 4 → u32 r.body 4 ≤ 16384 →
      (sealOk s (slotBytes s slot (u32 r.body 4)) (u32 r.body 4) = true →
        exec (.overlaySeal r) s = .next (answered 0x0104 true r
          { s with sealed := slot :: s.sealed.filter (fun k => k != slot) }
          (le 4 (unfittedCount s (overlayEntries (slotBytes s slot (u32 r.body 4))))))) ∧
      (sealOk s (slotBytes s slot (u32 r.body 4)) (u32 r.body 4) = false →
        exec (.overlaySeal r) s = .next (refusedWith 0x0104 St.signature r s)))

/-- With no switch under way or waiting and LENGTH 4: MODE_SET naming the mode in force answers OK with FRAME_N and SWAPS,
changes nothing and steps no generation; a slot that is unsealed or holds an EMERGENCY overlay is answered STATE; one
whose seal no longer verifies SIGNATURE; any other becomes the one waiting request, and the command waits for the
switch. EMERGENCY_SET is the same with an EMERGENCY overlay required; with ON 0 it ignores SLOT, and answers OK where
EMERGENCY is off. While requests wait, a further one goes behind them (R524). (R496, R522, R524, R525) -/
def Obligations.ModeCommandsAnswerOrQueue : Prop :=
  ∀ (r : Req) (s : State), takes s r = true → r.body.length = 4 →
    let slot := fld r.body 0 0 5
    let eslot := fld r.body 0 1 5
    let waiting := fun (op : Nat) (q : ModeReq) => ({ s with
      modeReqs := s.modeReqs ++ [q], waits := s.waits ++ [{ entry := none, opcode := op, req := r, on := .modeSwitch }] } : State)
    ((s.modeReqs ≠ [] ∨ s.modeWait.isSome = true) →
      exec (.modeSet r) s = .next (waiting 0x0105 { origin := 0, what := 0, slot := slot }) ∧
      exec (.emergencySet r) s = .next
        (waiting 0x0106 { origin := 0, what := if flag r.body 0 0 then 1 else 2, slot := eslot })) ∧
    (s.modeReqs = [] → s.modeWait = none →
      (s.mode = some slot → exec (.modeSet r) s = .next (answered 0x0105 false r s
        (le 4 (s.get F.time_FRAME_N 0) ++ le 4 (s.get F.router_SWAPS 0)))) ∧
      (s.mode ≠ some slot → (slot ∉ s.sealed ∨ slotRole s slot = 2) →
        exec (.modeSet r) s = .next (refusedWith 0x0105 St.state r s)) ∧
      (s.mode ≠ some slot → slot ∈ s.sealed → slotRole s slot ≠ 2 → slotSealOk s slot = false →
        exec (.modeSet r) s = .next (refusedWith 0x0105 St.signature r s)) ∧
      (s.mode ≠ some slot → slot ∈ s.sealed → slotRole s slot ≠ 2 → slotSealOk s slot = true →
        exec (.modeSet r) s = .next (waiting 0x0105 { origin := 0, what := 0, slot := slot })) ∧
      (((flag r.body 0 0 = true ∧ s.emerg = some eslot) ∨ (flag r.body 0 0 = false ∧ s.emerg = none)) →
        exec (.emergencySet r) s = .next (answered 0x0106 false r s
          (le 4 (s.get F.time_FRAME_N 0) ++ le 4 (s.get F.router_SWAPS 0)))) ∧
      (flag r.body 0 0 = false → s.emerg ≠ none →
        exec (.emergencySet r) s = .next (waiting 0x0106 { origin := 0, what := 2, slot := eslot })) ∧
      (flag r.body 0 0 = true → s.emerg ≠ some eslot → (eslot ∉ s.sealed ∨ slotRole s eslot ≠ 2) →
        exec (.emergencySet r) s = .next (refusedWith 0x0106 St.state r s)) ∧
      (flag r.body 0 0 = true → s.emerg ≠ some eslot → eslot ∈ s.sealed → slotRole s eslot = 2 →
        slotSealOk s eslot = false → exec (.emergencySet r) s = .next (refusedWith 0x0106 St.signature r s)) ∧
      (flag r.body 0 0 = true → s.emerg ≠ some eslot → eslot ∈ s.sealed → slotRole s eslot = 2 →
        slotSealOk s eslot = true →
        exec (.emergencySet r) s = .next (waiting 0x0106 { origin := 0, what := 1, slot := eslot })))

/-- KEY_DEBOUNCE of an input 0 to 15 that is no encoder's and whose level differs from LEVEL: its LEVEL bit takes the
level and no other bit moves; a release clears its STUCK bit; the key is pressed while low. Where nothing else is due
(firmware stopped, or no REPORT and no action at the press itself) that is all. A press with HOLD_MS 0, no REPORT and
the pair not PAIRED acts: ACTION 1, 2, 3 queue a mode, EMERGENCY on, EMERGENCY off request of origin 2; ACTION 4, 5
latch the master or cue level. KEY_ACTION does the same for a key held that has not acted; KEY_STUCK of a key held
sets its STUCK bit and it acts no more until it is released. (R528, R530, R531, R532, R535) -/
def Obligations.PanelKeysActOncePerPress : Prop :=
  ∀ (key : Nat) (level : Bool) (s : State), key < 16 → inPair s key = false →
    let x := tget s.keys key {}
    let request : ModeReq := { origin := 2, what := x.action - 1, slot := x.slot }
    let latched : Latch := if x.action = 4 then { kind := 1, target := 0, value := x.value }
      else { kind := 2, target := x.cue, value := x.value }
    let panelOnly := fun t : State => keepsRegsBut [(F.panel_LEVEL, 0), (F.panel_STUCK, 0)] s t ∧
      (∀ j, (t.get F.panel_LEVEL 0).testBit j = if j = key then level else (s.get F.panel_LEVEL 0).testBit j) ∧
      (∀ j, (t.get F.panel_STUCK 0).testBit j = if j = key ∧ level = true then false else (s.get F.panel_STUCK 0).testBit j) ∧
      (∀ j, j ≠ key → tget t.keys j {} = tget s.keys j {})
    let acts := fun t : State => tget t.keys key {} = { x with pressed := !level, acted := true } ∧
      (1 ≤ x.action → x.action ≤ 3 → t = { s with regs := t.regs, keys := t.keys, modeReqs := s.modeReqs ++ [request] }) ∧
      ((x.action = 4 ∨ x.action = 5) → s.part.hasPixel = true →
        t = { s with regs := t.regs, keys := t.keys, latches := s.latches ++ [latched] })
    ((s.get F.panel_LEVEL 0).testBit key = level → exec (.keyDebounce key level) s = .next s) ∧
    ((s.get F.panel_LEVEL 0).testBit key ≠ level →
      (s.running = false ∨ (x.report = false ∧ (level = true ∨ x.holdMs ≠ 0 ∨ x.action = 0))) →
      ∃ t, exec (.keyDebounce key level) s = .next t ∧ panelOnly t ∧ t = { s with regs := t.regs, keys := t.keys } ∧
        tget t.keys key {} = { x with pressed := !level, acted := false }) ∧
    ((s.get F.panel_LEVEL 0).testBit key ≠ level → level = false → s.running = true → x.report = false → x.holdMs = 0 →
      1 ≤ x.action → x.action ≤ 5 → s.on F.twin_PAIRED 0 = false →
      ∃ t, exec (.keyDebounce key level) s = .next t ∧ panelOnly t ∧ acts t) ∧
    (s.running = true → x.pressed = true → level = false → x.acted = false → 1 ≤ x.action → x.action ≤ 5 →
      s.on F.twin_PAIRED 0 = false →
      ∃ t, exec (.keyAction key) s = .next t ∧ t.regs = s.regs ∧ acts t ∧
        (∀ j, j ≠ key → tget t.keys j {} = tget s.keys j {})) ∧
    (s.running = true → x.pressed = true →
      ∃ t, exec (.keyStuck key) s = .next t ∧ t = { s with regs := t.regs, keys := t.keys } ∧
        keepsRegsBut [(F.panel_STUCK, 0)] s t ∧
        (∀ j, (t.get F.panel_STUCK 0).testBit j = (decide (j = key) || (s.get F.panel_STUCK 0).testBit j)) ∧
        tget t.keys key {} = { x with acted := true } ∧ (∀ j, j ≠ key → tget t.keys j {} = tget s.keys j {}))

/-- ENCODER_TRANSITION of an enabled encoder to a new state of A and B: the two LEVEL bits follow A and B. Where both
inputs changed at once, ENC_ERR rises by 1 (holding at 65,535) and nothing else moves but the position. Otherwise
ENC_COUNT moves by 1, up along 00, 01, 11, 10, down against it. With firmware running and a binding: transitions add
up, and when they reach DIV's 1, 2 or 4 they make a detent, which latches the master or cue level moved by STEP and
clamped to 0 to 65,535 (no REPORT, a variant with pixels). An encoder not enabled, or the same state, changes nothing.
(R530, R533, R535) -/
def Obligations.PanelEncodersCountAndStep : Prop :=
  ∀ (enc : Nat) (ab : BitVec 2) (s : State), enc < 8 →
    let x := tget s.panelEncs enc {}
    let turn := (quadPos ab + 4 - quadPos x.state) % 4
    let d : Int := if turn = 1 then 1 else -1
    let count := F.panel_ENC_COUNT.at (4 * enc)
    let errs := F.panel_ENC_ERR.at (4 * enc)
    let per : Int := if x.div = 1 then 2 else if x.div = 2 then 4 else 1
    let kind := if x.cueTarget then 2 else 1
    let target := if x.cueTarget then x.cue else 0
    let level := fun t : State => ∀ j, (t.get F.panel_LEVEL 0).testBit j =
      if j = 2 * enc then ab.getLsbD 1 else if j = 2 * enc + 1 then ab.getLsbD 0 else (s.get F.panel_LEVEL 0).testBit j
    let stands := fun (t : State) (y : PanelEnc) =>
      tget t.panelEncs enc {} = y ∧ ∀ j, j ≠ enc → tget t.panelEncs j {} = tget s.panelEncs j {}
    (((s.get F.panel_ENC_MASK 0).testBit enc = false ∨ x.state = ab) → exec (.encoderTransition enc ab) s = .next s) ∧
    ((s.get F.panel_ENC_MASK 0).testBit enc = true → x.state ≠ ab → turn = 2 →
      ∃ t, exec (.encoderTransition enc ab) s = .next t ∧ t = { s with regs := t.regs, panelEncs := t.panelEncs } ∧
        stands t { x with state := ab } ∧ level t ∧ t.get errs 0 = min 65535 (s.get errs 0 + 1) ∧
        keepsRegsBut [(F.panel_LEVEL, 0), (errs, 0)] s t) ∧
    ((s.get F.panel_ENC_MASK 0).testBit enc = true → x.state ≠ ab → turn ≠ 2 →
      (x.bound = false ∨ s.running = false ∨ (x.trans + d).natAbs < per.natAbs ∨ (x.report = false ∧ s.part.hasPixel = true)) →
      ∃ t, exec (.encoderTransition enc ab) s = .next t ∧ level t ∧
        t.getI count 0 = sx 16 (ux 16 (s.getI count 0 + d)) ∧ keepsRegsBut [(F.panel_LEVEL, 0), (count, 0)] s t ∧
        t = { s with regs := t.regs, panelEncs := t.panelEncs, latches := t.latches } ∧
        ((x.bound = false ∨ s.running = false) → stands t { x with state := ab } ∧ t.latches = s.latches) ∧
        (x.bound = true → s.running = true → (x.trans + d).natAbs < per.natAbs →
          stands t { x with state := ab, trans := x.trans + d } ∧ t.latches = s.latches) ∧
        (x.bound = true → s.running = true → per.natAbs ≤ (x.trans + d).natAbs →
          stands t { x with state := ab, trans := 0, detents := x.detents + (x.trans + d).sign } ∧
          t.latches = s.latches ++ [Latch.mk kind target
            (clampI 0 65535 ((levelNow s kind target : Int) + (x.trans + d).sign * x.stepBy)).toNat]))

/-- ECONOMY: VCORE reads the voltage in mV, ECON whether it is below 800; where ECON changes the ECONOMY flag is set, and
nothing else. RAIL_FAULT of VIO33, VIO18, VLV or VANA that stood in range: the rail reads out of range and is
remembered with the sheds it lowered; for VIO18, whose fault lowers no shed, SHED_FAULT is set and nothing else moves.
RAIL_RESTORED of a rail that had failed: it reads in range and is forgotten; with firmware running and no plan, the
sheds lost are raised in their order. BROWNOUT_END: every rail in brown-out reads in range again. A rail that stands
as told, or no brown-out, changes nothing. (R37, R537, R539, R548, R555, R556) -/
def Obligations.RailsAndVoltageFollowTheirEvents : Prop :=
  ∀ (s : State),
    (∀ mv, ∃ t, exec (.economy mv) s = .next t ∧ t = { s with regs := t.regs, fired := t.fired } ∧
      t.get F.pwr_VCORE 0 = mv % 65536 ∧ t.on F.pwr_ECON 0 = decide (mv < 800) ∧
      (s.on F.pwr_ECON 0 = decide (mv < 800) → t.fired = s.fired ∧ t.get F.pwr_FLAGS 0 = s.get F.pwr_FLAGS 0) ∧
      (s.on F.pwr_ECON 0 ≠ decide (mv < 800) → t.get F.pwr_FLAGS 0 = s.get F.pwr_FLAGS 0 ||| 2) ∧
      keepsRegsBut [(F.pwr_VCORE, 0), (F.pwr_ECON, 0), (F.pwr_FLAGS, 0)] s t) ∧
    (s.railDown.any (fun e => e.1 == 5) = false →
      ∃ t, exec (.railFault 5) s = .next t ∧
        t = { s with regs := t.regs, fired := t.fired, railDown := s.railDown ++ [(5, 0)] } ∧
        (∀ j, (t.get F.pwr_IN_RANGE 0).testBit j = (decide (j ≠ 5) && (s.get F.pwr_IN_RANGE 0).testBit j)) ∧
        t.get F.pwr_FLAGS 0 = s.get F.pwr_FLAGS 0 ||| 4 ∧
        keepsRegsBut [(F.pwr_IN_RANGE, 0), (F.pwr_FLAGS, 0)] s t) ∧
    (∀ rail, 4 ≤ rail → rail ≤ 7 → s.railDown.any (fun e => e.1 == rail) = false →
      ∃ t, exec (.railFault rail) s = .next t ∧ t.get F.pwr_FLAGS 0 &&& 4 = 4 ∧
        (rail < 7 → (t.get F.pwr_IN_RANGE 0).testBit rail = false) ∧ (rail = 7 → t.on F.pwr_VANA_OK 0 = false) ∧
        (∀ n ∈ railSheds rail, t.shedUp n = false) ∧
        (rail, maskOf ((railSheds rail).filter (fun n => s.shedUp n))) ∈ t.railDown) ∧
    (∀ rail e, rail ≤ 7 → s.railDown.find? (fun e => e.1 == rail) = some e → s.shedPlan = none →
      ∃ t, exec (.railRestored rail) s = .next t ∧ t.railDown = s.railDown.filter (fun x => x.1 != rail) ∧
        t = { s with regs := t.regs, railDown := t.railDown, shedPlan := t.shedPlan } ∧
        (rail < 7 → ∀ j, (t.get F.pwr_IN_RANGE 0).testBit j = (decide (j = rail) || (s.get F.pwr_IN_RANGE 0).testBit j)) ∧
        (rail = 7 → t.on F.pwr_VANA_OK 0 = true) ∧
        (s.running = false ∨ raiseList e.2 = [] → t.shedPlan = none) ∧
        (s.running = true → raiseList e.2 ≠ [] → t.on F.pwr_SWITCHING 0 = true ∧
          t.shedPlan = some { raise := raiseList e.2, fromCommand := false }) ∧
        keepsRegsBut [(F.pwr_IN_RANGE, 0), (F.pwr_VANA_OK, 0), (F.pwr_SWITCHING, 0)] s t) ∧
    (∃ t, exec .brownoutEnd s = .next t ∧ t = { s with regs := t.regs, brownRails := [] } ∧
      (∀ j, j < 7 → (t.get F.pwr_IN_RANGE 0).testBit j = (s.brownRails.contains j || (s.get F.pwr_IN_RANGE 0).testBit j)) ∧
      keepsRegsBut [(F.pwr_IN_RANGE, 0), (F.pwr_VANA_OK, 0)] s t)

/-- SW_RESET with KEY 0xA5 (VIO18 in range), WATCHDOG_EXPIRY once the watchdog runs, BROWNOUT of VCORE, VYARD or VPLL not
yet in brown-out, TAMPER_DETECT of a source that is armed and not active, RECOVERY_RESET when due and RETIRE_RESET
when due: S0 alone is powered (POWER_SHEDS.UP 1, SWITCHING 0), RUNNING reads 0, every mailbox is EMPTY and free, no
command, wait, event or sentence is held, the stalls, lanes and yard are gone, the boot starts over at the raise of
S4, SERVICE_LEFT is 0; flash, the time of day and the event sequence are kept; HOST_RST_CAUSE shows the one cause (SW
for a brown-out) with FW_RESTARTS 0; with no bypass engaged the interlock is released and, but for a brown-out's,
which latches BROWNOUT, no event is waiting. SW_RESET with another KEY sets HOST_ERR.KEY alone. (R401, R466, R548,
R549, R550, R552, R565, R570) -/
def Obligations.ResetsLeaveOnlyTheBaseShed : Prop :=
  ∀ (s : State),
    let fresh := fun (t : State) (cause : Nat) =>
      t.get F.pwr_UP 0 = 1 ∧ t.get F.pwr_SWITCHING 0 = 0 ∧ t.get F.host_RUNNING 0 = 0 ∧ t.get F.host_BOOT_DONE 0 = 0 ∧
      t.get F.host_STATE 0 = 0 ∧ t.get F.host_FULL 0 = 0 ∧ t.get F.host_SPILLING 0 = 0 ∧ t.get F.host_ERR 0 = 0 ∧
      t.get F.sec_SERVICE_LEFT 0 = 0 ∧ t.cmds = [] ∧ t.waits = [] ∧ t.spill = [] ∧ t.srcs = [] ∧
      t.stalls = [] ∧ t.rx = [] ∧ t.tx = [] ∧ t.yard = [] ∧ t.mbi = [] ∧ t.mbo = [] ∧ t.boot = .waitS4 ∧
      t.service = false ∧ t.flash = s.flash ∧ t.tod = s.tod ∧ t.evtSeq = s.evtSeq ∧ t.pending = s.pending ∧
      t.reg ⟨.host, 0, 0x14⟩ = BitVec.ofNat 32 (2 ^ cause) ∧
      (bypassCause s = 0 → s.part.hasTwin = true → t.owns = false)
    let calm := fun t : State => bypassCause s = 0 → t.fired = []
    (portAlive s = true → (∃ t, exec (.swReset 0xA5) s = .next t ∧ fresh t 1 ∧ calm t) ∧
      ∀ key : Byte, key ≠ 0xA5 → ∃ t, exec (.swReset key) s = .next t ∧ onlyRegs s t ∧ hostFlagged 7 s t ∧
        keepsRegsBut [(F.host_ERR, 0)] s t) ∧
    (watchdogRuns s = true → ∃ t, exec .watchdogExpiry s = .next t ∧ fresh t 2 ∧ calm t) ∧
    (∀ rail, (rail = 0 ∨ rail = 1 ∨ rail = 3) → rail ∉ s.brownRails →
      ∃ t, exec (.brownout rail) s = .next t ∧ fresh t 1 ∧ (t.get F.pwr_IN_RANGE 0).testBit rail = false ∧
        t.get F.pwr_FLAGS 0 = s.get F.pwr_FLAGS 0 ||| 1 ∧ t.brownRails = s.brownRails ++ [rail] ∧ t.refclk = (s.refclk && rail != 3)) ∧
    (∀ cause, cause ≤ 5 → cause ∉ s.tamperOn → (cause < 3 → (s.get F.sec_ARMED 0).testBit cause = true) →
      ∃ t, exec (.tamperDetect cause) s = .next t ∧ fresh t 3 ∧ calm t ∧ t.tamperOn = s.tamperOn ++ [cause] ∧
        t.enrolled = none ∧ t.sessions = [] ∧ t.get F.sec_FLAGS 0 &&& 1 = 1 ∧
        (∀ a, a < 0xFC00 → memByte t.tack 0 a = 0)) ∧
    (s.recoveryDue = true → ∃ t, exec .recoveryReset s = .next t ∧ fresh t 1 ∧ calm t) ∧
    (s.retireDue = true → ∃ t, exec .retireReset s = .next t ∧ fresh t 1 ∧ calm t)

/-- PORST_N: S0 alone is powered, RUNNING 0, HOST_RST_CAUSE shows PORST_N, the time of day is 0, no mailbox, stall or yard
content is left, flash and fuses stay, the bypass strap is latched; VAON having risen takes the enrolled key and the
sessions. SHED_RAISE_DONE of S4 powers it, clears the yard's addresses outside the frame buffers and waits for S1; of
S1 the ROM runs: RETIRED holds the boot; else the first copy in R517's order that verifies is used, or recovery is
entered. SHED_FAULT of the awaited shed holds the boot with SHED_FAULT. FIRMWARE_START: RUNNING 1, ISSUE 0x0204, the
other fitted sheds are to be raised. BASE_IMAGE_LOAD, once they are up: BOOT_DONE 1 and the boot is over. TAMPER_CLEAR
ends a source; SERVICE_EXPIRY returns SERVICE to SEALED and changes nothing else. (R516, R517, R526, R542, R543, R548,
R551, R552, R565, R569) -/
def Obligations.BootRunsThroughItsStages : Prop :=
  ∀ (s : State),
    (∀ straps, ∃ t, exec (.porstN straps) s = .next t ∧ t.get F.pwr_UP 0 = 1 ∧ t.get F.host_RUNNING 0 = 0 ∧
      t.reg ⟨.host, 0, 0x14⟩ = 1 ∧ t.boot = .waitS4 ∧ t.tod = 0 ∧ t.flash = s.flash ∧ t.cmds = [] ∧ t.yard = [] ∧
      t.stalls = [] ∧ t.mbi = [] ∧ t.mbo = [] ∧ t.bypassPin = straps.bypass ∧ t.fuseKeys = s.fuseKeys ∧
      t.fuseRetired = s.fuseRetired ∧ (straps.vaonRose = true → t.enrolled = none ∧ t.sessions = [])) ∧
    (mayBoot s = true → s.boot = .waitS4 → ∃ t, exec (.shedRaiseDone 4) s = .next t ∧ t.boot = .waitS1 ∧
      t.shedUp 4 = true ∧ t.yard = s.yard.filter (fun e => decide (e.1 < 0x1200000) || decide (0x2000000 ≤ e.1)) ∧ t.tablesReady = false ∧
      t.stalls = [] ∧ t.flash = s.flash) ∧
    (mayBoot s = true → s.boot = .waitS1 → ∃ t, exec (.shedRaiseDone 1) s = .next t ∧ t.flash = s.flash ∧
      let u := reloadKey (raiseShed s 1)
      let first := firstCopy u
      (s.life = 3 → t.boot = .held) ∧
      (s.life ≠ 3 → copyOk u first = true → t.boot = .rom ∧ t.get F.host_COPY 0 = first) ∧
      (s.life ≠ 3 → copyOk u first = false → copyOk u (3 - first) = true →
        t.boot = .rom ∧ t.get F.host_COPY 0 = 3 - first ∧ t.fellBack = true) ∧
      (s.life ≠ 3 → copyOk u first = false → copyOk u (3 - first) = false → t.boot = .recovery)) ∧
    (∀ shed, mayBoot s = true → ((s.boot = .waitS4 ∧ shed = 4) ∨ (s.boot = .waitS1 ∧ shed = 1)) →
      ∃ t, exec (.shedFault shed) s = .next t ∧ t.boot = .held ∧ t.get F.pwr_FLAGS 0 = s.get F.pwr_FLAGS 0 ||| 4 ∧
        t = { s with regs := t.regs, fired := t.fired, boot := .held } ∧ keepsRegsBut [(F.pwr_FLAGS, 0)] s t) ∧
    (mayBoot s = true → s.boot = .rom → ∃ t, exec .firmwareStart s = .next t ∧ t.boot = .firmware ∧ t.running = true ∧
      t.get F.host_ISSUE 0 = 0x0204 ∧ t.fwStarted = s.tod ∧ t.on F.pwr_SWITCHING 0 = true ∧
      t.shedPlan = some { raise := bootSheds s, fromCommand := false }) ∧
    (s.boot = .firmware → s.running = true → s.shedPlan = none → ∃ t, exec .baseImageLoad s = .next t ∧ t.boot = .loaded ∧
      t.on F.host_BOOT_DONE 0 = true) ∧
    (∀ cause, cause ∈ s.tamperOn → ∃ t, exec (.tamperClear cause) s = .next t ∧
      t = { s with regs := t.regs, tamperOn := s.tamperOn.filter (fun c => c != cause) } ∧
      keepsRegsBut [(F.sec_ACTIVE, 0), (F.pwr_IN_RANGE, 0)] s t ∧ (t.get F.sec_ACTIVE 0).testBit cause = false) ∧
    (s.life = 2 → ∃ t, exec .serviceExpiry s = .next t ∧ t.life = 1 ∧ t = { s with regs := t.regs, service := false } ∧
      t.get F.sec_SERVICE_LEFT 0 = 0 ∧ keepsRegsBut [(F.sec_SERVICE_LEFT, 0)] s t)

/-- In recovery a message in MBI0 over SPI is taken (MBI0 becomes EMPTY, ACKS rises by 1): IDENT_GET of LENGTH 0 is
answered OK with the data of R495, an opcode other than IDENT_GET, IMAGE_WRITE and IMAGE_COMMIT BAD_OPCODE; an
IMAGE_COMMIT that returns OK makes a software reset due. In RETIRED, with S1 up and the boot held, IDENT_GET is
answered the same and any other opcode DENIED. A message on another mailbox or transport does nothing. (R473, R552,
R569) -/
def Obligations.RomRecoveryTakesThreeCommands : Prop :=
  ∀ (r : Req) (s : State), r.mbox = 0 → r.via = .spi → r.genCheck = false → mbState s 0 = 1 →
    let taken := romTakes s
    let loading := s.boot = .recovery ∧ s.life ≠ 3
    (mbState taken 0 = 0 ∧ taken = { s with regs := taken.regs } ∧
      taken.get F.host_ACKS 0 = (s.get F.host_ACKS 0 + 1) % 65536) ∧
    (loading → r.body.length = 0 →
      exec (.romRecovery r 0x0001) s = .next (answered 0x0001 false r taken (identData taken))) ∧
    (∀ opcode, loading → opcode ≠ 0x0001 → opcode ≠ 0x0101 → opcode ≠ 0x0102 →
      exec (.romRecovery r opcode) s = .next (refusedWith opcode St.badOpcode r taken)) ∧
    (loading → r.body.length = 4 → 1 ≤ u32 r.body 0 → u32 r.body 0 ≤ 0x400000 →
      firmwareOk taken (writeCopyNo taken) = true → imageOk taken (writeCopyNo taken) = true →
      ∃ t, exec (.romRecovery r 0x0102) s = .next t ∧ t.recoveryDue = true) ∧
    (s.life = 3 → s.boot = .held → s.shedUp 1 = true →
      (r.body.length = 0 → exec (.romRecovery r 0x0001) s = .next (answered 0x0001 false r taken (identData taken))) ∧
      (∀ opcode, opcode ≠ 0x0001 → exec (.romRecovery r opcode) s = .next (refusedWith opcode St.denied r taken))) ∧
    (∀ q opcode, (q.mbox ≠ 0 ∨ q.via ≠ .spi) → exec (.romRecovery q opcode) s = .next s)

/-- SESSION_OPEN of 108 bytes on a port not fitted: NOT_FITTED; over SPI or sideband on a fitted port: DENIED with no
enrolled key; SIGNATURE with the SIG_FAIL flag where the signature over "PLVSESS" and bytes 0 to 43 fails; NO_SPACE
with four sessions on the port; else a session joins the list with the port and address asked, both counters 0, and
the answer is its number and 32 bytes; inside a session DENIED. SESSION_CLOSE 0 closes all, a number that one, another
BAD_ARG. KEY_ENROLL in OPEN over SPI stores the key and closes every session. LIFE_SET that R570 does not allow, or
not over SPI: DENIED; SERVICE to SEALED needs no signature: LIFE becomes SEALED, SERVICE_LEFT 0, the tack room below
the log is wiped, every session is closed, LIFE flag set. OPEN to SEALED with the enrolled key and its signature over
"PLVLIFE", TARGET and the nonce burns SEALED, the key and the armed inputs. TAMPER_LOG_GET answers 16 bytes for each
of up to 30 entries, as they stand; a word that reads DUE gives zeros. (R510, R511, R560, R568, R569, R570, R571,
R572, R573) -/
def Obligations.SecurityCommandsMoveKeysSessionsAndLife : Prop :=
  ∀ (r : Req) (s : State), takes s r = true →
    let port := fld r.body 0 0 1
    let number := u32 r.body 0
    let inside := ∃ n, r.via = .session n
    let target := fld r.body 0 0 3
    (r.body.length = 108 → s.part.ports ≤ port → exec (.sessionOpen r) s = .next (refusedWith 0x0901 St.notFitted r s)) ∧
    (r.body.length = 108 → port < s.part.ports → inside → exec (.sessionOpen r) s = .next (refusedWith 0x0901 St.denied r s)) ∧
    (r.body.length = 108 → ¬ inside → port < s.part.ports →
      (s.enrolled = none → exec (.sessionOpen r) s = .next (refusedWith 0x0901 St.denied r s)) ∧
      (∀ k, s.enrolled = some k →
        (ecdsaOk k (ascii8 "PLVSESS" ++ slice r.body 0 44) (slice r.body 0x2C 64) = false →
          exec (.sessionOpen r) s = .next (refusedWith 0x0901 St.signature r (raiseSec s 2))) ∧
        (ecdsaOk k (ascii8 "PLVSESS" ++ slice r.body 0 44) (slice r.body 0x2C 64) = true →
          (4 ≤ (s.sessions.filter (fun x => x.port == port)).length →
            exec (.sessionOpen r) s = .next (refusedWith 0x0901 St.noSpace r s)) ∧
          ((s.sessions.filter (fun x => x.port == port)).length < 4 →
            ∃ x hub, exec (.sessionOpen r) s = .next (answered 0x0901 false r
                { s with drawn := s.drawn + 1, sessions := s.sessions ++ [x] } (le 4 x.number ++ hub)) ∧
              x.port = port ∧ x.ip = bodyWord r 4 ∧ x.udp = fld r.body 8 0 16 ∧ x.peerCounter = 0 ∧ x.ownCounter = 0)))) ∧
    (r.body.length = 4 →
      (number = 0 → exec (.sessionClose r) s = .next (answered 0x0902 false r { s with sessions := [] } [])) ∧
      (number ≠ 0 → (∃ x ∈ s.sessions, x.number = number) → exec (.sessionClose r) s = .next
        (answered 0x0902 false r { s with sessions := s.sessions.filter (fun x => x.number != number) } [])) ∧
      (number ≠ 0 → (¬ ∃ x ∈ s.sessions, x.number = number) →
        exec (.sessionClose r) s = .next (refusedWith 0x0902 St.badArg r s))) ∧
    (r.body.length = 64 → s.life = 0 → r.via = .spi → exec (.keyEnroll r) s = .next (answered 0x0903 true r
      { s with enrolled := some (ofBe (slice r.body 0 32), ofBe (slice r.body 32 32)), sessions := [] } [])) ∧
    (r.body.length = 68 → (r.via ≠ .spi ∨ lifeAllowed s target = false) →
      exec (.lifeSet r) s = .next (refusedWith 0x0904 St.denied r s)) ∧
    (r.body.length = 68 → r.via = .spi → s.life = 2 → target = 1 →
      ∃ t, exec (.lifeSet r) s = .next (answered 0x0904 false r t []) ∧ t.life = 1 ∧ t.sessions = [] ∧
        (∀ a, a < 0xFC00 → memByte t.tack 0 a = 0)) ∧
    (r.body.length = 68 → r.via = .spi → s.life = 0 → target = 1 → ∀ k, s.enrolled = some k →
      ecdsaOk k (ascii8 "PLVLIFE" ++ slice r.body 0 4 ++ s.nonce) (slice r.body 4 64) = true →
      ∃ t, exec (.lifeSet r) s = .next (answered 0x0904 false r t []) ∧ t.fuseSealed = true ∧ t.fuseKeys = [k] ∧
        t.fuseArmed = BitVec.ofNat 3 (s.get F.sec_ARMED 0) ∧ t.sessions = []) ∧
    (r.body.length = 4 → 1 ≤ rangeCount r.body → rangeCount r.body ≤ 30 → rangeFirst r.body + rangeCount r.body ≤ 64 →
      ∃ t data, exec (.tamperLogGet r) s = .next (answered 0x0905 false r t data) ∧ data.length = 16 * rangeCount r.body ∧
        (s.tackErr = [] → t = s ∧ data = (rangeOf r.body).flatMap (fun n => memRead s.tack 0 (0xFC00 + 16 * n) 16)) ∧
        ∀ i, i < 2 * rangeCount r.body → wordState (tget s.tackErr (0x1F80 + 2 * rangeFirst r.body + i) 0) = .due →
          slice data (8 * i) 8 = List.replicate 8 0#8)

/-- For every register of a fitted unit whose shed is up, and every word written: a W1C bit of the register reads 1 after
the write when the hub latches its event in the same access, or when it read 1 before and the word has 0 there; every
other W1C bit reads 0. Bits of other access codes and every other register are unchanged; beside the registers only
events may fire, and none where no bit latches that read 0. (R16: stated) -/
def Obligations.WriteOneToClearKeepsWhatIsLatchedMeanwhile : Prop :=
  ∀ (s : State) (r : RegAddr) (v latched : Word), wfReg r = true → blkFitted s.part r.blk r.inst = true →
    s.shedUp (regShed r) = true →
    ∃ t, exec (.w1cWrite r v latched) s = .next t ∧ t = { s with regs := t.regs, fired := t.fired } ∧ keepsRegsExcept r s t ∧
      ((∀ k, k < 32 → latched.getLsbD k = true → (s.reg r).getLsbD k = true) → t.fired = s.fired) ∧
      ∀ k, k < 32 → (t.reg r).getLsbD k =
        if (regMask r (fun a => a == .w1c)).getLsbD k then
          latched.getLsbD k || ((s.reg r).getLsbD k && !v.getLsbD k) else (s.reg r).getLsbD k

/-- REGISTER_WRITE puts the word into a register's RW fields (but for those with a row of their own, which keep their
value); other bits ignore it, and nothing else changes but where the spec gives a write an effect of its own
(TIME_CFG, TIME_STATE, the frame grid, capture, VOTE_CFG, FARRIER_MAP, measurement, stream, Ethernet and twin
registers). A capture block's first word also restarts EDGE_COUNT and clears VALID; NUM, DEN or PHASE is staged for
the old grid's next tick; STREAM_CFG and ETH_CFG with EN 1 have no further effect. An absent unit, or one whose shed
is down, ignores it. LANE_RX_BAUD_WRITE and LANE_TX_BAUD_WRITE put DIV_INT and DIV_FRAC; a receiver between characters
takes its new rate at once, the transmitter changes nothing else. ADDEND_WRITE puts ADJ limited to ±3,435,973, with
AT_LIMIT set when the limit acted. GROOM_EN_WRITE puts GROOM_CFG.EN with S4 up and nothing else. (R5, R15, R18, R86,
R94, R96, R268, R286, R312) -/
def Obligations.RegisterWritesSetTheirFields : Prop :=
  ∀ (s : State) (v : Word),
    (∀ r : RegAddr, wfReg r = true → blkFitted s.part r.blk r.inst = true → s.shedUp (regShed r) = true →
      (r.blk = .time → r.off ∉ [0, 4, 0x24, 0x28, 0x2C]) → (r.blk ∈ [Blk.cap, .vote, .farrierMap, .stream, .eth] → r.off ≠ 0) →
      r.blk ∉ [Blk.meas, .measCh, .twin] →
      let m := regMask r (fun a => a == .rw) &&& ~~~ BitVec.ofNat 32 (ownRowMask r)
      ∃ t, exec (.registerWrite r v) s = .next t ∧ t = { s with regs := t.regs } ∧ keepsRegsExcept r s t ∧
        t.reg r = (s.reg r &&& ~~~ m) ||| (v &&& m)) ∧
    (∀ n, n < 8 → s.shedUp 0 = true → ∃ t, exec (.registerWrite ⟨.cap, n, 0⟩ v) s = .next t ∧ t = { s with regs := t.regs, caps := t.caps } ∧
      tget t.caps n {} = {} ∧ (∀ k, k ≠ n → tget t.caps k {} = tget s.caps k {}) ∧ t.get F.cap_VALID n = 0 ∧
      t.get F.cap_EDGE n = bits v.toNat F.cap_EDGE.lo F.cap_EDGE.width ∧ 
      keepsRegsOutside (fun r => r == ⟨.cap, n, 0⟩ || r == ⟨.cap, n, 0xC⟩) s t) ∧
    (s.frame.staged = none → s.shedUp 0 = true →
      exec (.registerWrite ⟨.time, 0, 0x24⟩ v) s = .next { s with frame := { s.frame with staged := some (v.toNat % 2 ^ 20, s.get F.time_DEN 0, s.get F.time_FRAME_PHASE 0) } } ∧
      exec (.registerWrite ⟨.time, 0, 0x28⟩ v) s = .next { s with frame := { s.frame with staged := some (s.get F.time_NUM 0, v.toNat % 2 ^ 16, s.get F.time_FRAME_PHASE 0) } } ∧
      exec (.registerWrite ⟨.time, 0, 0x2C⟩ v) s = .next { s with frame := { s.frame with staged := some (s.get F.time_NUM 0, s.get F.time_DEN 0, v.toNat) } }) ∧
    (s.shedUp 7 = true → s.part.hasPixel = true → v.getLsbD F.str_EN.lo = true →
      ∃ t, exec (.registerWrite ⟨.stream, 0, 0⟩ v) s = .next t ∧ t = { s with regs := t.regs } ∧ t.on F.str_EN 0 = true ∧
        keepsRegsExcept ⟨.stream, 0, 0⟩ s t) ∧
    (∀ p, s.shedUp 7 = true → p < s.part.ports → v.getLsbD F.eth_EN.lo = true →
      ∃ t, exec (.registerWrite ⟨.eth, p, 0⟩ v) s = .next t ∧ t = { s with regs := t.regs } ∧ t.on F.eth_EN p = true ∧
        keepsRegsExcept ⟨.eth, p, 0⟩ s t) ∧
    (∀ r : RegAddr, blkFitted s.part r.blk r.inst = false ∨ s.shedUp (regShed r) = false →
      exec (.registerWrite r v) s = .next s) ∧
    (∀ n, n < 96 → s.laneUp n = true → ∃ t, exec (.laneTxBaudWrite n v) s = .next t ∧ t = { s with regs := t.regs } ∧
      t.reg ⟨.laneTx, n, 8⟩ = v ∧ keepsRegsExcept ⟨.laneTx, n, 8⟩ s t) ∧
    (∀ n, n < 96 → s.laneUp n = true → ∃ t, exec (.laneRxBaudWrite n v) s = .next t ∧
      t = { s with regs := t.regs, rx := t.rx } ∧ t.reg ⟨.laneRx, n, 4⟩ = v ∧ keepsRegsExcept ⟨.laneRx, n, 4⟩ s t ∧
      t.rxLane n = { s.rxLane n with baud := if rxState s n = 4 then (s.rxLane n).baud else baudPeriod v } ∧
      ∀ k, k ≠ n → t.rxLane k = s.rxLane k) ∧
    (∃ t, exec (.addendWrite v) s = .next t ∧ onlyRegs s t ∧
      t.getI F.time_ADJ 0 = max (-3435973) (min 3435973 v.toInt) ∧
      (v.toInt < -3435973 ∨ 3435973 < v.toInt → t.get F.time_FLAGS 0 = s.get F.time_FLAGS 0 ||| 32) ∧
      (-3435973 ≤ v.toInt → v.toInt ≤ 3435973 → t.get F.time_FLAGS 0 = s.get F.time_FLAGS 0 ∧ t.fired = s.fired) ∧
      t.on F.time_AT_LIMIT 0 = decide (t.getI F.time_ADJ 0 = 3435973 ∨ t.getI F.time_ADJ 0 = -3435973) ∧
      keepsRegsBut [(F.time_ADJ, 0), (F.time_AT_LIMIT, 0), (F.time_FLAGS, 0)] s t) ∧
    (∀ en, s.shedUp 4 = true → ∃ t, exec (.groomEnWrite en) s = .next t ∧ t = { s with regs := t.regs } ∧
      t.on F.yard_GROOM_EN 0 = en ∧ keepsRegsBut [(F.yard_GROOM_EN, 0)] s t)

/-- With the port powered and at least 3 commit cycles: a write burst inside an EMPTY host-owned mailbox stores its words
little-endian there and changes nothing else; into a FULL, HELD or foreign mailbox it stores nothing and sets MB_BUSY.
With fewer commit cycles the last word is not written and SHORT_COMMIT is set. A read burst inside the direct
registers, a mailbox or, in a yard free of symbol errors, a stall window answers the words that stand there and
changes nothing else; in a mailbox they are its bytes. One word beyond the block ends the read with the error marker
and BURST. An instruction byte other than the four sets BAD_INSTR. On one line or four the effect is the same. (R456,
R458, R459, R460, R461, R466, R471) -/
def Obligations.SpiTransactionsMoveWords : Prop :=
  ∀ s : State, portAlive s = true →
    (∀ (addr : BitVec 24) (i o : Nat) (words : List Word) (commit : Nat) (ovf : List Nat), i < 8 → o % 4 = 0 →
      o + 4 * words.length ≤ 512 → addr.toNat / 4 * 4 = 0x1000 + 512 * i + o → s.shedUp 1 = true → 3 ≤ commit →
      s.on F.pwr_ECON 0 = false →
      (mbOwner s i = 0 → mbState s i = 0 → ∃ t, exec (.spiWrite addr words commit ovf) s = .next t ∧
        exec (.spiQwrite addr words commit ovf) s = .next t ∧ t = { s with mbi := t.mbi } ∧
        wroteBytes s.mbi t.mbi 0 (512 * i + o) (wordsBytes words)) ∧
      (mbOwner s i ≠ 0 ∨ mbState s i ≠ 0 → words ≠ [] → ∃ t, exec (.spiWrite addr words commit ovf) s = .next t ∧
        exec (.spiQwrite addr words commit ovf) s = .next t ∧ onlyRegs s t ∧ hostFlagged 5 s t ∧
        keepsRegsBut [(F.host_ERR, 0)] s t)) ∧
    (∀ (addr : BitVec 24) (words : List Word) (commit : Nat) (ovf : List Nat), commit < 3 → words ≠ [] →
      ∃ u t, exec (.spiWrite addr words.dropLast 3 ovf) s = .next u ∧ exec (.spiWrite addr words commit ovf) s = .next t ∧
        exec (.spiQwrite addr words commit ovf) s = .next t ∧ onlyRegs u t ∧ hostFlagged 3 u t ∧
        keepsRegsBut [(F.host_ERR, 0)] u t) ∧
    (∀ (addr : BitVec 24) (n : Nat) (late : List Nat), s.on F.pwr_ECON 0 = false →
      let a := addr.toNat / 4 * 4
      (∀ k, k < n → hostBlock (a + 4 * k) = hostBlock a) → hostBlock a ≠ 0 →
      (s.yardErr = [] ∨ hostBlock a < 64) →
      let words := (List.range n).map (fun k => some (hostLoad s (a + 4 * k)))
      exec (.spiRead addr n late) s = .next { s with spiOut := words } ∧
      exec (.spiQread addr n late) s = .next { s with spiOut := words } ∧
      (hostBlock (a + 4 * n) ≠ hostBlock a → ∃ t, exec (.spiRead addr (n + 1) late) s = .next t ∧
        t = { s with regs := t.regs, fired := t.fired, spiOut := words ++ [none] } ∧ hostFlagged 2 s t ∧
        keepsRegsBut [(F.host_ERR, 0)] s t)) ∧
    (∀ i o, i < 8 → o < 512 → o % 4 = 0 → s.shedUp 1 = true →
      le 4 (hostLoad s (0x1000 + 512 * i + o)).toNat = memRead s.mbi 0 (512 * i + o) 4 ∧
      le 4 (hostLoad s (0x2000 + 512 * i + o)).toNat = memRead s.mbo 0 (512 * i + o) 4) ∧
    (∀ code : Byte, code ≠ 0x02 → code ≠ 0x03 → code ≠ 0x32 → code ≠ 0xEB → ∃ t, exec (.badInstr code) s = .next t ∧
      onlyRegs s t ∧ hostFlagged 0 s t ∧ keepsRegsBut [(F.host_ERR, 0)] s t)

/-- DOORBELL with S1 up: each mailbox rung that the host owns and that is EMPTY becomes FULL, the others stand, and
DB_BUSY is set if one rung was not taken. MBO_REL frees the mailboxes named; SPILLING_i stays while MBOi is FULL, a
record for i is unreleased or a message for i is held. MAILBOX_ACK of a FULL host-owned mailbox, with room in its
queue and no lower mailbox of the same write FULL: the message joins the command record, the mailbox becomes EMPTY
(HELD for 0x0301), ACKS adds 1 and wraps. COMMAND_BEGIN of a command that may begin, with its CRC right and no RSV bit
set, runs that command, and host sentences that waited may follow; a NOP with no flags leaves the record and its OK
goes into its free outbound mailbox. One of at most 496 body bytes and a wrong CRC: E253 fires with its mailbox and
transport and BAD_ARG with DETAIL 0xFFFF goes into its free outbound mailbox; the command leaves the record. (R467,
R471, R472, R473, R474, R476) -/
def Obligations.DoorbellsReleasesAndAcknowledgement : Prop :=
  ∀ s : State,
    (∀ ring : Byte, portAlive s = true → s.shedUp 1 = true → ∃ t, exec (.doorbell ring) s = .next t ∧
      t = { s with regs := t.regs, fired := t.fired, rungBy := t.rungBy, mbFrom := t.mbFrom, ringNo := t.ringNo } ∧
      (∀ i, i < 8 → mbState t i =
        if ring.getLsbD i && mbOwner s i == 0 && mbState s i == 0 then 1 else mbState s i) ∧
      (t.get F.host_ERR 0).testBit 6 = ((s.get F.host_ERR 0).testBit 6 ||
        (List.range 8).any (fun i => ring.getLsbD i && !(mbOwner s i == 0 && mbState s i == 0))) ∧
      keepsRegsBut [(F.host_STATE, 0), (F.host_ERR, 0)] s t) ∧
    (∀ rel : Byte, portAlive s = true → ∃ t, exec (.mboRel rel) s = .next t ∧ t = { s with regs := t.regs } ∧
      (∀ i, i < 8 → (t.get F.host_FULL 0).testBit i = ((s.get F.host_FULL 0).testBit i && !rel.getLsbD i) ∧
        (t.get F.host_SPILLING 0).testBit i = ((s.get F.host_SPILLING 0).testBit i &&
          ((t.get F.host_FULL 0).testBit i || tget s.spillCount i 0 != 0 || s.spill.any (fun m => m.mbo == i)))) ∧
      keepsRegsBut [(F.host_FULL, 0), (F.host_SPILLING, 0)] s t) ∧
    (∀ i, i < 8 → s.running = true → mbOwner s i = 0 → mbState s i = 1 → (queueOf s i).length < 16 →
      (∀ j, j < i → mbState s j = 1 → tget s.rungBy j 0 ≠ tget s.rungBy i 0) →
      let m := parseMsg (memRead s.mbi 0 (512 * i) 512)
      ∃ t, exec (.mailboxAck i) s = .next t ∧ t = { s with regs := t.regs, cmds := t.cmds, ackNo := s.ackNo + 1 } ∧
        t.cmds = s.cmds ++ [{ id := s.ackNo, mbox := i, via := tget s.mbFrom i .spi, msg := m }] ∧
        (∀ j, j < 8 → mbState t j = if j = i then (if m.opcode = 0x0301 then 2 else 0) else mbState s j) ∧
        t.get F.host_ACKS 0 = (s.get F.host_ACKS 0 + 1) % 65536 ∧
        keepsRegsBut [(F.host_STATE, 0), (F.host_ACKS, 0)] s t) ∧
    (∀ (i : Nat) (e : Entry), s.running = true → (queueOf s i).find? (fun e => e.st = .acked) = some e → mayBegin s e = true →
      e.msg.length ≤ 496 → e.msg.crc.toNat = msgCrc e.msg → rsvSet e.msg = false →
      let begun : State := { s with cmds := s.cmds.map (fun x => if x.id == e.id then { x with st := .started } else x) }
      exec (.commandBegin i) s = .next (startSentences (freeUnsent
        (runCommand e.msg.opcode (reqOf e) (some e.id) e.replayed begun) e)) ∧
      (e.msg.opcode = 0 → e.msg.flags = 0 → e.msg.body = [] → e.via = .spi → i < 8 → s.life ≠ 3 → s.waits = [] →
        (s.get F.host_FULL 0).testBit i = false → (s.get F.host_SPILLING 0).testBit i = false →
        ∃ t, exec (.commandBegin i) s = .next t ∧ t = { s with regs := t.regs, cmds := t.cmds, mbo := t.mbo } ∧
          (∀ x ∈ t.cmds, x.id ≠ e.id) ∧ t.get F.host_FULL 0 = s.get F.host_FULL 0 ||| 2 ^ i ∧
          memRead t.mbo 0 (512 * i) 4 = [0, 0] ++ le 2 e.msg.tag.toNat ∧ memRead t.mbo 0 (512 * i + 16) 4 = [0, 0, 0, 0] ∧
          keepsRegsBut [(F.host_FULL, 0)] s t)) ∧
    (∀ (i : Nat) (e : Entry), s.running = true → i < 8 → (queueOf s i).find? (fun e => e.st = .acked) = some e →
      mayBegin s e = true → e.via = .spi → e.msg.length ≤ 496 → e.msg.crc.toNat ≠ msgCrc e.msg → e.msg.opcode ≠ 0x0301 →
      s.waits = [] → (s.get F.host_FULL 0).testBit i = false → (s.get F.host_SPILLING 0).testBit i = false →
      ∃ t, exec (.commandBegin i) s = .next t ∧
        t = { s with regs := t.regs, fired := t.fired, cmds := t.cmds, mbo := t.mbo } ∧
        (∀ x ∈ t.cmds, x.id ≠ e.id) ∧ t.get F.host_FULL 0 = s.get F.host_FULL 0 ||| 2 ^ i ∧
        t.fired = s.fired ++ [{ event := 253, stamp := s.stamp, tsState := s.tsState, detail := BitVec.ofNat 32 i }] ∧
        memRead t.mbo 0 (512 * i) 4 = le 2 e.msg.opcode ++ le 2 e.msg.tag.toNat ∧
        memRead t.mbo 0 (512 * i + 16) 4 = [4, 0, 0xFF, 0xFF] ∧ keepsRegsBut [(F.host_FULL, 0)] s t)

/-- EVENT_FIRE, firmware running, of an event that has fired: its oldest firing is taken; the flag bits read are cleared,
but for E252 (E253 to E255 have none); if the host has enabled the event, its pending record counts one more (held at
65,535) and ORs the flags into DETAIL, else no record is made. EVENT_RECORD_WRITE of a pending record with S1 up and
Q240 with credit for its 32 bytes: the record is in Q240 with KIND 4, SOURCE 0x3000, SEQUENCE and the event's number,
count and DETAIL; it is pending no longer and SEQUENCE steps. SPILL_RECORD_WRITE, firmware running and Q243 with
credit: the oldest held message is written and E255 fires. (R35, R474, R482, R483, R484, R485) -/
def Obligations.EventsAndSpilledMessagesBecomeRecords : Prop :=
  ∀ s : State,
    (∀ (e : Nat) (fi : Firing), s.running = true → e < 256 → s.fired.find? (fun x => x.event == e) = some fi →
      ∃ t, exec (.eventFire e) s = .next t ∧ t = { s with regs := t.regs, fired := s.fired.erase fi, evts := t.evts } ∧
        (e < 252 → ∀ x ∈ eventFlags e, t.get x.1 x.2.1 = 0) ∧ (252 ≤ e → t.regs = s.regs) ∧
        keepsRegsBut ((eventFlags e).map (fun x => (x.1, x.2.1))) s t ∧
        (∀ k, k ≠ e → tget t.evts k {} = tget s.evts k {}) ∧
        (eventEnabled s e = false → t.evts = s.evts) ∧
        (eventEnabled s e = true → (tget t.evts e {}).count = min 65535 ((tget s.evts e {}).count + 1) ∧
          (tget t.evts e {}).detail = (if (tget s.evts e {}).count = 0 then 0 else (tget s.evts e {}).detail) |||
            BitVec.ofNat 32 (eventDetail s fi))) ∧
    (∀ e, e < 256 → (tget s.evts e {}).count ≠ 0 → s.shedUp 1 = true → stallOn s 240 = true →
      (s.stall 240).reset = none → mismatchOf (s.stall 240) = 0 → 32 ≤ stallSize s 240 → s.on F.stall_MODE 240 = true → 32 ≤ s.get F.stall_GRANTED 240 →
      let x := tget s.evts e {}
      let bs := eventRecord s e x
      (fld bs 4 20 4 = 4 ∧ fld bs 4 0 16 = 0x3000 ∧ u32 bs 8 = s.evtSeq % 4294967296 ∧ fld bs 24 0 8 = e ∧
        fld bs 24 8 1 = b2n x.late ∧ fld bs 24 16 16 = x.count % 65536 ∧ u32 bs 28 = x.detail.toNat) ∧
      ∃ t, exec (.eventRecordWrite e) s = .next t ∧ tget t.evts e {} = {} ∧
        ((s.stall 240).base % 8 = 0 → (s.stall 240).a.wr % 8 = 0 → (s.stall 240).base + stallSize s 240 ≤ 0x1FFFC00 →
          ringRead t 240 (s.stall 240).a.wr 32 = bs) ∧
        (∀ k, k ≠ e → tget t.evts k {} = tget s.evts k {}) ∧ t.evtSeq = (s.evtSeq + 1) % 4294967296 ∧
        (t.stall 240).lens = (s.stall 240).lens ++ [32] ∧ t.get F.stall_GRANTED 240 = s.get F.stall_GRANTED 240 - 32) ∧
    (∀ m rest, s.running = true → s.spill = m :: rest → stallOn s 243 = true → (s.stall 243).reset = none → mismatchOf (s.stall 243) = 0 →
      (spillRecord s m.mbo m.bytes).length ≤ stallSize s 243 → s.on F.stall_MODE 243 = true →
      (spillRecord s m.mbo m.bytes).length ≤ s.get F.stall_GRANTED 243 →
      ∃ t, exec .spillRecordWrite s = .next t ∧ t.spill = rest ∧ t.spillSeq = (s.spillSeq + 1) % 4294967296 ∧
        tget t.spillCount m.mbo 0 = tget s.spillCount m.mbo 0 + 1 ∧
        ((s.stall 243).base % 8 = 0 → (s.stall 243).a.wr % 8 = 0 → (s.stall 243).base + stallSize s 243 ≤ 0x1FFFC00 →
          ringRead t 243 (s.stall 243).a.wr (spillRecord s m.mbo m.bytes).length = spillRecord s m.mbo m.bytes) ∧
        (t.stall 243).lens = (s.stall 243).lens ++ [(spillRecord s m.mbo m.bytes).length] ∧
        (∃ f ∈ t.fired, f.event = 255 ∧ f.detail.toNat % 8 = m.mbo % 8))

/-- FW_RESTART with KEY 0xA5 (cause 2) or WARM_RESTART of a cause, while firmware runs: RUNNING reads 0, the cause is
kept, a restart is under way, commands begun whose effect is not R493's will run again, and of the registers only
RUNNING and POWER_SHEDS.SWITCHING move; memories, lanes, stalls and tables stand. FW_RESTART without the key sets
HOST_ERR.KEY and does nothing else; while firmware is stopped neither does anything. WARM_RESTART_END, while a restart
is under way: RUNNING reads 1, the restart is over, the seconds of IDENT_GET start again, FW_RESTARTS adds 1 and holds
at 255, the WARM_RESTART condition of HOST_IRQ_PEND is set, and E254 fires with the cause. (R466, R478, R479, R480,
R481, R485) -/
def Obligations.WarmRestartsStopAndStartFirmware : Prop :=
  ∀ s : State,
    (∀ cause, s.running = true → ∃ t, exec (.warmRestart cause) s = .next t ∧
      (portAlive s = true → cause = 2 → exec (.fwRestart 0xA5) s = .next t) ∧ t.running = false ∧ t.restarting = true ∧
      t.restartCause = cause ∧ t.waits = s.waits.filter waitSurvives ∧
      t = { s with regs := t.regs, restartCause := cause, restarting := true, waits := t.waits, cmds := t.cmds,
                   modeReqs := t.modeReqs, modeWait := none, modePost := [], shedPlan := t.shedPlan, twin := t.twin } ∧
      t.twin = { s.twin with ownedBefore := t.twin.ownedBefore } ∧ t.cmds.map (·.id) = s.cmds.map (·.id) ∧
      (∀ w ∈ s.waits, waitSurvives w = false → ∀ id, w.entry = some id → ∀ e ∈ t.cmds, e.id = id → e.st = .acked) ∧
      keepsRegsBut [(F.host_RUNNING, 0), (F.pwr_SWITCHING, 0)] s t) ∧
    (∀ key : Byte, portAlive s = true → key ≠ 0xA5 → ∃ t, exec (.fwRestart key) s = .next t ∧ onlyRegs s t ∧
      hostFlagged 7 s t ∧ keepsRegsBut [(F.host_ERR, 0)] s t) ∧
    (∀ cause, s.running = false → exec (.warmRestart cause) s = .next s ∧ exec (.fwRestart 0xA5) s = .next s) ∧
    (∀ due, s.restarting = true → ∃ t, exec (.warmRestartEnd due) s = .next t ∧ t.running = true ∧ t.restarting = false ∧
      t.fwStarted = s.tod ∧ t.get F.host_FW_RESTARTS 0 = min 255 (s.get F.host_FW_RESTARTS 0 + 1) ∧
      (t.get F.host_PEND_W1C 0).testBit 0 = true ∧
      ∃ f ∈ t.fired, f.event = 254 ∧ f.detail.toNat % 65536 = s.restartCause % 4)

/-- On a lane that receives (SENTENCE-RX, SENTENCE-HDX, DMX-RX), armed or with a start edge seen, a confirm sample that
reads high adds 1 to FALSE_START (held at its maximum) and sets the FALSE_START flag, with the lane's event where it
rose enabled. The lane is armed, its line reads high, no character has reached the holding register and what the
silence timer knows stands. Nothing else changes, but for a rate written meanwhile, which comes into use. (R63:
stated) -/
def Obligations.FalseStartIsCountedAndRearms : Prop :=
  ∀ (s : State) (n : Nat) (e : EdgeAt), n < 96 → (laneMode s n = 1 ∨ laneMode s n = 3 ∨ laneMode s n = 5) →
    (s.rxLane n).ignoring = false → (rxState s n = 3 ∨ (rxState s n = 4 ∧ (s.rxLane n).confirmed = false)) →
    ∃ t, exec (.startBit n true e) s = .next t ∧ t = { s with regs := t.regs, fired := t.fired, rx := t.rx } ∧
      t.get F.rx_N_FALSE_START n = min (s.get F.rx_N_FALSE_START n + 1) 0xFFFFFFFF ∧
      flagged F.rx_FLAGS F.rx_EVEN n 0 n s t ∧ rxState t n = 3 ∧ t.on F.rx_LINE n = true ∧
      t.rxLane n = { s.rxLane n with confirmed := false, baud := baudPeriod (s.reg ⟨.laneRx, n, 4⟩) } ∧
      (∀ k, k ≠ n → t.rxLane k = s.rxLane k) ∧
      keepsRegsBut [(F.rx_N_FALSE_START, n), (F.rx_FLAGS, n), (F.rx_STATE, n), (F.rx_LINE, n)] s t

/-- On a SENTENCE-RX or SENTENCE-HDX lane inside a character whose parity sample is wrong (and which is no break), the
stop sample puts the character, with its data bits, its parity flag set and its own time, into the holding register
for the parser, adds 1 to PARITY (held at its maximum) and sets the PARITY flag. (R68: stated) -/
def Obligations.ParityErrorIsCountedAndDelivered : Prop :=
  ∀ (s : State) (n : Nat) (c : CharSample) (wave : List Nat), n < 96 → (laneMode s n = 1 ∨ laneMode s n = 3) →
    (s.rxLane n).ignoring = false → rxState s n = 4 → (s.rxLane n).confirmed = true → rxParityBad s n c = true →
    (c.stop = true ∨ rxAllLow s n c = false) →
    ∃ t, exec (.laneCharacter n c wave) s = .next t ∧
      (t.rxLane n).hold = some { data := BitVec.ofNat 8 (rxData s n c), parityBad := true, framingBad := !c.stop,
                                 stamp := (s.rxLane n).edge, tsState := (s.rxLane n).edgeTs } ∧
      t.get F.rx_N_PARITY n = min (s.get F.rx_N_PARITY n + 1) 0xFFFFFFFF ∧ (t.get F.rx_FLAGS n).testBit 2 = true

/-- START_BIT low on an armed lane: STATE is inside a character, LINE 0, with the edge's time, and nothing else.
LANE_CHARACTER on a sentence lane inside a character: sound, the character is held for the parser, CHARS adds 1, the
lane is armed, SILENT ends; one still held is overwritten and OVERRUN adds 1. Stop low and a sample high: FRAMING adds
1 with its flag, the character is held marked so. All low: BREAK adds 1 with its flag, STATE is break, nothing is
held. A searching lane with no key matching adds 1 to AB_REJECT with its flag and changes nothing else; with one it
takes the rate, locks, is armed and holds the key. A sound slot of an open DMX packet joins it. (R62, R64, R65, R66,
R70, R73, R74, R75, R76, R81, R86, R106) -/
def Obligations.CharactersReachTheHoldingRegister : Prop :=
  ∀ (s : State) (n : Nat), n < 96 → (s.rxLane n).ignoring = false →
    (∀ e, (laneMode s n = 1 ∨ laneMode s n = 3 ∨ laneMode s n = 5) → rxState s n = 3 →
      ∃ t, exec (.startBit n false e) s = .next t ∧ t = { s with regs := t.regs, rx := t.rx } ∧ rxState t n = 4 ∧
        t.on F.rx_LINE n = false ∧ t.rxLane n = { s.rxLane n with confirmed := true, edge := edgeStamp s e, edgeTs := s.tsAt (edgeStamp s e) } ∧
        (∀ k, k ≠ n → t.rxLane k = s.rxLane k) ∧ keepsRegsBut [(F.rx_STATE, n), (F.rx_LINE, n)] s t) ∧
    (∀ (c : CharSample) (wave : List Nat), (laneMode s n = 1 ∨ laneMode s n = 3) → rxState s n = 4 →
      (s.rxLane n).confirmed = true →
      ∃ t, exec (.laneCharacter n c wave) s = .next t ∧
        (c.stop = true → rxParityBad s n c = false →
          (t.rxLane n).hold = some { data := BitVec.ofNat 8 (rxData s n c), parityBad := false, framingBad := false,
                                     stamp := (s.rxLane n).edge, tsState := (s.rxLane n).edgeTs } ∧
          t.get F.rx_CHARS n = min (s.get F.rx_CHARS n + 1) 0xFFFFFFFF ∧ rxState t n = 3 ∧ t.on F.rx_LINE n = true ∧
          t.on F.rx_SILENT n = false ∧ (t.rxLane n).heard = true ∧
          t.get F.rx_N_OVERRUN n = min (s.get F.rx_N_OVERRUN n + b2n (s.rxLane n).hold.isSome) 0xFFFFFFFF ∧
          ((s.rxLane n).hold = none → s.on F.rx_SILENT n = false → t = { s with regs := t.regs, rx := t.rx } ∧
            keepsRegsBut [(F.rx_CHARS, n), (F.rx_STATE, n), (F.rx_LINE, n)] s t)) ∧
        (c.stop = false → rxAllLow s n c = false → t.get F.rx_N_FRAMING n = min (s.get F.rx_N_FRAMING n + 1) 0xFFFFFFFF ∧
          (t.get F.rx_FLAGS n).testBit 1 = true ∧ rxState t n = 4 ∧ t.on F.rx_LINE n = false ∧
          ((t.rxLane n).hold.map (·.framingBad)) = some true) ∧
        (c.stop = false → rxAllLow s n c = true → (s.rxLane n).silentDue = false →
          t.get F.rx_N_BREAK n = min (s.get F.rx_N_BREAK n + 1) 0xFFFFFFFF ∧ (t.get F.rx_FLAGS n).testBit 3 = true ∧
          rxState t n = 5 ∧ t.on F.rx_LINE n = false ∧ (t.rxLane n).hold = (s.rxLane n).hold)) ∧
    (∀ (c : CharSample) (wave : List Nat), (laneMode s n = 1 ∨ laneMode s n = 3 ∨ laneMode s n = 5) → rxState s n = 2 →
      (abWinner s n wave = none → ∃ t, exec (.laneCharacter n c wave) s = .next t ∧ onlyRegs s t ∧
        t.get F.rx_N_AB_REJECT n = min (s.get F.rx_N_AB_REJECT n + 1) 0xFFFFFFFF ∧
        flagged F.rx_FLAGS F.rx_EVEN n 11 n s t ∧ keepsRegsBut [(F.rx_N_AB_REJECT, n), (F.rx_FLAGS, n)] s t) ∧
      (∀ k p, abWinner s n wave = some (k, p) → k.code < 8 → ∃ t, exec (.laneCharacter n c wave) s = .next t ∧
        t.reg ⟨.laneRx, n, 4⟩ = BitVec.ofNat 32 p ∧ t.on F.rx_LOCKED n = true ∧ t.get F.rx_LOCKED_KEY n = k.code ∧
        rxState t n = 3 ∧ (t.rxLane n).baud = baudPeriod (BitVec.ofNat 32 p) ∧
        (t.rxLane n).hold = some { data := BitVec.ofNat 8 k.byte, parityBad := false, framingBad := false,
                                   stamp := edgeStamp s c.edge, tsState := s.tsAt (edgeStamp s c.edge) })) ∧
    (∀ (c : CharSample) (wave : List Nat), laneMode s n = 5 → rxState s n = 4 → (s.rxLane n).confirmed = true →
      c.stop = true → rxParityBad s n c = false → (s.rxLane n).dmxOpen = true → (s.rxLane n).dmxSlots.length < 513 →
      ∃ t, exec (.laneCharacter n c wave) s = .next t ∧ t = { s with regs := t.regs, rx := t.rx, fired := t.fired } ∧ rxState t n = 3 ∧
        (t.rxLane n).dmxSlots = (s.rxLane n).dmxSlots ++ [BitVec.ofNat 8 (rxData s n c)] ∧
        t.get F.rx_CHARS n = min (s.get F.rx_CHARS n + 1) 0xFFFFFFFF ∧
        (s.on F.rx_SILENT n = false → t.fired = s.fired ∧ keepsRegsBut [(F.rx_STATE, n), (F.rx_LINE, n), (F.rx_CHARS, n)] s t))

/-- BREAK_END after a break: LINE 1 and the lane is armed, or searches where autobaud holds no lock; on a stuck lane STATE
is stuck with its line high, and a START_BIT of the line falling makes it stuck low again. LINE_STUCK_LOW with
STUCK_TO set: STUCK 1, STATE stuck, LINE 0, STUCK_CNT adds 1, LINE_STUCK_LOW is latched. LANE_ARM with S2 and S4 up: a
waiting lane is armed (or searches), a stuck one clears STUCK, latches its end and is armed (or searches).
TALKER_SILENT with SILENT_TO set: outside a character SILENT 1, SILENT_CNT adds 1 and the flag is latched; inside one
it waits for the stop sample. FRAGMENT with ICT set and a sentence open outside a character: FRAGMENT adds 1 with its
flag and the sentence is gone. REARM: a waiting lane without autobaud is armed; with autobaud the lock is dropped and
the lane searches; where S2 or S4 is down the lock alone goes. (R70, R71, R77, R78, R79, R80, R81, R82, R85, R546) -/
def Obligations.ReceiverTimersTakeEffect : Prop :=
  ∀ (s : State) (n : Nat), n < 96 → (laneMode s n = 1 ∨ laneMode s n = 3 ∨ laneMode s n = 5) →
    let searches := autobaudOn s n && !s.on F.rx_LOCKED n
    let here := [(F.rx_STATE, n), (F.rx_LINE, n), (F.rx_STUCK, n), (F.rx_LOCKED, n), (F.rx_LOCKED_KEY, n), (F.rx_FLAGS, n),
      (F.rx_STUCK_CNT, n), (F.rx_SILENT, n), (F.rx_SILENT_CNT, n)]
    ((s.rxLane n).ignoring = false → rxState s n = 5 → ∃ t, exec (.breakEnd n) s = .next t ∧
      t = { s with regs := t.regs, rx := t.rx } ∧ t.on F.rx_LINE n = true ∧ rxState t n = (if searches then 2 else 3) ∧
      keepsRegsBut here s t) ∧
    ((s.rxLane n).ignoring = false → rxState s n = 6 → ∃ t, exec (.breakEnd n) s = .next t ∧ t = { s with regs := t.regs } ∧
      t.on F.rx_LINE n = true ∧ rxState t n = 7 ∧ keepsRegsBut here s t ∧
      ∀ e, ∃ u, exec (.startBit n false e) t = .next u ∧ u = { t with regs := u.regs } ∧ u.on F.rx_LINE n = false ∧
        rxState u n = 6 ∧ keepsRegsBut here t u) ∧
    ((s.rxLane n).ignoring = false → s.get F.rx_STUCK_TO n ≠ 0 → 1 ≤ rxState s n → rxState s n ≤ 5 →
      (s.rxLane n).silentDue = false → ∃ t, exec (.lineStuckLow n) s = .next t ∧ t.on F.rx_STUCK n = true ∧
      rxState t n = 6 ∧ t.on F.rx_LINE n = false ∧ t.get F.rx_STUCK_CNT n = min (s.get F.rx_STUCK_CNT n + 1) 65535 ∧
      (t.get F.rx_FLAGS n).testBit 6 = true ∧ (t.rxLane n).dmxOpen = false ∧
      (laneOpen s n = false → t = { s with regs := t.regs, fired := t.fired, rx := t.rx } ∧ keepsRegsBut here s t)) ∧
    ((s.rxLane n).ignoring = false → s.shedUp 2 = true → s.shedUp 4 = true →
      (rxState s n = 1 → ∃ t, exec (.laneArm n) s = .next t ∧ t = { s with regs := t.regs, rx := t.rx } ∧
        t.on F.rx_LINE n = true ∧ rxState t n = (if searches then 2 else 3) ∧ keepsRegsBut here s t) ∧
      (rxState s n = 6 ∨ rxState s n = 7 → ∃ t, exec (.laneArm n) s = .next t ∧
        t = { s with regs := t.regs, rx := t.rx, fired := t.fired } ∧ t.on F.rx_STUCK n = false ∧
        t.on F.rx_LINE n = true ∧ flagged F.rx_FLAGS F.rx_EVEN n 7 n s t ∧
        rxState t n = (if autobaudOn s n then 2 else 3) ∧ keepsRegsBut here s t)) ∧
    (s.get F.rx_SILENT_TO n ≠ 0 → (s.rxLane n).heard = true → s.on F.rx_SILENT n = false →
      ((rxState s n = 4 ∧ (s.rxLane n).confirmed = true) →
        exec (.talkerSilent n) s = .next (s.putRx n { s.rxLane n with silentDue := true })) ∧
      (¬ (rxState s n = 4 ∧ (s.rxLane n).confirmed = true) → ∃ t, exec (.talkerSilent n) s = .next t ∧
        t = { s with regs := t.regs, rx := t.rx, fired := t.fired } ∧ t.on F.rx_SILENT n = true ∧
        t.get F.rx_SILENT_CNT n = min (s.get F.rx_SILENT_CNT n + 1) 65535 ∧ flagged F.rx_FLAGS F.rx_EVEN n 8 n s t ∧
        (t.rxLane n).heard = false ∧ keepsRegsBut here s t)) ∧
    (laneMode s n ≠ 5 → s.get F.rx_ICT n ≠ 0 → laneOpen s n = true →
      ¬ (rxState s n = 4 ∧ (s.rxLane n).confirmed = true) → ∃ t, exec (.fragment n) s = .next t ∧
      t.get F.rx_N_FRAGMENT n = min (s.get F.rx_N_FRAGMENT n + 1) 0xFFFFFFFF ∧ (t.get F.rx_FLAGS n).testBit 5 = true ∧
      (t.source (s.get F.tx_ROLE n)).sent = none ∧ t.rx = s.rx) ∧
    ((s.rxLane n).ignoring = false → s.shedUp 2 = true → s.shedUp 4 = true → autobaudOn s n = false → rxState s n = 1 →
      ∃ t, exec (.rearm n) s = .next t ∧ t = { s with regs := t.regs } ∧ rxState t n = 3 ∧
        keepsRegsBut [(F.rx_STATE, n)] s t) ∧
    (autobaudOn s n = true → (s.rxLane n).silentDue = false → ∃ t, exec (.rearm n) s = .next t ∧
      t = { s with regs := t.regs, rx := t.rx } ∧ t.on F.rx_LOCKED n = false ∧ t.get F.rx_LOCKED_KEY n = 0 ∧
      rxState t n = (if (s.rxLane n).ignoring || !upstream s || rxState s n == 6 || rxState s n == 7 then rxState s n else 2) ∧
      keepsRegsBut here s t)

/-- DMX_RX_BREAK with a low of at least one character (44 µs at 8 data bits without parity): below BREAK_MIN the BREAK and
DMX_SHORT counters add 1 and no packet is open; else, with a mark of at least MAB_MIN, a packet with no slots opens at
the edge's time, with a shorter mark DMX_SHORT adds 1. DMX_RX_PACKET_END: a packet with its start code is counted and
kept as the last one, its number wraps at 65,536; one without slots is dropped uncounted. SENSE_EDGE: EDGES adds 1,
LINE follows, a rising edge after NO_SIGNAL latches SIGNAL_BACK; the edge that completes GATE periods writes
PERIOD_SUM, HIGH_SUM and GATES together. SENSE_OVF: PERIOD_SUM 0xFFFF_FFFF, SENSE_OVF latched, the gate is over and
nothing else changes. NO_SIGNAL: latched once. (R106, R107, R109, R110, R111, R112, R120, R121) -/
def Obligations.DmxReceiveAndSenseLanes : Prop :=
  ∀ (s : State) (n : Nat), n < 96 →
    (∀ low mab e, laneMode s n = 5 → (rxState s n = 3 ∨ rxState s n = 4 ∨ rxState s n = 5) →
      (2 + (if s.on F.rx_DATA7 n then 7 else 8) +
        (if s.get F.rx_PARITY n = 1 ∨ s.get F.rx_PARITY n = 2 then 1 else 0)) * 1600 ≤ low →
      let brk := (if s.get F.tx_BREAK_MIN n = 0 then 88 else s.get F.tx_BREAK_MIN n) * 400
      let mark := (if s.get F.tx_MAB_MIN n = 0 then 8 else s.get F.tx_MAB_MIN n) * 400
      ∃ t, exec (.dmxRxBreak n low mab e) s = .next t ∧ rxState t n = 3 ∧ t.on F.rx_LINE n = true ∧
        (low < brk → t.get F.rx_N_BREAK n = min (s.get F.rx_N_BREAK n + 1) 0xFFFFFFFF ∧
          t.get F.tx_N_DMX_SHORT n = min (s.get F.tx_N_DMX_SHORT n + 1) 0xFFFFFFFF ∧ (t.rxLane n).dmxOpen = false) ∧
        (brk ≤ low → mark ≤ mab → (t.rxLane n).dmxOpen = true ∧ (t.rxLane n).dmxSlots = [] ∧
          (t.rxLane n).dmxStamp = edgeStamp s e) ∧
        (brk ≤ low → mab < mark → (t.rxLane n).dmxOpen = false ∧
          t.get F.tx_N_DMX_SHORT n = min (s.get F.tx_N_DMX_SHORT n + 1) 0xFFFFFFFF)) ∧
    (laneMode s n = 5 → (s.rxLane n).dmxOpen = true → ∃ t, exec (.dmxRxPacketEnd n) s = .next t ∧
      (t.rxLane n).dmxOpen = false ∧ (t.rxLane n).dmxSlots = [] ∧
      ((s.rxLane n).dmxSlots = [] → t = { s with rx := t.rx }) ∧
      ((s.rxLane n).dmxSlots ≠ [] → t.get F.tx_DMX_PKTS n = min (s.get F.tx_DMX_PKTS n + 1) 0xFFFFFFFF ∧
        (t.rxLane n).dmxLast = some (s.rxLane n).dmxSlots ∧ (t.rxLane n).dmxCount = ((s.rxLane n).dmxCount + 1) % 65536 ∧
        (s.get F.tx_OUT n = 0 → t = { s with regs := t.regs, rx := t.rx } ∧ keepsRegsBut [(F.tx_DMX_PKTS, n)] s t))) ∧
    (∀ rising cycles e, laneMode s n = 9 → ∃ t, exec (.senseEdge n rising cycles e) s = .next t ∧
      t.get F.tx_EDGES n = min (s.get F.tx_EDGES n + 1) 0xFFFFFFFF ∧ t.on F.rx_LINE n = rising ∧
      (rising = true → (s.rxLane n).noSignal = true → (t.get F.tx_FLAGS n).testBit 7 = true ∧
        (t.rxLane n).noSignal = false) ∧
      (s.on F.tx_MEAS_EN n = false → s.get F.tx_CAPT_EDGE n = 0 → (s.rxLane n).noSignal = false →
        t = { s with regs := t.regs, rx := t.rx } ∧ keepsRegsBut [(F.tx_EDGES, n), (F.rx_LINE, n)] s t) ∧
      (s.on F.tx_MEAS_EN n = true → (s.rxLane n).gateOpen = true → (s.rxLane n).noSignal = false → rising = true →
        max 1 (s.get F.tx_GATE n) ≤ (s.rxLane n).gatePeriods + 1 → (s.rxLane n).gateCycles + cycles < 2 ^ 32 →
        (s.rxLane n).gateHighCycles < 2 ^ 32 → (s.rxLane n).gateHigh = false →
        t.get F.tx_PERIOD_SUM n = (s.rxLane n).gateCycles + cycles ∧
        t.get F.tx_HIGH_SUM n = (s.rxLane n).gateHighCycles ∧
        t.get F.tx_GATES n = (s.get F.tx_GATES n + 1) % 2 ^ 32)) ∧
    (laneMode s n = 9 → s.on F.tx_MEAS_EN n = true → (s.rxLane n).gateOpen = true → ∃ t, exec (.senseOvf n) s = .next t ∧
      t = { s with regs := t.regs, rx := t.rx, fired := t.fired } ∧ t.get F.tx_PERIOD_SUM n = 0xFFFFFFFF ∧
      flagged F.tx_FLAGS F.tx_EVEN n 5 n s t ∧ (t.rxLane n).gateOpen = false ∧
      keepsRegsBut [(F.tx_PERIOD_SUM, n), (F.tx_FLAGS, n)] s t) ∧
    (laneMode s n = 9 → s.get F.rx_SILENT_TO n ≠ 0 → (s.rxLane n).noSignal = false → ∃ t, exec (.noSignal n) s = .next t ∧
      (t.rxLane n).noSignal = true ∧ (t.get F.tx_FLAGS n).testBit 6 = true ∧
      (s.shedUp 5 = false → t = { s with regs := t.regs, rx := t.rx, fired := t.fired } ∧
        flagged F.tx_FLAGS F.tx_EVEN n 6 n s t ∧ keepsRegsBut [(F.tx_FLAGS, n)] s t))

/-- LISTENER_GRANT on a sentence lane that is idle or in its tail, or on a port, with a waiting record of the class that
R171 chooses: it is granted from its stall's head buffer, unreleased; DE rises for its lead, an HDX lane waits for its
turn, and with DE still high it waits for its first start bit (a port puts its bytes into a datagram). HDX_TURN_READY:
DE rises and the receiver ignores its line. TX_LEAD_END: sending from the first character, with the rate then written
where DE was high. TX_CHARACTER_END: the next character, or after the last one SENT adds 1, the record is no longer
held and the tail runs; on a DMX lane the next slot, or DMX_PKTS adds 1. A bad echo with ECHO_CHECK, or
LEAD_COLLISION: COLLISION adds 1; below RETRY the record is kept for another try, else TX_DROP adds 1 and it goes.
DE_TAIL_END with no mode or move waiting: DE falls, to back-off after a collision. BACKOFF_END: it waits for its turn.
ECHO_GUARD_END: the receiver waits to re-arm. DMX_BREAK: a packet starts from the next image. (R96, R97, R98, R100,
R101, R102, R103, R104, R105, R171, R223, R424) -/
def Obligations.TransmittersGrantSendAndRetry : Prop :=
  ∀ (s : State) (n : Nat), n < 96 → s.laneUp n = true →
    let x := s.txLane n
    (∀ l q c, l < 96 → roleLane s l = some n → (laneMode s n = 2 ∨ laneMode s n = 3) → x.granted = none → x.moveTo = none →
      s.on F.tx_PENDING n = false → upstream s = true → grantsStopped s = false → bypassed s n = false →
      ((x.phase = .idle ∧ x.de = false) ∨ (x.phase = .tail ∧ x.de = true)) →
      tget s.unbound l [] = [] → grantClass s l = some c → (bound s l).find? (fun e => e.2 == c) = some (q, c) →
      let rec0 := headRecord s q
      fld rec0 4 20 4 ≠ 3 → ∃ t, exec (.listenerGrant l) s = .next t ∧
        t = { s with tx := t.tx, bindings := t.bindings, unbound := t.unbound } ∧
        (t.txLane n).phase = (if x.de = true then .next else if laneMode s n = 3 then .waiting else .lead) ∧
        (t.txLane n).de = decide (x.de = true ∨ laneMode s n = 2) ∧ ((t.txLane n).granted.map (fun g => (g.q, g.cls, g.bytes))) =
          some (q, c, rec0.take (24 + fld rec0 0 0 16)) ∧ (∀ k, k ≠ n → t.txLane k = s.txLane k)) ∧
    (laneMode s n = 3 → x.phase = .waiting → rxState s n ≠ 4 → laneOpen s n = false → upstream s = true →
      (s.rxLane n).silentDue = false → ∃ t, exec (.hdxTurnReady n) s = .next t ∧
      t = { s with regs := t.regs, tx := t.tx, rx := t.rx } ∧ (t.txLane n).de = true ∧ (t.txLane n).phase = .lead ∧
      (t.txLane n).baud = baudPeriod (s.reg ⟨.laneTx, n, 8⟩) ∧ (t.rxLane n).ignoring = true ∧ rxState t n = 1 ∧
      keepsRegsBut [(F.rx_STATE, n)] s t) ∧
    (x.phase = .lead → exec (.txLeadEnd n) s = .next (s.putTx n { x with phase := .sending, pos := 0 })) ∧
    (x.phase = .next → ∃ t, exec (.txLeadEnd n) s = .next t ∧ t = { s with tx := t.tx } ∧
      t.txLane n = { x with phase := .sending, pos := 0, baud := baudPeriod (s.reg ⟨.laneTx, n, 8⟩) }) ∧
    (∀ e g, laneMode s n ≠ 4 → x.phase = .sending → x.granted = some g →
      let bad := laneMode s n == 3 && s.on F.tx_ECHO_CHECK n && echoBad s n (byteAt g.body x.pos).toNat e
      (bad = false → x.pos + 1 < g.body.length →
        exec (.txCharacterEnd n e) s = .next (s.putTx n { x with pos := x.pos + 1, driven := sentBits s n g.body x.pos })) ∧
      (bad = false → g.body.length ≤ x.pos + 1 → ∃ t, exec (.txCharacterEnd n e) s = .next t ∧
        t.get F.tx_SENT n = min (s.get F.tx_SENT n + 1) 0xFFFFFFFF ∧ (t.txLane n).granted = none ∧
        (t.txLane n).phase = .tail) ∧
      (bad = true → ∃ t, exec (.txCharacterEnd n e) s = .next t ∧ (t.txLane n).phase = .tail ∧
        t.get F.tx_N_COLLISION n = min (s.get F.tx_N_COLLISION n + 1) 0xFFFFFFFF ∧
        (x.tries < s.get F.tx_RETRY n → (t.txLane n).granted = some g ∧ (t.txLane n).tries = x.tries + 1 ∧
          (t.txLane n).collided = true) ∧
        (s.get F.tx_RETRY n ≤ x.tries → (t.txLane n).granted = none ∧
          t.get F.tx_N_TX_DROP n = min (s.get F.tx_N_TX_DROP n + 1) 0xFFFFFFFF))) ∧
    (∀ e, laneMode s n = 4 → x.dmxRunning = true → ∃ t, exec (.txCharacterEnd n e) s = .next t ∧
      (x.pos < min 512 (s.get F.tx_DMX_SLOTS n) → t = s.putTx n
        { x with pos := x.pos + 1, driven := charBits false 0 2 0 (tget x.dmxImage x.pos 0).toNat }) ∧
      (min 512 (s.get F.tx_DMX_SLOTS n) ≤ x.pos → (t.txLane n).dmxRunning = false ∧
        t.get F.tx_DMX_PKTS n = min (s.get F.tx_DMX_PKTS n + 1) 0xFFFFFFFF ∧
        t = { s with regs := t.regs, tx := t.tx, twin := t.twin } ∧ keepsRegsBut [(F.tx_DMX_PKTS, n)] s t)) ∧
    (x.phase = .tail → x.moveTo = none → s.on F.tx_PENDING n = false →
      exec (.deTailEnd n) s = .next (s.putTx n { x with de := false, phase := if x.collided = true then .backoff else .idle })) ∧
    (laneMode s n = 3 → s.on F.tx_ECHO_CHECK n = true → x.phase = .lead → x.tries < s.get F.tx_RETRY n →
      x.moveTo = none → s.on F.tx_PENDING n = false → ∃ t, exec (.leadCollision n) s = .next t ∧ t = { s with regs := t.regs, fired := t.fired, tx := t.tx } ∧
        t.get F.tx_N_COLLISION n = min (s.get F.tx_N_COLLISION n + 1) 0xFFFFFFFF ∧ flagged F.tx_FLAGS F.tx_EVEN n 0 n s t ∧
        t.txLane n = { x with tries := x.tries + 1, collided := true, pos := 0, de := false, phase := .backoff } ∧
        keepsRegsBut [(F.tx_N_COLLISION, n), (F.tx_FLAGS, n)] s t) ∧
    (x.phase = .backoff → exec (.backoffEnd n) s = .next (s.putTx n { x with phase := .waiting, collided := false, pos := 0 })) ∧
    (laneMode s n = 3 → (s.rxLane n).ignoring = true → x.de = false → ∃ t, exec (.echoGuardEnd n) s = .next t ∧
      t = { s with regs := t.regs, rx := t.rx } ∧ t.rxLane n = { s.rxLane n with ignoring := false } ∧
      rxState t n = (if s.on F.rx_STUCK n then (if s.on F.rx_LINE n then 7 else 6) else 1) ∧ keepsRegsBut [(F.rx_STATE, n)] s t) ∧
    (laneMode s n = 4 → x.dmxRunning = false → x.phase = .idle → x.moveTo = none → s.on F.tx_PENDING n = false →
      grantsStopped s = false → (s.on F.tx_DMX_SYNC_TICK n = false ∨ x.tickDue = true) →
      exec (.dmxBreak n) s = .next (s.putTx n { x with dmxRunning := true, pos := 0, de := true, dmxImage := x.dmxNext,
                                                       dmxSeq := x.dmxNextSeq, tickDue := false })) ∧
    (∀ p q c, p < 2 → portReady s p = true → tget s.unbound (96 + p) [] = [] → grantClass s (96 + p) = some c →
      (bound s (96 + p)).find? (fun e => e.2 == c) = some (q, c) →
      let rec0 := headRecord s q
      ∃ t, exec (.listenerGrant (96 + p)) s = .next t ∧
        t = { s with eth := t.eth, bindings := t.bindings, unbound := t.unbound } ∧ (t.ethPort p).sending = true ∧
        (t.ethPort p).out.map (fun d => (d.ip, d.udp, d.payload)) = (s.ethPort p).out.map (fun d => (d.ip, d.udp, d.payload)) ++
          [(s.reg (F.eth_DEST_IP.addr p), s.get F.eth_DEST_UDP p, rec0.take (24 + fld rec0 0 0 16))])

/-- LANE_MODE_WRITE on a powered lane: a paddock lane takes none; the mode in force cancels a pending one and sets
MODE_DONE at once; any other is pending. LANE_MODE_BOUNDARY with a mode pending: between sentences it is in force
(values 10 to 15, and pixel modes where the variant has none, as OFF), nothing is pending, MODE_DONE is set and the
receiver waits to re-arm in a receive mode, else is idle; before the first start bit the record stays at the head of
its stall and the tail runs; during a sentence with DRAIN 0 the record is given up, TX_ABORT adds 1 and the tail runs;
with DRAIN 1 the sentence goes on; with nothing pending nothing happens. With a role move waiting, the new lane takes
the role and the mode, the old one is OFF with role 127, and both set ROLE_MOVED. (R94, R95, R113, R114, R115, R117) -/
def Obligations.LaneModesChangeAtTheirBoundary : Prop :=
  ∀ (s : State) (n : Nat), n < 96 → s.laneUp n = true →
    let x := s.txLane n
    (∀ m, m < 16 → (s.on F.tx_PADDOCK n = true → exec (.laneModeWrite n m) s = .next s) ∧
      (s.on F.tx_PADDOCK n = false → ∃ t, exec (.laneModeWrite n m) s = .next t ∧ t.get F.tx_MODE n = m ∧
        (m = s.get F.tx_ACTIVE n → onlyRegs s t ∧ t.on F.tx_PENDING n = false ∧ flagged F.tx_FLAGS F.tx_EVEN n 8 n s t ∧
          keepsRegsBut [(F.tx_MODE, n), (F.tx_PENDING, n), (F.tx_FLAGS, n)] s t) ∧
        (m ≠ s.get F.tx_ACTIVE n → t = { s with regs := t.regs } ∧ t.on F.tx_PENDING n = true ∧
          keepsRegsBut [(F.tx_MODE, n), (F.tx_PENDING, n)] s t))) ∧
    (s.on F.tx_PENDING n = false → x.moveTo = none → exec (.laneModeBoundary n) s = .next s) ∧
    (s.on F.tx_PENDING n = true → x.moveTo = none → x.phase = .idle → (laneMode s n = 4 → x.de = false) →
      let m := if s.get F.tx_MODE n < 10 ∧ (s.part.hasPixel = true ∨ pixelMode (s.get F.tx_MODE n) = false) then s.get F.tx_MODE n else 0
      ∃ t, exec (.laneModeBoundary n) s = .next t ∧ t.get F.tx_ACTIVE n = m ∧ t.on F.tx_PENDING n = false ∧
        (t.get F.tx_FLAGS n).testBit 8 = true ∧ rxState t n = (if m = 1 ∨ m = 3 ∨ m = 5 then 1 else 0) ∧
        (t.txLane n).phase = .idle ∧ (t.txLane n).de = decide (m = 4) ∧ (t.txLane n).granted = none ∧
        (laneOpen s n = false → t = { s with regs := t.regs, fired := t.fired, rx := t.rx, tx := t.tx, enc := t.enc })) ∧
    (s.on F.tx_PENDING n = true → x.moveTo = none → (x.phase = .lead ∨ x.phase = .next) →
      exec (.laneModeBoundary n) s = .next
        (s.putTx n { x with granted := none, pos := 0, tries := 0, collided := false, phase := .tail })) ∧
    (s.on F.tx_PENDING n = true → x.moveTo = none → x.phase = .sending → s.on F.tx_DRAIN n = true →
      exec (.laneModeBoundary n) s = .next s) ∧
    (s.on F.tx_PENDING n = true → x.moveTo = none → x.phase = .sending → s.on F.tx_DRAIN n = false →
      ∃ t, exec (.laneModeBoundary n) s = .next t ∧ (t.txLane n).phase = .tail ∧ (t.txLane n).granted = none ∧
        t.get F.tx_N_TX_ABORT n = min (s.get F.tx_N_TX_ABORT n + 1) 0xFFFFFFFF ∧ (t.get F.tx_FLAGS n).testBit 2 = true) ∧
    (∀ k, x.moveTo = some k → k < 96 → k ≠ n → x.phase = .idle → (laneMode s n = 4 → x.de = false) →
      (∀ w ∈ s.waits, ∀ a, w.on ≠ .roleMove n a) →
      ∃ t, exec (.laneModeBoundary n) s = .next t ∧ t.get F.tx_ROLE k = s.get F.tx_ROLE n ∧
        t.get F.tx_ACTIVE k = s.get F.tx_ACTIVE n ∧ t.on F.tx_PADDOCK k = false ∧ t.get F.tx_ROLE n = 127 ∧
        t.get F.tx_ACTIVE n = 0 ∧ (t.txLane n).moveTo = none ∧ (t.get F.tx_FLAGS n).testBit 9 = true ∧
        (t.get F.tx_FLAGS k).testBit 9 = true)

/-- With a RANGE of fitted lanes and its checks passed, each command answers OK. LANE_MODE_SET: the lane of each role has
MODE written, pending where it is not the mode in force; a pixel or PWM mode on a variant without a pixel pipeline is
NOT_FITTED. LANE_RX_SET and LANE_TX_SET: its registers' RW fields take the body's words, but a programmed key's runs
come from its byte. LANE_EVEN_SET: each powered lane's enables. LANE_CNT_CLR: its counters read 0. LANE_REARM: a
waiting lane without autobaud is armed. LANE_PADDOCK_SET: OFF lanes enter the paddock with no role and leave it with
the role they parked. Registers of lanes not named, and everything beside lanes, are as before. LANE_ROLE_MOVE to a
paddock lane waits for the boundary. LANE_STATUS_GET answers the 18 receiver and 22 transmitter words. (R6, R90, R91,
R92, R113, R114, R118, R122, R123, R489, R497, R498) -/
def Obligations.LaneCommandsReachTheirLanes : Prop :=
  ∀ (r : Req) (s : State), takes s r = true →
    let first := u16 r.body 0
    let count := u16 r.body 2
    let lanes := (List.range count).map (fun i => first + i)
    let others := fun (q : RegAddr) => lanes.any (fun role => roleLane s role == some q.inst) && (q.blk == .laneRx || q.blk == .laneTx)
    let named := fun (q : RegAddr) => lanes.contains q.inst && (q.blk == .laneRx || q.blk == .laneTx)
    let prog := if bits (u32 r.body 12) 19 1 = 1 then progRuns (bits (u32 r.body 12) 0 8) (if flag r.body 4 0 = true then 7 else 8)
      else some (0, 0)
    (0 < count → first + count ≤ s.part.lanes →
      (r.body.length = 8 → 6 ≤ fld r.body 4 0 4 → fld r.body 4 0 4 ≤ 8 → s.part.hasPixel = false →
        exec (.laneModeSet r) s = .next (refusedWith 0x0201 7 r s)) ∧
      (r.body.length = 8 → fld r.body 4 0 4 < 10 → (6 ≤ fld r.body 4 0 4 → fld r.body 4 0 4 ≤ 8 → s.part.hasPixel = true) →
        lanes.any (roleParked s) = false → ∃ t, exec (.laneModeSet r) s = .next (answered 0x0201 true r t []) ∧ onlyRegs s t ∧
          (∀ role ∈ lanes, ∀ n, roleLane s role = some n → s.on F.tx_PADDOCK n = false →
            t.get F.tx_MODE n = fld r.body 4 0 4 ∧ t.on F.tx_PENDING n = decide (fld r.body 4 0 4 ≠ s.get F.tx_ACTIVE n)) ∧
          keepsRegsOutside others s t) ∧
      (∀ p, r.body.length = 24 → fld r.body 4 1 2 ≠ 3 → prog = some p →
        (flag r.body 4 4 = true → keyRuns (u32 r.body 12) prog ≠ []) →
        ambiguous (keyRuns (u32 r.body 12) prog) = false → lanes.any (roleParked s) = false →
        ∃ t, exec (.laneRxSet r) s = .next (answered 0x0202 true r t []) ∧ t = { s with regs := t.regs, rx := t.rx } ∧
          (∀ role ∈ lanes, ∀ n, roleLane s role = some n → rwWritten ⟨.laneRx, n, 0⟩ (BitVec.ofNat 32 (u32 r.body 4)) s t ∧
            t.reg ⟨.laneRx, n, 4⟩ = BitVec.ofNat 32 (u32 r.body 8) ∧
            t.get F.rx_PROG_LOW n = p.1 ∧ t.get F.rx_PROG_HIGH n = p.2 ∧
            (∀ f ∈ [F.rx_PROG_KEY, F.rx_KEY_DOLLAR, F.rx_KEY_BANG, F.rx_KEY_PCT, F.rx_KEY_PROG],
              t.get f n = bits (u32 r.body 12) f.lo f.width) ∧
            rwWritten ⟨.laneRx, n, 12⟩ (BitVec.ofNat 32 (u32 r.body 16)) s t ∧
            rwWritten ⟨.laneRx, n, 16⟩ (BitVec.ofNat 32 (u32 r.body 20)) s t) ∧ keepsRegsOutside others s t) ∧
      (r.body.length = 36 → fld r.body 4 1 2 ≠ 3 → fld r.body 32 19 8 < 240 →
        (fld r.body 32 0 2 = 0 ∨ s.on F.stall_MODE (fld r.body 32 19 8) = false ∧ capNames s 8 (fld r.body 32 19 8) = false) → lanes.any (roleParked s) = false →
        ∃ t, exec (.laneTxSet r) s = .next (answered 0x0203 true r t []) ∧ t = { s with regs := t.regs } ∧
          (∀ role ∈ lanes, ∀ n, roleLane s role = some n → ∀ k, k < 8 →
            rwWritten ⟨.laneTx, n, 4 + 4 * k⟩ (BitVec.ofNat 32 (u32 r.body (4 + 4 * k))) s t) ∧ keepsRegsOutside others s t) ∧
      (r.body.length = 12 → ∃ t, exec (.laneEvenSet r) s = .next (answered 0x0206 true r t []) ∧ t = { s with regs := t.regs } ∧
        (∀ n ∈ lanes, s.laneUp n = true → rwWritten ⟨.laneRx, n, 0x1C⟩ (BitVec.ofNat 32 (u32 r.body 4)) s t ∧
          rwWritten ⟨.laneTx, n, 0x34⟩ (BitVec.ofNat 32 (u32 r.body 8)) s t) ∧ keepsRegsOutside named s t) ∧
      (r.body.length = 4 → ∃ t, exec (.laneCntClr r) s = .next (answered 0x0205 false r t []) ∧ t = { s with regs := t.regs } ∧
        (∀ n ∈ lanes, s.laneUp n = true → (∀ o, 0x24 ≤ o → o ≤ 0x44 → o % 4 = 0 → t.reg ⟨.laneRx, n, o⟩ = 0) ∧
          (∀ o, 0x38 ≤ o → o ≤ 0x54 → o % 4 = 0 → t.reg ⟨.laneTx, n, o⟩ = 0) ∧
          t.get F.rx_PEAK n = s.get F.rx_LEVEL n % 4096) ∧ keepsRegsOutside named s t) ∧
      (r.body.length = 4 → lanes.any (roleParked s) = false → ∃ t, exec (.laneRearm r) s = .next (answered 0x0207 false r t []) ∧
        t = { s with regs := t.regs, rx := t.rx, fired := t.fired } ∧
        (∀ role ∈ lanes, ∀ n, roleLane s role = some n → (laneMode s n = 1 ∨ laneMode s n = 3) → rxState s n = 1 →
          upstream s = true → (s.rxLane n).ignoring = false → s.on F.rx_AB_EN n = false → rxState t n = 3) ∧
        keepsRegsOutside others s t) ∧
      (r.body.length = 8 → (∀ n ∈ lanes, s.laneUp n = true → laneOff s n = true) →
        ∃ t, exec (.lanePaddockSet r) s = .next (answered 0x0208 true r t []) ∧ t = { s with regs := t.regs, tx := t.tx } ∧
          (∀ n ∈ lanes, s.laneUp n = true → s.on F.tx_PADDOCK n = !flag r.body 4 0 →
            t.on F.tx_PADDOCK n = flag r.body 4 0 ∧
            (flag r.body 4 0 = true → t.get F.tx_ROLE n = 127 ∧ (s.get F.tx_ROLE n < 96 →
              (t.txLane n).parked = some (s.get F.tx_ROLE n))) ∧
            (flag r.body 4 0 = false → ∀ role, role < 96 → (s.txLane n).parked = some role → t.get F.tx_ROLE n = role)) ∧
          keepsRegsOutside named s t)) ∧
    (∀ old, r.body.length = 4 → fld r.body 0 0 7 < s.part.lanes → fld r.body 0 8 7 < s.part.lanes →
      roleParked s (fld r.body 0 0 7) = false → s.shedUp (laneShed (fld r.body 0 8 7)) = true →
      s.on F.tx_PADDOCK (fld r.body 0 8 7) = true → roleLane s (fld r.body 0 0 7) = some old →
      s.tx.any (fun e => e.2.moveTo == some (fld r.body 0 8 7)) = false → (s.txLane old).moveTo = none →
      ∃ t, exec (.laneRoleMove r) s = .next t ∧ t = { s with tx := t.tx, waits := t.waits } ∧
        t.txLane old = { s.txLane old with moveTo := some (fld r.body 0 8 7) } ∧ t.waits.length = s.waits.length + 1) ∧
    (r.body.length = 4 → fld r.body 0 0 7 < s.part.lanes →
      exec (.laneStatusGet r) s = .next (answered 0x0204 false r s
        (readWords s .laneRx (fld r.body 0 0 7) 0 18 ++ readWords s .laneTx (fld r.body 0 0 7) 0 22)))

/-- LANE_RX_CNT_CLR (PEAK starts again at LEVEL), LANE_TX_CNT_CLR, PARSE_CNT_CLR, ROUTER_CNT_CLR (with every entry's
hits), VOTE_CNT_CLR, YARD_CNT_CLR (with the DUE and CE capture marks), PIXEL_CNT_CLR, ENC_CNT_CLR, MEAS_CNT_CLR,
STR_CNT_CLR, ETH_CNT_CLR and a stall's CNT_CLR (LOST and RESETS), on a fitted unit with its shed up: the block's
counters read 0 and nothing else changes. SEQ_CLR: the next sentence of the source has number 0 and is marked
SEQ_START; nothing else changes. (R85, R92, R118, R123, R145, R153, R154, R188, R209, R279, R367, R454) -/
def Obligations.CounterClearsClearExactlyTheirCounters : Prop :=
  ∀ s : State,
    (∀ n, n < 96 → s.laneUp n = true → ∃ t, exec (.laneRxCntClr n) s = .next t ∧ t = { s with regs := t.regs } ∧
      (∀ f ∈ [F.rx_CHARS, F.rx_N_FALSE_START, F.rx_N_FRAMING, F.rx_N_PARITY, F.rx_N_BREAK, F.rx_N_OVERRUN, F.rx_N_FRAGMENT,
        F.rx_N_AB_REJECT, F.rx_STUCK_CNT, F.rx_SILENT_CNT], t.get f n = 0) ∧ t.get F.rx_PEAK n = s.get F.rx_LEVEL n ∧
      keepsRegsOutside (fun q => q.blk == .laneRx && q.inst == n && decide (0x20 ≤ q.off) && decide (q.off ≤ 0x44)) s t ∧
      t.get F.rx_LEVEL n = s.get F.rx_LEVEL n) ∧
    (∀ n, n < 96 → s.laneUp n = true → ∃ t, exec (.laneTxCntClr n) s = .next t ∧
      cleared [F.tx_SENT, F.tx_N_COLLISION, F.tx_N_TX_DROP, F.tx_N_TX_ABORT, F.tx_DMX_PKTS, F.tx_N_DMX_SHORT,
        F.tx_N_DMX_UPD_ERR, F.tx_EDGES] n s t) ∧
    (∀ i, i < 65536 → s.part.hasSource i = true → s.shedUp 2 = true → ∃ t, exec (.parseCntClr i) s = .next t ∧
      cleared [F.parse_RERUN, F.parse_RERUN_FAIL, F.parse_ACCEPTED, F.parse_RUNT, F.parse_OVERLONG, F.parse_BAD_CHECK,
        F.parse_MALFORMED, F.parse_RESTART, F.parse_STRAY, F.parse_DAMAGED, F.parse_DMG_STUCK, F.parse_DMG_BREAK,
        F.parse_DMG_OVERRUN, F.parse_DMG_FLAG, F.parse_DMG_ICT, F.parse_DMG_MODE] i s t) ∧
    (∀ i, i < 65536 → s.part.hasSource i = true → s.shedUp 2 = true → ∃ t, exec (.seqClr i) s = .next t ∧
      t = { s with regs := t.regs, srcs := t.srcs } ∧ t.get F.parse_NEXT i = 0 ∧
      t.source i = { s.source i with seqStart := true, lastNext := 0 } ∧ (∀ k, k ≠ i → t.source k = s.source k) ∧
      keepsRegsBut [(F.parse_NEXT, i)] s t) ∧
    (s.shedUp 2 = true → ∃ t, exec .routerCntClr s = .next t ∧ t.hits = [] ∧
      cleared [F.router_CLASSIFIED, F.router_MISS, F.router_DROPPED, F.router_BAD_DROPPED, F.router_CLASS0_REFUSED,
        F.router_DECIMATED, F.router_RATE_DROP, F.router_EMPTY_GROUP, F.router_COPIES, F.router_COPY_ABANDONED,
        F.router_HOOKS, F.router_HOOK_ERR, F.router_SWAPS] 0 { s with hits := [] } t) ∧
    (s.shedUp 3 = true → ∃ t, exec .voteCntClr s = .next t ∧
      cleared [F.vote_VOTED, F.vote_COPIES0, F.vote_DISSENTS, F.vote_NO_MAJORITY, F.vote_PRIMARY_MISMATCH, F.vote_OVERRIDES,
        F.vote_OVR_ERR, F.vote_DEGRADED_VOTES] 0 s t) ∧
    (s.shedUp 4 = true → ∃ t, exec .yardCntClr s = .next t ∧
      cleared [F.yard_N_CE, F.yard_N_DUE, F.yard_N_WRITE_LOST, F.yard_N_RANGE, F.yard_N_TACK_CE, F.yard_FAILS, F.yard_VOIDS,
        F.yard_DUE_VALID, F.yard_CE_VALID] 0 s t) ∧
    (s.part.hasPixel = true → s.shedUp 5 = true → ∃ t, exec .pixelCntClr s = .next t ∧
      cleared [F.pixel_SHOWN, F.pixel_REPEATS, F.pixel_SKIPPED, F.pixel_COMMITS, F.pixel_DUE_PIXELS, F.pixel_DUE_SEGMENTS,
        F.pixel_N_SRC_IGNORED, F.pixel_SEED_WAITS] 0 s t) ∧
    (∀ n, n < s.part.lanes → s.part.hasPixel = true → s.shedUp 5 = true → ∃ t, exec (.encCntClr n) s = .next t ∧
      cleared [F.enc_FRAMES, F.enc_N_START_LATE, F.enc_N_UNDERRUN, F.enc_N_LATCH_MISS, F.enc_N_FRAME_SKIP] n s t) ∧
    (s.shedUp 6 = true → ∃ t, exec .measCntClr s = .next t ∧ t = { s with regs := t.regs } ∧
      t.get F.meas_CAL_LOG_LOST 0 = 0 ∧ (∀ n, n < 24 → t.get F.ch_OVERRANGE n = 0 ∧ t.get F.ch_LIMIT n = 0) ∧
      keepsRegsBut ((F.meas_CAL_LOG_LOST, 0) :: (List.range 24).flatMap (fun n => [(F.ch_OVERRANGE, n), (F.ch_LIMIT, n)])) s t) ∧
    (s.part.hasPixel = true → s.shedUp 7 = true → ∃ t, exec .strCntClr s = .next t ∧
      cleared [F.str_FRAMES, F.str_BAD_FRAMES, F.str_CODE_ERR, F.str_N_CRD_VIOL, F.str_LINK_DOWNS, F.str_SB_MSGS, F.str_N_SB_ERR,
        F.str_STRAY] 0 s t) ∧
    (∀ p, p < s.part.ports → s.shedUp 7 = true → ∃ t, exec (.ethCntClr p) s = .next t ∧
      cleared [F.eth_RX_FRAMES, F.eth_N_RX_ERR, F.eth_RX_NOTME, F.eth_RX_OTHER, F.eth_N_RX_NOBUF, F.eth_TX_FRAMES,
        F.eth_N_E131_DROP, F.eth_N_AUTH_FAIL] p s t) ∧
    (∀ q, q < 256 → s.shedUp 4 = true → s.get F.stall_SIZE_LOG2 q ≠ 0 → s.get F.stall_STATE q ≠ 0 →
      (s.stall q).reset = none → ∃ t, exec (.stallCntClr ⟨q, 0⟩) s = .next t ∧ cleared [F.stall_LOST, F.stall_RESETS] q s t)

/-- An access to the tack room by anything but the secure processor, at any address, read or write: a read answers zero
bytes, a write stores nothing, SEC_FLAGS.ACCESS is latched with E251 where it rose enabled, and the tack room, the
enrolled key, the sessions, every other register and all else are as before. (R567: stated) -/
def Obligations.TackRoomIsClosedToOthers : Prop :=
  ∀ (s : State) (addr : Nat) (op : YardOp) (flips : List (Nat × Byte)),
    ∃ t, exec (.tackAccess false addr op flips) s = .next t ∧
      t = { s with regs := t.regs, fired := t.fired, yardOut := t.yardOut } ∧ t.tack = s.tack ∧ t.enrolled = s.enrolled ∧
      (∀ n, op = .read n → t.yardOut = [(8, 0, List.replicate n 0)]) ∧
      (∀ bs, op = .write bs → t.yardOut = [(8, 0, [])]) ∧
      flagged F.sec_FLAGS F.sec_EVEN 0 3 251 s t ∧ keepsRegsBut [(F.sec_FLAGS, 0)] s t

/-- With no error standing and S4 up, away from the save buffers of a groom pass under way: a port's write of up to 8
bytes stores exactly them, whether or not it crosses a word, and answers OK; a read answers the bytes that stand there
and changes nothing. Two ports writing the same byte in one step: the lower port number stands, the other answers
WRITE_LOST, counted and flagged. An access beyond the yard's end answers RANGE, counted and flagged, and stores
nothing. Any error in one symbol of a word: a read answers the word as stored, N_CE adds 1, CE_ADDR holds the word
that served it and the error is gone. A word that two symbol errors leave uncorrectable answers DUE: N_DUE adds 1 and
the first one's address and port are kept. The secure processor's tack-room write stores its bytes and its read
answers them. (R249, R251, R253, R255, R256, R257, R258, R259, R265, R275, R279, R280) -/
def Obligations.YardAccessesReadWriteCorrectAndRefuse : Prop :=
  ∀ s : State, s.shedUp 4 = true → s.yardErr = [] →
    let clear := fun a n : Nat => a + n ≤ 0x2000000 ∧ (s.groomPass = none ∨ a + n ≤ 0x1FFFC00)
    (∀ p a bs, p < 8 → 0 < bs.length → bs.length ≤ 8 → clear a bs.length →
      ∃ t, exec (.yardAccess [⟨p, a, .write bs⟩] ⟨[], 0, []⟩) s = .next t ∧
        t = { s with yard := t.yard, poison := t.poison, groomPass := t.groomPass, yardOut := [(p, 0, [])] } ∧
        (s.groomPass = none → t.groomPass = none) ∧
        (∀ x, clear x 1 → t.yardCell x = if a ≤ x ∧ x < a + bs.length then bs.getD (x - a) 0 else s.yardCell x)) ∧
    (∀ p a n, p < 8 → 0 < n → n ≤ 8 → a + n ≤ 0x2000000 → exec (.yardAccess [⟨p, a, .read n⟩] ⟨[], 0, []⟩) s =
      .next { s with yardOut := [(p, 0, (List.range n).map (fun k => s.yardCell (a + k)))] }) ∧
    (∀ p q a x y, p < q → q < 8 → clear a 1 →
      ∃ t, exec (.yardAccess [⟨p, a, .write [x]⟩, ⟨q, a, .write [y]⟩] ⟨[], 0, []⟩) s = .next t ∧ t.yardCell a = x ∧
        (∀ k, clear k 1 → k ≠ a → t.yardCell k = s.yardCell k) ∧ t.yardOut = [(p, 0, []), (q, 1, [])] ∧
        t.get F.yard_N_WRITE_LOST 0 = min (s.get F.yard_N_WRITE_LOST 0 + 1) 0xFFFFFFFF ∧
        flagged F.yard_FLAGS F.yard_EVEN 0 1 161 s t) ∧
    (∀ p a op, p < 8 → (op = .read 8 ∨ op = .write (List.replicate 8 0)) → 0x2000000 < a + 8 →
      ∃ t, exec (.yardAccess [⟨p, a, op⟩] ⟨[], 0, []⟩) s = .next t ∧
        t = { s with regs := t.regs, fired := t.fired, yardOut := [(p, 3, [])] } ∧
        t.get F.yard_N_RANGE 0 = min (s.get F.yard_N_RANGE 0 + 1) 0xFFFFFFFF ∧ flagged F.yard_FLAGS F.yard_EVEN 0 3 163 s t ∧
        keepsRegsBut [(F.yard_N_RANGE, 0), (F.yard_FLAGS, 0)] s t) ∧
    (∀ p w i m, p < 8 → w < 0x400000 → i < 11 → m ≠ 0 → s.get F.yard_CE_REPEAT 0 = 0 →
      ∃ t, exec (.yardAccess [⟨p, 8 * w, .read 8⟩] ⟨[(w, i, m)], 0, []⟩) s = .next t ∧
        t.yardOut = [(p, 0, (List.range 8).map (fun k => s.yardCell (8 * w + k)))] ∧ t.yardErr = [] ∧
        (∀ x, t.yardCell x = s.yardCell x) ∧ t.get F.yard_N_CE 0 = min (s.get F.yard_N_CE 0 + 1) 0xFFFFFFFF ∧
        flagged F.yard_FLAGS F.yard_EVEN 0 0 160 s t ∧ t.get F.yard_CE_ADDR 0 = s.home w ∧ t.get F.yard_CE_PORT 0 = p ∧
        t.on F.yard_CE_VALID 0 = true) ∧
    (∀ p w i j m k, p < 8 → w < 0x400000 → i < 11 → j < 11 →
      wordState ((m.toNat * 256 ^ i) ^^^ (k.toNat * 256 ^ j)) = .due → s.on F.yard_DUE_VALID 0 = false →
      ∃ t, exec (.yardAccess [⟨p, 8 * w, .read 8⟩] ⟨[(w, i, m), (w, j, k)], 0, []⟩) s = .next t ∧
        (∃ d, t.yardOut = [(p, 2, d)]) ∧ t.get F.yard_N_DUE 0 = min (s.get F.yard_N_DUE 0 + 1) 0xFFFFFFFF ∧
        (t.get F.yard_FLAGS 0).testBit 2 = true ∧ t.get F.yard_DUE_ADDR 0 = s.home w ∧ t.get F.yard_DUE_PORT 0 = p ∧
        t.on F.yard_DUE_VALID 0 = true) ∧
    (∀ a bs, 0 < bs.length → bs.length ≤ 8 → a + bs.length ≤ 65536 → s.tackErr = [] →
      ∃ t, exec (.tackAccess true a (.write bs) []) s = .next t ∧ t = { s with tack := t.tack, yardOut := [(8, 0, [])] } ∧
        wroteBytes s.tack t.tack 0 a bs) ∧
    (∀ a n, 0 < n → n ≤ 8 → a + n ≤ 65536 → s.tackErr = [] →
      exec (.tackAccess true a (.read n) []) s = .next { s with yardOut := [(8, 0, memRead s.tack 0 a n)] })

/-- GROOM_PASS_START with grooming on and no pass: the pass is on the next region, in COPY where it marches, in SCRUB
where the region is scrub-only or VOID_MAX passes were void. GROOM_PASS_END, no error standing and RESTORE not begun,
of a march that found nothing: written meanwhile, VOIDS adds 1 and the region stands; else the next region is due; the
yard's bytes outside the save buffers stand. Past the last region SWEEPS adds 1, GROOM_SWEEP_DONE is latched and the
sweep starts again. FARRIER_REMAP on a standing trigger: the lowest free spare takes the row, valid, with its cause
(that of the spare it replaces, if any), DIRTY 1 and REMAP latched, and the word's bytes move with it; with none free
FARRIER_FULL is latched and the map stands. FARRIER_PERSIST: DIRTY 0 and the saved map is the map. (R262, R263, R264,
R265, R266, R267, R268, R270, R271, R273, R274, R282) -/
def Obligations.GroomAndFarrierKeepTheYard : Prop :=
  ∀ s : State, s.shedUp 4 = true →
    (s.on F.yard_GROOM_EN 0 = true → s.groomPass = none → s.groomNext < 65536 →
      let march := !scrubOnly s s.groomNext && decide (s.voidRun < max 1 (s.get F.yard_VOID_MAX 0))
      ∃ t, exec .groomPassStart s = .next t ∧
        t = { s with regs := t.regs, groomPass := some { region := s.groomNext, march := march } } ∧
        t.get F.yard_REGION 0 = s.groomNext ∧ t.groomPass.map GroomPass.phase = some (if march then 1 else 5) ∧
        keepsRegsBut [(F.yard_REGION, 0)] s t) ∧
    (∀ g, s.yardErr = [] → s.groomPass = some g → g.region < 65535 → g.turn ≤ 768 → g.found = [] → g.differ = [] →
      (g.march = true → g.written = true → ∃ t, exec (.groomPassEnd [] []) s = .next t ∧
        t.get F.yard_VOIDS 0 = min (s.get F.yard_VOIDS 0 + 1) (2 ^ F.yard_VOIDS.width - 1) ∧
        t = { s with regs := t.regs, yard := t.yard, groomPass := none, voidRun := s.voidRun + 1 } ∧
        (∀ x, x < 0x1FFFC00 → t.yardCell x = s.yardCell x) ∧ keepsRegsBut [(F.yard_VOIDS, 0)] s t) ∧
      (g.march = true → g.written = false → ∃ t, exec (.groomPassEnd [] []) s = .next t ∧
        t = { s with yard := t.yard, groomPass := none, voidRun := 0, groomNext := g.region + 1 } ∧
        (∀ x, x < 0x1FFFC00 → t.yardCell x = s.yardCell x)) ∧
      (g.march = false → s.voidRun < max 1 (s.get F.yard_VOID_MAX 0) → exec (.groomPassEnd [] []) s =
        .next { s with groomPass := none, voidRun := 0, groomNext := g.region + 1 })) ∧
    (∀ g, s.yardErr = [] → s.groomPass = some g → g.region = 65535 → g.march = false →
      s.voidRun < max 1 (s.get F.yard_VOID_MAX 0) →
      ∃ t, exec (.groomPassEnd [] []) s = .next t ∧ t.groomPass = none ∧ t.groomNext = 0 ∧ t.voidRun = 0 ∧ t.trackers = [] ∧
        t.get F.yard_SWEEPS 0 = (s.get F.yard_SWEEPS 0 + 1) % 2 ^ F.yard_SWEEPS.width ∧
        (t.get F.yard_GROOM_FLAGS 0).testBit 1 = true) ∧
    (∀ bank row cause, bank < 16 → row < 262144 → cause < 4 → remapDue s bank row cause = true →
      (∀ e, (bankEntries bank).find? (spareFree s) = some e → ∃ t, exec (.farrierRemap bank row cause) s = .next t ∧
        t.get F.map_ROW e = row ∧ t.on F.map_VALID e = true ∧ t.on F.map_RETIRED e = false ∧
        t.get F.map_CAUSE e = ((mapEntry s bank row).map (s.get F.map_CAUSE)).getD cause ∧ t.on F.yard_DIRTY 0 = true ∧
        (t.get F.yard_GROOM_FLAGS 0).testBit 2 = true ∧
        (s.get F.stall_SIZE_LOG2 255 = 0 →
          (e ∈ t.poison ↔ wordState (tget s.yardErr (s.cells (16 * row + bank)) 0) = .due) ∧
          (s.groomPass = none → mapEntry s bank row = none → ∀ k, k < 8 →
            t.yardByte (8 * (16 * row + bank) + k) = s.yardByte (8 * (16 * row + bank) + k)))) ∧
      ((bankEntries bank).find? (spareFree s) = none → ∃ t, exec (.farrierRemap bank row cause) s = .next t ∧
        (t.get F.yard_GROOM_FLAGS 0).testBit 3 = true ∧ (∀ e, e < 1024 → t.reg (F.map_ROW.addr e) = s.reg (F.map_ROW.addr e)))) ∧
    (s.running = true → s.on F.yard_DIRTY 0 = true → ∃ t, exec .farrierPersist s = .next t ∧
      t = { s with regs := t.regs, persistMap := t.persistMap } ∧ t.on F.yard_DIRTY 0 = false ∧
      (∀ e, e < 1024 → tget t.persistMap e 0 = s.reg (F.map_ROW.addr e)) ∧ keepsRegsBut [(F.yard_DIRTY, 0)] s t)

/-- Of its LENGTH, each answers OK: YARD_STATUS_GET with the yard block's 27 words; FARRIER_MAP_GET with a bank's 64
entries; GROOM_SET with nothing, GROOM_CFG's RW fields and CE_REPEAT taken; JUDGE_TEST of the judge that is out with
pass and failing step, or TIMEOUT when the test does not end, STATE for a judge not out, BAD_ARG for 3;
POWER_STATUS_GET with the sheds up, a free reading of the junction temperature, VCORE and the power word;
COUNTERS_CLEAR with nothing, the counters of each powered unit named at 0 (NOT_FITTED for an absent one); BYPASS_SET
with the SERVICE overlay in force keeps ENGAGE as the service cause, and without it is DENIED. SHED_SET naming an
absent shed is NOT_FITTED, one already as asked answers at once. (R282, R283, R470, R489, R490, R512, R513, R555,
R558, R560) -/
def Obligations.ServiceCommandsAnswer : Prop :=
  ∀ (r : Req) (s : State), takes s r = true →
    (r.body.length = 0 → exec (.yardStatusGet r) s = .next (answered 0x0A01 false r s (readWords s .yard 0 0 27))) ∧
    (r.body.length = 8 → ∃ t, exec (.groomSet r) s = .next (answered 0x0A02 true r t []) ∧ t = { s with regs := t.regs } ∧
      rwWritten ⟨.yard, 0, 0x30⟩ (BitVec.ofNat 32 (u32 r.body 0)) s t ∧ t.get F.yard_CE_REPEAT 0 = fld r.body 4 0 4 ∧
      keepsRegsOutside (fun q => q == ⟨.yard, 0, 0x30⟩ || q == F.yard_CE_REPEAT.addr 0) s t) ∧
    (r.body.length = 4 → exec (.farrierMapGet r) s = .next (answered 0x0A03 false r s
      ((List.range 64).flatMap (fun i => readWords s .farrierMap (64 * fld r.body 0 0 4 + i) 0 1)))) ∧
    (∀ step, r.body.length = 4 →
      (fld r.body 0 0 2 = 3 → exec (.judgeTest r step) s = .next (refusedWith 0x0A04 4 r s)) ∧
      (fld r.body 0 0 2 ≠ 3 → (s.shedUp 3 = false ∨ s.get F.vote_OUT_JUDGE 0 ≠ fld r.body 0 0 2 ∨ s.on F.vote_PENDING_IN 0 = true) →
        exec (.judgeTest r step) s = .next (refusedWith 0x0A04 9 r s)) ∧
      (fld r.body 0 0 2 ≠ 3 → s.shedUp 3 = true → s.get F.vote_OUT_JUDGE 0 = fld r.body 0 0 2 → s.on F.vote_PENDING_IN 0 = false →
        (step ≤ 200 → exec (.judgeTest r step) s =
          .next (answered 0x0A04 false r s (le 4 ((if step = 0 then 1 else 0) + step * 256)))) ∧
        (200 < step → exec (.judgeTest r step) s = .next (refusedWith 0x0A04 11 r s)))) ∧
    (r.body.length = 0 → ∃ temp, temp < 65536 ∧ exec (.powerStatusGet r) s = .next (answered 0x0B02 false r { s with drawn := s.drawn + 1 }
      (le 4 (s.get F.pwr_UP 0) ++ le 4 (temp + s.get F.pwr_VCORE 0 * 65536) ++ readWords s .power 0 8 1))) ∧
    (r.body.length = 4 →
      (((fld r.body 0 3 1 = 1 ∨ fld r.body 0 4 1 = 1) ∧ s.part.hasPixel = false) ∨ (fld r.body 0 6 1 = 1 ∧ s.part.ports < 2) →
        exec (.countersClear r) s = .next (refusedWith 0x0A06 7 r s)) ∧
      (((fld r.body 0 3 1 = 1 ∨ fld r.body 0 4 1 = 1) → s.part.hasPixel = true) → (fld r.body 0 6 1 = 1 → 2 ≤ s.part.ports) →
        ∃ t, exec (.countersClear r) s = .next (answered 0x0A06 false r t []) ∧ t = { s with regs := t.regs, hits := t.hits } ∧
          (fld r.body 0 0 1 = 1 → s.shedUp 2 = true → t.hits = [] ∧ t.get F.router_CLASSIFIED 0 = 0 ∧ t.get F.router_COPIES 0 = 0) ∧
          (fld r.body 0 1 1 = 1 → s.shedUp 3 = true → t.get F.vote_VOTED 0 = 0 ∧ t.get F.vote_DISSENTS 0 = 0) ∧
          (fld r.body 0 2 1 = 1 → s.shedUp 4 = true → t.get F.yard_N_CE 0 = 0 ∧ t.get F.yard_N_DUE 0 = 0) ∧
          (fld r.body 0 3 1 = 1 → s.shedUp 5 = true → t.get F.pixel_SHOWN 0 = 0 ∧
            ∀ n, n < s.part.lanes → t.get F.enc_FRAMES n = 0) ∧
          (fld r.body 0 4 1 = 1 → s.shedUp 7 = true → t.get F.str_FRAMES 0 = 0) ∧
          (fld r.body 0 5 1 = 1 → s.shedUp 7 = true → t.get F.eth_RX_FRAMES 0 = 0) ∧
          (fld r.body 0 6 1 = 1 → s.shedUp 7 = true → t.get F.eth_RX_FRAMES 1 = 0) ∧
          (fld r.body 0 7 1 = 1 → s.shedUp 2 = true → ∀ i, i < s.part.lanes → t.get F.parse_ACCEPTED i = 0) ∧
          (fld r.body 0 0 8 = 0 → t = s))) ∧
    (r.body.length = 4 →
      (serviceOn s = false → exec (.bypassSet r) s = .next (refusedWith 0x0A05 6 r s)) ∧
      (serviceOn s = true → ∃ t, exec (.bypassSet r) s = .next (answered 0x0A05 false r t []) ∧
        t.bypassCmd = flag r.body 0 0 ∧ t.bypassPin = s.bypassPin ∧
        (flag r.body 0 0 = false → s.bypassPin = false → t = { s with bypassCmd := false }))) ∧
    (r.body.length = 8 →
      ((fld r.body 0 0 12 ||| fld r.body 4 0 12) &&& s.part.sheds ≠ fld r.body 0 0 12 ||| fld r.body 4 0 12 →
        exec (.shedSet r) s = .next (refusedWith 0x0B01 7 r s)) ∧
      (fld r.body 4 0 12 = 0 → fld r.body 0 0 12 &&& s.part.sheds = fld r.body 0 0 12 → (fld r.body 0 0 12).testBit 0 = false →
        (∀ n, n < 12 → (fld r.body 0 0 12).testBit n = true → s.shedUp n = true) → s.shedPlan = none →
        (∀ w ∈ s.waits, w.on ≠ .sheds) → exec (.shedSet r) s = .next (answered 0x0B01 false r s (le 4 (s.get F.pwr_UP 0)))))

/-- SHED_SET raising one shed that is down, its need met and no plan running: a plan for it starts, SWITCHING reads 1, and
the command waits. SHED_RAISE_DONE of the plan's next shed: it is up, its registers at their Reset values; with sheds
left the plan goes on, else SWITCHING reads 0 and the waiting SHED_SET is answered. SHED_FAULT of it under SHED_SET:
SHED_FAULT is latched, the shed stays down, the plan is over and the command is no longer waiting. A shed the plan
does not await changes nothing. BYPASS_PIN high outside RETIRED: the masked pairs are engaged; low with no other
cause, the pin alone moves. BYPASS_HANDBACK with no cause: the pair is handed back, the others stay. A lane's TX and
DE are high-Z without the interlock, in a bank that is down, and on a pixel or PWM lane with S5 down; the odd lane of
an engaged pair repeats its input with DE high; a receive lane drives TX high and DE low. (R37, R93, R401, R513, R542,
R544, R545, R547, R559, R560, R561) -/
def Obligations.ShedsAndBypassFollow : Prop :=
  ∀ s : State,
    (∀ (r : Req) n, takes s r = true → r.body.length = 8 → fld r.body 4 0 12 = 0 → n ∈ [2, 3, 5, 6, 7, 8, 9, 10, 11] →
      fld r.body 0 0 12 = 2 ^ n → s.part.sheds.testBit n = true → s.shedUp n = false → needMet (s.get F.pwr_UP 0) n = true →
      s.shedPlan = none → (∀ w ∈ s.waits, w.on ≠ .sheds) → ∃ t, exec (.shedSet r) s = .next t ∧
      t.shedPlan = some { raise := [n], fromCommand := true } ∧ t.on F.pwr_SWITCHING 0 = true ∧
      t = { s with regs := t.regs, shedPlan := t.shedPlan, waits := t.waits } ∧ t.waits.length = s.waits.length + 1 ∧
      keepsRegsBut [(F.pwr_SWITCHING, 0)] s t) ∧
    (∀ p n rest, s.tamperOn = [] → s.brownRails = [] → s.boot ≠ .waitS4 → s.boot ≠ .waitS1 → s.shedPlan = some p →
      p.raise = n :: rest → n ∈ [2, 3, 5, 6, 7, 8, 9, 10, 11] →
      (∃ t, exec (.shedRaiseDone n) s = .next t ∧
        (rest ≠ [] → t.shedUp n = true ∧ t.shedPlan = some { p with raise := rest }) ∧
        (rest = [] → s.waits = [] → t.shedUp n = true ∧ t.shedPlan = none ∧ t.on F.pwr_SWITCHING 0 = false)) ∧
      (p.fromCommand = true → ∀ w, s.waits = [w] → w.on = .sheds → ∃ t, exec (.shedFault n) s = .next t ∧
        t.shedPlan = none ∧ t.on F.pwr_SWITCHING 0 = false ∧ t.waits = [] ∧ t.shedUp n = s.shedUp n ∧
        (t.get F.pwr_FLAGS 0).testBit 2 = true) ∧
      (∀ m, m ≠ n → exec (.shedRaiseDone m) s = .next s ∧ exec (.shedFault m) s = .next s)) ∧
    (s.life ≠ 3 → ∃ t, exec (.bypassPin true) s = .next t ∧ t.bypassPin = true ∧
      ∀ k, k < s.part.lanes / 2 → (bypassMask s).testBit k = true → k ∈ t.pairs) ∧
    (s.life ≠ 3 → s.bypassCmd = false → exec (.bypassPin false) s = .next { s with bypassPin := false }) ∧
    (∀ k, bypassCause s = 0 → k ∈ s.pairs → ∃ t, exec (.bypassHandback k) s = .next t ∧
      t.pairs = s.pairs.filter (fun j => j != k) ∧ t = { s with regs := t.regs, rx := t.rx, pairs := t.pairs } ∧
      keepsRegsBut [(F.rx_STATE, 2 * k)] s t) ∧
    (∀ n j c (b rx : Bool),
      (s.owns = false → s.twin.finishing.contains n = false → lanePins s n j b c rx = LanePins.off) ∧
      (inBypassPair s n = false → s.shedUp (laneShed n) = false → lanePins s n j b c rx = LanePins.off) ∧
      (inBypassPair s n = false → s.shedUp 5 = false → pixelMode (s.get F.tx_ACTIVE n) = true →
        lanePins s n j b c rx = LanePins.off) ∧
      (s.owns = true → s.twin.taking.contains n = false → inBypassPair s n = true → n % 2 = 1 →
        lanePins s n j b c rx = LanePins.driven rx true) ∧
      (s.owns = true → s.twin.taking.contains n = false → inBypassPair s n = false → s.laneUp n = true →
        s.on F.tx_PADDOCK n = false → s.get F.tx_ACTIVE n ∈ [1, 5] → lanePins s n j b c rx = LanePins.driven true false))

/-- Each of its LENGTH. TIME_STATUS_GET takes a snapshot of the counter (only the SNAP fields move) and answers OK with
it, STATE and ADJ, the last offset (0x8000_0000 for none), the grandmaster and FRAME_N. TIME_REF_SET: REF 3 is
BAD_ARG; else REF, PPS_PIN, PPS_NEXT, the thresholds and the UTC offset are taken; a reference taken away from LOCKED
or SLEW gives HOLDOVER and LOCK_LOST, one selected in FREE gives ACQUIRE, and from REF 0 in HOLDOVER SLEW.
TIME_PTP_CFG: an absent port is NOT_FITTED, PROFILE or ROLE 3, a RECEIPT below 2 or an interval outside its range is
BAD_ARG; else PTP_EN, PTP_PORT and ROLE are taken, and a changed domain or port under REF 1 loses the reference.
TIME_FRAME_SET: a rate or PHASE outside its rules, or one that the pixel tables do not fit, is BAD_ARG; else it is
staged for the next tick; while one waits a further one waits behind it. (R288, R290, R291, R295, R298, R305, R306,
R308, R313, R503, R504, R505) -/
def Obligations.TimeSettingCommandsAnswer : Prop :=
  ∀ (r : Req) (s : State), takes s r = true →
    (r.body.length = 0 → ∃ t off, exec (.timeStatusGet r) s = .next (answered 0x0502 false r t
        (readWords t .time 0 0x14 4 ++ readWords t .time 0 4 2 ++ le 4 off ++
          le 8 (if s.on F.time_PTP_EN 0 then s.servo.master.getD 0 % 2 ^ 64 else 0) ++ readWords t .time 0 0x30 1)) ∧
      t = { s with regs := t.regs, drawn := t.drawn } ∧ t.get F.time_SNAP_NS 0 = s.nowNs % 1000000000 ∧
      t.get F.time_SNAP_SEC_LO 0 = s.nowNs / 1000000000 % 2 ^ 32 ∧
      t.get F.time_SNAP_SEC_HI 0 = s.nowNs / 1000000000 / 2 ^ 32 % 65536 ∧ t.get F.time_SNAP_FRAC 0 = s.tod % 2 ^ 32 ∧
      (s.servo.offset = none → off = 0x80000000) ∧
      (∀ o, s.servo.offset = some o → -2147483648 < o → o ≤ 2147483647 → off = ux 32 o) ∧
      keepsRegsBut [(F.time_SNAP_NS, 0), (F.time_SNAP_SEC_LO, 0), (F.time_SNAP_SEC_HI, 0), (F.time_SNAP_FRAC, 0)] s t) ∧
    (r.body.length = 24 →
      let ref := fld r.body 0 0 2
      (ref = 3 → exec (.timeRefSet r) s = .next (refusedWith 0x0503 4 r s)) ∧
      (ref ≠ 3 → ∃ t, exec (.timeRefSet r) s = .next (answered 0x0503 true r t []) ∧
        t = { s with regs := t.regs, fired := t.fired, servo := t.servo, drawn := t.drawn } ∧
        t.get F.time_REF 0 = ref ∧ t.get F.time_PPS_PIN 0 = fld r.body 0 2 3 ∧ t.get F.time_PPS_NEXT 0 = fld r.body 0 5 1 ∧
        t.get F.time_STEP_TH 0 = fld r.body 4 0 16 ∧ t.get F.time_LOCK_TH 0 = fld r.body 4 16 16 ∧
        t.get F.time_JUMP_TH 0 = fld r.body 8 0 16 ∧ t.get F.time_SYNC_LOSS 0 = fld r.body 8 16 8 ∧
        t.servo.utcOffset = fld r.body 0 8 8 ∧
        (ref = s.get F.time_REF 0 → t.get F.time_SERVO 0 = s.get F.time_SERVO 0) ∧
        (ref = 0 → s.get F.time_REF 0 % 3 ≠ 0 → (s.get F.time_SERVO 0 = 2 ∨ s.get F.time_SERVO 0 = 3) →
          t.get F.time_SERVO 0 = 4 ∧ t.get F.time_TS_STATE 0 = 1 ∧ (t.get F.time_FLAGS 0).testBit 1 = true) ∧
        (ref ≠ 0 → s.get F.time_REF 0 ≠ ref → s.get F.time_SERVO 0 = 0 →
          t.get F.time_SERVO 0 = 1 ∧ t.get F.time_TS_STATE 0 = 2) ∧
        (ref ≠ 0 → s.get F.time_REF 0 % 3 = 0 → s.get F.time_SERVO 0 = 4 → t.get F.time_SERVO 0 = 3) ∧
        keepsRegsOutside (fun q => q.blk == .time) s t)) ∧
    (r.body.length = 28 →
      let w := u32 r.body 0
      let v := u32 r.body 4
      (flag r.body 0 12 = true → s.part.ports < 2 → exec (.timePtpCfg r) s = .next (refusedWith 0x0501 7 r s)) ∧
      let good := bits w 0 2 ≠ 3 ∧ bits w 13 2 ≠ 3 ∧ 2 ≤ bits v 24 8 ∧ logOk (bits v 0 8) 7 1 = true ∧
        logOk (bits v 8 8) 3 3 = true ∧ logOk (bits v 16 8) 7 5 = true
      ((flag r.body 0 12 = true → s.part.ports = 2) → ¬ good → exec (.timePtpCfg r) s = .next (refusedWith 0x0501 4 r s)) ∧
      ((flag r.body 0 12 = true → s.part.ports = 2) → good → ∃ t, exec (.timePtpCfg r) s = .next (answered 0x0501 true r t []) ∧
          t = { s with regs := t.regs, fired := t.fired, servo := t.servo, drawn := t.drawn } ∧
          t.get F.time_PTP_EN 0 = bits w 11 1 ∧ t.get F.time_PTP_PORT 0 = bits w 12 1 ∧ t.get F.time_ROLE 0 = bits w 13 2 ∧
          (bits w 0 3 = bits (ptpWord s 0) 0 3 → bits w 4 7 = bits (ptpWord s 0) 4 7 →
            bits w 12 1 = s.get F.time_PTP_PORT 0 → t.fired = s.fired ∧
            keepsRegsBut [(F.time_PTP_EN, 0), (F.time_PTP_PORT, 0), (F.time_ROLE, 0)] s t) ∧
          (bits w 4 7 ≠ bits (ptpWord s 0) 4 7 → s.get F.time_REF 0 = 1 → s.get F.time_SERVO 0 = 2 →
            t.get F.time_SERVO 0 = 4 ∧ (t.get F.time_FLAGS 0).testBit 1 = true ∧ t.servo.master = none))) ∧
    (r.body.length = 12 →
      let waiting := fun (sent : Bool) => ({ s with waits := s.waits ++
        [{ entry := none, opcode := 0x0508, req := r, on := .frameSet sent }] } : State)
      let num := u32 r.body 0
      let den := u32 r.body 4
      let ph := u32 r.body 8
      (frameSetWaits s = true → exec (.timeFrameSet r) s = .next (waiting false)) ∧
      (frameSetWaits s = false → (rateOk num den ph = false ∨ fitsAt s num den = false) →
        exec (.timeFrameSet r) s = .next (refusedWith 0x0508 4 r s)) ∧
      (frameSetWaits s = false → rateOk num den ph = true → fitsAt s num den = true → exec (.timeFrameSet r) s =
        .next { waiting true with frame := { s.frame with staged := some (num, den, ph) } }))

/-- TIME_STEP: DENIED without a SERVICE overlay in force, STATE before the first lock, with an output armed, or to
measurement with none within 2 s; else a nonzero amount, given or measured, moves the counter by it, adds 1 to STEPS,
latches STEPPED, enters SLEW and answers STEPS and the step. TIME_PULSE_ARM: what R301 rejects is BAD_ARG; a timed
output at rest with START still to come takes the block and is armed with START its next instant; a frame output is
armed; a single pulse in the past is disarmed and latches PULSE_LATE; an output in its pulse keeps the new block for
the pulse's end. TIME_PULSE_DISARM: outputs at rest are disarmed and it answers; one in its pulse ends it first and
the command waits. TIME_CAP_CFG: a stall above Q239, or with a selected edge a credit stall, is BAD_ARG; else EDGE and
STALL are taken, EDGE_COUNT starts at 0 and VALID is 0. (R226, R296, R297, R301, R303, R304, R305, R316, R317, R503) -/
def Obligations.TimeStepPulseAndCaptureCommands : Prop :=
  ∀ (r : Req) (s : State), takes s r = true →
    (r.body.length = 12 →
      let d := if flag r.body 0 0 = true then sx 64 (u32 r.body 4 + u32 r.body 8 * 4294967296) else -((recentOffset s).getD 0)
      (serviceOn s = false → exec (.timeStep r) s = .next (refusedWith 0x0504 6 r s)) ∧
      (serviceOn s = true → (s.on F.time_EVER_LOCKED 0 = false ∨ (∃ n, n < 8 ∧ s.on F.pulse_ARMED n = true) ∨
          (flag r.body 0 0 = false ∧ recentOffset s = none)) →
        exec (.timeStep r) s = .next (refusedWith 0x0504 9 r s)) ∧
      (serviceOn s = true → s.on F.time_EVER_LOCKED 0 = true → (∀ n, n < 8 → s.on F.pulse_ARMED n = false) →
        (flag r.body 0 0 = false → recentOffset s ≠ none) →
        ((s.nowNs : Int) + d < 0 → exec (.timeStep r) s = .next (refusedWith 0x0504 4 r s)) ∧
        (d = 0 → exec (.timeStep r) s = .next (answered 0x0504 false r s (le 4 (s.get F.time_STEPS 0) ++ le 8 0))) ∧
        (d ≠ 0 → 0 ≤ (s.nowNs : Int) + d → ∃ t, exec (.timeStep r) s = .next (answered 0x0504 false r t
            (le 4 (min (s.get F.time_STEPS 0 + 1) 65535) ++ le 8 (ux 64 d))) ∧
          t = { s with regs := t.regs, fired := t.fired, tod := t.tod, stepped := s.stepped + d, frame := t.frame, servo := t.servo,
                       pulses := t.pulses } ∧
          t.tod = ((s.tod : Int) + d * 4294967296).toNat % todMod ∧
          t.get F.time_STEPS 0 = min (s.get F.time_STEPS 0 + 1) 65535 ∧ t.get F.time_SERVO 0 = 3 ∧
          t.get F.time_TS_STATE 0 = 1 ∧ flagged F.time_FLAGS F.time_EVEN 0 3 191
            { s with tod := t.tod } t ∧ t.frame.fresh = true ∧
          keepsRegsBut [(F.time_STEPS, 0), (F.time_SERVO, 0), (F.time_TS_STATE, 0), (F.time_FLAGS, 0)] s t))) ∧
    (r.body.length = 32 →
      let n := fld r.body 0 0 3
      let start := fld r.body 8 0 30 + (u32 r.body 0xC + fld r.body 0x10 0 16 * 4294967296) * 1000000000
      (pulseBad s r.body = true → exec (.timePulseArm r) s = .next (refusedWith 0x0510 4 r s)) ∧
      (pulseBad s r.body = false → (tget s.pulses n {}).high = true → exec (.timePulseArm r) s = .next (answered 0x0510 false r
        { s with pulses := tput s.pulses n { tget s.pulses n {} with rearm := some (bodyWords r 4 7), disarm := false } {} } [])) ∧
      (pulseBad s r.body = false → (tget s.pulses n {}).high = false → flag r.body 4 2 = true →
        ∃ t, exec (.timePulseArm r) s = .next (answered 0x0510 false r t []) ∧ t = { s with regs := t.regs, pulses := t.pulses } ∧
          t.on F.pulse_ARMED n = true ∧ t.on F.pulse_FRAME n = true ∧ t.get F.pulse_DIVIDE n = fld r.body 4 4 8 ∧
          tget t.pulses n {} = {} ∧ keepsRegsOutside (fun q => q.blk == .pulse && q.inst == n) s t) ∧
      (pulseBad s r.body = false → (tget s.pulses n {}).high = false → flag r.body 4 2 = false →
        ∃ t, exec (.timePulseArm r) s = .next (answered 0x0510 false r t []) ∧
          t = { s with regs := t.regs, pulses := t.pulses, fired := t.fired } ∧
          t.get F.pulse_PERIOD n = u32 r.body 0x14 ∧ t.get F.pulse_WIDTH n = u32 r.body 0x18 ∧
          t.get F.pulse_COUNT n = u32 r.body 0x1C ∧ t.get F.pulse_POLARITY n = fld r.body 4 1 1 ∧
          (s.tod ≤ start * nsUnit → t.on F.pulse_ARMED n = true ∧ tget t.pulses n {} = { next := start } ∧ t.fired = s.fired) ∧
          (start * nsUnit < s.tod → u32 r.body 0x14 = 0 → t.on F.pulse_ARMED n = false ∧
            (t.get F.pulse_PINFLAGS n).testBit 1 = true) ∧
          (start * nsUnit < s.tod → u32 r.body 0x14 ≠ 0 → t.on F.pulse_ARMED n = true ∧
            s.tod ≤ (tget t.pulses n {}).next * nsUnit ∧ (t.get F.pulse_PINFLAGS n).testBit 1 = true) ∧
          keepsRegsOutside (fun q => q.blk == .pulse && q.inst == n) s t)) ∧
    (r.body.length = 4 →
      let m := fld r.body 0 0 8
      ((∀ n, n < 8 → m.testBit n = true → (tget s.pulses n {}).high = false) →
        ∃ t, exec (.timePulseDisarm r) s = .next (answered 0x0511 false r t []) ∧ t = { s with regs := t.regs } ∧
          (∀ n, n < 8 → t.on F.pulse_ARMED n = (s.on F.pulse_ARMED n && !m.testBit n)) ∧
          keepsRegsBut ((List.range 8).map (fun n => (F.pulse_ARMED, n))) s t) ∧
      (∀ n, n < 8 → m = 2 ^ n → (tget s.pulses n {}).high = true → s.on F.pulse_ARMED n = true →
        exec (.timePulseDisarm r) s = .next { s with
          pulses := tput s.pulses n { tget s.pulses n {} with disarm := true, rearm := none } {}
          waits := s.waits ++ [{ entry := none, opcode := 0x0511, req := r, on := .disarm m }] })) ∧
    (r.body.length = 8 →
      let n := fld r.body 0 0 3
      let q := fld r.body 4 2 8
      ((240 ≤ q ∨ (fld r.body 4 0 2 ≠ 0 ∧ s.on F.stall_MODE q = true)) →
        exec (.timeCapCfg r) s = .next (refusedWith 0x0518 4 r s)) ∧
      (q < 240 → (fld r.body 4 0 2 = 0 ∨ (s.on F.stall_MODE q = false ∧ senseNames s q = false ∧ capNames s n q = false)) →
        ∃ t, exec (.timeCapCfg r) s = .next (answered 0x0518 true r t []) ∧ t = { s with regs := t.regs, caps := t.caps } ∧
          t.get F.cap_EDGE n = fld r.body 4 0 2 ∧ t.get F.cap_STALL n = q ∧ t.on F.cap_VALID n = false ∧
          tget t.caps n {} = {} ∧ keepsRegsBut [(F.cap_EDGE, n), (F.cap_STALL, n), (F.cap_VALID, n)] s t))

/-- SNAP copies the counter into the SNAP fields alone. SERVO_MEASUREMENT without a reference (REF 0 or 3) changes
nothing; in LOCKED, with no jump, the servo stays LOCKED and ADJ takes the rate within the limit of R286; a jump past
JUMP_TH gives SLEW with ADJ at the limit against the offset, and MASTER_JUMP; the sixteenth run within LOCK_TH in SLEW
gives LOCKED, EVER_LOCKED and TS_STATE 0. LOCK_LOST from LOCKED or SLEW gives HOLDOVER, TS_STATE 1, and ADJ held where
there is no history; from ACQUIRE FREE; from FREE or HOLDOVER no register moves. REFCLK_RETURN: the counter runs
again, LOCKED or SLEW becomes HOLDOVER; with the clock running it does nothing. PTP_MESSAGE: with PTP_EN 0 nothing;
outside the settings it is discarded, counted, and PTP_DISCARD latched. one inside them is taken: the receive time at
the pins, less the PHY delay, of a Sync or a Pdelay_Req, an Announce's clock. PTP_TRANSMIT on a live port, of what the
hub's role sends, adds 1 to TX_FRAMES and leaves with its timestamps. (R286, R287, R288, R290, R291, R292, R294, R295,
R298, R300, R312, R315) -/
def Obligations.ClockAndServoFollowTheReference : Prop :=
  ∀ s : State,
    (∃ t, exec .snap s = .next t ∧ t = { s with regs := t.regs } ∧ t.get F.time_SNAP_NS 0 = s.nowNs % 1000000000 ∧
      t.get F.time_SNAP_SEC_LO 0 = s.nowNs / 1000000000 % 2 ^ 32 ∧
      t.get F.time_SNAP_SEC_HI 0 = s.nowNs / 1000000000 / 2 ^ 32 % 65536 ∧ t.get F.time_SNAP_FRAC 0 = s.tod % 2 ^ 32 ∧
      keepsRegsBut [(F.time_SNAP_NS, 0), (F.time_SNAP_SEC_LO, 0), (F.time_SNAP_SEC_HI, 0), (F.time_SNAP_FRAC, 0)] s t) ∧
    (∀ off rate, (s.get F.time_REF 0 = 0 ∨ s.get F.time_REF 0 = 3) → exec (.servoMeasurement off rate) s = .next s) ∧
    (∀ off rate o, s.get F.time_REF 0 = 1 → s.servo.offset = some o → s.servo.jumped = false →
      let th := s.get F.time_JUMP_TH 0
      let near := th = 0 ∨ (off - o).natAbs ≤ th * 1000
      (s.get F.time_SERVO 0 = 2 → near → off.natAbs ≤ 4 * max 1 (s.get F.time_LOCK_TH 0) →
        ∃ t, exec (.servoMeasurement off rate) s = .next t ∧
          t = { s with regs := t.regs, fired := t.fired, servo := t.servo } ∧ t.get F.time_SERVO 0 = 2 ∧
          t.getI F.time_ADJ 0 = clampI (-3435973) 3435973 rate ∧ t.servo.offset = some off ∧
          keepsRegsBut [(F.time_ADJ, 0), (F.time_AT_LIMIT, 0), (F.time_FLAGS, 0)] s t) ∧
      ((s.get F.time_SERVO 0 = 2 ∨ s.get F.time_SERVO 0 = 3) → th ≠ 0 → th * 1000 < (off - o).natAbs →
        ∃ t, exec (.servoMeasurement off rate) s = .next t ∧
          t = { s with regs := t.regs, fired := t.fired, servo := t.servo } ∧ t.get F.time_SERVO 0 = 3 ∧
          t.get F.time_TS_STATE 0 = 1 ∧ t.getI F.time_ADJ 0 = (if 0 < off then -3435973 else 3435973) ∧
          (t.get F.time_FLAGS 0).testBit 2 = true) ∧
      (s.get F.time_SERVO 0 = 3 → near → s.servo.inRun = 15 → off.natAbs ≤ max 1 (s.get F.time_LOCK_TH 0) →
        ∃ t, exec (.servoMeasurement off rate) s = .next t ∧ t.get F.time_SERVO 0 = 2 ∧ t.get F.time_TS_STATE 0 = 0 ∧
          t.on F.time_EVER_LOCKED 0 = true ∧ (t.get F.time_FLAGS 0).testBit 0 = true)) ∧
    (∃ t, exec .lockLost s = .next t ∧ t = { s with regs := t.regs, fired := t.fired, servo := t.servo, drawn := t.drawn } ∧
      ((s.get F.time_SERVO 0 = 2 ∨ s.get F.time_SERVO 0 = 3) → t.get F.time_SERVO 0 = 4 ∧ t.get F.time_TS_STATE 0 = 1 ∧
        (t.get F.time_FLAGS 0).testBit 1 = true ∧
        (s.servo.history = [] → (s.getI F.time_ADJ 0).natAbs ≤ 3435973 → t.getI F.time_ADJ 0 = s.getI F.time_ADJ 0)) ∧
      (s.get F.time_SERVO 0 = 1 → t.get F.time_SERVO 0 = 0 ∧ t.get F.time_TS_STATE 0 = 2 ∧ t.fired = s.fired) ∧
      ((s.get F.time_SERVO 0 = 0 ∨ 4 ≤ s.get F.time_SERVO 0) → t.regs = s.regs ∧ t.fired = s.fired)) ∧
    (s.refclk = true → exec .refclkReturn s = .next s) ∧
    (s.refclk = false →
      ((s.get F.time_SERVO 0 = 2 ∨ s.get F.time_SERVO 0 = 3) → ∃ t, exec .refclkReturn s = .next t ∧ t.refclk = true ∧
        t.get F.time_SERVO 0 = 4 ∧ t.get F.time_TS_STATE 0 = 1) ∧
      (s.get F.time_SERVO 0 ≠ 2 → s.get F.time_SERVO 0 ≠ 3 → exec .refclkReturn s = .next { s with refclk := true })) ∧
    (∀ port m, (s.on F.time_PTP_EN 0 = false → exec (.ptpMessage port m) s = .next s) ∧
      (s.on F.time_PTP_EN 0 = true → port < s.part.ports → ptpRefused s port m = true →
        ∃ t, exec (.ptpMessage port m) s = .next t ∧
          t = { s with regs := t.regs, fired := t.fired, servo := { s.servo with ptpDiscarded := s.servo.ptpDiscarded + 1 } } ∧
          flagged F.time_FLAGS F.time_EVEN 0 7 195 s t ∧ keepsRegsBut [(F.time_FLAGS, 0)] s t) ∧
      (s.on F.time_PTP_EN 0 = true → port < s.part.ports → ptpRefused s port m = false →
        ∃ t, exec (.ptpMessage port m) s = .next t ∧ t = { s with regs := t.regs, fired := t.fired, servo := t.servo } ∧
          t.servo.syncRx = (if m.kind = 0 then rxStamp s m.ago - rxPhy s else s.servo.syncRx) ∧
          t.servo.pdelayRx = (if m.kind = 2 then rxStamp s m.ago - rxPhy s else s.servo.pdelayRx) ∧
          (m.kind ≠ 11 → t.regs = s.regs ∧ t.fired = s.fired ∧ t.servo.master = s.servo.master) ∧
          (m.kind = 11 → (m.identity, m.rank) ∈ t.servo.foreign ∧ keepsRegsBut [(F.time_FLAGS, 0)] s t))) ∧
    (∀ kind, let p := s.get F.time_PTP_PORT 0
      s.on F.time_PTP_EN 0 = true → ethOn s p = true → s.on F.eth_EN p = true → s.on F.eth_LINK p = true → ptpMaySend s kind = true →
        ∃ t, exec (.ptpTransmit kind) s = .next t ∧ t = { s with regs := t.regs, fired := t.fired, servo := t.servo } ∧
          t.get F.eth_TX_FRAMES p = min (s.get F.eth_TX_FRAMES p + 1) 0xFFFFFFFF ∧ t.servo.ptpSent = s.servo.ptpSent + 1 ∧
          t.servo.ptpOut = some (ptpFrame s kind) ∧ (kind < 4 → tget t.servo.captured kind 0 = txStamp s + txPhy s) ∧
          (kind ≠ 11 → t.servo.master = s.servo.master ∧ t.fired = s.fired) ∧
          keepsRegsBut [(F.eth_TX_FRAMES, p), (F.time_FLAGS, 0)] s t)

/-- FRAME_TICK before its instant does nothing; after a realignment and less than half a period after the last tick it is
skipped with TICK_SUPPRESSED, FRAME_N unmoved; else FRAME_N is n, and without a staged setting the next instance is n
+ 1. PULSE_EDGE on an armed timed output whose instant has come begins the pulse, with its fall WIDTH later, COUNT
falling by 1 and the next instant a PERIOD on (a frame output at the tick it is due); at the fall of the last of COUNT
the output is disarmed and PULSE_DONE latched. TIME_CAP_EDGE on a selected edge: the time, polarity and VALID are
kept, EDGE_COUNT adds 1, and CAP_EDGE is latched unless the recorded edge before is under 1 µs old; an edge not
selected changes nothing on an input that is no reference. SCHEDULE_FIRE for an entry that is due requests its overlay
where no later one is due, else nothing happens. MODE_SWITCH takes the front request: one in force already just leaves
the queue; one whose tables build begins its switch. (R301, R302, R304, R305, R307, R308, R316, R317, R321, R524,
R525, R529) -/
def Obligations.TicksPulsesCapturesAndSchedules : Prop :=
  ∀ s : State,
    (tickDue s = false → exec .frameTick s = .next s) ∧
    (tickDue s = true → tickTooEarly s = true → ∃ t, exec .frameTick s = .next t ∧
      t = { s with regs := t.regs, fired := t.fired, frame := t.frame } ∧ t.frame.n = s.frame.n + 1 ∧
      flagged F.time_FLAGS F.time_EVEN 0 6 194 s t ∧ keepsRegsBut [(F.time_FLAGS, 0)] s t) ∧
    (tickDue s = true → tickTooEarly s = false → s.frame.staged = none → s.modeWait = none → s.twin.adopt = false →
      s.twin.handover = none → s.waits = [] → ∃ t, exec .frameTick s = .next t ∧ t.get F.time_FRAME_N 0 = s.frame.n % 2 ^ 32 ∧
        t.frame.n = s.frame.n + 1 ∧ t.frame.lastFired = some s.tod ∧ t.frame.fresh = false ∧ t.latches = [] ∧
        (s.part.hasPixel = true → s.shedUp 5 = true → s.srcNow = false → s.on F.pixel_SRC 0 = false →
          (s.get F.pixel_READY 0 ≠ 3 → t.get F.pixel_SHOW 0 = s.get F.pixel_READY 0 ∧ t.get F.pixel_READY 0 = 3) ∧
          (s.get F.pixel_READY 0 = 3 → t.get F.pixel_SHOW 0 = s.get F.pixel_SHOW 0))) ∧
    (∀ n, n < 8 → s.waits = [] →
      let p := tget s.pulses n {}
      (p.high = false → s.on F.pulse_ARMED n = true → s.on F.pulse_FRAME n = false → p.next * nsUnit ≤ s.tod →
        ∃ t, exec (.pulseEdge n) s = .next t ∧ t = { s with regs := t.regs, pulses := t.pulses } ∧
          t.get F.pulse_COUNT n = s.get F.pulse_COUNT n - 1 ∧ tget t.pulses n {} = { p with
            high := true, frameDue := false, last := s.get F.pulse_COUNT n == 1, next := p.next + s.get F.pulse_PERIOD n,
            endAt := (p.next + max 4 (s.get F.pulse_WIDTH n)) * nsUnit } ∧
          (∀ k, k ≠ n → tget t.pulses k {} = tget s.pulses k {}) ∧ keepsRegsBut [(F.pulse_COUNT, n)] s t) ∧
      (p.high = false → s.on F.pulse_ARMED n = true → s.on F.pulse_FRAME n = false → s.tod < p.next * nsUnit →
        exec (.pulseEdge n) s = .next s) ∧
      (p.high = false → s.on F.pulse_ARMED n = true → s.on F.pulse_FRAME n = true → p.frameDue = true →
        ∃ t, exec (.pulseEdge n) s = .next t ∧ t = { s with regs := t.regs, pulses := t.pulses } ∧
          tget t.pulses n {} = { p with high := true, frameDue := false, last := s.get F.pulse_COUNT n == 1, next := 0,
                                        endAt := p.next + max 4 (s.get F.pulse_WIDTH n) * nsUnit } ∧
          keepsRegsBut [(F.pulse_COUNT, n)] s t) ∧
      (p.high = true → s.tod < p.endAt → exec (.pulseEdge n) s = .next s) ∧
      (p.high = true → p.endAt ≤ s.tod → p.rearm = none → p.stepOff = false → p.disarm = false →
        ∃ t, exec (.pulseEdge n) s = .next t ∧ t = { s with regs := t.regs, pulses := t.pulses, fired := t.fired } ∧
          tget t.pulses n {} = { p with high := false, last := false } ∧
          (p.last = true → t.on F.pulse_ARMED n = false ∧ flagged F.pulse_PINFLAGS F.pulse_PINEN n 0 (196 + n) s t) ∧
          (p.last = false → t.regs = s.regs ∧ t.fired = s.fired))) ∧
    (∀ n rising e, n < 8 → s.get F.time_REF 0 ≠ 2 →
      let steady := ((edgeStamp s e : Int) - 16 * s.stepped).toNat
      ((s.get F.cap_EDGE n).testBit (if rising then 0 else 1) = false → exec (.timeCapEdge n rising e) s = .next s) ∧
      ((s.get F.cap_EDGE n).testBit (if rising then 0 else 1) = true →
        ∃ t, exec (.timeCapEdge n rising e) s = .next t ∧ t.get F.cap_LAST_NS n = stampNs (edgeStamp s e) ∧
          t.get F.cap_LAST_SUB n = edgeStamp s e % 16 ∧ t.on F.cap_LAST_POL n = rising ∧ t.on F.cap_VALID n = true ∧
          (tget t.caps n {}).count = ((tget s.caps n {}).count + 1) % 2 ^ 32 ∧
          ((tget s.caps n {}).recorded = none → (t.get F.pulse_PINFLAGS n).testBit 3 = true ∧
            (tget t.caps n {}).recorded = some steady) ∧
          (∀ k, (tget s.caps n {}).recorded = some k → steady < k + 16000 →
            t = { s with regs := t.regs, caps := t.caps } ∧ (tget t.caps n {}).recorded = some k))) ∧
    (∀ n e u, s.sched[n]? = some e → s.running = true → s.tsState ≤ 1 → dueAt s e = some u →
      ((∀ x ∈ s.sched, ∀ v, dueAt s x = some v → v ≤ u) →
        ∃ t, exec (.scheduleFire n) s = .next t ∧ t = { s with sched := t.sched, modeReqs := t.modeReqs } ∧
          t.modeReqs = s.modeReqs ++ [{ origin := 3, what := b2n e.emerg, slot := e.slot }] ∧
          t.sched[n]? = some { e with seen := some (s.tod / secUnit) } ∧ t.sched.length = s.sched.length) ∧
      ((∃ x ∈ s.sched, ∃ v, dueAt s x = some v ∧ u < v) → exec (.scheduleFire n) s = .next s)) ∧
    (∀ q rest, s.running = true → s.modeWait = none → s.on F.router_COPYBACK 0 = false → s.on F.pixel_COPYBACK 0 = false →
      s.modeReqs = q :: rest →
      let s1 : State := { s with modeReqs := rest }
      (q.origin ≠ 0 → judgeReq s1 (normalReq s1 q) = .same → exec .modeSwitch s = .next s1) ∧
      (judgeReq s1 (normalReq s1 q) = .runs → ∀ u post,
        planSwitch s1 (targetMode s1 (normalReq s1 q)) (targetEmerg s1 (normalReq s1 q)) = .go u post →
        ∃ t, exec .modeSwitch s = .next t ∧ t.modeWait = some (normalReq s1 q, 0) ∧ t.commitAsked = true ∧
          t.modePost = post ∧ t.modeReqs = u.modeReqs ∧ t.mode = u.mode))

/-- Each of its LENGTH. STREAM_SET and STREAM_STATUS_GET are NOT_FITTED without a stream port. STREAM_SET with S7 down
answers OK and changes nothing; else EN and SB_EN are taken, and EN 0 on a linked port takes the link down: LINKED and
CREDITS 0, LINK_DOWNS adds 1, LINK_CHANGE latched. STREAM_STATUS_GET answers the block's twelve words from 0x04.
ETH_SET: an absent port is NOT_FITTED, VID 4,095 is BAD_ARG; with S7 down OK and nothing; else the port's nine words
are taken, and EN 0 with the link up latches LINK_CHANGE with LINK 0. ETH_STATUS_GET answers the port's eleven words
from 0x24. (R433, R442, R454, R455, R470, R489, R490, R496) -/
def Obligations.StreamAndEthernetCommandsAnswer : Prop :=
  ∀ (r : Req) (s : State), takes s r = true →
    (s.part.hasPixel = false → exec (.streamSet r) s = .next (refusedWith 0x0110 7 r s) ∧
      exec (.streamStatusGet r) s = .next (refusedWith 0x0111 7 r s)) ∧
    (s.part.hasPixel = true → r.body.length = 4 →
      (s.shedUp 7 = false → exec (.streamSet r) s = .next (answered 0x0110 true r s [])) ∧
      (s.shedUp 7 = true → (flag r.body 0 0 = true ∨ s.on F.str_LINKED 0 = false) →
        ∃ t, exec (.streamSet r) s = .next (answered 0x0110 true r t []) ∧ t = { s with regs := t.regs } ∧
          t.get F.str_EN 0 = fld r.body 0 0 1 ∧ t.get F.str_SB_EN 0 = fld r.body 0 2 1 ∧
          keepsRegsBut [(F.str_EN, 0), (F.str_SB_EN, 0)] s t) ∧
      (s.shedUp 7 = true → flag r.body 0 0 = false → s.on F.str_LINKED 0 = true →
        ∃ t, exec (.streamSet r) s = .next (answered 0x0110 true r t []) ∧
          t = { s with regs := t.regs, fired := t.fired, stream := t.stream } ∧
          t.on F.str_EN 0 = false ∧ t.on F.str_LINKED 0 = false ∧ t.get F.str_CREDITS 0 = 0 ∧ t.stream.fifo = 0 ∧
          t.stream.frame = none ∧ t.get F.str_LINK_DOWNS 0 = min (s.get F.str_LINK_DOWNS 0 + 1) 0xFFFFFFFF ∧
          (t.get F.str_FLAGS 0).testBit 0 = true ∧ keepsRegsOutside (fun q => q.blk == .stream) s t)) ∧
    (s.part.hasPixel = true → r.body.length = 0 →
      exec (.streamStatusGet r) s = .next (answered 0x0111 false r s (readWords s .stream 0 4 12))) ∧
    (r.body.length = 40 →
      let p := fld r.body 0 0 1
      (s.part.ports ≤ p → exec (.ethSet r) s = .next (refusedWith 0x0112 7 r s)) ∧
      (p < s.part.ports → fld r.body 4 16 12 = 4095 → exec (.ethSet r) s = .next (refusedWith 0x0112 4 r s)) ∧
      (p < s.part.ports → fld r.body 4 16 12 ≠ 4095 → s.shedUp 7 = false →
        exec (.ethSet r) s = .next (answered 0x0112 true r s [])) ∧
      (p < s.part.ports → fld r.body 4 16 12 ≠ 4095 → s.shedUp 7 = true →
        ∃ t, exec (.ethSet r) s = .next (answered 0x0112 true r t []) ∧ t = { s with regs := t.regs, fired := t.fired } ∧
          t.get F.eth_EN p = fld r.body 4 0 1 ∧ t.get F.eth_PREVIEW_IGNORE p = fld r.body 4 2 1 ∧
          t.get F.eth_VID p = fld r.body 4 16 12 ∧ t.get F.eth_MAC_LO p = u32 r.body 8 ∧
          t.get F.eth_MAC_HI p = fld r.body 0xC 0 16 ∧ t.get F.eth_IP p = u32 r.body 0x10 ∧
          t.get F.eth_SENT_UDP p = fld r.body 0x14 0 16 ∧ t.get F.eth_MBX_UDP p = fld r.body 0x14 16 16 ∧
          t.get F.eth_DEST_IP p = u32 r.body 0x18 ∧ t.get F.eth_DEST_MAC_LO p = u32 r.body 0x1C ∧
          t.get F.eth_DEST_MAC_HI p = fld r.body 0x20 0 16 ∧ t.get F.eth_DEST_UDP p = fld r.body 0x20 16 16 ∧
          t.get F.eth_DEST_VALID p = fld r.body 0x24 0 1 ∧ t.get F.eth_DSCP p = fld r.body 0x24 1 6 ∧
          t.get F.eth_TTL p = fld r.body 0x24 8 8 ∧
          (flag r.body 4 0 = true → t.fired = s.fired ∧ t.get F.eth_LINK p = s.get F.eth_LINK p) ∧
          (flag r.body 4 0 = false → t.get F.eth_LINK p = 0 ∧
            (s.on F.eth_LINK p = true → flagged F.eth_FLAGS F.eth_EVEN p 0 (240 + 2 * p) s t)) ∧
          keepsRegsOutside (fun q => q.blk == .eth && q.inst == p && decide (q.off ≤ 0x28)) s t)) ∧
    (r.body.length = 4 →
      let p := fld r.body 0 0 1
      (s.part.ports ≤ p → exec (.ethStatusGet r) s = .next (refusedWith 0x0113 7 r s)) ∧
      (p < s.part.ports → exec (.ethStatusGet r) s = .next (answered 0x0113 false r s (readWords s .eth p 0x24 11))))

/-- On a linked port with credit and FIFO room each sound beat takes one of each. SOF with no frame open opens one with
its ID and totals. SOL in order, with the next LINE and inside the buffer, opens the line. A data beat under SRC 0
with S5 up writes its two pixels (one at an odd end) at their place in FILL and no other yard byte below the groom's
save words. EOL with all beats and a right LINE_CRC ends the line; EOF of a whole frame closes it and sends it to its
commit; a wrong EOL or EOF adds 1 to BAD_FRAMES, latches BAD_FRAME and drops the frame. A beat with a code error
counts in CODE_ERR and makes an open frame bad. STREAM_COMMIT with SRC 0 in force: FILL becomes READY; with READY
empty the buffer in neither role becomes FILL, else the old READY does, counted and flagged SKIP; FRAMES adds 1,
LAST_ID is the frame's. With SRC 1 in force the frame is dropped, counted in SRC_IGNORED where a part of it was
stored. (R319, R320, R321, R432, R433, R434, R435, R436, R437, R438, R454) -/
def Obligations.StreamFramesAreTakenBeatByBeat : Prop :=
  ∀ s : State, s.part.hasPixel = true →
    (s.shedUp 7 = true → s.shedUp 4 = true → s.on F.str_LINKED 0 = true → s.stream.fifo < 256 → 0 < s.stream.allowance → ∀ b : Beat,
      let left := (s.stream.allowance - 1) / 16 % 32
      let took := fun (f : Option StreamFrame) => ({ s.stream with
        frame := f, fifo := s.stream.fifo + 1, allowance := s.stream.allowance - 1 } : Stream)
      let bad := fun (t : State) => t.get F.str_BAD_FRAMES 0 = min (s.get F.str_BAD_FRAMES 0 + 1) 0xFFFFFFFF ∧
        flagged F.str_FLAGS F.str_EVEN 0 1 237 s t ∧ t.stream = { took none with skipping := true } ∧ onlyRegs { s with stream := t.stream } t
      (b.err = false → s.stream.frame = none →
        ∃ t, exec (.streamSof b) s = .next t ∧ t = { s with regs := t.regs, stream := t.stream } ∧
          t.stream = { took (some { id := b.w0, pixels := bits b.w1.toNat 0 20, lines := bits b.w2.toNat 0 16 }) with
            skipping := false } ∧ t.on F.str_IN_FRAME 0 = true ∧ t.get F.str_CREDITS 0 = left ∧
          keepsRegsBut [(F.str_IN_FRAME, 0), (F.str_CREDITS, 0)] s t) ∧
      (∀ x, s.stream.frame = some x →
        (b.err = true → ∃ t, exec (.streamDataBeat b) s = .next t ∧ bad t ∧
          t.get F.str_CODE_ERR 0 = min (s.get F.str_CODE_ERR 0 + 1) 0xFFFFFFFF) ∧
        (b.err = false →
          let dest := bits b.w0.toNat 0 20
          let count := bits b.w1.toNat 0 13
          (x.inLine = false → bits b.w1.toNat 16 16 = x.line % 65536 → dest + count ≤ 786432 →
            ∃ t, exec (.streamSol b) s = .next t ∧ t = { s with regs := t.regs, stream := t.stream } ∧
              t.stream = took (some { x with
                inLine := true, dest := dest, count := count, beats := 0, bytes := beatBytes b }) ∧
              t.get F.str_CREDITS 0 = left ∧ keepsRegsBut [(F.str_CREDITS, 0)] s t) ∧
          ((x.inLine = true ∨ bits b.w1.toNat 16 16 ≠ x.line % 65536 ∨ 786432 < dest + count) →
            ∃ t, exec (.streamSol b) s = .next t ∧ bad t) ∧
          (x.inLine = true → x.beats < (x.count + 1) / 2 → x.dest + x.count ≤ 786432 → s.shedUp 5 = true → s.srcNow = false →
            let base := s.get F.pixel_FILL 0 * 0x600000 + 8 * (x.dest + 2 * x.beats)
            let n := if 2 * x.beats + 1 < x.count then 16 else 8
            ∃ t, exec (.streamDataBeat b) s = .next t ∧ t.stream = took (some { x with
                beats := x.beats + 1, bytes := x.bytes ++ beatBytes b, stored := true }) ∧
              (∀ a, a < 0x1FFFC00 → t.yardCell a = if base ≤ a ∧ a < base + n then (beatBytes b).getD (a - base) 0 else s.yardCell a) ∧
              t = { s with regs := t.regs, stream := t.stream, yard := t.yard, yardErr := t.yardErr, poison := t.poison, groomPass := t.groomPass }) ∧
          (x.inLine = true → x.beats = (x.count + 1) / 2 → crc32c x.bytes = b.w0.toNat →
            ∃ t, exec (.streamEol b) s = .next t ∧ t = { s with regs := t.regs, stream := t.stream } ∧
              t.stream = took (some { x with inLine := false, line := x.line + 1, sum := x.sum + x.count, bytes := [] })) ∧
          ((x.inLine = false ∨ x.beats ≠ (x.count + 1) / 2 ∨ crc32c x.bytes ≠ b.w0.toNat) →
            ∃ t, exec (.streamEol b) s = .next t ∧ bad t) ∧
          (frameGood x b = true → ∃ t, exec (.streamEof b) s = .next t ∧ t = { s with regs := t.regs, stream := t.stream } ∧
            t.stream = { took none with toCommit := s.stream.toCommit ++ [(x.id, x.stored)] } ∧ t.on F.str_IN_FRAME 0 = false ∧
            keepsRegsBut [(F.str_IN_FRAME, 0), (F.str_CREDITS, 0)] s t) ∧
          (frameGood x b = false → ∃ t, exec (.streamEof b) s = .next t ∧ bad t)))) ∧
    (∀ id stored rest, s.stream.toCommit = (id, stored) :: rest →
      (((s.srcNow = true ∧ stored = false) ∨ s.shedUp 5 = false) →
        exec .streamCommit s = .next { s with stream := { s.stream with toCommit := rest } }) ∧
      (s.srcNow = true → stored = true → s.shedUp 5 = true → ∃ t, exec .streamCommit s = .next t ∧
        t = { s with regs := t.regs, fired := t.fired, stream := { s.stream with toCommit := rest } } ∧
        t.get F.pixel_N_SRC_IGNORED 0 = min (s.get F.pixel_N_SRC_IGNORED 0 + 1) 0xFFFFFFFF ∧
        flagged F.pixel_FLAGS F.pixel_EVEN 0 7 211 s t) ∧
      (s.srcNow = false → s.shedUp 5 = true → ∃ t, exec .streamCommit s = .next t ∧
        t = { s with regs := t.regs, fired := t.fired, stream := { s.stream with toCommit := rest } } ∧
        t.get F.pixel_READY 0 = s.get F.pixel_FILL 0 ∧ t.get F.pixel_SHOW 0 = s.get F.pixel_SHOW 0 ∧
        t.get F.str_FRAMES 0 = min (s.get F.str_FRAMES 0 + 1) 0xFFFFFFFF ∧ t.reg (F.str_LAST_ID.addr 0) = id ∧
        (s.get F.pixel_READY 0 = 3 → t.get F.pixel_FILL 0 < 3 ∧ t.get F.pixel_FILL 0 ≠ s.get F.pixel_FILL 0 ∧
          t.get F.pixel_FILL 0 ≠ s.get F.pixel_SHOW 0 ∧ t.fired = s.fired) ∧
        (s.get F.pixel_READY 0 ≠ 3 → t.get F.pixel_FILL 0 = s.get F.pixel_READY 0 ∧
          t.get F.pixel_SKIPPED 0 = min (s.get F.pixel_SKIPPED 0 + 1) 0xFFFFFFFF ∧
          flagged F.pixel_FLAGS F.pixel_EVEN 0 1 205 s t)))

/-- STREAM_LINK_UP on an enabled port: LINKED, 16 credits of 16 beats, LINK_CHANGE latched; on a linked port nothing.
STREAM_LINK_DOWN: its errors count, LINKED and CREDITS 0, LINK_DOWNS adds 1, LINK_CHANGE latched, an open frame is
bad. CREDIT_RETURN once 16 beats have left the FIFO gives 16 beats of allowance back, up to 256. A whole sideband
packet of the right length for a mailbox that the sideband owns and that is EMPTY with nothing waiting: SB_MSGS adds
1, the message lies in the mailbox, whose STATE is FULL; with SB_EN 0, or beats that do not fit LENGTH, SB_ERR counts
and is latched and no mailbox changes. (R433, R438, R439, R440, R454, R471, R475) -/
def Obligations.StreamLinkCreditsAndSidebandPackets : Prop :=
  ∀ s : State, s.part.hasPixel = true → s.shedUp 7 = true → s.shedUp 4 = true →
    (s.on F.str_EN 0 = true → s.on F.str_LINKED 0 = false → ∃ t, exec .streamLinkUp s = .next t ∧
      t = { s with regs := t.regs, fired := t.fired, stream := { s.stream with fifo := 0, allowance := 256 } } ∧
      t.on F.str_LINKED 0 = true ∧ t.get F.str_CREDITS 0 = 16 ∧ flagged F.str_FLAGS F.str_EVEN 0 0 236 s t ∧
      keepsRegsBut [(F.str_LINKED, 0), (F.str_CREDITS, 0), (F.str_FLAGS, 0)] s t) ∧
    (s.on F.str_LINKED 0 = true → exec .streamLinkUp s = .next s) ∧
    (∀ errors, s.on F.str_LINKED 0 = true → ∃ t, exec (.streamLinkDown errors) s = .next t ∧
      t = { s with regs := t.regs, fired := t.fired, stream := t.stream } ∧ t.on F.str_LINKED 0 = false ∧
      t.get F.str_CREDITS 0 = 0 ∧ t.get F.str_CODE_ERR 0 = min (s.get F.str_CODE_ERR 0 + errors) 0xFFFFFFFF ∧
      t.get F.str_LINK_DOWNS 0 = min (s.get F.str_LINK_DOWNS 0 + 1) 0xFFFFFFFF ∧ (t.get F.str_FLAGS 0).testBit 0 = true ∧
      t.stream.fifo = 0 ∧ t.stream.allowance = 0 ∧ t.stream.frame = none ∧
      t.get F.str_BAD_FRAMES 0 = min (s.get F.str_BAD_FRAMES 0 + b2n s.stream.frame.isSome) 0xFFFFFFFF) ∧
    (s.on F.str_LINKED 0 = false → ∀ errors, exec (.streamLinkDown errors) s = .next s) ∧
    (s.on F.str_LINKED 0 = true →
      (s.stream.fifo < 16 → exec .creditReturn s = .next s) ∧
      (16 ≤ s.stream.fifo → ∃ t, exec .creditReturn s = .next t ∧ t = { s with regs := t.regs, stream := t.stream } ∧
        t.stream = { s.stream with fifo := s.stream.fifo - 16, allowance := min 256 (s.stream.allowance + 16) } ∧
        t.get F.str_CREDITS 0 = min 256 (s.stream.allowance + 16) / 16 ∧ keepsRegsBut [(F.str_CREDITS, 0)] s t)) ∧
    (∀ mbox beats msg, mbox < 8 → s.on F.str_LINKED 0 = true → s.stream.frame = none → s.stream.skipping = false →
      beats ≤ 32 → s.stream.fifo + 1 + beats ≤ 256 → 1 + beats ≤ s.stream.allowance →
      let good := s.on F.str_SB_EN 0 = true ∧ 0 < beats ∧ beats = (16 + u16 msg 4 + 15) / 16
      (good → 16 + u16 msg 4 ≤ msg.length → mbOwner s mbox = 2 → mbState s mbox = 0 → (∀ e ∈ s.mbWait, e.1 ≠ mbox) →
        ∃ t, exec (.sidebandPacket mbox beats msg true) s = .next t ∧
          t.get F.str_SB_MSGS 0 = min (s.get F.str_SB_MSGS 0 + 1) 0xFFFFFFFF ∧ mbState t mbox = 1 ∧
          wroteBytes s.mbi t.mbi 0 (512 * mbox) (msg.take (16 + u16 msg 4)) ∧ t.mbWait = s.mbWait ∧
          tget t.mbFrom mbox .spi = .sideband ∧ t.stream.fifo = s.stream.fifo + 1 + beats ∧
          t = { s with regs := t.regs, mbi := t.mbi, ringNo := s.ringNo + 1, rungBy := t.rungBy, mbFrom := t.mbFrom, stream := t.stream }) ∧
      (¬ good → ∃ t, exec (.sidebandPacket mbox beats msg true) s = .next t ∧ t.mbi = s.mbi ∧ t.mbWait = s.mbWait ∧
        t.get F.str_N_SB_ERR 0 = min (s.get F.str_N_SB_ERR 0 + 1) 0xFFFFFFFF ∧ flagged F.str_FLAGS F.str_EVEN 0 3 239 s t ∧
        t = { s with regs := t.regs, fired := t.fired, stream := t.stream }))

/-- ETH_LINK_CHANGE on an enabled port: LINK is up at a right speed, BAD_SPEED up at a wrong one, LINK_CHANGE latched
where LINK moved. ETH_FRAME_RECEIVED on a live link: under 1,536 bytes of buffer RX_NOBUF counts and is latched; a
frame that fails test 1 counts in RX_ERR; any other in RX_FRAMES, and then one not for this port in RX_NOTME, an ARP
frame goes to firmware, and a UDP datagram to SENT_UDP gives its payload, byte for byte, to the port's source, one to
MBX_UDP to the session inbox. ETH_TX_FRAME_END: TX_FRAMES adds 1 and the port is free, or sends a waiting frame after
a listener's. The E1.31 timeouts free the universe, or end synchronization. SESSION_DATAGRAM of an unknown session
counts in AUTH_FAIL and changes no mailbox; one that passes the checks keeps its counter and fills its EMPTY mailbox.
(R442, R443, R444, R445, R446, R449, R450, R451, R452, R455, R475) -/
def Obligations.EthernetPortsTestCountAndDeliver : Prop :=
  ∀ (s : State) (p : Nat), p < s.part.ports → s.shedUp 7 = true → s.shedUp 4 = true →
    (∀ up ok, s.on F.eth_EN p = true → ∃ t, exec (.ethLinkChange p up ok) s = .next t ∧
      t = { s with regs := t.regs, fired := t.fired } ∧ t.on F.eth_LINK p = (up && ok) ∧ t.on F.eth_BAD_SPEED p = (up && !ok) ∧
      (s.on F.eth_LINK p = (up && ok) → t.fired = s.fired ∧ t.get F.eth_FLAGS p = s.get F.eth_FLAGS p) ∧
      (s.on F.eth_LINK p ≠ (up && ok) → flagged F.eth_FLAGS F.eth_EVEN p 0 (240 + 2 * p) s t) ∧
      keepsRegsBut [(F.eth_LINK, p), (F.eth_BAD_SPEED, p), (F.eth_FLAGS, p)] s t) ∧
    (∀ b ago, s.on F.eth_LINK p = true →
      (ethFree s p < 1536 → ∃ t, exec (.ethFrameReceived p b ago) s = .next t ∧ onlyRegs s t ∧
        t.get F.eth_N_RX_NOBUF p = min (s.get F.eth_N_RX_NOBUF p + 1) 0xFFFFFFFF ∧
        flagged F.eth_FLAGS F.eth_EVEN p 1 (241 + 2 * p) s t ∧ keepsRegsBut [(F.eth_N_RX_NOBUF, p), (F.eth_FLAGS, p)] s t) ∧
      (1536 ≤ ethFree s p → frameSound s p b = false → ∃ t, exec (.ethFrameReceived p b ago) s = .next t ∧ onlyRegs s t ∧
        t.get F.eth_N_RX_ERR p = min (s.get F.eth_N_RX_ERR p + 1) 0xFFFFFFFF ∧
        flagged F.eth_FLAGS F.eth_EVEN p 2 (241 + 2 * p) s t ∧ keepsRegsBut [(F.eth_N_RX_ERR, p), (F.eth_FLAGS, p)] s t) ∧
      (1536 ≤ ethFree s p → frameSound s p b = true →
        (isPause b = false → forUs s p b = false → ∃ t, exec (.ethFrameReceived p b ago) s = .next t ∧
          t = { s with regs := t.regs, eth := t.eth, yard := t.yard, yardErr := t.yardErr, poison := t.poison, groomPass := t.groomPass } ∧
          t.get F.eth_RX_FRAMES p = min (s.get F.eth_RX_FRAMES p + 1) 0xFFFFFFFF ∧
          t.get F.eth_RX_NOTME p = min (s.get F.eth_RX_NOTME p + 1) 0xFFFFFFFF ∧
          keepsRegsBut [(F.eth_RX_FRAMES, p), (F.eth_RX_NOTME, p)] s t) ∧
        (forUs s p b = true → be b 12 2 = 0x0806 → ∃ t, exec (.ethFrameReceived p b ago) s = .next t ∧
          (t.ethPort p).others = (s.ethPort p).others ++ [b] ∧
          t = { s with regs := t.regs, eth := t.eth, yard := t.yard, yardErr := t.yardErr, poison := t.poison, groomPass := t.groomPass } ∧
          keepsRegsBut [(F.eth_RX_FRAMES, p)] s t) ∧
        (forUs s p b = true → be b 12 2 = 0x0800 → byteAt b 14 = 0x45#8 → ipSumOk (slice b 14 20) = true → be b 20 2 % 16384 = 0 →
          byteAt b 23 = 17#8 → be b 16 2 = 20 + be b 38 2 → 8 ≤ be b 38 2 → 38 + be b 38 2 ≤ b.length → be b 36 2 ≠ 0 →
          be b 36 2 ∉ [319, 320, 5568] →
          let payload := slice b 42 (be b 38 2 - 8)
          (be b 36 2 = s.get F.eth_SENT_UDP p → ∃ t, exec (.ethFrameReceived p b ago) s = .next t ∧
            (t.source (0x1000 + p)).input.map (fun x => (x.data, x.stamp)) =
              (s.source (0x1000 + p)).input.map (fun x => (x.data, x.stamp)) ++ payload.map (fun d => (d, rxStamp s ago)) ∧
            (∀ k, k ≠ 0x1000 + p → t.source k = s.source k) ∧ 
            t = { s with regs := t.regs, eth := t.eth, srcs := t.srcs, yard := t.yard, yardErr := t.yardErr, poison := t.poison, groomPass := t.groomPass } ∧
            keepsRegsBut [(F.eth_RX_FRAMES, p)] s t) ∧
          (be b 36 2 ≠ s.get F.eth_SENT_UDP p → be b 36 2 = s.get F.eth_MBX_UDP p →
            ∃ t, exec (.ethFrameReceived p b ago) s = .next t ∧
              t = { s with regs := t.regs, eth := t.eth, yard := t.yard, yardErr := t.yardErr, poison := t.poison, groomPass := t.groomPass } ∧
              (t.ethPort p).inbox.map (·.2) = (s.ethPort p).inbox.map (·.2) ++ [payload])))) ∧
    (∀ w, (s.ethPort p).sending = true → (s.ethPort p).granted = none → ∃ t, exec (.ethTxFrameEnd p w) s = .next t ∧
      t = { s with regs := t.regs, eth := t.eth } ∧ t.get F.eth_TX_FRAMES p = min (s.get F.eth_TX_FRAMES p + 1) 0xFFFFFFFF ∧
      (t.ethPort p).sending = ((s.ethPort p).sentListener && (w || (s.ethPort p).waiting != 0)) ∧
      keepsRegsBut [(F.eth_TX_FRAMES, p)] s t) ∧
    (∀ u, ∃ t, exec (.e131SourceTimeout u) s = .next t ∧ t = { s with univs := t.univs } ∧ t.univ u = {} ∧
      ∀ k, k ≠ u → t.univ k = s.univ k) ∧
    (∀ a, a ∉ s.syncOff → exec (.e131SyncTimeout a) s = .next { s with syncOff := s.syncOff ++ [a] }) ∧
    (∀ b, s.running = true → (s.ethPort p).inbox = [] →
      ((s.sessions.find? (fun x => x.number == u32 b 0)) = none → ∃ t, exec (.sessionDatagram p b) s = .next t ∧ onlyRegs s t ∧
        t.get F.eth_N_AUTH_FAIL p = min (s.get F.eth_N_AUTH_FAIL p + 1) 0xFFFFFFFF ∧
        flagged F.eth_FLAGS F.eth_EVEN p 4 (241 + 2 * p) s t) ∧
      (∀ x, s.sessions.find? (fun x => x.number == u32 b 0) = some x →
        let n := u16 b 0x14
        let i := fld b 0xC 0 3
        b.length = 64 + n → n ≤ 496 → b.drop (b.length - 32) = hmac x.key (b.take (b.length - 32)) →
        x.peerCounter < ofLe (slice b 4 8) → mbOwner s i = 1 → mbState s i = 0 → (∀ e ∈ s.mbWait, e.1 ≠ i) →
        ∃ t, exec (.sessionDatagram p b) s = .next t ∧ mbState t i = 1 ∧
          wroteBytes s.mbi t.mbi 0 (512 * i) (slice b 0x10 (16 + n)) ∧
          tget t.mbFrom i .spi = .session x.number ∧
          (t.sessions.find? (fun y => y.number == x.number)).map (·.peerCounter) = some (ofLe (slice b 4 8)) ∧
          t.sessions.length = s.sessions.length))

/-- On an allocated stall with S4 up, no reset running and no mismatch: in START, RUN, TEST or RECOVERY NEXT moves RD past
the record there and OFFS to 0, MARK sets MARK to RD, REWIND RD to MARK and OFFS to 0, RELEASE sets REL and MARK to RD
and keeps the unread records; DROP (not in RUN) and NEXT_RELEASE move RD, REL and MARK past the record at RD; RUN (not
in RUN) sets STATE to RUN, TEST (in RUN) to TEST. NEXT, DROP and NEXT_RELEASE with nothing unread, DROP and RUN in RUN
and TEST outside it do nothing and set CMD_REFUSED. NEXT, MARK, REWIND, RUN and TEST touch nothing but the stall's own
pointers, OFFS and STATE; no command touches another stall. (R214, R223, R224, R230, R231, R232) -/
def Obligations.ReaderCommandsMoveTheirPointers : Prop :=
  ∀ (s : State) (q : Nat), q < 240 → s.shedUp 4 = true → s.get F.stall_SIZE_LOG2 q ≠ 0 → (s.stall q).reset = none →
    mismatchOf (s.stall q) = 0 → s.get F.stall_STATE q ∈ [1, 2, 3, 4] →
    let p := (s.stall q).a
    let wrap := 2 * 2 ^ s.get F.stall_SIZE_LOG2 q
    let refusedBy := fun (i : Instr) => ∃ t, exec i s = .next t ∧ onlyRegs s t ∧
      flagged F.stall_FLAGS F.stall_EVEN q 8 (96 + q / 4) s t ∧ keepsRegsBut [(F.stall_FLAGS, q)] s t
    let others := fun (t : State) => (∀ k, k ≠ q → t.stall k = s.stall k) ∧ keepsRegsOutside (fun a => a.blk == .stall && a.inst == q) s t
    (∀ l rest, unreadLens s q = l :: rest →
      let rd := (p.rd + l) % wrap
      (∃ t, exec (.stallNext q 0) s = .next t ∧ t = { s with regs := t.regs, stalls := t.stalls } ∧
        t.stall q = { s.stall q with a := { p with rd := rd }, b := { p with rd := rd }, taken := ((s.stall q).taken + 1) % 65536 } ∧
        others t ∧
        t.get F.stall_OFFS q = 0 ∧ keepsRegsBut [(F.stall_OFFS, q)] s t) ∧
      (s.get F.stall_STATE q ≠ 2 → ∃ t, exec (.stallDrop ⟨q, 0⟩) s = .next t ∧
        t = { s with regs := t.regs, stalls := t.stalls, fired := t.fired } ∧ (t.stall q).a = { p with rel := rd, mark := rd, rd := rd } ∧ (t.stall q).b = (t.stall q).a ∧
        t.get F.stall_OFFS q = 0 ∧ others t) ∧
      (∃ t, exec (.stallNextRelease ⟨q, 0⟩) s = .next t ∧
        t = { s with regs := t.regs, stalls := t.stalls, fired := t.fired } ∧ (t.stall q).a = { p with rel := rd, mark := rd, rd := rd } ∧
        (t.stall q).b = (t.stall q).a ∧ t.get F.stall_OFFS q = 0 ∧ others t)) ∧
    (unreadLens s q = [] → refusedBy (.stallNext q 0) ∧ refusedBy (.stallNextRelease ⟨q, 0⟩) ∧ refusedBy (.stallDrop ⟨q, 0⟩)) ∧
    (s.get F.stall_STATE q = 2 → refusedBy (.stallDrop ⟨q, 0⟩) ∧ refusedBy (.stallRun ⟨q, 0⟩)) ∧
    (s.get F.stall_STATE q ≠ 2 → refusedBy (.stallTest ⟨q, 0⟩)) ∧
    (∃ t, exec (.stallMark ⟨q, 0⟩) s = .next t ∧ t = { s with stalls := t.stalls } ∧ others t ∧
      t.stall q = { s.stall q with a := { p with mark := p.rd }, b := { p with mark := p.rd } }) ∧
    (∃ t, exec (.stallRewind ⟨q, 0⟩) s = .next t ∧ t = { s with regs := t.regs, stalls := t.stalls } ∧ others t ∧
      t.stall q = { s.stall q with a := { p with rd := p.mark }, b := { p with rd := p.mark }, taken := (t.stall q).taken } ∧
      t.get F.stall_OFFS q = 0 ∧ keepsRegsBut [(F.stall_OFFS, q)] s t) ∧
    (∃ t, exec (.stallRelease q 0) s = .next t ∧ t = { s with regs := t.regs, stalls := t.stalls, fired := t.fired } ∧
      (t.stall q).a = { p with rel := p.rd, mark := p.rd } ∧ (t.stall q).b = (t.stall q).a ∧
      (t.stall q).lens = unreadLens s q ∧ others t ∧
      ((s.stall q).refused = [] → s.get F.stall_WM q = 0 → t.regs = s.regs ∧ t.fired = s.fired)) ∧
    (∀ mis, (s.get F.stall_STATE q ≠ 2 → ∃ t, exec (.stallRun ⟨q, mis⟩) s = .next t ∧ t = { s with regs := t.regs, stalls := t.stalls } ∧
        (mis = 0 → t.stalls = s.stalls) ∧ (t.stall q).a = p ∧ t.get F.stall_STATE q = 2 ∧ keepsRegsBut [(F.stall_STATE, q)] s t) ∧
      (s.get F.stall_STATE q = 2 → ∃ t, exec (.stallTest ⟨q, mis⟩) s = .next t ∧ t = { s with regs := t.regs, stalls := t.stalls } ∧
        (mis = 0 → t.stalls = s.stalls) ∧ (t.stall q).a = p ∧ t.get F.stall_STATE q = 3 ∧ keepsRegsBut [(F.stall_STATE, q)] s t))

/-- STALL_RECORD_WRITE of a KIND 1 to 9 (another is never produced) on an allocated stall, S4 up, no reset: in OVERWRITE
with room, or in CREDIT with enough GRANTED, WR moves on by the record's padded size, the record is the newest,
RECORDS adds 1, NOTICE is latched, REL, RD and MARK stand, and CREDIT spends the size. With less GRANTED, LOST adds 1
and CREDIT_VIOL is latched; a record larger than the stall LOST and TOO_BIG; on an unallocated stall LOST and LOSS;
nothing is written. In OVERWRITE with one unread record in the way, that record goes: LOST and OVTK add 1, LOSS and
OVERTAKEN are latched, REL, RD and MARK stand at the new record. A pointer mismatch starts a reset instead.
CREDIT_REQUEST grants all of a sound request that fits, else keeps it for later; CREDIT_HANDBACK takes it back. (R211,
R214, R216, R217, R219, R220, R222, R224, R225, R227) -/
def Obligations.RecordsAndCreditFollowTheStallsMode : Prop :=
  ∀ (s : State) (q : Nat), q < 256 → s.shedUp 4 = true → (s.stall q).reset = none → mismatchOf (s.stall q) = 0 →
    let x := s.stall q
    let p := x.a
    let sz := 2 ^ s.get F.stall_SIZE_LOG2 q
    let lostBy := fun (i : Instr) (bit : Nat) => ∃ t, exec i s = .next t ∧ onlyRegs s t ∧
      t.get F.stall_LOST q = min (s.get F.stall_LOST q + 1) 0xFFFFFFFF ∧
      flagged F.stall_FLAGS F.stall_EVEN q bit (96 + q / 4) s t ∧ keepsRegsBut [(F.stall_LOST, q), (F.stall_FLAGS, q)] s t
    (∀ kind src seqn body mis, kindProduced kind = false → exec (.stallRecordWrite q kind src seqn body mis) s = .next s) ∧
    (∀ kind src seqn body, body.length < 65536 → kindProduced kind = true →
      let n := recordSize body.length
      let i := Instr.stallRecordWrite q kind src seqn body 0
      (s.get F.stall_SIZE_LOG2 q = 0 → lostBy i 2) ∧
      (s.get F.stall_SIZE_LOG2 q ≠ 0 → sz < n → lostBy i 6) ∧
      (s.get F.stall_SIZE_LOG2 q ≠ 0 → n ≤ sz → s.on F.stall_MODE q = true → s.get F.stall_GRANTED q < n → lostBy i 7) ∧
      (s.get F.stall_SIZE_LOG2 q ≠ 0 → n ≤ sz →
        ((s.on F.stall_MODE q = false ∧ n ≤ stallFree s q) ∨ (s.on F.stall_MODE q = true ∧ n ≤ s.get F.stall_GRANTED q)) →
        ∃ t, exec i s = .next t ∧ (t.stall q).a = { p with wr := (p.wr + n) % (2 * sz) } ∧ (t.stall q).b = (t.stall q).a ∧
          (t.stall q).lens = x.lens ++ [n] ∧ t.get F.stall_RECORDS q = (s.get F.stall_RECORDS q + 1) % 2 ^ 32 ∧
          t.get F.stall_LOST q = s.get F.stall_LOST q ∧ (t.get F.stall_FLAGS q).testBit 0 = true ∧
          t.get F.stall_GRANTED q = (if s.on F.stall_MODE q then s.get F.stall_GRANTED q - n else s.get F.stall_GRANTED q) ∧
          (∀ k, k ≠ q → t.stall k = s.stall k)) ∧
      (∀ l, s.get F.stall_SIZE_LOG2 q ≠ 0 → s.on F.stall_MODE q = false → x.lens = [l] → p.rd = p.rel → p.mark = p.rel →
        p.rel < 2 * sz → p.wr = (p.rel + l) % (2 * sz) → 0 < l → l ≤ sz → sz - l < n → n ≤ sz →
        ∃ t, exec i s = .next t ∧
          (t.stall q).a = { wr := (p.wr + n) % (2 * sz), rel := p.wr, rd := p.wr, mark := p.wr } ∧ (t.stall q).lens = [n] ∧
          t.get F.stall_LOST q = min (s.get F.stall_LOST q + 1) 0xFFFFFFFF ∧
          t.get F.stall_OVTK q = (s.get F.stall_OVTK q + 1) % 256 ∧ t.get F.stall_OFFS q = 0 ∧
          (t.get F.stall_FLAGS q).testBit 2 = true ∧ (t.get F.stall_FLAGS q).testBit 3 = true) ∧
      (∀ mis, mis ≠ 0 → s.get F.stall_SIZE_LOG2 q ≠ 0 → n ≤ sz →
        (s.on F.stall_MODE q = true → n ≤ s.get F.stall_GRANTED q) → exec (.stallRecordWrite q kind src seqn body mis) s =
        .next (s.putStall q { x with reset := some { cause := 0, mismatch := mis, newCfg := none } }))) ∧
    (∀ n, s.get F.stall_SIZE_LOG2 q ≠ 0 → s.on F.stall_MODE q = true →
      (n = 0 ∨ n % 8 ≠ 0 ∨ sz < n → exec (.creditRequest q n) s = .next s) ∧
      (0 < n → n % 8 = 0 → n ≤ sz →
        (s.get F.stall_GRANTED q + n ≤ stallFree s q → ∃ t, exec (.creditRequest q n) s = .next t ∧ t = { s with regs := t.regs } ∧
          t.get F.stall_GRANTED q = (s.get F.stall_GRANTED q + n) % 2 ^ 22 ∧ keepsRegsBut [(F.stall_GRANTED, q)] s t) ∧
        (stallFree s q < s.get F.stall_GRANTED q + n → exec (.creditRequest q n) s =
          .next (s.putStall q { x with refused := x.refused ++ [n] }))) ∧
      (∃ t, exec (.creditHandback q n) s = .next t ∧ t = { s with regs := t.regs } ∧
        t.get F.stall_GRANTED q = s.get F.stall_GRANTED q - n ∧ keepsRegsBut [(F.stall_GRANTED, q)] s t))

/-- STALL_RESET_RUN without a reset changes nothing. At the end of a reset with no configuration and no command waiting,
on a stall of at least 256 bytes: the stall holds one record, the gap marker, at RD, whose bytes carry RESETS, CAUSE,
the mismatch bits of CAUSE 0 and the number of records discarded; REL, RD and MARK are 0 and WR its 32 bytes; RESETS
adds 1, LOST the records discarded (but for one granted to a listener), GRANTED is 0 and OFFS stands, STATE is START
after a configuration and else RECOVERY; RESET is latched, and MISMATCH for CAUSE 0. No other stall changes. A
mismatch that NEXT, MARK, REWIND, RELEASE, DROP or NEXT_RELEASE meets refuses the command and starts a reset with
CAUSE 0; one met at the end of a reset starts it again, and RESETS adds 1. (R216, R234, R235, R236, R242, R246, R247) -/
def Obligations.AStallResetEmptiesItAndLeavesAMarker : Prop :=
  ∀ (s : State) (q : Nat), q < 256 → s.shedUp 4 = true →
    ((s.stall q).reset = none → exec (.stallResetRun q) s = .next s) ∧
    (∀ r, (s.stall q).reset = some r → mismatchOf (s.stall q) ≠ 0 → ∃ t, exec (.stallResetRun q) s = .next t ∧
      t = { s with regs := t.regs, stalls := t.stalls } ∧
      t.stall q = { s.stall q with b := (s.stall q).a, reset := some { cause := 0, mismatch := mismatchOf (s.stall q), newCfg := r.newCfg } } ∧
      t.get F.stall_RESETS q = min (s.get F.stall_RESETS q + 1) 65535 ∧ keepsRegsBut [(F.stall_RESETS, q)] s t) ∧
    (∀ r, (s.stall q).reset = some r → mismatchOf (s.stall q) = 0 → r.newCfg = none → r.cause < 3 → s.waits = [] →
      8 ≤ s.get F.stall_SIZE_LOG2 q → (q = 242 → s.calHeld = []) →
      let lost := (s.stall q).lens.length - b2n (grantedFrom s q)
      ∃ t, exec (.stallResetRun q) s = .next t ∧ (t.stall q).reset = none ∧
        (t.stall q).a = { wr := 32, rel := 0, rd := 0, mark := 0 } ∧ (t.stall q).b = (t.stall q).a ∧ (t.stall q).lens = [32] ∧
        ((s.stall q).base % 8 = 0 → (s.stall q).base + 32 ≤ 0x1FFFC00 → recordAtRd t q = some (gapMarker s (t.get F.stall_RESETS q) r.cause (if r.cause = 0 then r.mismatch else 0) lost)) ∧
        t.get F.stall_RESETS q = min (s.get F.stall_RESETS q + 1) 65535 ∧
        t.get F.stall_LOST q = min (s.get F.stall_LOST q + lost) 0xFFFFFFFF ∧ t.get F.stall_GRANTED q = 0 ∧
        t.get F.stall_OFFS q = s.get F.stall_OFFS q ∧ t.get F.stall_STATE q = (if r.cause = 2 then 1 else 4) ∧
        (t.get F.stall_FLAGS q).testBit 4 = true ∧ (r.cause = 0 → (t.get F.stall_FLAGS q).testBit 5 = true) ∧
        (∀ k, k ≠ q → t.stall k = s.stall k) ∧
        keepsRegsOutside (fun a => a.blk == .stall && a.inst == q) s t) ∧
    (∀ mis, mis ≠ 0 → s.get F.stall_SIZE_LOG2 q ≠ 0 → (s.stall q).reset = none → mismatchOf (s.stall q) = 0 →
      ∀ i ∈ [Instr.stallNext q mis, .stallMark ⟨q, mis⟩, .stallRewind ⟨q, mis⟩, .stallRelease q mis, .stallDrop ⟨q, mis⟩, .stallNextRelease ⟨q, mis⟩],
      ∃ t, exec i s = .next t ∧ t = { s with regs := t.regs, fired := t.fired, stalls := t.stalls } ∧
        t.stall q = { s.stall q with reset := some { cause := 0, mismatch := mis, newCfg := none } } ∧
        flagged F.stall_FLAGS F.stall_EVEN q 8 (96 + q / 4) s t ∧ keepsRegsBut [(F.stall_FLAGS, q)] s t)

/-- STALL_CONFIG of LENGTH 8: a stall from Q240 up is DENIED; a size outside 2^8 to 2^20, a WM that is no multiple of 8 or
above the size, or READER above 2 is BAD_ARG; no room NO_SPACE with the largest free block. On an unallocated stall
that no listener binds it allocates: START (RUN where firmware reads), empty, the placed base, size, MODE, READER and
WM as asked. Same size and mode: only READER and WM change, and a reader that firmware becomes issues RUN. Another
size that has room, or another mode: the same, and a reset with CAUSE 2 brings the rest. Size 0 on an unallocated
stall: MODE and WM alone. Size 0 on a stall nothing names frees it: STATE OFF, size 0. STALL_RESET: DENIED from Q240
up, STATE on an unallocated stall; else a reset with CAUSE 1 starts and the command waits. STALL_STATUS_GET answers
fifteen words for each of up to eight stalls named, BAD_ARG for more or beyond Q255. (R210, R211, R212, R226, R228,
R230, R234, R502) -/
def Obligations.StallCommandsAllocateResizeAndReset : Prop :=
  ∀ (r : Req) (s : State), takes s r = true →
    (r.body.length = 8 → s.shedUp 4 = true →
      let q := fld r.body 0 0 8
      let k := fld r.body 0 8 5
      let mode := fld r.body 0 13 1
      let reader := fld r.body 0 14 3
      let wm := u32 r.body 4
      let argsOk := (k = 0 ∨ (8 ≤ k ∧ k ≤ 20)) ∧ wm % 8 = 0 ∧ wm ≤ 2 ^ k ∧ reader < 3
      let free := stallNamed s q = false ∧ s.get F.stall_READER q ≠ 3 ∧ (s.stall q).reset = none
      let now := fun (f : State → Prop) => ∃ t, exec (.stallConfig r) s = .next (answered 0x0401 true r t []) ∧
        (∀ n, n ≠ q → t.stall n = s.stall n) ∧ keepsRegsOutside (fun a => a.blk == .stall && a.inst == q) s t ∧ f t
      let retuned := fun (t : State) => t = { s with regs := t.regs, stalls := t.stalls } ∧ t.get F.stall_READER q = reader ∧
        t.get F.stall_WM q = wm ∧ t.get F.stall_STATE q = (if reader = 2 ∧ s.get F.stall_READER q ≠ 2 then 2 else s.get F.stall_STATE q) ∧
        keepsRegsBut [(F.stall_READER, q), (F.stall_WM, q), (F.stall_STATE, q)] s t
      (240 ≤ q → exec (.stallConfig r) s = .next (refusedWith 0x0401 6 r s)) ∧
      (q < 240 → ¬ argsOk → exec (.stallConfig r) s = .next (refusedWith 0x0401 4 r s)) ∧
      (q < 240 → argsOk → free →
        (s.get F.stall_SIZE_LOG2 q = 0 → k ≠ 0 → (0x400000 < regionUsed s q + 2 ^ k ∨ place s q k = none) →
          exec (.stallConfig r) s = .next (respond s r.via r.mbox 0x0401 r.tag r.quiet false 5 0
            (le 4 (if largestBlock s q = 0 then 0 else 2 ^ largestBlock s q)) none)) ∧
        (∀ b, s.get F.stall_SIZE_LOG2 q = 0 → k ≠ 0 → regionUsed s q + 2 ^ k ≤ 0x400000 → place s q k = some b →
          now (fun t => t = { s with regs := t.regs, stalls := t.stalls } ∧ t.stall q = { base := b } ∧
            t.get F.stall_SIZE_LOG2 q = k ∧ t.get F.stall_MODE q = mode ∧ t.get F.stall_READER q = reader ∧
            t.get F.stall_WM q = wm ∧ t.get F.stall_STATE q = (if reader = 2 then 2 else 1) ∧ t.get F.stall_RECORDS q = 0 ∧ t.get F.stall_GRANTED q = 0)) ∧
        (s.get F.stall_SIZE_LOG2 q = k → k ≠ 0 → s.get F.stall_MODE q = mode →
          now (fun t => retuned t ∧ t.stall q = { s.stall q with head := [] })) ∧
        (s.get F.stall_SIZE_LOG2 q = 0 → k = 0 →
          now (fun t => t = { s with regs := t.regs, stalls := t.stalls } ∧ t.get F.stall_READER q = 0 ∧ t.get F.stall_WM q = wm ∧
            t.get F.stall_MODE q = mode ∧ t.get F.stall_SIZE_LOG2 q = 0)) ∧
        (∀ b, s.get F.stall_SIZE_LOG2 q ≠ 0 → k ≠ 0 → (s.get F.stall_SIZE_LOG2 q ≠ k ∨ s.get F.stall_MODE q ≠ mode) →
          (s.get F.stall_SIZE_LOG2 q = k → b = (s.stall q).base) →
          (s.get F.stall_SIZE_LOG2 q ≠ k → regionUsed s q + 2 ^ k ≤ 0x400000 ∧ place s q k = some b) →
          let pass : ResetRun := { cause := 2, mismatch := 0, newCfg := some (k, mode, b) };
          now (fun t => retuned t ∧ t.stall q = { s.stall q with head := [], b := (s.stall q).a, reset := some pass })) ∧
        (s.get F.stall_SIZE_LOG2 q ≠ 0 → k = 0 → s.waits = [] →
          now (fun t => t.get F.stall_SIZE_LOG2 q = 0 ∧ t.get F.stall_STATE q = 0 ∧ t.get F.stall_GRANTED q = 0 ∧
            t.stall q = {})))) ∧
    (r.body.length = 4 →
      let q := fld r.body 0 0 8
      (240 ≤ q → exec (.stallReset r) s = .next (refusedWith 0x0402 6 r s)) ∧
      (q < 240 → s.get F.stall_SIZE_LOG2 q = 0 → exec (.stallReset r) s = .next (refusedWith 0x0402 9 r s)) ∧
      (q < 240 → s.get F.stall_SIZE_LOG2 q ≠ 0 → (s.stall q).reset = none → exec (.stallReset r) s = .next
        { s.putStall q { s.stall q with b := (s.stall q).a, reset := some { cause := 1, mismatch := 0, newCfg := none } } with
          waits := s.waits ++ [{ entry := none, opcode := 0x0402, req := r, on := .stallReset q }] }) ∧
      (rangeCount r.body = 0 → exec (.stallStatusGet r) s = .next (answered 0x0403 false r s [])) ∧
      (8 < rangeCount r.body ∨ 256 < rangeFirst r.body + rangeCount r.body → rangeCount r.body ≠ 0 →
        exec (.stallStatusGet r) s = .next (refusedWith 0x0403 4 r s)) ∧
      (0 < rangeCount r.body → rangeCount r.body ≤ 8 → rangeFirst r.body + rangeCount r.body ≤ 256 →
        exec (.stallStatusGet r) s = .next (answered 0x0403 false r s
          ((List.range (rangeCount r.body)).flatMap (fun i => readWords s .stall (rangeFirst r.body + i) 0 15)))))

/-- With no yard word in error, PARSER_BYTE takes the next byte of a source: outside a sentence a byte that is no enabled
start character only adds 1 to STRAY, a start character opens a sentence with that byte and its time; inside one a
printable field byte is stored and counted, one past the 82nd marks it overlong and is not stored, LF sends it to its
close, a start character discards it under RESTART and opens a new one. A lane's byte comes from its holding register,
which is then empty; a bad parity marks the open sentence damaged. SENTENCE_CLOSE with nothing ended does nothing; a
runt is dropped under RUNT; a sound sentence takes the source's next number and SEQ_START, counts in ACCEPTED, or in
BAD_CHECK where its check fails, and waits for the classifier; a completion failure adds 1 to RERUN and keeps it for
another close. (R75, R124, R126, R127, R134, R135, R136, R137, R138, R139, R142, R145) -/
def Obligations.TheParserFramesCountsAndClosesSentences : Prop :=
  ∀ (s : State) (src : Nat), src < 65536 → s.part.hasSource src = true → s.shedUp 2 = true → s.shedUp 4 = true → s.yardErr = [] →
    let so := s.source src
    let others := fun (t : State) => ∀ k, k ≠ src → t.source k = s.source k
    (∀ i rest, so.input = i :: rest → i.last = false → i.dmxr = false → (96 ≤ src ∨ ringLevel s src < 2048) →
      let d := (i.spot.map s.yardByte).getD i.data
      let start := isStart (startCfg s src) d
      let takes := fun (y : Sentence → Prop) => ∃ t z, exec (.parserByte src) s = .next t ∧
        t = { s with regs := t.regs, srcs := t.srcs, rx := t.rx, yard := t.yard, groomPass := t.groomPass } ∧
        t.source src = { so with sent := some z, input := rest, idx := (t.source src).idx } ∧ y z ∧ others t ∧
        t.get F.parse_STRAY src = s.get F.parse_STRAY src
      let opened := fun (y : Sentence) => y.bytes = [d] ∧ y.count = 1 ∧ y.source = src ∧ y.malformed = false ∧
        y.long = (d == 0x25#8) ∧ y.tsSrc = i.tsSrc ∧ y.stamp = (if i.tsSrc = 2 then s.stamp else i.stamp) ∧
        y.tsState = (if i.tsSrc = 2 then s.tsState else i.tsState) ∧ y.cfg = s.reg (F.parse_NMEA_EN.addr src)
      (so.sent = none → start = false → ∃ t, exec (.parserByte src) s = .next t ∧ t = { s with regs := t.regs, srcs := t.srcs } ∧
        t.source src = { so with input := rest } ∧ others t ∧
        t.get F.parse_STRAY src = min (s.get F.parse_STRAY src + 1) 0xFFFFFFFF ∧ keepsRegsBut [(F.parse_STRAY, src)] s t) ∧
      (so.sent = none → start = true → takes opened) ∧
      (∀ x, so.sent = some x → x.source = src →
        (start = true → x.causes = [] → x.overlong = false → x.malformed = false → x.mbox = none →
          ∃ t z, exec (.parserByte src) s = .next t ∧ (t.source src).sent = some z ∧ opened z ∧ (t.source src).input = rest ∧
            t.get F.parse_RESTART src = min (s.get F.parse_RESTART src + 1) 0xFFFFFFFF) ∧
        (start = false → d = 0x0A#8 → ∃ t z, exec (.parserByte src) s = .next t ∧ (t.source src).sent = none ∧
          (t.source src).closing = so.closing ++ [z] ∧ z = { takeByte x 0x0A#8 with spots := z.spots } ∧ (t.source src).input = rest ∧ others t) ∧
        (start = false → x.stage = 1 → x.long = false → x.malformed = false → x.overlong = false → 0x20 ≤ d.toNat →
          d.toNat ≤ 0x7E → d ∉ [0x21#8, 0x24#8, 0x2A#8] →
          (x.count < 82 → takes (fun y => y = { x with count := x.count + 1, bytes := x.bytes ++ [d], spots := y.spots })) ∧
          (82 ≤ x.count → takes (fun y => y = { x with count := x.count + 1, overlong := true }))))) ∧
    (∀ n h, src < 96 → so.input = [] → roleLane s src = some n → (s.rxLane n).hold = some h → ringLevel s src < 2048 →
      h.framingBad = false →
      (so.sent = none → isStart (startCfg s src) h.data = false → h.parityBad = false → ∃ t, exec (.parserByte src) s = .next t ∧
        t = { s with regs := t.regs, rx := t.rx } ∧ t.rxLane n = { s.rxLane n with hold := none } ∧
        t.get F.parse_STRAY src = min (s.get F.parse_STRAY src + 1) 0xFFFFFFFF) ∧
      (∀ x, so.sent = some x → isStart (startCfg s src) h.data = false → h.data ≠ 0x0A#8 → ∃ t z,
        exec (.parserByte src) s = .next t ∧ (t.rxLane n).hold = none ∧ (t.source src).sent = some z ∧
        z.causes = (if h.parityBad then x.causes ++ [4] else x.causes) ∧ z.count = x.count + 1)) ∧
    (so.input = [] → 96 ≤ src → exec (.parserByte src) s = .next s) ∧
    (∀ f, so.closing = [] → exec (.sentenceClose src f) s = .next s) ∧
    (∀ x rest, so.closing = x :: rest → x.source = src → src ≠ 0x2000 → x.mbox = none →
      (x.causes = [] → x.overlong = false → x.malformed = false → x.runt = true → ∀ f, ∃ t, exec (.sentenceClose src f) s = .next t ∧
        t = { s with regs := t.regs, srcs := t.srcs } ∧ t.source src = { so with closing := rest } ∧ others t ∧
        t.get F.parse_RUNT src = min (s.get F.parse_RUNT src + 1) 0xFFFFFFFF) ∧
      ((x.spots.length = x.bytes.length → x.spots.map s.yardByte = x.bytes) → refused x = false → x.numbered = false → x.offered = false → journals s = false → s.get F.time_REF 0 ≠ 2 →
        let z := { x with numbered := true, no := so.closes, seqn := s.get F.parse_NEXT src, seqStart := so.seqStart, bad := isBad x, nock := isNock x }
        (∃ t, exec (.sentenceClose src .none) s = .next t ∧ t = { s with regs := t.regs, srcs := t.srcs } ∧
          t.source src = { so with
            closing := rest, seqStart := false, closes := so.closes + 1, closed := so.closed ++ [{ z with offered := true }] } ∧ others t ∧
          t.get F.parse_NEXT src = (s.get F.parse_NEXT src + 1) % 2 ^ 32 ∧
          (isBad x = false → t.get F.parse_ACCEPTED src = min (s.get F.parse_ACCEPTED src + 1) 0xFFFFFFFF ∧
            keepsRegsBut [(F.parse_NEXT, src), (F.parse_ACCEPTED, src)] s t) ∧
          (isBad x = true → t.get F.parse_BAD_CHECK src = min (s.get F.parse_BAD_CHECK src + 1) 0xFFFFFFFF ∧
            keepsRegsBut [(F.parse_NEXT, src), (F.parse_BAD_CHECK, src)] s t)) ∧
        (x.reruns < 3 → ∃ t, exec (.sentenceClose src .check) s = .next t ∧ t = { s with regs := t.regs, srcs := t.srcs } ∧
          t.source src = { so with closing := { z with reruns := x.reruns + 1 } :: rest, seqStart := false, closes := so.closes + 1 } ∧
          t.get F.parse_RERUN src = min (s.get F.parse_RERUN src + 1) 65535)))

/-- CLASSIFY with nothing waiting does nothing. Else the chosen source's first sentence leaves its list and CLASSIFIED
adds 1; with no matching entry in the copy in force MISS adds 1 and is latched and no copy is queued; a match counts a
hit of its entry; one that does not forward adds 1 to DROPPED; an empty group to EMPTY_GROUP, latched; else,
undecimated and unlimited, the sentence is queued with the stalls of its group. ENQUEUE_COPY writes the next copy of
the queue's first sentence: a stall with room holds one more record and COPIES adds 1, a resetting one gives
COPY_ABANDONED; the sentence stays with the stalls left, or leaves. ROUTER_SWAP of a commit asked for: ACTIVE is the
other copy, COPYBACK 1, SWAPS adds 1, SWAP_DONE is latched. ROUTER_COPYBACK_DONE: COPYBACK 0, the copy in force stands
and the other equals it. (R155, R157, R158, R159, R162, R163, R165, R166, R167, R176, R177, R188) -/
def Obligations.ClassificationAppliesTheFirstMatchingEntry : Prop :=
  ∀ s : State, s.shedUp 2 = true → s.shedUp 4 = true →
    (∀ f, chooseSource s = none → exec (.classify f) s = .next s) ∧
    (∀ src x rest, chooseSource s = some src → (s.source src).closed = x :: rest → x.source = src → x.cap = none →
      x.mbox = none → s.eligible = [] →
      let c := lookup s s.rtActive x
      let done := fun (y : State → Prop) => ∃ t, exec (.classify .none) s = .next t ∧ (t.source src).closed = rest ∧
        t.get F.router_CLASSIFIED 0 = min (s.get F.router_CLASSIFIED 0 + 1) 0xFFFFFFFF ∧ t.voterQ = s.voterQ ∧
        t.stalls = s.stalls ∧ (∀ k, k ≠ src → t.source k = s.source k) ∧ y t
      let hit := fun (t : State) => ∀ n, tget t.hits n 0 = if n = c.verdict.entry then min (tget s.hits n 0 + 1) 0xFFFFFFFF else tget s.hits n 0
      (c.verdict.miss = true → done (fun t => t.hits = s.hits ∧ t.routerQ = s.routerQ ∧
        t.get F.router_MISS 0 = min (s.get F.router_MISS 0 + 1) 0xFFFFFFFF ∧ (t.get F.router_FLAGS 0).testBit 0 = true)) ∧
      (c.verdict.miss = false → c.verdict.forward = false → c.verdict.hookKind = 0 → done (fun t => hit t ∧ t.routerQ = s.routerQ ∧
        t.get F.router_DROPPED 0 = min (s.get F.router_DROPPED 0 + 1) 0xFFFFFFFF)) ∧
      (c.verdict.miss = false → c.verdict.forward = true → c.verdict.cls ≠ 0 → x.bad = false → c.verdict.hookKind = 0 →
        wfld c.action 0 16 16 < 2 → wfld c.action 1 0 20 = 0 →
        (c.stalls = [] → done (fun t => hit t ∧ t.routerQ = s.routerQ ∧ (t.get F.router_FLAGS 0).testBit 3 = true ∧
          t.get F.router_EMPTY_GROUP 0 = min (s.get F.router_EMPTY_GROUP 0 + 1) 0xFFFFFFFF)) ∧
        (c.stalls ≠ [] → done (fun t => hit t ∧ t.routerQ = s.routerQ ++
          [{ sent := { x with cap := some c }, verdict := c.verdict, stalls := c.stalls }])))) ∧
    (∀ e q rest, s.yardErr = [] → (e.sent.spots.length = e.sent.bytes.length → e.sent.spots.map s.yardByte = e.sent.bytes) →
      s.voterQ = [] → s.routerQ = [e] → e.rerun = false → e.stalls = q :: rest → e.sent.mbox = none →
      let src := e.sent.source
      let n := recordSize e.sent.bytes.length
      let left : List Enqueue := if rest = [] then [] else [{ e with stalls := rest }]
      ((s.stall q).reset ≠ none → ∃ t, exec (.enqueueCopy src .none) s = .next t ∧ t.routerQ = left ∧ t.stalls = s.stalls ∧
        t.get F.router_COPY_ABANDONED 0 = min (s.get F.router_COPY_ABANDONED 0 + 1) 0xFFFFFFFF ∧
        (t.get F.router_FLAGS 0).testBit 4 = true) ∧
      ((s.stall q).reset = none → mismatchOf (s.stall q) = 0 → s.get F.stall_SIZE_LOG2 q ≠ 0 → s.on F.stall_MODE q = false → n ≤ stallFree s q →
        n ≤ stallSize s q → ∃ t, exec (.enqueueCopy src .none) s = .next t ∧ t.routerQ = left ∧
          (t.stall q).lens = (s.stall q).lens ++ [n] ∧ (∀ k, k ≠ q → t.stall k = s.stall k) ∧
          (t.stall q).a = { (s.stall q).a with wr := ((s.stall q).a.wr + n) % (2 * stallSize s q) } ∧
          t.get F.router_COPIES 0 = min (s.get F.router_COPIES 0 + 1) 0xFFFFFFFF)) ∧
    (swapDue s = false → exec .routerSwap s = .next s) ∧
    (s.commitAsked = true → s.on F.router_COPYBACK 0 = false → s.waits = [] → s.modeWait = none →
      ∃ t, exec .routerSwap s = .next t ∧ t.get F.router_ACTIVE 0 = 1 - s.get F.router_ACTIVE 0 ∧
        t.on F.router_COPYBACK 0 = true ∧ t.get F.router_SWAPS 0 = min (s.get F.router_SWAPS 0 + 1) 0xFFFFFFFF ∧
        (t.get F.router_FLAGS 0).testBit 6 = true ∧ t = { s with regs := t.regs, fired := t.fired, acts := t.acts, drawn := t.drawn,
                                                                 commitAsked := false, sweepDue := false, routerStaged := false } ∧
        (∀ n, n < 4096 → s.action 0 n = s.action 1 n → tget t.acts n {} = tget s.acts n {}) ∧
        keepsRegsOutside (fun q => q.blk == .router || q.blk == .yard) s t) ∧
    (s.on F.router_COPYBACK 0 = true → s.running = true → s.waits = [] →
      ∃ t, exec .routerCopybackDone s = .next t ∧ t.on F.router_COPYBACK 0 = false ∧ t.rtActive = s.rtActive ∧
        t = { s with regs := t.regs, entries := t.entries, actions := t.actions, groups := t.groups } ∧
        keepsRegsBut [(F.router_COPYBACK, 0)] s t ∧
        (∀ n, n < 4096 → t.entry t.rtActive n = s.entry s.rtActive n ∧ t.action t.rtActive n = s.action s.rtActive n ∧
          (tblWf entry0 s.entries = true → t.entry t.rtInactive n = s.entry s.rtActive n) ∧
          (tblWf action0 s.actions = true → t.action t.rtInactive n = s.action s.rtActive n)) ∧
        (∀ n, n < 1024 → t.group t.rtActive n = s.group s.rtActive n ∧
          (tblWf group0 s.groups = true → t.group t.rtInactive n = s.group s.rtActive n)))

/-- VOTE on the first waiting sentence that the primary forwarded in class 0, with three judges in, no hook and no
override type: three equal words add 1 to VOTED and queue it for its stalls with all three agreeing; one differing
word still does, with two agreeing, adds 1 to DISSENTS, latches DISSENT and raises that judge's score by 1, holding at
15; three different words add 1 to NO_MAJORITY, latch it and queue nothing. With no sentence waiting nothing happens.
JUDGE_IN_COMPLETE with a return pending and nothing left from before it: the judge votes again, OUT_JUDGE is none,
DEGRADED and PENDING_IN 0, its score 0, DEGRADED_CLEAR latched; with something left nothing happens. OVERRIDE_APPLY
takes the lane's next word: on a pixel lane OVR is its override, but a latched EGRESS_FULL holds against BLACKOUT and
HOLD; on a lane in another mode the word is dropped. (R189, R192, R193, R195, R197, R200, R201, R203, R206, R208,
R209, R363) -/
def Obligations.VotesNeedAMajorityOfTheJudges : Prop :=
  ∀ s : State, s.shedUp 2 = true → s.shedUp 3 = true → s.shedUp 4 = true →
    (∀ u, s.ballots = [] → exec (.vote u) s = .next s) ∧
    (∀ b rest c, s.ballots = b :: rest → b.dropped = false → b.sent.cap = some c → b.sent.bad = false → b.sent.mbox = none →
      c.verdict.miss = false → c.verdict.forward = true → c.verdict.cls = 0 → c.verdict.hookKind = 0 → c.verdict.entry < 4096 →
      c.verdict.group < 1024 → c.verdict.hookTarget < 1024 → overrideOf s b.sent = none → c.stalls ≠ [] →
      s.get F.vote_IN 0 = 7 → s.get F.vote_SUSPECT_N 0 = 0 →
      let base := voteWord b.sent c.verdict
      let queued := fun (agree : Nat) => s.voterQ ++ [{ sent := b.sent, verdict := c.verdict, agree := agree, stalls := c.stalls }]
      (∃ t, exec (.vote []) s = .next t ∧ t.ballots = rest ∧ t.voterQ = queued 7 ∧ t.routerQ = s.routerQ ∧ t.stalls = s.stalls ∧
        t.get F.vote_VOTED 0 = min (s.get F.vote_VOTED 0 + 1) 0xFFFFFFFF ∧
        t.get F.vote_DISSENTS 0 = s.get F.vote_DISSENTS 0 ∧ t.get F.vote_FLAGS 0 = s.get F.vote_FLAGS 0) ∧
      (∀ j w, j < 3 → trimWord w ≠ base → ∃ t, exec (.vote [(j, w)]) s = .next t ∧ t.ballots = rest ∧
        t.voterQ = queued (7 - 2 ^ j) ∧ t.get F.vote_VOTED 0 = min (s.get F.vote_VOTED 0 + 1) 0xFFFFFFFF ∧
        t.get F.vote_DISSENTS 0 = min (s.get F.vote_DISSENTS 0 + 1) 0xFFFFFFFF ∧ (t.get F.vote_FLAGS 0).testBit 0 = true ∧
        t.get (scoreField j) 0 = min 15 (s.get (scoreField j) 0 + 1)) ∧
      (∀ v w, trimWord v ≠ base → trimWord w ≠ base → trimWord v ≠ trimWord w → ∃ t, exec (.vote [(0, v), (1, w)]) s = .next t ∧
        t.ballots = rest ∧ t.voterQ = s.voterQ ∧ t.get F.vote_VOTED 0 = s.get F.vote_VOTED 0 ∧
        t.get F.vote_NO_MAJORITY 0 = min (s.get F.vote_NO_MAJORITY 0 + 1) 0xFFFFFFFF ∧
        (t.get F.vote_FLAGS 0).testBit 2 = true)) ∧
    (s.on F.vote_PENDING_IN 0 = true → preRemains s = true → exec .judgeInComplete s = .next s) ∧
    (s.on F.vote_PENDING_IN 0 = true → preRemains s = false → s.get F.vote_OUT_JUDGE 0 < 3 →
      (s.on F.vote_AUTO_OUT 0 = false ∨ ∀ k, k < 3 → k ≠ s.get F.vote_OUT_JUDGE 0 → (s.get F.vote_SUSPECT 0).testBit k = false) →
      let j := s.get F.vote_OUT_JUDGE 0
      ∃ t, exec .judgeInComplete s = .next t ∧ t.get F.vote_IN 0 = s.get F.vote_IN 0 ||| 2 ^ j ∧ t.get F.vote_OUT_JUDGE 0 = 3 ∧
        t.on F.vote_DEGRADED 0 = false ∧ t.on F.vote_PENDING_IN 0 = false ∧ t.get (scoreField j) 0 = 0 ∧
        (t.get F.vote_SUSPECT 0).testBit j = false ∧ (t.get F.vote_FLAGS 0).testBit 5 = true) ∧
    (∀ n w rest, n < 96 → s.part.hasPixel = true → s.shedUp 5 = true → (s.encLane n).ovrQ = w :: rest →
      (pixelMode (encMode s n) = false → ∃ t, exec (.overrideApply n false) s = .next t ∧ t = { s with enc := t.enc } ∧
        t.encLane n = { s.encLane n with ovrQ := rest }) ∧
      (pixelMode (encMode s n) = true →
        let held := s.get F.enc_OVR n = 1 ∧ (w = 2 ∨ w = 3) ∧ s.on F.vote_EGRESS_LATCH 0 = true
        ∃ t, exec (.overrideApply n false) s = .next t ∧ t = { s with regs := t.regs, enc := t.enc, drawn := t.drawn } ∧
          (held → t.get F.enc_OVR n = 1) ∧ (¬ held → t.get F.enc_OVR n = w % 4) ∧ (t.encLane n).ovrQ = rest ∧
          (∀ k, k ≠ n → t.encLane k = s.encLane k) ∧ keepsRegsBut [(F.enc_OVR, n)] s t ∧
          (encMode s n = 8 → w % 4 = 2 → t.get F.enc_OVR n = 2 → (t.encLane n).h = 0 ∧ (t.encLane n).active = false)))

/-- ROUTER_ENTRY_WRITE, ROUTER_ACTION_WRITE and ROUTER_GROUP_WRITE: an action with an absent hook is NOT_FITTED; more
records than one message holds, or a LENGTH that is not theirs, BAD_LENGTH; COUNT 0 answers OK and changes nothing;
objects past the table's end are BAD_ARG; a bad action, or a group with a reserved or CREDIT stall, BAD_ARG; with
COPYBACK 1, or behind a commit asked for, a sound write waits; else the inactive copy holds each record (an entry's
value masked, reserved bits 0), every other object of both copies as before. ROUTER_COMMIT asks for the swap and waits
for it, or waits likewise. ROUTER_READ answers the named records of either copy, ROUTER_STATUS_GET the state, flags
and thirteen counters, ROUTER_HITS_GET each named entry's hits. (R157, R158, R160, R161, R165, R176, R177, R188, R226,
R489, R490, R499) -/
def Obligations.RouterTableCommandsWriteTheInactiveCopy : Prop :=
  ∀ (r : Req) (s : State), takes s r = true →
    let first := rangeFirst r.body
    let count := rangeCount r.body
    let held := fun (op : Nat) => ({ s with waits := s.waits ++ [{ entry := none, opcode := op, req := r, on := .held }] } : State)
    let write := fun (out : Host.Outcome State Fault Refusal) (op size most total : Nat) (bad : Option Nat) (good : State → Prop) =>
      (bad = some 7 → out = .next (refusedWith op 7 r s)) ∧
      (bad ≠ some 7 → (most < count ∨ r.body.length ≠ 4 + 4 * size * count) → out = .next (refusedWith op 3 r s)) ∧
      (bad ≠ some 7 → count ≤ most → r.body.length = 4 + 4 * size * count →
        (count = 0 → out = .next (answered op false r s [])) ∧
        (0 < count → total < first + count → out = .next (refusedWith op 4 r s)) ∧
        (0 < count → first + count ≤ total →
          (∀ st, bad = some st → out = .next (refusedWith op st r s)) ∧
          (bad = none → tablesHeld s = true → out = .next (held op)) ∧
          (bad = none → tablesHeld s = false → ∃ t, out = .next (answered op true r t []) ∧ good t)))
    let outside := fun (n : Nat) => n < first ∨ first + count ≤ n
    let acts := (List.range count).map (fun i => bodyWords r (4 + 16 * i) 4)
    let grps := (List.range count).map (fun i => bodyWords r (4 + 32 * i) 8)
    (tablesHeld s = true ↔ s.on F.router_COPYBACK 0 = true ∨ s.commitAsked = true) ∧
    write (exec (.routerEntryWrite r) s) 0x0302 14 8 4096 none (fun t =>
      t = { s with entries := t.entries, routerStaged := true } ∧
      (∀ i, i < count → t.entry s.rtInactive (first + i) = entryClean (bodyWords r (4 + 56 * i) 14)) ∧
      (∀ n, n < 4096 → t.entry s.rtActive n = s.entry s.rtActive n ∧
        (outside n → t.entry s.rtInactive n = s.entry s.rtInactive n))) ∧
    write (exec (.routerActionWrite r) s) 0x0303 4 30 4096
      (if acts.any (hookAbsent s) then some 7 else if acts.any actionBad then some 4 else none) (fun t =>
      t = { s with actions := t.actions, routerStaged := true } ∧
      (∀ i, i < count → t.action s.rtInactive (first + i) = actionClean (bodyWords r (4 + 16 * i) 4)) ∧
      (∀ n, n < 4096 → t.action s.rtActive n = s.action s.rtActive n ∧
        (outside n → t.action s.rtInactive n = s.action s.rtInactive n))) ∧
    write (exec (.routerGroupWrite r) s) 0x0304 8 15 1024 (if grps.any (groupBad s) then some 4 else none) (fun t =>
      t = { s with groups := t.groups, routerStaged := true } ∧
      (∀ i, i < count → t.group s.rtInactive (first + i) = groupClean (bodyWords r (4 + 32 * i) 8)) ∧
      (∀ n, n < 1024 → t.group s.rtActive n = s.group s.rtActive n ∧
        (outside n → t.group s.rtInactive n = s.group s.rtInactive n))) ∧
    (r.body.length = 0 →
      (tablesHeld s = true → exec (.routerCommit r) s = .next (held 0x0305)) ∧
      (tablesHeld s = false → exec (.routerCommit r) s = .next { s with
        commitAsked := true, waits := s.waits ++ [{ entry := none, opcode := 0x0305, req := r, on := .routerSwap }] }) ∧
      exec (.routerStatusGet r) s = .next (answered 0x0309 false r s (readWords s .router 0 4 2 ++ readWords s .router 0 0x10 13))) ∧
    (r.body.length = 8 →
      let b := r.body.drop 4
      let copy := if flag r.body 0 2 then s.rtInactive else s.rtActive
      let ids := (List.range (rangeCount b)).map (fun i => rangeFirst b + i)
      (fld r.body 0 0 2 = 0 → 0 < rangeCount b → rangeCount b ≤ 8 → rangeFirst b + rangeCount b ≤ 4096 → exec (.routerRead r) s =
        .next (answered 0x0308 false r s (ids.flatMap (fun n => recordBytes (s.entry copy n) 14)))) ∧
      (fld r.body 0 0 2 = 1 → 0 < rangeCount b → rangeCount b ≤ 30 → rangeFirst b + rangeCount b ≤ 4096 → exec (.routerRead r) s =
        .next (answered 0x0308 false r s (ids.flatMap (fun n => recordBytes (s.action copy n) 4)))) ∧
      (fld r.body 0 0 2 = 2 → 0 < rangeCount b → rangeCount b ≤ 15 → rangeFirst b + rangeCount b ≤ 1024 → exec (.routerRead r) s =
        .next (answered 0x0308 false r s (ids.flatMap (fun n => recordBytes (s.group copy n) 8)))) ∧
      (fld r.body 0 0 2 = 3 → 0 < rangeCount b → rangeCount b ≤ 61 → rangeFirst b + rangeCount b ≤ s.part.lanes →
        exec (.routerRead r) s = .next (answered 0x0308 false r s (ids.flatMap (fun n => recordBytes (s.binding n) 2))))) ∧
    (r.body.length = 4 →
      (0 < count → first + count ≤ 4096 → 123 < count → exec (.routerHitsGet r) s = .next (refusedWith 0x030A 4 r s)) ∧
      (0 < count → first + count ≤ 4096 → count ≤ 123 → exec (.routerHitsGet r) s = .next (answered 0x030A false r s
        ((List.range count).flatMap (fun i => le 4 (tget s.hits (first + i) 0))))))

/-- ROUTER_ELIGIBLE_SET replaces, joins or removes the named sources and answers the set's size; more than 48 is NO_SPACE,
OP 3 or a source no variant has BAD_ARG. ROUTER_BIND of a fitted listener to distinct stalls below Q240 that no other
listener has and no other reader reads: the binding is as written, each stall has READER 3 and runs.
ROUTER_SENTENCE_SEND outside 8 to 496 bytes is BAD_LENGTH; a sound sentence with its turn come opens in the parser as
the host's source, byte by byte, and its command waits. PARSE_SET takes its settings for each source named, with
CNT_CLR and SEQ_CLR 0 nothing more; PARSE_STATUS_GET answers fifteen words. VOTE_JUDGE_OUT: judge 3 is BAD_ARG, a
judge out already STATE; else it leaves, DEGRADED_SET is latched. VOTE_JUDGE_IN with nothing open returns it.
VOTE_CFG_SET takes its fields and four types, a bad type is BAD_ARG. VOTE_STATUS_GET answers its words. (R153, R156,
R169, R196, R197, R206, R207, R230, R489, R499, R500, R501) -/
def Obligations.SourcesListenersAndJudgesAreSet : Prop :=
  ∀ (r : Req) (s : State), takes s r = true →
    let count := rangeCount r.body
    (let ids := (List.range count).map (fun i => u16 r.body (4 + 2 * i))
      let op := fld r.body 0 0 2
      ((∀ n ∈ ids, s.part.hasSource n = true) → (48 < count ∨ r.body.length ≠ 4 + (2 * count + 3) / 4 * 4) → exec (.routerEligibleSet r) s = .next (refusedWith 0x0306 3 r s)) ∧
      (count ≤ 48 → r.body.length = 4 + (2 * count + 3) / 4 * 4 → (∀ n ∈ ids, s.part.hasSource n = true) →
        (op = 3 → exec (.routerEligibleSet r) s = .next (refusedWith 0x0306 4 r s)) ∧
        (op ≠ 3 → 48 < (newEligible s op ids).length → exec (.routerEligibleSet r) s = .next (refusedWith 0x0306 5 r s)) ∧
        (op ≠ 3 → (newEligible s op ids).length ≤ 48 → s.shedUp 3 = true → ∃ t,
          exec (.routerEligibleSet r) s = .next (answered 0x0306 true r t (le 4 t.eligible.length)) ∧
          t = { s with eligible := t.eligible } ∧ ∀ n, n ∈ t.eligible ↔
            (if op = 0 then n ∈ ids else if op = 1 then n ∈ s.eligible ∨ n ∈ ids else n ∈ s.eligible ∧ n ∉ ids)))) ∧
    (r.body.length = 12 →
      let l := fld r.body 0 0 7
      let w0 := u32 r.body 4
      let w1 := u32 r.body 8
      let qs := (List.range 4).filterMap (fun c => if w1.testBit c then some (bits w0 (8 * c) 8) else none)
      (98 ≤ l → exec (.routerBind r) s = .next (refusedWith 0x0307 4 r s)) ∧
      ((s.part.lanes ≤ l ∧ l < 96) ∨ (96 + s.part.ports ≤ l ∧ l < 98) → exec (.routerBind r) s = .next (refusedWith 0x0307 7 r s)) ∧
      ((l < s.part.lanes ∨ (96 ≤ l ∧ l < 96 + s.part.ports)) →
        ((∃ q ∈ qs, 240 ≤ q) → exec (.routerBind r) s = .next (refusedWith 0x0307 4 r s)) ∧
        ((∀ q ∈ qs, q < 240 ∧ boundElsewhere s l q = false ∧ s.get F.stall_READER q ∉ [1, 2, 4]) → qs.Nodup →
          ∃ t, exec (.routerBind r) s = .next (answered 0x0307 true r t []) ∧
            t = { s with regs := t.regs, bindings := t.bindings, unbound := t.unbound, stalls := t.stalls } ∧
            (∀ k, t.stall k = { s.stall k with head := (t.stall k).head }) ∧ (∀ k, k ∉ qs → t.stall k = s.stall k) ∧
            (t.binding l).getD 0 0 = BitVec.ofNat 32 w0 ∧ (boundStalls (t.binding l)).map (·.1) = qs ∧
            (∀ k, k ≠ l → t.binding k = s.binding k) ∧
            (∀ q ∈ qs, t.get F.stall_READER q = 3 ∧ (stallOn s q = true → t.get F.stall_STATE q = 2)) ∧
            keepsRegsBut (qs.flatMap (fun q => [(F.stall_READER, q), (F.stall_STATE, q)])) s t))) ∧
    ((r.body.length < 8 ∨ 496 < r.body.length) → s.waits = [] →
      exec (.routerSentenceSend r) s = .next (refusedWith 0x0301 3 r s)) ∧
    (8 ≤ r.body.length → r.body.length ≤ 496 → s.waits = [] → s.cmds = [] → s.shedUp 2 = true → (s.source 0x2000).sent = none →
      (s.source 0x2000).input = [] → hostSentenceOk (s.reg (F.parse_NMEA_EN.addr 0x2000)) r.body = true →
      ∃ t z, exec (.routerSentenceSend r) s = .next t ∧ (t.source 0x2000).sent = some z ∧ z.bytes = [byteAt r.body 0] ∧
        z.source = 0x2000 ∧ z.tsSrc = 2 ∧ z.stamp = s.stamp ∧ (t.source 0x2000).input.map (·.data) = r.body.drop 1 ∧
        t.waits = [{ entry := none, opcode := 0x0301, req := r, on := .sentence true }] ∧
        t = { s with srcs := t.srcs, waits := t.waits }) ∧
    (r.body.length = 8 →
      let ids := (List.range count).map (fun i => rangeFirst r.body + i)
      (count = 0 → exec (.parseSet r) s = .next (answered 0x030C false r s [])) ∧
      (0 < count → (∀ n ∈ ids, s.part.hasSource n = true ∧ n / 4096 = rangeFirst r.body / 4096) → flag r.body 4 4 = false →
        flag r.body 4 5 = false → ∃ t, exec (.parseSet r) s = .next (answered 0x030C true r t []) ∧ t = { s with regs := t.regs } ∧
          (∀ n ∈ ids, t.get F.parse_NMEA_EN n = fld r.body 4 0 1 ∧ t.get F.parse_LONG_EN n = fld r.body 4 1 1 ∧
            t.get F.parse_CK_OPTIONAL n = fld r.body 4 2 1 ∧ t.get F.parse_HEX_LOWER n = fld r.body 4 3 1) ∧
          keepsRegsOutside (fun q => q.blk == .parse && q.off == 0 && ids.contains q.inst) s t)) ∧
    (r.body.length = 4 → s.part.hasSource (fld r.body 0 0 16) = true → exec (.parseStatusGet r) s =
      .next (answered 0x030D false r s (readWords s .parse (fld r.body 0 0 16) 0 15))) ∧
    (r.body.length = 4 →
      let j := fld r.body 0 0 2
      (j = 3 → exec (.voteJudgeOut r) s = .next (refusedWith 0x0310 4 r s) ∧ exec (.voteJudgeIn r) s = .next (refusedWith 0x0311 4 r s)) ∧
      (j ≠ 3 → (s.get F.vote_OUT_JUDGE 0 ≠ 3 ∨ s.shedUp 3 = false) → exec (.voteJudgeOut r) s = .next (refusedWith 0x0310 9 r s)) ∧
      (j ≠ 3 → s.get F.vote_OUT_JUDGE 0 = 3 → s.shedUp 3 = true → ∃ t, exec (.voteJudgeOut r) s = .next (answered 0x0310 false r t []) ∧
        t.get F.vote_OUT_JUDGE 0 = j ∧ t.on F.vote_DEGRADED 0 = true ∧ (t.get F.vote_IN 0).testBit j = false ∧
        (∀ k, k < 3 → k ≠ j → (t.get F.vote_IN 0).testBit k = (s.get F.vote_IN 0).testBit k) ∧
        (t.get F.vote_FLAGS 0).testBit 4 = true) ∧
      (j ≠ 3 → s.shedUp 3 = true → s.get F.vote_OUT_JUDGE 0 = j → s.on F.vote_PENDING_IN 0 = false → s.ballots = [] → s.srcs = [] →
        s.on F.vote_AUTO_OUT 0 = false →
        ∃ t, exec (.voteJudgeIn r) s = .next (answered 0x0311 false r t []) ∧ (t.get F.vote_IN 0).testBit j = true ∧
          t.get F.vote_OUT_JUDGE 0 = 3 ∧ t.on F.vote_PENDING_IN 0 = false ∧ t.get (scoreField j) 0 = 0) ∧
      (j ≠ 3 → s.get F.vote_OUT_JUDGE 0 ≠ j → exec (.voteJudgeIn r) s = .next (refusedWith 0x0311 9 r s))) ∧
    (r.body.length = 36 →
      let types := (List.range 4).map (fun k => (r.body.drop (4 + 8 * k)).take 8)
      (types.all typeOk = false → exec (.voteCfgSet r) s = .next (refusedWith 0x0312 4 r s)) ∧
      (types.all typeOk = true → types.Nodup → (flag r.body 0 4 = false ∨ s.get F.vote_SUSPECT 0 = 0) → ∃ t, exec (.voteCfgSet r) s = .next (answered 0x0312 true r t []) ∧
        t = { s with regs := t.regs } ∧ t.get F.vote_SUSPECT_N 0 = fld r.body 0 0 4 ∧ t.get F.vote_AUTO_OUT 0 = fld r.body 0 4 1 ∧
        t.get F.vote_EGRESS_LATCH 0 = fld r.body 0 5 1 ∧ t.get F.vote_OVR_EN 0 = fld r.body 0 6 4 ∧
        (∀ k, k < 8 → (t.reg ⟨.vote, 0, 0x40 + 4 * k⟩).toNat = u32 r.body (4 + 4 * k)) ∧
        keepsRegsOutside (fun q => q.blk == .vote && (q.off == 0 || decide (0x40 ≤ q.off))) s t)) ∧
    (r.body.length = 0 → exec (.voteStatusGet r) s = .next (answered 0x0313 false r s
      (readWords s .vote 0 4 1 ++ readWords s .vote 0 0x30 1 ++ readWords s .vote 0 8 1 ++ readWords s .vote 0 0x10 8)))

/-- PIXEL_SEGMENT_WRITE, PIXEL_PROFILE_WRITE, PIXEL_ZONE_WRITE and PIXEL_SOURCE_WRITE: an absent role or lane is
NOT_FITTED; too many records or a wrong LENGTH BAD_LENGTH; COUNT 0 changes nothing; objects past the end, and records
with a field outside its range, BAD_ARG; a parked role STATE; with COPYBACK 1 a sound write waits; else exactly the
bytes of the records, reserved bits 0, stand at their places of the inactive copy and every other yard byte below the
groom's save words is as before, unless a role's lamps come to more than 8,192 or source records clash: then BAD_ARG
and nothing changes. PIXEL_CURVE_WRITE: a curve that a profile in force names is STATE, entries past 4,096 BAD_ARG;
else it answers OK and, with no yard word in error, the yard holds the entries and with S5 up the curve reads them.
(R323, R324, R327, R328, R331, R333, R338, R341, R342, R343, R489, R506) -/
def Obligations.PixelTableWritesChangeTheInactiveCopy : Prop :=
  ∀ (r : Req) (s : State), takes s r = true → s.part.hasPixel = true →
    let first := rangeFirst r.body
    let count := rangeCount r.body
    let held := fun (op : Nat) => ({ s with waits := s.waits ++ [{ entry := none, opcode := op, req := r, on := .held }] } : State)
    let stored := fun (t : State) (base : Nat) (bs : List Byte) =>
      ∀ x, x < 0x1FFFC00 → t.yardCell x = if base ≤ x ∧ x < base + bs.length then bs.getD (x - base) 0 else s.yardCell x
    let recs := fun (words n : Nat) (clean : List Word → List Word) => (List.range n).map (fun i => clean (bodyWords r (4 + 4 * words * i) words))
    let bytes := fun (l : List (List Word)) => l.flatMap wordsBytes
    let write := fun (out : Host.Outcome State Fault Refusal) (op words most total base : Nat) (clean : List Word → List Word)
        (bad : Option Nat) (late : State → Bool) =>
      (bad = some 7 → out = .next (refusedWith op 7 r s)) ∧
      (bad ≠ some 7 → (most < count ∨ r.body.length ≠ 4 + 4 * words * count) → out = .next (refusedWith op 3 r s)) ∧
      (count = 0 → r.body.length = 4 → out = .next (answered op false r s [])) ∧
      (bad ≠ some 7 → count ≤ most → r.body.length = 4 + 4 * words * count → 0 < count →
        (total < first + count → out = .next (refusedWith op 4 r s)) ∧
        (first + count ≤ total →
          (∀ st, bad = some st → out = .next (refusedWith op st r s)) ∧
          (bad = none → s.on F.pixel_COPYBACK 0 = true → out = .next (held op)) ∧
          (bad = none → s.on F.pixel_COPYBACK 0 = false → ∃ t,
            t = { s with yard := t.yard, yardErr := t.yardErr, poison := t.poison, groomPass := t.groomPass } ∧
            stored t base (bytes (recs words count clean)) ∧ (late t = true → out = .next (refusedWith op 4 r s)) ∧
            (late t = false → out = .next (answered op true r t [])))))
    let inactive := 0x1AA8000 + s.pixInactive * 0x2C000
    let zs := recs 8 count zoneClean
    let ss := recs 2 count sourceClean
    write (exec (.pixelProfileWrite r) s) 0x0602 32 3 256 (inactive + 0x18000 + 128 * first) profClean
      (if (recs 32 count profClean).any profBad then some 4 else none) (fun _ => false) ∧
    write (exec (.pixelZoneWrite r) s) 0x0603 8 15 1024 (inactive + 0x20000 + 32 * first) zoneClean
      (if zs.any (zoneAbsent s) then some 7 else if zs.any zoneBad then some 4 else none) (fun _ => false) ∧
    write (exec (.pixelSourceWrite r) s) 0x0604 2 61 2048 (inactive + 0x28000 + 8 * first) sourceClean
      (if ss.any (sourceAbsent s) then some 7 else if ss.any sourceBad then some 4 else none) sourcesClash ∧
    (let role := fld r.body 0 0 7
      let at0 := fld r.body 0 8 6
      let n := fld r.body 0 16 6
      let gs := recs 4 n segClean
      let bad : Option Nat := if s.part.lanes ≤ role ∧ role < 96 then some 7 else if 96 ≤ role ∨ 64 < at0 + n then some 4
        else if gs.any segBad then some 4 else if roleParked s role then some 9 else none
      (bad = some 7 → exec (.pixelSegmentWrite r) s = .next (refusedWith 0x0601 7 r s)) ∧
      (bad ≠ some 7 → (30 < n ∨ r.body.length ≠ 4 + 16 * n) → exec (.pixelSegmentWrite r) s = .next (refusedWith 0x0601 3 r s)) ∧
      (n ≤ 30 → r.body.length = 4 + 16 * n →
        (∀ st, bad = some st → exec (.pixelSegmentWrite r) s = .next (refusedWith 0x0601 st r s)) ∧
        (bad = none → s.on F.pixel_COPYBACK 0 = true → exec (.pixelSegmentWrite r) s = .next (held 0x0601)) ∧
        (bad = none → s.on F.pixel_COPYBACK 0 = false → ∃ t,
          t = { s with yard := t.yard, yardErr := t.yardErr, poison := t.poison, groomPass := t.groomPass } ∧
          stored t (inactive + (64 * role + at0) * 16) (bytes gs) ∧
          (8192 < segSum t role → exec (.pixelSegmentWrite r) s = .next (refusedWith 0x0601 4 r s)) ∧
          (segSum t role ≤ 8192 → exec (.pixelSegmentWrite r) s = .next (answered 0x0601 true r t []))))) ∧
    (let c := fld r.body 0 0 6
      let n := fld r.body 0 8 7
      let at0 := fld r.body 0 16 12
      ((122 < n ∨ r.body.length ≠ 4 + 4 * n) → exec (.pixelCurveWrite r) s = .next (refusedWith 0x0606 3 r s)) ∧
      (n ≤ 122 → r.body.length = 4 + 4 * n →
        (curveNamed s c = true → exec (.pixelCurveWrite r) s = .next (refusedWith 0x0606 9 r s)) ∧
        (curveNamed s c = false → 4096 < at0 + n → exec (.pixelCurveWrite r) s = .next (refusedWith 0x0606 4 r s)) ∧
        (curveNamed s c = false → at0 + n ≤ 4096 → ∃ t, exec (.pixelCurveWrite r) s = .next (answered 0x0606 true r t []) ∧
          (s.yardErr = [] →
            t = { s with yard := t.yard, poison := t.poison, groomPass := t.groomPass, curves := t.curves, curveDue := t.curveDue } ∧
            stored t (0x1B00000 + 16384 * c + 4 * at0) ((List.range n).flatMap (fun i => le 4 (u32 r.body (4 + 4 * i) % 2 ^ 20))) ∧
            (s.shedUp 5 = true → ∀ i, i < n → t.curve c (at0 + i) = u32 r.body (4 + 4 * i) % 2 ^ 20)))))

/-- Without a pixel pipeline every pixel command is NOT_FITTED. PIXEL_CFG_SET: RUN 1 before the tables are initialised is
STATE; else RUN and SRC are written and START_DELAY is staged. PIXEL_COMMIT: with COPYBACK 1 it waits; tables that do
not fit are BAD_ARG; else COMMIT_PENDING is 1 and it waits for the tick. PIXEL_LEVEL_SET latches its entries in order.
PIXEL_ZONE_INPUT of one entry: a zone that does not take it is BAD_ARG; else its temperature, or its light, is the
value given, fresh. PIXEL_ENC_SET of one role on a powered lane stages its eight words, a word outside its range is
BAD_ARG, a parked role STATE; PIXEL_GROUP_SET stages the sizes of groups 1 to 63, group 0 or a size outside 1 to 96 is
BAD_ARG. PIXEL_STATUS_GET answers its words. (R174, R328, R333, R334, R339, R341, R342, R344, R353, R470, R506, R507) -/
def Obligations.PixelSettingsLevelsAndCommit : Prop :=
  ∀ (r : Req) (s : State), takes s r = true →
    (s.part.hasPixel = false →
      exec (.pixelSegmentWrite r) s = .next (refusedWith 0x0601 7 r s) ∧ exec (.pixelProfileWrite r) s = .next (refusedWith 0x0602 7 r s) ∧
      exec (.pixelZoneWrite r) s = .next (refusedWith 0x0603 7 r s) ∧ exec (.pixelSourceWrite r) s = .next (refusedWith 0x0604 7 r s) ∧
      exec (.pixelCfgSet r) s = .next (refusedWith 0x0605 7 r s) ∧ exec (.pixelCurveWrite r) s = .next (refusedWith 0x0606 7 r s) ∧
      exec (.pixelCommit r) s = .next (refusedWith 0x0607 7 r s) ∧ exec (.pixelLevelSet r) s = .next (refusedWith 0x0608 7 r s) ∧
      exec (.pixelZoneInput r) s = .next (refusedWith 0x0609 7 r s) ∧ exec (.pixelEncSet r) s = .next (refusedWith 0x060A 7 r s) ∧
      exec (.pixelGroupSet r) s = .next (refusedWith 0x060B 7 r s) ∧ exec (.pixelStatusGet r) s = .next (refusedWith 0x060C 7 r s)) ∧
    (s.part.hasPixel = true →
      let waiting := fun (t : State) (on : WaitFor) => ({ t with
        waits := s.waits ++ [{ entry := none, opcode := 0x0607, req := r, on := on }] } : State)
      (r.body.length = 8 →
        (flag r.body 0 0 = true → s.tablesReady = false → exec (.pixelCfgSet r) s = .next (refusedWith 0x0605 9 r s)) ∧
        ((flag r.body 0 0 = false ∨ s.tablesReady = true) → ∃ t, exec (.pixelCfgSet r) s = .next (answered 0x0605 true r t []) ∧
          t = { s with regs := t.regs, stagedDelay := some (fld r.body 4 0 16) } ∧ t.get F.pixel_RUN 0 = fld r.body 0 0 1 ∧
          t.get F.pixel_SRC 0 = fld r.body 0 1 1 ∧ keepsRegsBut [(F.pixel_RUN, 0), (F.pixel_SRC, 0)] s t)) ∧
      (r.body.length = 0 →
        (s.on F.pixel_COPYBACK 0 = true → exec (.pixelCommit r) s = .next (waiting s .held)) ∧
        (s.on F.pixel_COPYBACK 0 = false → commitOk s = false → exec (.pixelCommit r) s = .next (refusedWith 0x0607 4 r s)) ∧
        (s.on F.pixel_COPYBACK 0 = false → commitOk s = true → ∃ t, exec (.pixelCommit r) s = .next (waiting t .pixelCommit) ∧
          t = { s with regs := t.regs } ∧ t.on F.pixel_COMMIT_PENDING 0 = true ∧ keepsRegsBut [(F.pixel_COMMIT_PENDING, 0)] s t)) ∧
      (let n := u32 r.body 0;
        ((123 < n ∨ r.body.length ≠ 4 + 4 * n) → exec (.pixelLevelSet r) s = .next (refusedWith 0x0608 3 r s)) ∧
        (n ≤ 123 → r.body.length = 4 + 4 * n → exec (.pixelLevelSet r) s = .next (answered 0x0608 false r
          { s with latches := s.latches ++ (List.range n).map (fun i =>
              if flag r.body (4 + 4 * i) 24 then { kind := 2, target := fld r.body (4 + 4 * i) 16 8, value := fld r.body (4 + 4 * i) 0 16 }
              else { kind := 1, target := 0, value := fld r.body (4 + 4 * i) 0 16 }) } []))) ∧
      (let n := u32 r.body 0
        let z := fld r.body 4 0 10
        let x := s.zone z
        ((41 < n ∨ r.body.length ≠ 4 + 12 * n) → exec (.pixelZoneInput r) s = .next (refusedWith 0x0609 3 r s)) ∧
        (n = 1 → r.body.length = 16 →
          (flag r.body 4 16 = false → fld (zoneRec s z) 0 0 2 ≠ 3 → exec (.pixelZoneInput r) s = .next (refusedWith 0x0609 4 r s)) ∧
          (flag r.body 4 16 = false → fld (zoneRec s z) 0 0 2 = 3 → exec (.pixelZoneInput r) s = .next (answered 0x0609 false r
            (s.putZone z { x with fwTemp := some (sx 16 (u16 r.body 8)), fwTempAge := 0 }) [])) ∧
          (flag r.body 4 16 = true → fld (zoneRec s z) 0 10 2 ≠ 2 → exec (.pixelZoneInput r) s = .next (refusedWith 0x0609 4 r s)) ∧
          (flag r.body 4 16 = true → fld (zoneRec s z) 0 10 2 = 2 → exec (.pixelZoneInput r) s = .next (answered 0x0609 false r
            (s.putZone z { x with
              fwLight := [u16 r.body 8, u16 r.body 10, u16 r.body 12, u16 r.body 14].take (if flag (zoneRec s z) 0 18 then 4 else 1)
              fwLightAge := 0 }) [])))) ∧
      (r.body.length = 36 → rangeCount r.body = 1 → rangeFirst r.body < s.part.lanes →
        let role := rangeFirst r.body
        let bad := fld r.body 8 0 12 < 4 ∨ fld r.body 8 16 12 < fld r.body 8 0 12 + 4 ∨ fld r.body 0xC 0 12 < fld r.body 8 16 12 + 4 ∨
          fld r.body 0xC 0 12 < 125 ∨ 95 < fld r.body 4 9 7 ∨ fld r.body 0x10 0 8 < 8 ∨ 32 < fld r.body 0x10 8 6 ∨ 8 < fld r.body 0x10 16 4 ∨
          64 < fld r.body 0x18 0 7 ∨ fld r.body 0x1C 0 24 < 100000
        (bad → exec (.pixelEncSet r) s = .next (refusedWith 0x060A 4 r s)) ∧
        (¬ bad → roleParked s role = true → exec (.pixelEncSet r) s = .next (refusedWith 0x060A 9 r s)) ∧
        (∀ n, ¬ bad → roleParked s role = false → roleLane s role = some n → ∃ t,
          exec (.pixelEncSet r) s = .next (answered 0x060A true r t []) ∧ t = { s with stagedEnc := t.stagedEnc } ∧
          tget t.stagedEnc n [] = bodyWords r 4 8 ∧ ∀ k, k ≠ n → tget t.stagedEnc k [] = tget s.stagedEnc k [])) ∧
      (let first := rangeFirst r.body
        let n := rangeCount r.body
        let size := fun (i : Nat) => (byteAt r.body (4 + i)).toNat % 128
        r.body.length = 4 + (n + 3) / 4 * 4 → 0 < n → first + n ≤ 64 →
        ((first = 0 ∨ ∃ i, i < n ∧ (size i = 0 ∨ 96 < size i)) → exec (.pixelGroupSet r) s = .next (refusedWith 0x060B 4 r s)) ∧
        (0 < first → (∀ i, i < n → 1 ≤ size i ∧ size i ≤ 96) → ∃ t, exec (.pixelGroupSet r) s = .next (answered 0x060B true r t []) ∧
          t = { s with stagedGroup := t.stagedGroup } ∧ (∀ i, i < n → tget t.stagedGroup (first + i) 0 = size i) ∧
          ∀ g, (g < first ∨ first + n ≤ g) → tget t.stagedGroup g 0 = tget s.stagedGroup g 0)) ∧
      (r.body.length = 4 →
        (s.part.lanes ≤ fld r.body 0 0 7 → fld r.body 0 0 7 < 96 → exec (.pixelStatusGet r) s = .next (refusedWith 0x060C 7 r s)) ∧
        (96 ≤ fld r.body 0 0 7 → exec (.pixelStatusGet r) s = .next (refusedWith 0x060C 4 r s)) ∧
        (fld r.body 0 0 7 < s.part.lanes → exec (.pixelStatusGet r) s = .next (answered 0x060C false r s
          (readWords s .pixel 0 4 2 ++ readWords s .encGlobal 0 4 1 ++ readWords s .pixel 0 0x10 8 ++
            readWords s .encLane (fld r.body 0 0 7) 0x20 6)))))

/-- LANE_FRAME_START with RUN in force: an idle lane with its frame and a word ready begins it under the encoder words of
that instant; without a word START_LATE counts and is latched and the lane is late; a lane still busy, or in
LATCH_IDLE, adds 1 to FRAME_SKIP, latched, and its frame is gone. SEGMENT_BOUNDARY sends the next segment: as
rendered, as zeros under BLACKOUT, and under HOLD with nothing sent the frame stops. UNDERRUN counts and is latched; a
one-wire lane stops its bits. LAMP_BITS_END: the latch follows, or waits for LATCH_AT, or is missed, counted and
latched. LATCH_WORD_START latches a waiting lane. FRAME_LATCHED adds 1 to FRAMES and the lamps show what was sent.
PWM_PERIOD_START takes the newest value, PWM_ACTIVE_END ends the active part. SEED_DONE ends the seeding of the record
whose turn it is: SEEDING reads 1 while records are left, and packets wait only for those. With no yard word in error
PIXEL_COPYBACK_DONE makes the inactive pixel copy equal to the one in force. (R325, R342, R351, R354, R356, R357,
R360, R361, R362, R363, R370, R371) -/
def Obligations.LampOutputsSendLatchAndCount : Prop :=
  ∀ s : State, s.part.hasPixel = true → s.shedUp 5 = true →
    (∀ n, n < 96 →
      let x := s.encLane n
      let m := encMode s n
      let pix := m = 6 ∨ m = 7
      let only := fun (t : State) => (∀ k, k ≠ n → t.encLane k = s.encLane k) ∧
        t = { s with regs := t.regs, fired := t.fired, enc := t.enc }
      let counted := fun (f : Field) (bit : Nat) (t : State) => only t ∧ t.get f n = min (s.get f n + 1) 0xFFFFFFFF ∧
        flagged F.encg_FLAGS F.encg_EVEN 0 bit (212 + bit) s t ∧ keepsRegsBut [(f, n), (F.encg_FLAGS, 0)] s t
      (pix → s.runNow = true →
        (∀ fr k rest, x.phase = .idle → x.idleUntil ≤ s.ran → x.frames = (fr, k) :: rest → ∃ t, exec (.laneFrameStart n true) s = .next t ∧ only t ∧ t.fired = s.fired ∧
          (t.encLane n).phase = .sending ∧ (t.encLane n).segs = fr ∧ (t.encLane n).sent = [] ∧ (t.encLane n).frames = rest ∧ (t.encLane n).sendNo = k ∧
          (t.encLane n).cfg = (List.range 8).map (fun k => s.reg ⟨.encLane, n, 4 * k⟩) ∧
          t.on F.enc_SENDING n = true ∧ keepsRegsBut [(F.enc_SENDING, n)] s t) ∧
        (x.phase = .idle → x.idleUntil ≤ s.ran → ∃ t, exec (.laneFrameStart n false) s = .next t ∧ counted F.enc_N_START_LATE 0 t ∧
          t.encLane n = { x with phase := .late }) ∧
        (∀ b, (x.phase = .sending ∨ x.phase = .bitsDone ∨ x.phase = .latching ∨ (x.phase = .idle ∧ s.ran < x.idleUntil)) → ∃ t, exec (.laneFrameStart n b) s = .next t ∧
          counted F.enc_N_FRAME_SKIP 3 t ∧ t.encLane n = { x with frames := x.frames.drop 1 })) ∧
      (∀ g rest, pix → x.phase = .sending → x.segs = g :: rest → x.before = none →
        (s.get F.enc_OVR n = 0 → exec (.segmentBoundary n) s = .next
          (s.putEnc n { x with segs := rest, sent := x.sent ++ [g], shown := 0 })) ∧
        (s.get F.enc_OVR n = 2 → exec (.segmentBoundary n) s = .next (s.putEnc n { x with
          segs := rest, sent := x.sent ++ [{ g with lamps := g.lamps.map (fun l => l.map (fun _ => 0)) }], shown := 2 })) ∧
        (s.get F.enc_OVR n = 3 → x.sent = [] → ∃ t, exec (.segmentBoundary n) s = .next t ∧ only t ∧ t.on F.enc_SENDING n = false ∧
          t.encLane n = { x with phase := .idle, segs := [], holdStop := true, shown := 3 })) ∧
      (pix → x.phase = .sending → ∃ t, exec (.underrun n) s = .next t ∧ counted F.enc_N_UNDERRUN 1 t ∧
        t.encLane n = if m = 6 then { x with phase := .latching, segs := [], cut := true } else x) ∧
      (∀ late, pix → x.phase = .sending → x.segs = [] →
        let waits := m = 7 ∧ frameField x F.enc_LATCH_MODE = 1 ∧ frameField x F.enc_LATCH_AT ≠ 0
        (¬ waits → exec (.lampBitsEnd n late) s = .next (s.putEnc n { x with phase := .latching })) ∧
        (waits → late = false → exec (.lampBitsEnd n late) s = .next (s.putEnc n { x with phase := .bitsDone })) ∧
        (waits → late = true → ∃ t, exec (.lampBitsEnd n late) s = .next t ∧ counted F.enc_N_LATCH_MISS 2 t ∧
          t.encLane n = { x with phase := .latching })) ∧
      (m = 7 → x.phase = .bitsDone → exec (.latchWordStart n) s = .next (s.putEnc n { x with phase := .latching })) ∧
      (pix → x.phase = .latching → ∃ t, exec (.frameLatched n) s = .next t ∧
        t = { s with regs := t.regs, enc := t.enc, twin := t.twin, drawn := t.drawn } ∧ (x.cut = false → t.drawn = s.drawn) ∧
        t.get F.enc_FRAMES n = min (s.get F.enc_FRAMES n + 1) 0xFFFFFFFF ∧
        t.on F.enc_SENDING n = false ∧ t.encLane n = { x with
          phase := .idle, latched := x.sent, latchedCut := x.cut, idleUntil := (t.encLane n).idleUntil } ∧
        (t.encLane n).idleUntil = s.ran + (if m = 7 then frameField x F.enc_LATCH_IDLE * 1000 * nsUnit else 0) ∧
        keepsRegsBut [(F.enc_FRAMES, n), (F.enc_SENDING, n)] s t ∧ (s.on F.twin_PAIRED 0 = false → t.twin = s.twin)) ∧
      (m = 8 → s.get F.enc_OVR n = 0 → s.runNow = true → ∃ t, exec (.pwmPeriodStart n) s = .next t ∧
        t = { s with enc := t.enc, twin := t.twin } ∧ (t.encLane n).h = x.hNext.getD x.h ∧ (t.encLane n).hNext = none ∧
        (t.encLane n).active = decide (0 < x.hNext.getD x.h) ∧ (t.encLane n).period = s.get F.enc_PERIOD n ∧
        ∀ k, k ≠ n → t.encLane k = s.encLane k) ∧
      (m = 8 → (x.h < x.period → exec (.pwmActiveEnd n) s = .next (s.putEnc n { x with active := false })) ∧
        (x.period ≤ x.h → exec (.pwmActiveEnd n) s = .next s))) ∧
    (s.seedLeft = [] → exec .seedDone s = .next s) ∧
    (∀ i l, s.seedLeft = i :: l → ∃ t, exec .seedDone s = .next t ∧ t.seedLeft = l ∧ t.on F.pixel_SEEDING 0 = !l.isEmpty ∧
      t.seedHeld = s.seedHeld.filter (fun e => l.contains e.1) ∧
      ((∀ e ∈ s.seedHeld, l.contains e.1 = true) → t = { s with regs := t.regs, seedLeft := l } ∧
        keepsRegsBut [(F.pixel_SEEDING, 0)] s t)) ∧
    (s.on F.pixel_COPYBACK 0 = true → s.running = true → s.waits = [] → s.memWf = true → s.yardErr = [] →
      ∃ t, exec .pixelCopybackDone s = .next t ∧ t.on F.pixel_COPYBACK 0 = false ∧ t.pixActive = s.pixActive ∧
        t = { s with regs := t.regs, yard := t.yard, poison := t.poison, groomPass := t.groomPass, pixDue := [] } ∧
        (∀ o, o < 0x2C000 → t.yardCell (pixelCopy s.pixInactive + o) = s.yardCell (pixelCopy s.pixActive + o)) ∧
        (∀ a, a < 0x1FFFC00 → (a < pixelCopy s.pixInactive ∨ pixelCopy s.pixInactive + 0x2C000 ≤ a) → t.yardCell a = s.yardCell a) ∧
        keepsRegsBut [(F.pixel_COPYBACK, 0)] s t)

/-- A channel above 23 is BAD_ARG. While a channel calibrates, MEAS_CH_SET, MEAS_TABLE_SET and MEAS_COEF_SET naming it, a
second MEAS_CAL_START, and MEAS_PARAM_SET are STATE; so are a start on a channel of KIND 0 and an abort where nothing
calibrates. MEAS_CH_SET of one channel writes its configuration and its limits; a KIND of 3 or more is BAD_ARG; a
change of KIND or RATE discards two windows again (none with KIND 0). MEAS_READ answers the latest value and its
instant. MEAS_TABLE_SET writes the nine words of the table. MEAS_COEF_SET writes OFFSET and GAIN as a step, the
targets with them, and ends a slew. MEAS_PARAM_SET writes its five words, a SPARE_VALID of 0 ends both spares'
validity, and CNT_CLR clears the counters. MEAS_CAL_START: spare 3 is BAD_ARG, no idle spare BUSY; else the spare
names the channel, whose STATE is 3, in phase 2 where the spare's coefficients hold, in phase 1 else. MEAS_CAL_ABORT
keeps OFFSET and GAIN, sets CAL_ABORT, and ends the calibration in phases 1 and 2; in phases 4 to 6 the channel is
handed back with outcome ABORTED. (R373, R374, R377, R378, R381, R382, R386, R387, R489, R490, R508) -/
def Obligations.MeasurementCommandsSetAndCalibrate : Prop :=
  ∀ (r : Req) (s : State), takes s r = true →
    let n := fld r.body 0 0 5
    let busy := (s.channel n).cal.isSome
    let only := fun (t : State) => t = { s with regs := t.regs }
    let w := fun (o : Nat) => bodyWord r o
    let named := fun (l : List RegAddr) (t : State) => keepsRegsOutside (fun q => l.contains q) s t
    (r.body.length = 12 → rangeCount r.body = 1 → rangeFirst r.body < 24 →
      let k := rangeFirst r.body
      (3 ≤ fld r.body 4 0 3 → exec (.measChSet r) s = .next (refusedWith 0x0701 4 r s)) ∧
      (fld r.body 4 0 3 < 3 → (s.channel k).cal.isSome = true → exec (.measChSet r) s = .next (refusedWith 0x0701 9 r s)) ∧
      (fld r.body 4 0 3 < 3 → (s.channel k).cal = none → ∃ t, exec (.measChSet r) s = .next (answered 0x0701 true r t []) ∧
        rwWritten ⟨.measCh, k, 0⟩ (w 4) s t ∧ rwWritten ⟨.measCh, k, 0xC⟩ (w 8) s t ∧
        (chKind t k = chKind s k → t.get F.ch_RATE k = s.get F.ch_RATE k → only t ∧ named [⟨.measCh, k, 0⟩, ⟨.measCh, k, 0xC⟩] t) ∧
        ((chKind t k ≠ chKind s k ∨ t.get F.ch_RATE k ≠ s.get F.ch_RATE k) → t = { s with regs := t.regs, channels := t.channels } ∧
          t.channel k = { s.channel k with settle := if chKind t k = 0 then 0 else 2 } ∧
          t.get F.ch_STATE k = (if chKind t k = 0 then 0 else 1) ∧
          keepsRegsOutside (fun q => [⟨.measCh, k, 0⟩, ⟨.measCh, k, 0xC⟩, ⟨.measCh, k, 0x14⟩].contains q) s t))) ∧
    (r.body.length = 4 → rangeCount r.body = 1 → rangeFirst r.body < 24 →
      let k := rangeFirst r.body
      let ns := (s.channel k).sampledAt / 2 ^ 32
      exec (.measRead r) s = .next (answered 0x0702 false r s (readWords s .measCh k 0x10 1 ++ le 4 (ns % 10 ^ 9) ++
        le 4 (ns / 10 ^ 9 % 2 ^ 32) ++ le 4 (ns / 10 ^ 9 / 2 ^ 32 % 2 ^ 16)))) ∧
    (r.body.length = 40 →
      (24 ≤ n → exec (.measTableSet r) s = .next (refusedWith 0x0703 4 r s)) ∧
      (n < 24 → busy = true → exec (.measTableSet r) s = .next (refusedWith 0x0703 9 r s)) ∧
      (n < 24 → busy = false → ∃ t, exec (.measTableSet r) s = .next (answered 0x0703 true r t []) ∧ only t ∧
        (∀ j, j < 9 → rwWritten ⟨.measLin, n, 4 * j⟩ (w (4 + 4 * j)) s t) ∧
        named ((List.range 9).map (fun j => ⟨.measLin, n, 4 * j⟩)) t)) ∧
    (r.body.length = 8 →
      (24 ≤ n → exec (.measCoefSet r) s = .next (refusedWith 0x0706 4 r s) ∧ exec (.measCalStart r) s = .next (refusedWith 0x0704 4 r s)) ∧
      (n < 24 → busy = true → exec (.measCoefSet r) s = .next (refusedWith 0x0706 9 r s)) ∧
      (n < 24 → busy = false → s.shedUp 6 = true → ∃ t, exec (.measCoefSet r) s = .next (answered 0x0706 false r t []) ∧
        t = { s with regs := t.regs, channels := t.channels } ∧ rwWritten ⟨.measCh, n, 4⟩ (w 4) s t ∧
        t.get F.ch_T_OFFSET n = t.get F.ch_OFFSET n ∧ t.get F.ch_T_GAIN n = t.get F.ch_GAIN n ∧
        t.channel n = { s.channel n with slew := none } ∧
        (s.get F.ch_STATE n ≠ 4 → named [⟨.measCh, n, 4⟩, ⟨.measCh, n, 8⟩] t)) ∧
      (let which := fld r.body 0 9 2;
        n < 24 →
        (which = 3 → exec (.measCalStart r) s = .next (refusedWith 0x0704 4 r s)) ∧
        (which ≠ 3 → (chKind s n = 0 ∨ busy = true) → exec (.measCalStart r) s = .next (refusedWith 0x0704 9 r s)) ∧
        (which ≠ 3 → chKind s n ≠ 0 → busy = false →
          ((which < 2 ∧ spareIdle s which = false) ∨ (which = 2 ∧ spareIdle s 0 = false ∧ spareIdle s 1 = false)) →
          exec (.measCalStart r) s = .next (refusedWith 0x0704 1 r s)) ∧
        (∀ m, chKind s n ≠ 0 → busy = false → ((which = m ∧ m < 2) ∨ (which = 2 ∧ (m = 0 ∨ m = 1 ∧ spareIdle s 0 = false))) →
          spareIdle s m = true → (flag r.body 0 8 = false ∨ flag r.body 0 11 = false) →
          ∃ t c, exec (.measCalStart r) s = .next (answered 0x0704 false r t []) ∧ t = { s with regs := t.regs, channels := t.channels } ∧
            t.get (chMs m) 0 = n ∧ t.get F.ch_STATE n = 3 ∧ (t.channel n).cal = some c ∧ c.spare = m ∧ c.system = flag r.body 0 8 ∧
            c.expect = (if flag r.body 0 8 then fld r.body 4 0 16 else 0) ∧
            c.phase = (if spareValid s m n then 2 else 1) ∧ t.get (stMs m) 0 = c.phase ∧
            keepsRegsBut [(chMs m, 0), (stMs m, 0), (F.ch_STATE, n)] s t))) ∧
    (r.body.length = 4 → n < 24 →
      (busy = false → exec (.measCalAbort r) s = .next (refusedWith 0x0705 9 r s)) ∧
      (∀ c, (s.channel n).cal = some c → c.phase < 7 → ∃ t, exec (.measCalAbort r) s = .next (answered 0x0705 false r t []) ∧
        t.get F.ch_OFFSET n = s.get F.ch_OFFSET n ∧ t.get F.ch_GAIN n = s.get F.ch_GAIN n ∧
        (t.get F.meas_FLAGS 0).testBit 6 = true ∧ t.calSeq = (s.calSeq + 1) % 2 ^ 32 ∧
        (c.phase < 3 → (t.channel n).cal = none) ∧
        (3 ≤ c.phase → ∃ d, (t.channel n).cal = some d ∧ d.phase = 8 ∧ d.outcome = 5 ∧ d.result = none))) ∧
    (r.body.length = 20 →
      ((∃ k, k < 24 ∧ (s.channel k).cal.isSome = true) → exec (.measParamSet r) s = .next (refusedWith 0x0707 9 r s)) ∧
      ((∀ k, k < 24 → (s.channel k).cal = none) → ∃ t, exec (.measParamSet r) s = .next (answered 0x0707 true r t []) ∧ only t ∧
        rwWritten ⟨.meas, 0, 0⟩ (w 0) s t ∧ (∀ j, j < 4 → rwWritten ⟨.meas, 0, 0xC + 4 * j⟩ (w (4 + 4 * j)) s t) ∧
        (flag r.body 0 0 = false → named (⟨.meas, 0, 0⟩ :: F.meas_VALID_MS0.addr 0 :: (List.range 4).map (fun j => ⟨.meas, 0, 0xC + 4 * j⟩)) t) ∧
        (t.get F.meas_SPARE_VALID 0 = 0 → t.on F.meas_VALID_MS0 0 = false ∧ t.on F.meas_VALID_MS1 0 = false) ∧
        (t.get F.meas_SPARE_VALID 0 ≠ 0 → t.reg (F.meas_VALID_MS0.addr 0) = s.reg (F.meas_VALID_MS0.addr 0)) ∧
        (flag r.body 0 0 = true → t.get F.meas_CAL_LOG_LOST 0 = 0 ∧ ∀ k, k < 24 → t.get F.ch_OVERRANGE k = 0 ∧ t.get F.ch_LIMIT k = 0)))

/-- MEAS_SAMPLE: a settling channel discards the window; else, with no calibration, c = clamp(⌊(R − OFFSET) × GAIN /
32768⌋, 0, 65535) is delivered, through the table with LIN_EN, and to the pixel pipeline; a clamp sets OVER, counts
OVERRANGE and sets its flag; the LIM_COUNT-th value outside the limits sets LIM_ACTIVE, counts LIMIT and sets its
flag. CAL_SPARE_CHECK_DONE: a spare whose passes hold becomes valid (unless SPARE_VALID is 0) and joins the pin (phase
2); else it is faulty, SPARE_BAD and CAL_REJECT are set and the calibration ends. CAL_SWITCH after the overlap: the
spare delivers (phase 4), and HANDOVER_DIFF is set where the largest difference exceeds its tolerance. CAL_PASS_END:
pass 1 leads to the gap, or with CAL_GAP 0 to pass 2; pass 2 to the judgement, phase 8, and CAL_REJECT where a check
failed; CAL_GAP_END leads to pass 2. CAL_RETURN: the calibration is over; rejected, OFFSET and GAIN are as before;
accepted on a PRIVILEGED channel they are the result at once, else they slew to it. MEAS_COEF_PERSIST stores each
accepted set as it was accepted; SPARE_VALID_EXPIRY ends a spare's validity. (R372, R373, R374, R376, R379, R380,
R381, R383, R384) -/
def Obligations.SamplesAreCorrectedAndCalibrationsRunTheirPhases : Prop :=
  ∀ (s : State) (n : Nat), s.shedUp 6 = true → n < 24 →
    let x := s.channel n
    let chans := fun (t : State) => t = { s with regs := t.regs, fired := t.fired, channels := t.channels }
    let quiet := fun (t : State) => t = { s with regs := t.regs, channels := t.channels }
    let mflag := fun (bit : Nat) (t : State) => flagged F.meas_FLAGS F.meas_EVEN 0 bit (216 + bit) s t
    let out := fun (c : Cal) (ph : Nat) => c.phase = ph ∧ x.cal = some c
    (∀ raw sp, -65536 ≤ raw → raw ≤ 131071 → chKind s n ≠ 0 → x.cal = none →
      (0 < x.settle → s.get F.ch_STATE n ≠ 1 → exec (.measSample n raw sp) s = .next (s.putChannel n { x with settle := x.settle - 1 })) ∧
      (x.settle = 0 → x.slew = none →
        let q := (raw - s.getI F.ch_OFFSET n) * s.get F.ch_GAIN n / 32768
        let c := (max 0 (min 65535 q)).toNat
        let v := if s.on F.ch_LIN_EN n then linearise s n c else (c : Int)
        let clamps := q < 0 ∨ 65535 < q
        let k := s.get F.ch_LIM_COUNT n
        let newLimit := k ≠ 0 ∧ s.on F.ch_LIM_ACTIVE n = false ∧ outside s n v = true ∧ k ≤ x.outRun + 1
        ∃ t, exec (.measSample n raw sp) s = .next t ∧
          t = { s with regs := t.regs, fired := t.fired, channels := t.channels, readings := t.readings } ∧
          ((s.part.hasPixel && s.shedUp 5) = false → t.readings = s.readings) ∧
          ((s.part.hasPixel && s.shedUp 5) = true → t.reading n = { value := some v, light := c } ∧ ∀ j, j ≠ n → t.reading j = s.reading j) ∧
          t.get F.ch_VALUE n = ux 16 v ∧ t.get F.ch_FROM_SPARE n = 0 ∧
          t.get F.ch_SAMPLE_N n = (s.get F.ch_SAMPLE_N n + 1) % 2 ^ 14 ∧ (t.channel n).sampledAt = s.tod ∧
          (clamps → t.on F.ch_OVER n = true ∧ t.get F.ch_OVERRANGE n = min (s.get F.ch_OVERRANGE n + 1) 65535 ∧
            (t.get F.meas_FLAGS 0).testBit 1 = true) ∧
          (¬ clamps → t.on F.ch_OVER n = false ∧ t.get F.ch_OVERRANGE n = s.get F.ch_OVERRANGE n) ∧
          (newLimit → t.on F.ch_LIM_ACTIVE n = true ∧ t.get F.ch_LIMIT n = min (s.get F.ch_LIMIT n + 1) 65535 ∧
            (t.get F.meas_FLAGS 0).testBit 0 = true) ∧
          (¬ clamps → k = 0 → t.fired = s.fired ∧ keepsRegsExcept ⟨.measCh, n, 0x10⟩ s t))) ∧
    (∀ c p1 p2, out c 1 → passShape s false p1 = true → passShape s false p2 = true →
      let a := internalPass s (chKind s n) p1
      let b := internalPass a.1 (chKind s n) p2
      let good := judgePasses b.1 ((passSpread s false p1).2 || (passSpread s false p2).2) a.2 b.2 false 0 none = 0
      ∃ t, exec (.calSpareCheckDone n p1 p2) s = .next t ∧
        (good → c.spare < 2 → t = { s with regs := t.regs, channels := t.channels, spares := t.spares, drawn := t.drawn } ∧
          t.on (validMs c.spare) 0 = (s.get F.meas_SPARE_VALID 0 != 0) ∧ t.get (stMs c.spare) 0 = 2 ∧ (t.spare c.spare).kind = chKind s n ∧
          (t.spare c.spare).rate = s.get F.ch_RATE n ∧ (t.channel n).cal = some { c with phase := 2, settle := 2, overlap := 0 }) ∧
        (¬ good → c.spare < 2 → t.get (stMs c.spare) 0 = 6 ∧ t.on (validMs c.spare) 0 = false ∧ (t.channel n).cal = none ∧
          (t.get F.meas_FLAGS 0).testBit 3 = true ∧ (t.get F.meas_FLAGS 0).testBit 4 = true ∧
          t.get F.ch_OFFSET n = s.get F.ch_OFFSET n ∧ t.get F.ch_GAIN n = s.get F.ch_GAIN n)) ∧
    (∀ c, out c 2 → c.settle = 0 → c.spare < 2 →
      (c.overlap < s.get F.meas_OVERLAP 0 → exec (.calSwitch n) s = .next s) ∧
      (s.get F.meas_OVERLAP 0 ≤ c.overlap → ∃ t, exec (.calSwitch n) s = .next t ∧ chans t ∧ t.get (stMs c.spare) 0 = 4 ∧
        (c.handover ≤ s.get F.meas_HANDOVER_TOL 0 → t.fired = s.fired ∧ (t.channel n).cal = some { c with phase := 4 } ∧
          keepsRegsBut [(stMs c.spare, 0)] s t) ∧
        (s.get F.meas_HANDOVER_TOL 0 < c.handover → mflag 5 t ∧ (t.channel n).cal = some { c with phase := 4, diff := true } ∧
          keepsRegsBut [(stMs c.spare, 0), (F.meas_FLAGS, 0)] s t))) ∧
    (∀ c p, passShape s c.system p = true →
      let sp := passSpread s c.system p
      let res := (passResult s n c p).2
      (out c 4 → ∃ t, exec (.calPassEnd n p) s = .next t ∧ t = { s with channels := t.channels, drawn := t.drawn } ∧
        (t.channel n).cal = some { c with
          spread := max c.spread sp.1, spreadBad := c.spreadBad || sp.2, p1 := some res
          phase := if s.get F.meas_CAL_GAP 0 = 0 then 6 else 5 }) ∧
      (∀ p1, out c 6 → c.p1 = some p1 → ∃ t d, exec (.calPassEnd n p) s = .next t ∧ (t.channel n).cal = some d ∧ d.phase = 8 ∧
        d.p2 = some res ∧
        d.outcome = (if c.spreadBad || sp.2 then 2
          else if passesAgree s p1 res c.system = false then 3
          else if plausible s (passMean p1 res c.system (s.get F.ch_GAIN n)) (some c.oldOffset) = false then 4 else 0) ∧
        d.result = (if d.outcome = 0 then some (passMean p1 res c.system (s.get F.ch_GAIN n)) else none) ∧
        t.get F.ch_OFFSET n = s.get F.ch_OFFSET n ∧ t.get F.ch_GAIN n = s.get F.ch_GAIN n ∧
        (d.outcome ≠ 0 → (t.get F.meas_FLAGS 0).testBit 3 = true ∧ t.calSeq = (s.calSeq + 1) % 2 ^ 32))) ∧
    (∀ c, out c 5 → exec (.calGapEnd n) s = .next (s.putChannel n { x with cal := some { c with phase := 6 } })) ∧
    (∀ c, out c 8 → c.settle = 0 → (c.system = true ∨ s.get F.meas_OVERLAP 0 ≤ c.overlap) → ∃ t, exec (.calReturn n) s = .next t ∧
      (t.channel n).cal = none ∧ t.get F.ch_FROM_SPARE n = 0 ∧
      (c.result = none → t.get F.ch_OFFSET n = s.get F.ch_OFFSET n ∧ t.get F.ch_GAIN n = s.get F.ch_GAIN n) ∧
      (∀ o g, c.result = some (o, g) → -32768 ≤ o → o ≤ 32767 → 0 ≤ g → g ≤ 65535 →
        let S := s.get F.meas_SLEW_MS 0 * chRate s n / 1000
        t.getI F.ch_T_OFFSET n = o ∧ t.get F.ch_T_GAIN n = g.toNat ∧ (t.get F.meas_FLAGS 0).testBit 2 = true ∧ (n, o, g.toNat) ∈ t.calUnsaved ∧
        ((s.on F.ch_PRIVILEGED n = true ∨ S = 0) → t.getI F.ch_OFFSET n = o ∧ t.get F.ch_GAIN n = g.toNat ∧ (t.channel n).slew = none) ∧
        (s.on F.ch_PRIVILEGED n = false → S ≠ 0 → t.get F.ch_OFFSET n = s.get F.ch_OFFSET n ∧ t.get F.ch_GAIN n = s.get F.ch_GAIN n ∧
          (t.channel n).slew = some { o0 := s.getI F.ch_OFFSET n, g0 := s.get F.ch_GAIN n, o1 := o, g1 := g.toNat, j := 0, s := S }))) ∧
    (s.running = true → ∃ t, exec .measCoefPersist s = .next t ∧ t = { s with calUnsaved := [], calSaved := t.calSaved } ∧
      ∀ k, tget t.calSaved k (0, 32768) =
        (((s.calUnsaved.reverse.find? (fun e => e.1 == k)).map (·.2)).getD (tget s.calSaved k (0, 32768)))) ∧
    (∀ m, m < 2 → ∃ t, exec (.spareValidExpiry m) s = .next t ∧ quiet t ∧ t.channels = s.channels ∧
      t.on (validMs m) 0 = false ∧ keepsRegsBut [(validMs m, 0)] s t)

/-- A claim by an owner or during a claim changes nothing. A primary's claim is refused when HOLD_IN has been high for 10
µs, else it owns at once; a secondary's is refused when HOLD_IN is high, else HOLD_OUT rises and CLAIM_WINDOW_END
makes it own. A refusal adds 1 to CLAIM_FAILS and sets CLAIM_FAIL; ownership adds 1 to TAKEOVERS and sets OWNED, and a
standby that owns begins its replay. RELEASE ends ownership: OWN, HOLD_OUT 0, RELEASED where the unit owned. KEEP
makes ALIVE 1, and an engaged bypass that waited claims. KEEP_ALIVE_LAPSE makes it 0, and a paired owner releases.
HOLD_IN_CHANGE: a rise makes a secondary's claim fail; a fall makes a standby that may take over claim where the peer
owned. SECONDARY_STARTUP_CLAIM claims; PEER_LOST sets its flag, and a standby that may take over claims.
HEARTBEAT_SEND sends its frame, and then the records that wait; HEARTBEAT_RECEIVED keeps the peer's state, a wrong
role or generation is PAIR_MISMATCH. TETHER_FRAME_RECEIVED: a bad frame, or one of an unknown TYPE, adds 1 to
TETHER_ERR, missed sequence numbers are counted. TETHER_ALIGNMENT is kept. TWIN_STATE shows the unit. (R392, R393,
R394, R395, R399, R400, R401, R402, R403, R404, R429, R562) -/
def Obligations.TheInterlockIsClaimedReleasedAndWatched : Prop :=
  ∀ s : State, s.part.hasTwin = true →
    let tw := fun (x t : State) => t = { x with regs := t.regs, fired := t.fired, twin := t.twin }
    let rose := fun (bit : Nat) (x t : State) => flagged F.twin_FLAGS F.twin_EVEN 0 bit (228 + bit) x t
    let up := fun (f : Field) (x t : State) => t.get f 0 = min (x.get f 0 + 1) 0xFFFFFFFF
    let pins := [(F.twin_OWN, 0), (F.twin_HOLD_OUT, 0), (F.twin_ILK_STATE, 0), (F.twin_FLAGS, 0)]
    let ilk := fun (own hold st : Nat) (t : State) => t.get F.twin_OWN 0 = own ∧ t.get F.twin_HOLD_OUT 0 = hold ∧ t.get F.twin_ILK_STATE 0 = st
    let owned := fun (x t : State) => ilk 1 1 2 t ∧ t.twin.claiming = false ∧ up F.twin_TAKEOVERS x t ∧ (t.get F.twin_FLAGS 0).testBit 1 = true ∧
      (isStandby x = true → t.twin.replaying = true) ∧
      (isStandby x = false → rose 1 x t ∧ t.twin = { x.twin with claiming := false, startup := false, released := [], items := [], windows := [] } ∧ tw x t ∧
        keepsRegsBut ((F.twin_TAKEOVERS, 0) :: pins) x t)
    let failed := fun (x t : State) => ilk 0 0 0 t ∧ up F.twin_CLAIM_FAILS x t ∧ rose 2 x t ∧ tw x t ∧
      t.twin = { x.twin with claiming := false } ∧ keepsRegsBut ((F.twin_CLAIM_FAILS, 0) :: pins) x t
    let claims := fun (x t : State) =>
      let late := x.twin.holdRise + 10000 * 2 ^ 32 ≤ x.ran
      let high := x.on F.twin_HOLD_IN 0
      (x.on F.twin_ROLE 0 = false → high = true → late → failed x t) ∧
      (x.on F.twin_ROLE 0 = false → (high = false ∨ ¬ late) → owned x t) ∧
      (x.on F.twin_ROLE 0 = true → high = true → failed x t) ∧
      (x.on F.twin_ROLE 0 = true → high = false → ilk 0 1 1 t ∧ t = { x with regs := t.regs, twin := { x.twin with claiming := true } } ∧
        keepsRegsBut pins x t)
    let gone := fun (x t : State) => ilk 0 0 0 t ∧ tw x t ∧ t.twin = { x.twin with
        claiming := false, handover := none, finishing := [], items := if x.on F.twin_OWN 0 then [] else x.twin.items } ∧
      keepsRegsBut pins x t ∧ (x.on F.twin_OWN 0 = true → rose 3 x t) ∧
      (x.on F.twin_OWN 0 = false → t.get F.twin_FLAGS 0 = x.get F.twin_FLAGS 0 ∧ t.fired = x.fired)
    let heard := fun (hb : Heartbeat) (x t : State) => tw x t ∧ t.twin = { x.twin with
        peer := some hb, hbValid := true, hbAt := x.ran, peerLost := x.twin.peerLost && !hb.alive, startup := x.twin.startup && !hb.alive } ∧
      ((hb.role = x.on F.twin_ROLE 0 ∨ hb.cfgGen ≠ x.gen) → rose 7 x t ∧ keepsRegsBut [(F.twin_FLAGS, 0)] x t) ∧
      (hb.role ≠ x.on F.twin_ROLE 0 → hb.cfgGen = x.gen → t.regs = x.regs ∧ t.fired = x.fired)
    let free := s.on F.twin_OWN 0 = false ∧ s.twin.claiming = false
    let living := fun (b : Bool) => ({ s with twin := { s.twin with alive := b } } : State)
    (s.shedUp 7 = true → (showUnit s).get F.twin_UNIT 0 = unitNow (noteJournal s) ∧ (showUnit s).on F.twin_TETHER_UP 0 = tetherUp s ∧
      keepsRegsBut [(F.twin_UNIT, 0), (F.twin_TETHER_UP, 0), (F.twin_QUAL_TIME, 0), (F.twin_PEER_ALIVE, 0), (F.twin_PEER_OWNS, 0)] s (showUnit s)) ∧
    (¬ free → exec .claim s = .next (showUnit s)) ∧
    (free → ∃ t, exec .claim s = .next (showUnit t) ∧ claims s t) ∧
    (s.twin.claiming = true → ∃ t, exec .claimWindowEnd s = .next (showUnit t) ∧ owned s t) ∧
    (s.twin.claiming = false → exec .claimWindowEnd s = .next s) ∧
    (∃ t, exec .release s = .next (showUnit t) ∧ gone s t) ∧
    (s.twin.alive = true → exec .keep s = .next (living true)) ∧
    (s.twin.alive = false → bypassCause s = 0 → exec .keep s = .next (showUnit (living true))) ∧
    (s.twin.alive = false → bypassCause s ≠ 0 → free → ∃ t, exec .keep s = .next (showUnit t) ∧ claims (living true) t) ∧
    ((s.on F.twin_PAIRED 0 = false ∨ s.on F.twin_OWN 0 = false) → exec .keepAliveLapse s = .next (showUnit (living false))) ∧
    (s.on F.twin_PAIRED 0 = true → s.on F.twin_OWN 0 = true → ∃ t, exec .keepAliveLapse s = .next (showUnit t) ∧ gone (living false) t) ∧
    (∀ b, s.on F.twin_HOLD_IN 0 = b → exec (.holdInChange b) s = .next s) ∧
    (s.on F.twin_HOLD_IN 0 = false → ∃ x, x.on F.twin_HOLD_IN 0 = true ∧ keepsRegsBut [(F.twin_HOLD_IN, 0)] s x ∧
      x = { s with regs := x.regs, twin := { s.twin with holdRise := s.ran } } ∧
      (s.twin.claiming = false → exec (.holdInChange true) s = .next (showUnit x)) ∧
      (s.twin.claiming = true → s.on F.twin_OWN 0 = false → ∃ t, exec (.holdInChange true) s = .next (showUnit t) ∧ failed x t)) ∧
    (s.on F.twin_HOLD_IN 0 = true → s.twin.handover = none → ∃ x, x.on F.twin_HOLD_IN 0 = false ∧ keepsRegsBut [(F.twin_HOLD_IN, 0)] s x ∧
      x = { s with regs := x.regs } ∧
      ((mayTake s = false ∨ (s.twin.peer.map (·.owns)).getD false = false) → exec (.holdInChange false) s = .next (showUnit x)) ∧
      (mayTake s = true → (s.twin.peer.map (·.owns)).getD false = true → free → ∃ t, exec (.holdInChange false) s = .next (showUnit t) ∧ claims x t)) ∧
    (s.twin.startup = true → s.on F.twin_ROLE 0 = true → (∃ hb, s.twin.peer = some hb ∧ hb.alive = false) → free →
      ∃ t, exec .secondaryStartupClaim s = .next (showUnit t) ∧ claims s t) ∧
    (s.twin.startup = false → exec .secondaryStartupClaim s = .next s) ∧
    (tetherOn s = true →
      (∃ x, rose 0 s x ∧ tw s x ∧ keepsRegsBut [(F.twin_FLAGS, 0)] s x ∧ x.twin = { s.twin with
          peerLost := true, hbValid := s.twin.hbValid && !peerSilent s } ∧
        let starts := s.twin.startup = true ∧ s.on F.twin_ROLE 0 = true ∧ peerSilent s = true
        (mayTake s = false → ¬ starts → exec .peerLost s = .next (showUnit x)) ∧
        ((mayTake s = true ∨ starts) → free → ∃ t, exec .peerLost s = .next (showUnit t) ∧ claims x t)) ∧
      (let f := tget s.twin.outSeq 4 0
        let bytes := le 4 (f % 256 * 256 + 12 * 65536) ++ heartbeatBytes s
        let frame := toWords bytes 4 ++ [BitVec.ofNat 32 (crc32c bytes)]
        (∃ t l, exec .heartbeatSend s = .next t ∧ t.twin.sent = s.twin.sent ++ [frame] ++ l) ∧
        (tetherWaiting s = 0 → exec .heartbeatSend s = .next { s with twin := { s.twin with
          sent := s.twin.sent ++ [frame], outSeq := tput s.twin.outSeq 4 ((f + 1) % 256) 0, hbSeq := (s.twin.hbSeq + 1) % 65536 } })) ∧
      (∀ hb, ∃ t, exec (.heartbeatReceived hb) s = .next (showUnit t) ∧ heard hb s t) ∧
      (∀ b, exec (.tetherAlignment b) s = .next (showUnit { s with twin := { s.twin with aligned := b } })) ∧
      (∀ (h : Word) (p : List Word) (crc : Word) (clean : Bool),
        let bad := clean = false ∨ h.toNat / 65536 ≠ 4 * p.length ∨ frameLenOk (h.toNat % 16) (4 * p.length) = false ∨
          crc32c (le 4 h.toNat ++ wordsBytes p) ≠ crc.toNat
        (bad ∨ 2 ≤ h.toNat % 16 → ∃ t, exec (.tetherFrameReceived h p crc clean) s = .next t ∧ t = { s with regs := t.regs } ∧
          up F.twin_TETHER_ERR s t ∧ keepsRegsBut [(F.twin_TETHER_ERR, 0)] s t) ∧
        (¬ bad → h.toNat % 16 = 0 → ∃ x t, exec (.tetherFrameReceived h p crc clean) s = .next (showUnit t) ∧
          heard (heartbeatOf (wordsBytes p)) x t ∧ keepsRegsBut [(F.twin_TETHER_ERR, 0)] s x ∧
          (let f := h.toNat / 256 % 256
            let last := tget s.twin.inSeq 4 0
            x = { s with regs := x.regs, twin := { s.twin with inSeq := tput s.twin.inSeq 4 (f + 1) 0 } } ∧
            x.get F.twin_TETHER_ERR 0 = min (s.get F.twin_TETHER_ERR 0 + (if last = 0 then 0 else (f + 256 - last % 256) % 256)) 0xFFFFFFFF))))

/-- At a window's end the active sends its items in one INTENT record (up to 170) and at TXC_REPORT what it released (up
to 256); a unit that is not active sends nothing. INTENT_RECEIVED at a standby opens a window, TXC_RECEIVED keeps the
latest release for each listener, class and source. COMPARE_WAIT_EXPIRY of a window of one item gives MATCH, DRIVERS,
ACTIVE, STANDBY or UNDECIDED by the table; every verdict but MATCH adds 1 to its counter, sets VERDICT and lengthens
the lane's run; a window that is incomplete gives none. YIELD_RECEIVED from a qualified standby: the owner releases
and is FAULTED. FAULT and CFG_CHECK are kept, a differing generation or image is PAIR_MISMATCH; MODE_REQ queues with
origin 4; RESYNC asks an active for a snapshot. SNAPSHOT_COPY sends the generation, GEN + 1. A chunk goes into the
inactive buffer. With no yard word in error, a commit whose chunks are all there, whose CRC matches and whose
generation follows the committed one becomes it; else SNAP_DISCARDED and SNAP_BAD. REPLAY_END ends the replay. (R397,
R398, R406, R407, R408, R410, R412, R413, R418, R420, R528) -/
def Obligations.TwinMessagesReportCompareAndSnapshot : Prop :=
  ∀ s : State, tetherOn s = true →
    let took := fun (ch : Nat) => takeChannel s ch
    let rose := fun (bit : Nat) (x t : State) => flagged F.twin_FLAGS F.twin_EVEN 0 bit (228 + bit) x t
    let up := fun (f : Field) (x t : State) => t.get f 0 = min (x.get f 0 + 1) 0xFFFFFFFF
    (isActive s = false → exec .intentWindowEnd s = .next s ∧ exec .txcReport s = .next s ∧ exec .snapshotCopy s = .next s) ∧
    (isActive s = true → s.twin.items.length ≤ 170 →
      let win := s.nowNs / 1000000 - 1
      let u := tetherSend s 1 (le 4 (1 + 256 + s.twin.items.length * 65536) ++ le 4 (win / 1000) ++
        le 4 (win / 1000 / 4294967296 % 65536 + win % 1000 * 65536) ++ s.twin.items.flatMap intentBytes)
      exec .intentWindowEnd s = .next { u with twin := { u.twin with items := [] } }) ∧
    (isActive s = true → s.twin.released.length ≤ 256 →
      let u := tetherSend s 1 (le 4 (2 + s.twin.released.length * 65536) ++ le 4 0 ++ s.twin.released.flatMap txcBytes)
      exec .txcReport s = .next { u with twin := { u.twin with released := [] } }) ∧
    (∀ last part win items, let x := took 1;
      (isStandby x = false → exec (.intentReceived last part win items) s = .next x) ∧
      (isStandby x = true → (∀ w ∈ x.twin.windows, w.window ≠ win) → exec (.intentReceived last part win items) s = .next { x with
        twin := { x.twin with windows := x.twin.windows ++ [
          { window := win, parts := part + 1, complete := last, broken := decide (part ≠ 0), items := items }] } })) ∧
    (∀ final more n items, let x := took 1;
      x.twin.handover = none → ∃ l, exec (.txcReceived final more n items) s = .next (showUnit { x with twin := { x.twin with txc := l } }) ∧
        (∀ e, items = [e] → l = x.twin.txc.filter (fun y => !(y.listener == e.listener && y.cls == e.cls && y.source == e.source)) ++ [e])) ∧
    (∀ win line, (∀ w ∈ s.twin.windows, w.window ≠ win) → exec (.compareWaitExpiry win line) s = .next s) ∧
    (∀ w line, s.twin.windows = [w] →
      let v0 := ({ s with twin := { s.twin with windows := [] } } : State)
      ((isStandby s = false ∨ w.complete = false ∨ w.broken = true) → exec (.compareWaitExpiry w.window line) s = .next v0) ∧
      (∀ e, isStandby s = true → w.complete = true → w.broken = false → w.items = [e] → e.item < 3 →
        let l := line.getD 0 none
        let sh := shadowView s e
        let i := some e.value
        let run := tget s.twin.runs e.role (0, 0)
        let judged := fun (v : Nat) (f : Field) => ((s.get F.twin_CONFIRM 0 = 0 ∨ (if run.1 = v then run.2 + 1 else 1) < s.get F.twin_CONFIRM 0) →
          ∃ t, exec (.compareWaitExpiry w.window line) s = .next (showUnit t) ∧ up f s t ∧ rose 4 s t ∧
            t = { s with regs := t.regs, fired := t.fired, twin := t.twin } ∧ keepsRegsBut [(f, 0), (F.twin_FLAGS, 0)] s t ∧
            tget t.twin.runs e.role (0, 0) = (v, if run.1 = v then run.2 + 1 else 1) ∧ t.twin.cleanSince = none ∧ t.twin.windows = [])
        (l = i → sh = i → ∃ t, exec (.compareWaitExpiry w.window line) s = .next (showUnit t) ∧ t = { s with twin := t.twin } ∧
          tget t.twin.runs e.role (0, 0) = (0, 0) ∧ t.twin.windows = [] ∧ t.twin.cleanSince = s.twin.cleanSince) ∧
        (sh = i → l ≠ i → judged 1 F.twin_V_DRIVERS) ∧
        (l = sh → l ≠ none → l ≠ i → judged 2 F.twin_V_ACTIVE) ∧
        (l = i → sh ≠ i → judged 3 F.twin_V_STANDBY) ∧
        (l ≠ i → sh ≠ i → (l ≠ sh ∨ l = none) → judged 4 F.twin_V_UNDECIDED))) ∧
    (∀ v role, let x := took 0
      let heeded := (v = 1 ∨ v = 2) ∧ x.on F.twin_OWN 0 = true ∧ (x.twin.peer.map (·.qualified)).getD false = true
      (¬ heeded → exec (.yieldReceived v role) s = .next x) ∧
      (heeded → ∃ t, exec (.yieldReceived v role) s = .next (showUnit t) ∧ t.get F.twin_OWN 0 = 0 ∧ t.get F.twin_HOLD_OUT 0 = 0 ∧
        t.twin.faulted = true ∧ t.twin.faultLane = some role ∧ (t.get F.twin_FLAGS 0).testBit 3 = true)) ∧
    (∀ code role n, exec (.faultReceived code role n) s =
      .next { took 3 with twin := { (took 3).twin with peerFault := some (code, role, n) } }) ∧
    (∀ issue gen img st, let x := took 3;
      ∃ t, exec (.cfgCheckReceived issue gen img st) s = .next t ∧ t = { x with regs := t.regs, fired := t.fired, twin := { x.twin with peerCheck := some (issue, st) } } ∧
        ((gen ≠ x.gen ∨ img ≠ x.image.id) → rose 7 x t ∧ keepsRegsBut [(F.twin_FLAGS, 0)] x t) ∧
        (gen = x.gen → img = x.image.id → t.regs = x.regs ∧ t.fired = x.fired)) ∧
    (s.running = true → s.on F.twin_PAIRED 0 = true → exec .cfgCheckSend s = .next (tetherSend s 3
      (le 4 (8 + s.get F.host_ISSUE 0 * 65536) ++ le 4 s.gen.toNat ++ le 4 s.image.id.toNat ++ le 4 (modeWord s)))) ∧
    (∀ slot q, let x := took 3;
      (q < 3 → exec (.modeReqReceived slot q) s =
        .next { x with modeReqs := x.modeReqs ++ [{ origin := 4, what := q, slot := slot % 32 }] }) ∧
      (3 ≤ q → exec (.modeReqReceived slot q) s = .next x)) ∧
    (let x := took 0;
      (isActive x = true → exec .resyncReceived s = .next { x with twin := { x.twin with snapNow := true } }) ∧
      (isActive x = false → exec .resyncReceived s = .next x)) ∧
    (∀ m, isActive s = true → s.twin.snapMark = some m → ∃ t, exec .snapshotCopy s = .next t ∧
      t.get F.twin_GEN 0 = (s.get F.twin_GEN 0 + 1) % 2 ^ 32 ∧ t.twin.snapMark = none) ∧
    (let x := took 2;
      (isStandby x = false → ∀ g i d n c m len, exec (.snapshotChunkReceived g i d) s = .next x ∧ exec (.snapshotCommitReceived g n c m len) s = .next x) ∧
      (isStandby x = true →
        (∀ g i (d : List Byte), i < 256 → d.length = 2048 → (x.twin.chunks = [] ∨ x.twin.chunkGen = g) →
          let base := 0x1E00000 + (1 - x.twin.snapBuf) * 0x80000 + 2048 * i
          ∃ t, exec (.snapshotChunkReceived g i d) s = .next t ∧ t = { x with yard := t.yard, yardErr := t.yardErr, poison := t.poison, groomPass := t.groomPass, twin := t.twin } ∧
            t.twin.chunkGen = g ∧ t.twin.chunks.contains i = true ∧
            ∀ a, a < 0x1FFFC00 → t.yardCell a = if base ≤ a ∧ a < base + 2048 then d.getD (a - base) 0 else x.yardCell a) ∧
        (∀ g n (c : Word) m len, x.yardErr = [] →
          let whole := x.twin.chunkGen = g ∧ 1 ≤ n ∧ ∀ i, i < n → i ∈ x.twin.chunks
          let newer := ∀ k, x.twin.commitGen = some k → genNewer g k = true
          let sound := crc32c (x.peek (0x1E00000 + (1 - x.twin.snapBuf) * 0x80000) (min len 0x80000)) = c.toNat
          (whole ∧ newer ∧ sound → g < 2 ^ 32 → ∃ t, exec (.snapshotCommitReceived g n c m len) s = .next (showUnit t) ∧
            t.get F.twin_GEN 0 = g ∧ t.twin.commitMark = some m ∧ t.twin.commitGen = some g ∧ t.twin.snapBuf = 1 - x.twin.snapBuf ∧ t.twin.chunks = [] ∧ t.twin.adopt = true) ∧
          (¬ (whole ∧ newer ∧ sound) → ∃ t, exec (.snapshotCommitReceived g n c m len) s = .next (showUnit t) ∧
            up F.twin_SNAP_DISCARDED x t ∧ rose 5 x t ∧ keepsRegsBut [(F.twin_SNAP_DISCARDED, 0), (F.twin_FLAGS, 0)] x t ∧
            t = { x with regs := t.regs, fired := t.fired, twin := { x.twin with chunks := [] } })))) ∧
    ((s.twin.replaying = false ∨ upstream s = false) → exec .replayEnd s = .next s) ∧
    (s.twin.replaying = true → upstream s = true → ∃ t, exec .replayEnd s = .next (showUnit t) ∧ t.twin.replaying = false ∧
      t.twin.resyncing = false ∧ t.twin.replayQ = [] ∧ t.twin.exact = false)

/-- Without a twin tether every twin command is NOT_FITTED. TWIN_CFG_SET writes its three registers; TWIN_STATUS_GET
answers its words; TWIN_CLEAR_FAULT clears FAULTED, and with CNT_CLR the nine counters, or is STATE where neither
applies. TWIN_SWAP: during a handover, or where the unit can neither give nor take, STATE; else the owner invites, or
the standby asks, and it waits. TWIN_SWAP_TIMEOUT before the final report ends the handover: it answers TIMEOUT.
HANDOVER_MESSAGE_RECEIVED: a request that the owner can grant makes it drain, another is refused with its reason; an
invitation that a qualified standby can take makes it ask; a refusal ends the handover with STATE. HANDOVER_DRAINED:
once all listeners have drained, the final report names the tick. The taking unit owns as HOLD_IN falls after it, and
TWIN_SWAP answers OK. HANDOVER_LANE: each lane changes hands at its own instant; after the last one TWIN_SWAP answers
OK with the tick. AUTO_REVERT: a primary standby, qualified and clean for REVERT_S, asks. (R398, R408, R409, R423,
R424, R426, R427, R428, R431, R490, R509) -/
def Obligations.TwinCommandsAndHandoverMoveOwnership : Prop :=
  (∀ (r : Req) (s : State), takes s r = true →
    (s.part.hasTwin = false →
      exec (.twinStatusGet r) s = .next (refusedWith 0x0801 7 r s) ∧ exec (.twinCfgSet r) s = .next (refusedWith 0x0802 7 r s) ∧
      exec (.twinSwap r) s = .next (refusedWith 0x0803 7 r s) ∧ exec (.twinClearFault r) s = .next (refusedWith 0x0804 7 r s)) ∧
    (s.part.hasTwin = true →
      (r.body.length = 12 → ∃ t, exec (.twinCfgSet r) s = .next (answered 0x0802 true r (showUnit t) []) ∧ t = { s with regs := t.regs } ∧
        rwWritten ⟨.twin, 0, 8⟩ (bodyWord r 0) s t ∧ rwWritten ⟨.twin, 0, 0xC⟩ (bodyWord r 4) s t ∧ rwWritten ⟨.twin, 0, 4⟩ (bodyWord r 8) s t ∧
        keepsRegsOutside (fun q => [⟨.twin, 0, 4⟩, ⟨.twin, 0, 8⟩, ⟨.twin, 0, 0xC⟩].contains q) s t) ∧
      (r.body.length = 0 → let u := showUnit s;
        exec (.twinStatusGet r) s = .next (answered 0x0801 false r u (readWords u .twin 0 0 1 ++ readWords u .twin 0 0x10 3 ++
          readWords u .twin 0 0x20 9 ++ le 4 u.twin.markMiss))) ∧
      (r.body.length = 4 →
        (s.twin.faulted = false → flag r.body 0 0 = false → exec (.twinClearFault r) s = .next (refusedWith 0x0804 9 r s)) ∧
        (s.twin.faulted = true ∨ flag r.body 0 0 = true → ∃ t, exec (.twinClearFault r) s = .next (answered 0x0804 false r (showUnit t) []) ∧
          t = { s with regs := t.regs, twin := { s.twin with faulted := false, faultLane := none, lineFault := [] } } ∧
          (flag r.body 0 0 = false → t.regs = s.regs) ∧
          (flag r.body 0 0 = true → (∀ k, k < 9 → t.reg ⟨.twin, 0, 0x20 + 4 * k⟩ = 0) ∧
            keepsRegsOutside (fun q => q.blk == .twin && decide (0x20 ≤ q.off)) s t))) ∧
      (r.body.length = 0 →
        let give := isActive s = true ∧ (s.twin.peer.map (·.qualified)).getD false = true ∧ tetherUp s = true
        let take := tetherOn s = true ∧ qualified s = true
        let waiting := fun (t : State) => ({ t with waits := t.waits ++ [{ entry := none, opcode := 0x0803, req := r, on := .twinSwap }] } : State)
        (s.twin.handover ≠ none → exec (.twinSwap r) s = .next (refusedWith 0x0803 9 r s)) ∧
        (¬ give → ¬ take → exec (.twinSwap r) s = .next (refusedWith 0x0803 9 r s)) ∧
        (s.twin.handover = none → give → ∃ t, exec (.twinSwap r) s = .next (waiting (showUnit (sendHandover t 0 false 0))) ∧
          t = { s with twin := { s.twin with handover := some { giving := true, revert := false, stage := 1 } } }) ∧
        (s.twin.handover = none → ¬ give → take → ∃ t, exec (.twinSwap r) s = .next (waiting (showUnit (sendHandover t 1 false 0))) ∧
          t = { s with twin := { s.twin with handover := some { giving := false, revert := false, stage := 1 } } })))) ∧
  (∀ s : State, s.part.hasTwin = true →
    let with_ := fun (x : State) (h : Option Handover) => ({ x with twin := { x.twin with handover := h } } : State)
    let swaps := fun (r : Req) => s.waits = [{ entry := none, opcode := 0x0803, req := r, on := .twinSwap }]
    let none' := fun (x : State) => ({ x with waits := [] } : State)
    ((∀ h, s.twin.handover = some h → 3 ≤ h.stage) → exec .twinSwapTimeout s = .next s) ∧
    (∀ h, s.twin.handover = some h → h.stage < 3 →
      (s.waits = [] → exec .twinSwapTimeout s = .next (showUnit (with_ s none))) ∧
      (∀ r, swaps r → exec .twinSwapTimeout s = .next (showUnit (refusedWith 0x0803 11 r (none' (with_ s none)))))) ∧
    (tetherOn s = true → ∀ (rev : Bool) (gen : Word),
      let x := takeChannel s 0
      let y := fun (n : Nat) => ({ x with twin := { x.twin with refuseReason := n } } : State)
      let refused := fun (n : Nat) => showUnit (sendHandover x 2 rev n)
      let mine := x.on F.twin_OWN 0
      let fit := (x.twin.peer.map (·.qualified)).getD false
      (mine = false → exec (.handoverMessageReceived 1 rev 0 gen) s = .next (refused 1)) ∧
      (∀ h, mine = true → x.twin.handover = some h → ¬ (h.giving = true ∧ h.stage = 1) →
        exec (.handoverMessageReceived 1 rev 0 gen) s = .next (refused 2)) ∧
      (mine = true → x.twin.handover = none → fit = false → exec (.handoverMessageReceived 1 rev 0 gen) s = .next (refused 3)) ∧
      (mine = true → x.twin.handover = none → fit = true → gen ≠ x.gen → exec (.handoverMessageReceived 1 rev 0 gen) s = .next (refused 4)) ∧
      (mine = true → x.twin.handover = none → fit = true → gen = x.gen → exec (.handoverMessageReceived 1 rev 0 gen) s =
        .next (showUnit (with_ x (some { giving := true, revert := rev, stage := 2 })))) ∧
      (x.twin.handover = none → gen = x.gen → qualified x = true → exec (.handoverMessageReceived 0 rev 0 gen) s =
        .next (showUnit (sendHandover (with_ x (some { giving := false, revert := rev, stage := 1 })) 1 rev 0))) ∧
      (x.twin.handover = none → gen = x.gen → qualified x = false → exec (.handoverMessageReceived 0 rev 0 gen) s = .next (refused 3)) ∧
      (∀ n, x.twin.handover = none → exec (.handoverMessageReceived 2 rev n gen) s = .next (showUnit (y n))) ∧
      (∀ n h, x.twin.handover = some h → x.waits = [] → exec (.handoverMessageReceived 2 rev n gen) s = .next (showUnit (with_ (y n) none)))) ∧
    (∀ h, s.twin.handover = some h → (h.giving = false ∨ h.stage ≠ 2 ∨ drained s = false) → exec .handoverDrained s = .next s) ∧
    (∀ h, tetherOn s = true → s.twin.handover = some h → h.giving = true → h.stage = 2 → drained s = true → ∃ t n,
      exec .handoverDrained s = .next (showUnit t) ∧ n = handoverTick s % 2 ^ 32 ∧
      t.twin.handover = some { h with stage := 3, tickN := n } ∧ t.twin.released = []) ∧
    (∀ h, s.twin.handover = some h → h.giving = false → h.stage = 3 → s.on F.twin_HOLD_IN 0 = true → s.waits = [] →
      ∃ t, exec (.holdInChange false) s = .next (showUnit t) ∧ t.on F.twin_OWN 0 = true ∧ t.on F.twin_HOLD_OUT 0 = true ∧
        t.twin.handover = none ∧ t.twin.exact = true ∧ t.get F.twin_TAKEOVERS 0 = min (s.get F.twin_TAKEOVERS 0 + 1) 0xFFFFFFFF) ∧
    (∀ n, s.twin.finishing.contains n = false → exec (.handoverLane n) s =
      .next { s with twin := { s.twin with taking := s.twin.taking.filter (fun k => k != n) } }) ∧
    (∀ n k, s.twin.finishing = [n, k] → k ≠ n → exec (.handoverLane n) s = .next { s with twin := { s.twin with finishing := [k] } }) ∧
    (∀ n h, s.twin.finishing = [n] → s.twin.handover = some h → s.waits = [] → ∃ t, exec (.handoverLane n) s = .next (showUnit t) ∧
      t = { s with regs := t.regs, twin := { s.twin with finishing := [], handover := none } } ∧ t.get F.twin_ILK_STATE 0 = 0 ∧
      keepsRegsBut [(F.twin_ILK_STATE, 0)] s t) ∧
    (∀ n h r, s.twin.finishing = [n] → s.twin.handover = some h → swaps r → ∃ t,
      exec (.handoverLane n) s = .next (showUnit (answered 0x0803 false r t (le 4 h.tickN))) ∧
      t = { s with regs := t.regs, twin := { s.twin with finishing := [], handover := none }, waits := [] } ∧
      t.get F.twin_ILK_STATE 0 = 0 ∧ keepsRegsBut [(F.twin_ILK_STATE, 0)] s t) ∧
    (let t := showUnit s
      let due := t.on F.twin_AUTO_REVERT 0 = true ∧ t.on F.twin_ROLE 0 = false ∧ t.get F.twin_UNIT 0 = 2 ∧
        max 1 (t.get F.twin_REVERT_S 0) ≤ t.get F.twin_QUAL_TIME 0
      (¬ due → exec .autoRevert s = .next t) ∧
      (due → exec .autoRevert s = .next (showUnit (sendHandover (with_ t (some { giving := false, revert := true, stage := 1 })) 1 true 0)))))
end

