-- ==== Sys2Proof/Laws/State.lean ====
section
/-! SUPPORT. The register file: what a read gives after a write, of whole words and of fields, and one lemma for each
field of the state under each register update. -/

namespace Sys2Proof.Machine

/-! ### Sparse tables -/

@[simp] theorem tget_tdrop_self {α : Type} (t : Tbl α) (k : Nat) (d : α) : tget (tdrop t k) k d = d := by
  induction t with
  | nil => rfl
  | cons e r ih =>
    unfold tdrop
    split
    · exact ih
    · rename_i h; simp [tget, h, ih]

theorem tget_tdrop_ne {α : Type} (t : Tbl α) {k j : Nat} (h : j ≠ k) (d : α) : tget (tdrop t k) j d = tget t j d := by
  induction t with
  | nil => rfl
  | cons e r ih =>
    unfold tdrop
    split
    · rename_i e1; simp [tget, ih, e1, Ne.symm h]
    · simp [tget, ih]

@[simp] theorem tget_tins_self {α : Type} (t : Tbl α) (k : Nat) (v d : α) : tget (tins t k v) k d = v := by
  induction t with
  | nil => simp [tins, tget]
  | cons e r ih =>
    unfold tins
    split
    · simp [tget]
    · split
      · simp [tget]
      · rename_i h; simp [tget, Ne.symm h, ih]

theorem tget_tins_ne {α : Type} (t : Tbl α) {k j : Nat} (h : j ≠ k) (v d : α) : tget (tins t k v) j d = tget t j d := by
  induction t with
  | nil => simp [tins, tget, Ne.symm h]
  | cons e r ih =>
    unfold tins
    split
    · simp [tget, Ne.symm h]
    · split
      · rename_i e1; simp [tget, Ne.symm h, ← e1]
      · simp [tget, ih]

/-- A table reads back what was put. -/
@[simp] theorem tget_tput_self {α : Type} [DecidableEq α] (t : Tbl α) (k : Nat) (v d : α) : tget (tput t k v d) k d = v := by
  unfold tput
  split
  · rename_i h; simp [h]
  · simp

/-- A put leaves every other key. -/
theorem tget_tput_ne {α : Type} [DecidableEq α] (t : Tbl α) {k j : Nat} (h : j ≠ k) (v d e : α) :
    tget (tput t k v d) j e = tget t j e := by
  unfold tput
  split
  · exact tget_tdrop_ne t h e
  · exact tget_tins_ne t h v e

/-! ### Registers -/

theorem blkCode_inj {a b : Blk} (h : blkCode a = blkCode b) : a = b := by
  revert h; cases a <;> cases b <;> decide

/-- Two registers share a key only where they are one. -/
theorem regKey_inj {a b : RegAddr} (ha : a.inst < 65536) (hao : a.off < 65536) (hb : b.inst < 65536) (hbo : b.off < 65536)
    (h : regKey a = regKey b) : a = b := by
  obtain ⟨ab, ai, ao⟩ := a
  obtain ⟨bb, bi, bo⟩ := b
  simp only [regKey] at *
  have h1 : ao = bo := by omega
  have h2 : ai = bi := by omega
  have h3 : blkCode ab = blkCode bb := by omega
  rw [blkCode_inj h3, h1, h2]

@[simp] theorem State.reg_setReg_self (s : State) (r : RegAddr) (w : Word) : (s.setReg r w).reg r = w := by
  simp [State.reg, State.setReg]

theorem State.reg_setReg_key (s : State) {r q : RegAddr} (h : regKey q ≠ regKey r) (w : Word) :
    (s.setReg r w).reg q = s.reg q := by
  simp only [State.reg, State.setReg]
  exact tget_tput_ne _ h _ _ _

theorem State.reg_setReg_ne (s : State) {r q : RegAddr} (hr : r.inst < 65536) (hro : r.off < 65536) (hq : q.inst < 65536)
    (hqo : q.off < 65536) (h : q ≠ r) (w : Word) : (s.setReg r w).reg q = s.reg q :=
  s.reg_setReg_key (fun e => h (regKey_inj hq hqo hr hro e)) w

/-! ### Fields -/

/-- A field lies inside its word. -/
abbrev Field.fits (f : Field) : Prop := f.lo + f.width ≤ 32

theorem testBit_bits (v lo w k : Nat) : (bits v lo w).testBit k = (decide (k < w) && v.testBit (lo + k)) := by
  unfold bits
  rw [Nat.testBit_mod_two_pow, Nat.testBit_div_two_pow]
  rw [Nat.add_comm]

theorem testBit_mask (f : Field) (k : Nat) : f.mask.testBit k = (decide (f.lo ≤ k) && decide (k < f.lo + f.width)) := by
  unfold Field.mask
  rw [Nat.testBit_mul_two_pow]
  by_cases h : f.lo ≤ k
  · simp only [h, decide_true, Bool.true_and, Nat.testBit_two_pow_sub_one]
    congr 1
    simp only [eq_iff_iff]
    omega
  · simp [h]

theorem testBit_fieldValue (f : Field) (v k : Nat) : (v % 2 ^ f.width * 2 ^ f.lo).testBit k =
    (decide (f.lo ≤ k) && decide (k < f.lo + f.width) && v.testBit (k - f.lo)) := by
  rw [Nat.testBit_mul_two_pow]
  by_cases h : f.lo ≤ k
  · rw [Nat.testBit_mod_two_pow]
    simp only [h, decide_true, Bool.true_and]
    congr 2
    simp only [eq_iff_iff]
    omega
  · simp [h]

/-- Every bit of a word whose field was put. -/
theorem testBit_putField (w : Word) (f : Field) (v k : Nat) (hk : k < 32) : (putField w f v).toNat.testBit k =
    if f.lo ≤ k ∧ k < f.lo + f.width then v.testBit (k - f.lo) else w.toNat.testBit k := by
  have e : ∀ x : Word, x.toNat.testBit k = x.getLsbD k := fun x => BitVec.testBit_toNat x
  rw [e, e]
  unfold putField
  simp only [BitVec.getLsbD_or, BitVec.getLsbD_and, BitVec.getLsbD_not, BitVec.getLsbD_ofNat, hk, decide_true, Bool.true_and,
    testBit_mask, testBit_fieldValue]
  by_cases h1 : f.lo ≤ k <;> by_cases h2 : k < f.lo + f.width <;> simp [h1, h2]

theorem bits_putField_self (w : Word) (f : Field) (hf : f.fits) (v : Nat) :
    bits (putField w f v).toNat f.lo f.width = v % 2 ^ f.width := by
  apply Nat.eq_of_testBit_eq
  intro k
  rw [testBit_bits, Nat.testBit_mod_two_pow]
  by_cases h : k < f.width
  · rw [testBit_putField _ _ _ _ (by have := hf; omega)]
    simp [h]
  · simp [h]

theorem bits_putField_apart (w : Word) (f g : Field) (hg : g.fits) (h : f.lo + f.width ≤ g.lo ∨ g.lo + g.width ≤ f.lo) (v : Nat) :
    bits (putField w f v).toNat g.lo g.width = bits w.toNat g.lo g.width := by
  apply Nat.eq_of_testBit_eq
  intro k
  rw [testBit_bits, testBit_bits]
  by_cases hk : k < g.width
  · rw [testBit_putField _ _ _ _ (by have := hg; omega), if_neg (by omega)]
  · simp [hk]

/-- A field reads back what was put into it, cut to its width. -/
theorem State.get_set_self (s : State) (f : Field) (hf : f.fits) (i v : Nat) : (s.set f i v).get f i = v % 2 ^ f.width := by
  simp only [State.get, State.set, State.reg_setReg_self]
  exact bits_putField_self _ f hf v

/-- Writing a field leaves the other fields of its word. -/
theorem State.get_set_apart (s : State) (f g : Field) (hg : g.fits) (i j : Nat) (ha : f.addr i = g.addr j)
    (h : f.lo + f.width ≤ g.lo ∨ g.lo + g.width ≤ f.lo) (v : Nat) : (s.set f i v).get g j = s.get g j := by
  simp only [State.get, State.set, ← ha, State.reg_setReg_self]
  exact bits_putField_apart _ f g hg h v

/-- Writing a field leaves every other register. -/
theorem State.get_set_key (s : State) (f g : Field) (i j : Nat) (h : regKey (g.addr j) ≠ regKey (f.addr i)) (v : Nat) :
    (s.set f i v).get g j = s.get g j := by
  simp only [State.get, State.set]
  rw [State.reg_setReg_key _ h]

theorem State.reg_set_key (s : State) (f : Field) (i v : Nat) (q : RegAddr) (h : regKey q ≠ regKey (f.addr i)) :
    (s.set f i v).reg q = s.reg q := State.reg_setReg_key _ h _

/-- Registers of two blocks never share a key. -/
theorem regKey_blk {a b : RegAddr} (ha : a.inst < 65536) (hao : a.off < 65536) (hb : b.inst < 65536) (hbo : b.off < 65536)
    (h : a.blk ≠ b.blk) : regKey a ≠ regKey b := fun e => h (congrArg RegAddr.blk (regKey_inj ha hao hb hbo e))

/-- Two field writes of one word in turn: the second of the same field stands. -/
theorem putField_mask (w : Word) (f : Field) (v : Nat) :
    putField w f v &&& ~~~ BitVec.ofNat 32 f.mask = w &&& ~~~ BitVec.ofNat 32 f.mask := by
  apply BitVec.eq_of_getLsbD_eq
  intro k hk
  have e : ∀ x : Word, x.getLsbD k = x.toNat.testBit k := fun x => (BitVec.testBit_toNat x).symm
  simp only [BitVec.getLsbD_and, BitVec.getLsbD_not, BitVec.getLsbD_ofNat, hk, decide_true, Bool.true_and, testBit_mask]
  rw [e, e, testBit_putField _ _ _ _ hk]
  by_cases h1 : f.lo ≤ k <;> by_cases h2 : k < f.lo + f.width <;> simp [h1, h2]

/-- Writing a field leaves the fields beside it in the same register. -/
theorem State.get_set_beside (s : State) (f g : Field) (i v : Nat) (hb : f.blk = g.blk) (ho : f.off = g.off) (hg : g.fits)
    (h : f.lo + f.width ≤ g.lo ∨ g.lo + g.width ≤ f.lo) : (s.set f i v).get g i = s.get g i :=
  s.get_set_apart f g hg i i (by simp [Field.addr, hb, ho]) h v

/-- Writing a field leaves the registers at other offsets. -/
theorem State.get_set_off (s : State) (f g : Field) (i j v : Nat) (h : f.off % 65536 ≠ g.off % 65536) :
    (s.set f i v).get g j = s.get g j := by
  apply s.get_set_key
  simp only [regKey, Field.addr]
  omega

/-- Writing a field leaves the other objects of its block. -/
theorem State.get_set_inst (s : State) (f g : Field) (i j v : Nat) (hi : i < 65536) (hj : j < 65536) (h : i ≠ j)
    (hf : f.off < 65536) (hg : g.off < 65536) : (s.set f i v).get g j = s.get g j := by
  apply s.get_set_key
  simp only [regKey, Field.addr]
  omega

/-- Writing a field leaves the other blocks. -/
theorem State.get_set_blk (s : State) (f g : Field) (i j v : Nat) (h : f.blk ≠ g.blk) (hi : i < 65536) (hj : j < 65536)
    (hf : f.off < 65536) (hg : g.off < 65536) : (s.set f i v).get g j = s.get g j :=
  s.get_set_key f g i j (regKey_blk (a := g.addr j) (b := f.addr i) hj hg hi hf (Ne.symm h)) v

/-- A field read only sees the register file. -/
theorem State.get_congr {s t : State} (h : t.regs = s.regs) (f : Field) (i : Nat) : t.get f i = s.get f i := by
  simp [State.get, State.reg, h]

/-! ### Masks of numbers -/

theorem testBit_foldl_pow (l : List Nat) (m k : Nat) :
    (l.foldl (fun m i => m ||| 2 ^ i) m).testBit k = (m.testBit k || l.contains k) := by
  induction l generalizing m with
  | nil => simp
  | cons a l ih =>
    rw [List.foldl_cons, ih, Nat.testBit_or, Nat.testBit_two_pow]
    by_cases h : a = k
    · simp [h]
    · simp [h, Ne.symm h]

/-- The bits of a mask are the numbers of its list. -/
@[simp] theorem testBit_maskOf (l : List Nat) (k : Nat) : (maskOf l).testBit k = l.contains k := by
  simp [maskOf, testBit_foldl_pow]

/-- The list of a number's bits. -/
@[simp] theorem mem_setBits (n v k : Nat) : k ∈ setBits n v ↔ k < n ∧ v.testBit k = true := by
  simp [setBits]

theorem get_lt (s : State) (f : Field) (i : Nat) : s.get f i < 2 ^ f.width := Nat.mod_lt _ (Nat.two_pow_pos _)

theorem testBit_ge {v n k : Nat} (h : v < 2 ^ n) (hk : n ≤ k) : v.testBit k = false :=
  Nat.testBit_lt_two_pow (lt_of_lt_of_le h (Nat.pow_le_pow_right (by decide) hk))


/-! ### `State.setReg` leaves every field but the register file -/

@[simp] theorem State.setReg_pending (s : State) (r : RegAddr) (w : Word) : (s.setReg r w).pending = s.pending := rfl
@[simp] theorem State.setReg_part (s : State) (r : RegAddr) (w : Word) : (s.setReg r w).part = s.part := rfl
@[simp] theorem State.setReg_stepping (s : State) (r : RegAddr) (w : Word) : (s.setReg r w).stepping = s.stepping := rfl
@[simp] theorem State.setReg_tod (s : State) (r : RegAddr) (w : Word) : (s.setReg r w).tod = s.tod := rfl
@[simp] theorem State.setReg_stepped (s : State) (r : RegAddr) (w : Word) : (s.setReg r w).stepped = s.stepped := rfl
@[simp] theorem State.setReg_refclk (s : State) (r : RegAddr) (w : Word) : (s.setReg r w).refclk = s.refclk := rfl
@[simp] theorem State.setReg_drawn (s : State) (r : RegAddr) (w : Word) : (s.setReg r w).drawn = s.drawn := rfl
@[simp] theorem State.setReg_yard (s : State) (r : RegAddr) (w : Word) : (s.setReg r w).yard = s.yard := rfl
@[simp] theorem State.setReg_tablesReady (s : State) (r : RegAddr) (w : Word) : (s.setReg r w).tablesReady = s.tablesReady := rfl
@[simp] theorem State.setReg_yardOut (s : State) (r : RegAddr) (w : Word) : (s.setReg r w).yardOut = s.yardOut := rfl
@[simp] theorem State.setReg_yardErr (s : State) (r : RegAddr) (w : Word) : (s.setReg r w).yardErr = s.yardErr := rfl
@[simp] theorem State.setReg_poison (s : State) (r : RegAddr) (w : Word) : (s.setReg r w).poison = s.poison := rfl
@[simp] theorem State.setReg_flash (s : State) (r : RegAddr) (w : Word) : (s.setReg r w).flash = s.flash := rfl
@[simp] theorem State.setReg_tack (s : State) (r : RegAddr) (w : Word) : (s.setReg r w).tack = s.tack := rfl
@[simp] theorem State.setReg_tackErr (s : State) (r : RegAddr) (w : Word) : (s.setReg r w).tackErr = s.tackErr := rfl
@[simp] theorem State.setReg_mbi (s : State) (r : RegAddr) (w : Word) : (s.setReg r w).mbi = s.mbi := rfl
@[simp] theorem State.setReg_mbo (s : State) (r : RegAddr) (w : Word) : (s.setReg r w).mbo = s.mbo := rfl
@[simp] theorem State.setReg_rx (s : State) (r : RegAddr) (w : Word) : (s.setReg r w).rx = s.rx := rfl
@[simp] theorem State.setReg_tx (s : State) (r : RegAddr) (w : Word) : (s.setReg r w).tx = s.tx := rfl
@[simp] theorem State.setReg_enc (s : State) (r : RegAddr) (w : Word) : (s.setReg r w).enc = s.enc := rfl
@[simp] theorem State.setReg_srcs (s : State) (r : RegAddr) (w : Word) : (s.setReg r w).srcs = s.srcs := rfl
@[simp] theorem State.setReg_eligible (s : State) (r : RegAddr) (w : Word) : (s.setReg r w).eligible = s.eligible := rfl
@[simp] theorem State.setReg_lastElig (s : State) (r : RegAddr) (w : Word) : (s.setReg r w).lastElig = s.lastElig := rfl
@[simp] theorem State.setReg_lastOther (s : State) (r : RegAddr) (w : Word) : (s.setReg r w).lastOther = s.lastOther := rfl
@[simp] theorem State.setReg_entries (s : State) (r : RegAddr) (w : Word) : (s.setReg r w).entries = s.entries := rfl
@[simp] theorem State.setReg_actions (s : State) (r : RegAddr) (w : Word) : (s.setReg r w).actions = s.actions := rfl
@[simp] theorem State.setReg_groups (s : State) (r : RegAddr) (w : Word) : (s.setReg r w).groups = s.groups := rfl
@[simp] theorem State.setReg_bindings (s : State) (r : RegAddr) (w : Word) : (s.setReg r w).bindings = s.bindings := rfl
@[simp] theorem State.setReg_unbound (s : State) (r : RegAddr) (w : Word) : (s.setReg r w).unbound = s.unbound := rfl
@[simp] theorem State.setReg_hits (s : State) (r : RegAddr) (w : Word) : (s.setReg r w).hits = s.hits := rfl
@[simp] theorem State.setReg_acts (s : State) (r : RegAddr) (w : Word) : (s.setReg r w).acts = s.acts := rfl
@[simp] theorem State.setReg_commitAsked (s : State) (r : RegAddr) (w : Word) : (s.setReg r w).commitAsked = s.commitAsked := rfl
@[simp] theorem State.setReg_sweepDue (s : State) (r : RegAddr) (w : Word) : (s.setReg r w).sweepDue = s.sweepDue := rfl
@[simp] theorem State.setReg_routerStaged (s : State) (r : RegAddr) (w : Word) : (s.setReg r w).routerStaged = s.routerStaged := rfl
@[simp] theorem State.setReg_routerQ (s : State) (r : RegAddr) (w : Word) : (s.setReg r w).routerQ = s.routerQ := rfl
@[simp] theorem State.setReg_voterQ (s : State) (r : RegAddr) (w : Word) : (s.setReg r w).voterQ = s.voterQ := rfl
@[simp] theorem State.setReg_ballots (s : State) (r : RegAddr) (w : Word) : (s.setReg r w).ballots = s.ballots := rfl
@[simp] theorem State.setReg_agreeRun (s : State) (r : RegAddr) (w : Word) : (s.setReg r w).agreeRun = s.agreeRun := rfl
@[simp] theorem State.setReg_latches (s : State) (r : RegAddr) (w : Word) : (s.setReg r w).latches = s.latches := rfl
@[simp] theorem State.setReg_stalls (s : State) (r : RegAddr) (w : Word) : (s.setReg r w).stalls = s.stalls := rfl
@[simp] theorem State.setReg_logSeq (s : State) (r : RegAddr) (w : Word) : (s.setReg r w).logSeq = s.logSeq := rfl
@[simp] theorem State.setReg_groomPass (s : State) (r : RegAddr) (w : Word) : (s.setReg r w).groomPass = s.groomPass := rfl
@[simp] theorem State.setReg_groomNext (s : State) (r : RegAddr) (w : Word) : (s.setReg r w).groomNext = s.groomNext := rfl
@[simp] theorem State.setReg_voidRun (s : State) (r : RegAddr) (w : Word) : (s.setReg r w).voidRun = s.voidRun := rfl
@[simp] theorem State.setReg_trackers (s : State) (r : RegAddr) (w : Word) : (s.setReg r w).trackers = s.trackers := rfl
@[simp] theorem State.setReg_trackAge (s : State) (r : RegAddr) (w : Word) : (s.setReg r w).trackAge = s.trackAge := rfl
@[simp] theorem State.setReg_persistMap (s : State) (r : RegAddr) (w : Word) : (s.setReg r w).persistMap = s.persistMap := rfl
@[simp] theorem State.setReg_pulses (s : State) (r : RegAddr) (w : Word) : (s.setReg r w).pulses = s.pulses := rfl
@[simp] theorem State.setReg_caps (s : State) (r : RegAddr) (w : Word) : (s.setReg r w).caps = s.caps := rfl
@[simp] theorem State.setReg_frame (s : State) (r : RegAddr) (w : Word) : (s.setReg r w).frame = s.frame := rfl
@[simp] theorem State.setReg_servo (s : State) (r : RegAddr) (w : Word) : (s.setReg r w).servo = s.servo := rfl
@[simp] theorem State.setReg_zones (s : State) (r : RegAddr) (w : Word) : (s.setReg r w).zones = s.zones := rfl
@[simp] theorem State.setReg_readings (s : State) (r : RegAddr) (w : Word) : (s.setReg r w).readings = s.readings := rfl
@[simp] theorem State.setReg_pixDue (s : State) (r : RegAddr) (w : Word) : (s.setReg r w).pixDue = s.pixDue := rfl
@[simp] theorem State.setReg_pixTicked (s : State) (r : RegAddr) (w : Word) : (s.setReg r w).pixTicked = s.pixTicked := rfl
@[simp] theorem State.setReg_stagedEnc (s : State) (r : RegAddr) (w : Word) : (s.setReg r w).stagedEnc = s.stagedEnc := rfl
@[simp] theorem State.setReg_stagedGroup (s : State) (r : RegAddr) (w : Word) : (s.setReg r w).stagedGroup = s.stagedGroup := rfl
@[simp] theorem State.setReg_stagedDelay (s : State) (r : RegAddr) (w : Word) : (s.setReg r w).stagedDelay = s.stagedDelay := rfl
@[simp] theorem State.setReg_runNow (s : State) (r : RegAddr) (w : Word) : (s.setReg r w).runNow = s.runNow := rfl
@[simp] theorem State.setReg_srcNow (s : State) (r : RegAddr) (w : Word) : (s.setReg r w).srcNow = s.srcNow := rfl
@[simp] theorem State.setReg_curves (s : State) (r : RegAddr) (w : Word) : (s.setReg r w).curves = s.curves := rfl
@[simp] theorem State.setReg_curveDue (s : State) (r : RegAddr) (w : Word) : (s.setReg r w).curveDue = s.curveDue := rfl
@[simp] theorem State.setReg_seedLeft (s : State) (r : RegAddr) (w : Word) : (s.setReg r w).seedLeft = s.seedLeft := rfl
@[simp] theorem State.setReg_seedHeld (s : State) (r : RegAddr) (w : Word) : (s.setReg r w).seedHeld = s.seedHeld := rfl
@[simp] theorem State.setReg_univs (s : State) (r : RegAddr) (w : Word) : (s.setReg r w).univs = s.univs := rfl
@[simp] theorem State.setReg_syncOff (s : State) (r : RegAddr) (w : Word) : (s.setReg r w).syncOff = s.syncOff := rfl
@[simp] theorem State.setReg_channels (s : State) (r : RegAddr) (w : Word) : (s.setReg r w).channels = s.channels := rfl
@[simp] theorem State.setReg_spares (s : State) (r : RegAddr) (w : Word) : (s.setReg r w).spares = s.spares := rfl
@[simp] theorem State.setReg_calSeq (s : State) (r : RegAddr) (w : Word) : (s.setReg r w).calSeq = s.calSeq := rfl
@[simp] theorem State.setReg_calHeld (s : State) (r : RegAddr) (w : Word) : (s.setReg r w).calHeld = s.calHeld := rfl
@[simp] theorem State.setReg_calSaved (s : State) (r : RegAddr) (w : Word) : (s.setReg r w).calSaved = s.calSaved := rfl
@[simp] theorem State.setReg_calUnsaved (s : State) (r : RegAddr) (w : Word) : (s.setReg r w).calUnsaved = s.calUnsaved := rfl
@[simp] theorem State.setReg_twin (s : State) (r : RegAddr) (w : Word) : (s.setReg r w).twin = s.twin := rfl
@[simp] theorem State.setReg_stream (s : State) (r : RegAddr) (w : Word) : (s.setReg r w).stream = s.stream := rfl
@[simp] theorem State.setReg_eth (s : State) (r : RegAddr) (w : Word) : (s.setReg r w).eth = s.eth := rfl
@[simp] theorem State.setReg_spiOut (s : State) (r : RegAddr) (w : Word) : (s.setReg r w).spiOut = s.spiOut := rfl
@[simp] theorem State.setReg_ackNo (s : State) (r : RegAddr) (w : Word) : (s.setReg r w).ackNo = s.ackNo := rfl
@[simp] theorem State.setReg_rungBy (s : State) (r : RegAddr) (w : Word) : (s.setReg r w).rungBy = s.rungBy := rfl
@[simp] theorem State.setReg_ringNo (s : State) (r : RegAddr) (w : Word) : (s.setReg r w).ringNo = s.ringNo := rfl
@[simp] theorem State.setReg_mbFrom (s : State) (r : RegAddr) (w : Word) : (s.setReg r w).mbFrom = s.mbFrom := rfl
@[simp] theorem State.setReg_mbWait (s : State) (r : RegAddr) (w : Word) : (s.setReg r w).mbWait = s.mbWait := rfl
@[simp] theorem State.setReg_cmds (s : State) (r : RegAddr) (w : Word) : (s.setReg r w).cmds = s.cmds := rfl
@[simp] theorem State.setReg_waits (s : State) (r : RegAddr) (w : Word) : (s.setReg r w).waits = s.waits := rfl
@[simp] theorem State.setReg_spill (s : State) (r : RegAddr) (w : Word) : (s.setReg r w).spill = s.spill := rfl
@[simp] theorem State.setReg_spillCount (s : State) (r : RegAddr) (w : Word) : (s.setReg r w).spillCount = s.spillCount := rfl
@[simp] theorem State.setReg_fired (s : State) (r : RegAddr) (w : Word) : (s.setReg r w).fired = s.fired := rfl
@[simp] theorem State.setReg_evts (s : State) (r : RegAddr) (w : Word) : (s.setReg r w).evts = s.evts := rfl
@[simp] theorem State.setReg_evtSeq (s : State) (r : RegAddr) (w : Word) : (s.setReg r w).evtSeq = s.evtSeq := rfl
@[simp] theorem State.setReg_spillSeq (s : State) (r : RegAddr) (w : Word) : (s.setReg r w).spillSeq = s.spillSeq := rfl
@[simp] theorem State.setReg_gen (s : State) (r : RegAddr) (w : Word) : (s.setReg r w).gen = s.gen := rfl
@[simp] theorem State.setReg_fwStarted (s : State) (r : RegAddr) (w : Word) : (s.setReg r w).fwStarted = s.fwStarted := rfl
@[simp] theorem State.setReg_restartCause (s : State) (r : RegAddr) (w : Word) : (s.setReg r w).restartCause = s.restartCause := rfl
@[simp] theorem State.setReg_restarting (s : State) (r : RegAddr) (w : Word) : (s.setReg r w).restarting = s.restarting := rfl
@[simp] theorem State.setReg_sessions (s : State) (r : RegAddr) (w : Word) : (s.setReg r w).sessions = s.sessions := rfl
@[simp] theorem State.setReg_image (s : State) (r : RegAddr) (w : Word) : (s.setReg r w).image = s.image := rfl
@[simp] theorem State.setReg_imageTouched (s : State) (r : RegAddr) (w : Word) : (s.setReg r w).imageTouched = s.imageTouched := rfl
@[simp] theorem State.setReg_erased (s : State) (r : RegAddr) (w : Word) : (s.setReg r w).erased = s.erased := rfl
@[simp] theorem State.setReg_fellBack (s : State) (r : RegAddr) (w : Word) : (s.setReg r w).fellBack = s.fellBack := rfl
@[simp] theorem State.setReg_sealed (s : State) (r : RegAddr) (w : Word) : (s.setReg r w).sealed = s.sealed := rfl
@[simp] theorem State.setReg_mode (s : State) (r : RegAddr) (w : Word) : (s.setReg r w).mode = s.mode := rfl
@[simp] theorem State.setReg_emerg (s : State) (r : RegAddr) (w : Word) : (s.setReg r w).emerg = s.emerg := rfl
@[simp] theorem State.setReg_modeReqs (s : State) (r : RegAddr) (w : Word) : (s.setReg r w).modeReqs = s.modeReqs := rfl
@[simp] theorem State.setReg_modeWait (s : State) (r : RegAddr) (w : Word) : (s.setReg r w).modeWait = s.modeWait := rfl
@[simp] theorem State.setReg_modePost (s : State) (r : RegAddr) (w : Word) : (s.setReg r w).modePost = s.modePost := rfl
@[simp] theorem State.setReg_switched (s : State) (r : RegAddr) (w : Word) : (s.setReg r w).switched = s.switched := rfl
@[simp] theorem State.setReg_caughtUp (s : State) (r : RegAddr) (w : Word) : (s.setReg r w).caughtUp = s.caughtUp := rfl
@[simp] theorem State.setReg_keys (s : State) (r : RegAddr) (w : Word) : (s.setReg r w).keys = s.keys := rfl
@[simp] theorem State.setReg_panelEncs (s : State) (r : RegAddr) (w : Word) : (s.setReg r w).panelEncs = s.panelEncs := rfl
@[simp] theorem State.setReg_leds (s : State) (r : RegAddr) (w : Word) : (s.setReg r w).leds = s.leds := rfl
@[simp] theorem State.setReg_sched (s : State) (r : RegAddr) (w : Word) : (s.setReg r w).sched = s.sched := rfl
@[simp] theorem State.setReg_boot (s : State) (r : RegAddr) (w : Word) : (s.setReg r w).boot = s.boot := rfl
@[simp] theorem State.setReg_shedPlan (s : State) (r : RegAddr) (w : Word) : (s.setReg r w).shedPlan = s.shedPlan := rfl
@[simp] theorem State.setReg_railDown (s : State) (r : RegAddr) (w : Word) : (s.setReg r w).railDown = s.railDown := rfl
@[simp] theorem State.setReg_brownRails (s : State) (r : RegAddr) (w : Word) : (s.setReg r w).brownRails = s.brownRails := rfl
@[simp] theorem State.setReg_tamperOn (s : State) (r : RegAddr) (w : Word) : (s.setReg r w).tamperOn = s.tamperOn := rfl
@[simp] theorem State.setReg_recoveryDue (s : State) (r : RegAddr) (w : Word) : (s.setReg r w).recoveryDue = s.recoveryDue := rfl
@[simp] theorem State.setReg_bypassPin (s : State) (r : RegAddr) (w : Word) : (s.setReg r w).bypassPin = s.bypassPin := rfl
@[simp] theorem State.setReg_bypassCmd (s : State) (r : RegAddr) (w : Word) : (s.setReg r w).bypassCmd = s.bypassCmd := rfl
@[simp] theorem State.setReg_pairs (s : State) (r : RegAddr) (w : Word) : (s.setReg r w).pairs = s.pairs := rfl
@[simp] theorem State.setReg_fuseSealed (s : State) (r : RegAddr) (w : Word) : (s.setReg r w).fuseSealed = s.fuseSealed := rfl
@[simp] theorem State.setReg_fuseRetired (s : State) (r : RegAddr) (w : Word) : (s.setReg r w).fuseRetired = s.fuseRetired := rfl
@[simp] theorem State.setReg_fuseKeys (s : State) (r : RegAddr) (w : Word) : (s.setReg r w).fuseKeys = s.fuseKeys := rfl
@[simp] theorem State.setReg_fuseArmed (s : State) (r : RegAddr) (w : Word) : (s.setReg r w).fuseArmed = s.fuseArmed := rfl
@[simp] theorem State.setReg_fuseMask (s : State) (r : RegAddr) (w : Word) : (s.setReg r w).fuseMask = s.fuseMask := rfl
@[simp] theorem State.setReg_service (s : State) (r : RegAddr) (w : Word) : (s.setReg r w).service = s.service := rfl
@[simp] theorem State.setReg_retireDue (s : State) (r : RegAddr) (w : Word) : (s.setReg r w).retireDue = s.retireDue := rfl
@[simp] theorem State.setReg_enrolled (s : State) (r : RegAddr) (w : Word) : (s.setReg r w).enrolled = s.enrolled := rfl

/-! ### `State.set` leaves every field but the register file -/

@[simp] theorem State.set_pending (s : State) (f : Field) (i v : Nat) : (s.set f i v).pending = s.pending := rfl
@[simp] theorem State.set_part (s : State) (f : Field) (i v : Nat) : (s.set f i v).part = s.part := rfl
@[simp] theorem State.set_stepping (s : State) (f : Field) (i v : Nat) : (s.set f i v).stepping = s.stepping := rfl
@[simp] theorem State.set_tod (s : State) (f : Field) (i v : Nat) : (s.set f i v).tod = s.tod := rfl
@[simp] theorem State.set_stepped (s : State) (f : Field) (i v : Nat) : (s.set f i v).stepped = s.stepped := rfl
@[simp] theorem State.set_refclk (s : State) (f : Field) (i v : Nat) : (s.set f i v).refclk = s.refclk := rfl
@[simp] theorem State.set_drawn (s : State) (f : Field) (i v : Nat) : (s.set f i v).drawn = s.drawn := rfl
@[simp] theorem State.set_yard (s : State) (f : Field) (i v : Nat) : (s.set f i v).yard = s.yard := rfl
@[simp] theorem State.set_tablesReady (s : State) (f : Field) (i v : Nat) : (s.set f i v).tablesReady = s.tablesReady := rfl
@[simp] theorem State.set_yardOut (s : State) (f : Field) (i v : Nat) : (s.set f i v).yardOut = s.yardOut := rfl
@[simp] theorem State.set_yardErr (s : State) (f : Field) (i v : Nat) : (s.set f i v).yardErr = s.yardErr := rfl
@[simp] theorem State.set_poison (s : State) (f : Field) (i v : Nat) : (s.set f i v).poison = s.poison := rfl
@[simp] theorem State.set_flash (s : State) (f : Field) (i v : Nat) : (s.set f i v).flash = s.flash := rfl
@[simp] theorem State.set_tack (s : State) (f : Field) (i v : Nat) : (s.set f i v).tack = s.tack := rfl
@[simp] theorem State.set_tackErr (s : State) (f : Field) (i v : Nat) : (s.set f i v).tackErr = s.tackErr := rfl
@[simp] theorem State.set_mbi (s : State) (f : Field) (i v : Nat) : (s.set f i v).mbi = s.mbi := rfl
@[simp] theorem State.set_mbo (s : State) (f : Field) (i v : Nat) : (s.set f i v).mbo = s.mbo := rfl
@[simp] theorem State.set_rx (s : State) (f : Field) (i v : Nat) : (s.set f i v).rx = s.rx := rfl
@[simp] theorem State.set_tx (s : State) (f : Field) (i v : Nat) : (s.set f i v).tx = s.tx := rfl
@[simp] theorem State.set_enc (s : State) (f : Field) (i v : Nat) : (s.set f i v).enc = s.enc := rfl
@[simp] theorem State.set_srcs (s : State) (f : Field) (i v : Nat) : (s.set f i v).srcs = s.srcs := rfl
@[simp] theorem State.set_eligible (s : State) (f : Field) (i v : Nat) : (s.set f i v).eligible = s.eligible := rfl
@[simp] theorem State.set_lastElig (s : State) (f : Field) (i v : Nat) : (s.set f i v).lastElig = s.lastElig := rfl
@[simp] theorem State.set_lastOther (s : State) (f : Field) (i v : Nat) : (s.set f i v).lastOther = s.lastOther := rfl
@[simp] theorem State.set_entries (s : State) (f : Field) (i v : Nat) : (s.set f i v).entries = s.entries := rfl
@[simp] theorem State.set_actions (s : State) (f : Field) (i v : Nat) : (s.set f i v).actions = s.actions := rfl
@[simp] theorem State.set_groups (s : State) (f : Field) (i v : Nat) : (s.set f i v).groups = s.groups := rfl
@[simp] theorem State.set_bindings (s : State) (f : Field) (i v : Nat) : (s.set f i v).bindings = s.bindings := rfl
@[simp] theorem State.set_unbound (s : State) (f : Field) (i v : Nat) : (s.set f i v).unbound = s.unbound := rfl
@[simp] theorem State.set_hits (s : State) (f : Field) (i v : Nat) : (s.set f i v).hits = s.hits := rfl
@[simp] theorem State.set_acts (s : State) (f : Field) (i v : Nat) : (s.set f i v).acts = s.acts := rfl
@[simp] theorem State.set_commitAsked (s : State) (f : Field) (i v : Nat) : (s.set f i v).commitAsked = s.commitAsked := rfl
@[simp] theorem State.set_sweepDue (s : State) (f : Field) (i v : Nat) : (s.set f i v).sweepDue = s.sweepDue := rfl
@[simp] theorem State.set_routerStaged (s : State) (f : Field) (i v : Nat) : (s.set f i v).routerStaged = s.routerStaged := rfl
@[simp] theorem State.set_routerQ (s : State) (f : Field) (i v : Nat) : (s.set f i v).routerQ = s.routerQ := rfl
@[simp] theorem State.set_voterQ (s : State) (f : Field) (i v : Nat) : (s.set f i v).voterQ = s.voterQ := rfl
@[simp] theorem State.set_ballots (s : State) (f : Field) (i v : Nat) : (s.set f i v).ballots = s.ballots := rfl
@[simp] theorem State.set_agreeRun (s : State) (f : Field) (i v : Nat) : (s.set f i v).agreeRun = s.agreeRun := rfl
@[simp] theorem State.set_latches (s : State) (f : Field) (i v : Nat) : (s.set f i v).latches = s.latches := rfl
@[simp] theorem State.set_stalls (s : State) (f : Field) (i v : Nat) : (s.set f i v).stalls = s.stalls := rfl
@[simp] theorem State.set_logSeq (s : State) (f : Field) (i v : Nat) : (s.set f i v).logSeq = s.logSeq := rfl
@[simp] theorem State.set_groomPass (s : State) (f : Field) (i v : Nat) : (s.set f i v).groomPass = s.groomPass := rfl
@[simp] theorem State.set_groomNext (s : State) (f : Field) (i v : Nat) : (s.set f i v).groomNext = s.groomNext := rfl
@[simp] theorem State.set_voidRun (s : State) (f : Field) (i v : Nat) : (s.set f i v).voidRun = s.voidRun := rfl
@[simp] theorem State.set_trackers (s : State) (f : Field) (i v : Nat) : (s.set f i v).trackers = s.trackers := rfl
@[simp] theorem State.set_trackAge (s : State) (f : Field) (i v : Nat) : (s.set f i v).trackAge = s.trackAge := rfl
@[simp] theorem State.set_persistMap (s : State) (f : Field) (i v : Nat) : (s.set f i v).persistMap = s.persistMap := rfl
@[simp] theorem State.set_pulses (s : State) (f : Field) (i v : Nat) : (s.set f i v).pulses = s.pulses := rfl
@[simp] theorem State.set_caps (s : State) (f : Field) (i v : Nat) : (s.set f i v).caps = s.caps := rfl
@[simp] theorem State.set_frame (s : State) (f : Field) (i v : Nat) : (s.set f i v).frame = s.frame := rfl
@[simp] theorem State.set_servo (s : State) (f : Field) (i v : Nat) : (s.set f i v).servo = s.servo := rfl
@[simp] theorem State.set_zones (s : State) (f : Field) (i v : Nat) : (s.set f i v).zones = s.zones := rfl
@[simp] theorem State.set_readings (s : State) (f : Field) (i v : Nat) : (s.set f i v).readings = s.readings := rfl
@[simp] theorem State.set_pixDue (s : State) (f : Field) (i v : Nat) : (s.set f i v).pixDue = s.pixDue := rfl
@[simp] theorem State.set_pixTicked (s : State) (f : Field) (i v : Nat) : (s.set f i v).pixTicked = s.pixTicked := rfl
@[simp] theorem State.set_stagedEnc (s : State) (f : Field) (i v : Nat) : (s.set f i v).stagedEnc = s.stagedEnc := rfl
@[simp] theorem State.set_stagedGroup (s : State) (f : Field) (i v : Nat) : (s.set f i v).stagedGroup = s.stagedGroup := rfl
@[simp] theorem State.set_stagedDelay (s : State) (f : Field) (i v : Nat) : (s.set f i v).stagedDelay = s.stagedDelay := rfl
@[simp] theorem State.set_runNow (s : State) (f : Field) (i v : Nat) : (s.set f i v).runNow = s.runNow := rfl
@[simp] theorem State.set_srcNow (s : State) (f : Field) (i v : Nat) : (s.set f i v).srcNow = s.srcNow := rfl
@[simp] theorem State.set_curves (s : State) (f : Field) (i v : Nat) : (s.set f i v).curves = s.curves := rfl
@[simp] theorem State.set_curveDue (s : State) (f : Field) (i v : Nat) : (s.set f i v).curveDue = s.curveDue := rfl
@[simp] theorem State.set_seedLeft (s : State) (f : Field) (i v : Nat) : (s.set f i v).seedLeft = s.seedLeft := rfl
@[simp] theorem State.set_seedHeld (s : State) (f : Field) (i v : Nat) : (s.set f i v).seedHeld = s.seedHeld := rfl
@[simp] theorem State.set_univs (s : State) (f : Field) (i v : Nat) : (s.set f i v).univs = s.univs := rfl
@[simp] theorem State.set_syncOff (s : State) (f : Field) (i v : Nat) : (s.set f i v).syncOff = s.syncOff := rfl
@[simp] theorem State.set_channels (s : State) (f : Field) (i v : Nat) : (s.set f i v).channels = s.channels := rfl
@[simp] theorem State.set_spares (s : State) (f : Field) (i v : Nat) : (s.set f i v).spares = s.spares := rfl
@[simp] theorem State.set_calSeq (s : State) (f : Field) (i v : Nat) : (s.set f i v).calSeq = s.calSeq := rfl
@[simp] theorem State.set_calHeld (s : State) (f : Field) (i v : Nat) : (s.set f i v).calHeld = s.calHeld := rfl
@[simp] theorem State.set_calSaved (s : State) (f : Field) (i v : Nat) : (s.set f i v).calSaved = s.calSaved := rfl
@[simp] theorem State.set_calUnsaved (s : State) (f : Field) (i v : Nat) : (s.set f i v).calUnsaved = s.calUnsaved := rfl
@[simp] theorem State.set_twin (s : State) (f : Field) (i v : Nat) : (s.set f i v).twin = s.twin := rfl
@[simp] theorem State.set_stream (s : State) (f : Field) (i v : Nat) : (s.set f i v).stream = s.stream := rfl
@[simp] theorem State.set_eth (s : State) (f : Field) (i v : Nat) : (s.set f i v).eth = s.eth := rfl
@[simp] theorem State.set_spiOut (s : State) (f : Field) (i v : Nat) : (s.set f i v).spiOut = s.spiOut := rfl
@[simp] theorem State.set_ackNo (s : State) (f : Field) (i v : Nat) : (s.set f i v).ackNo = s.ackNo := rfl
@[simp] theorem State.set_rungBy (s : State) (f : Field) (i v : Nat) : (s.set f i v).rungBy = s.rungBy := rfl
@[simp] theorem State.set_ringNo (s : State) (f : Field) (i v : Nat) : (s.set f i v).ringNo = s.ringNo := rfl
@[simp] theorem State.set_mbFrom (s : State) (f : Field) (i v : Nat) : (s.set f i v).mbFrom = s.mbFrom := rfl
@[simp] theorem State.set_mbWait (s : State) (f : Field) (i v : Nat) : (s.set f i v).mbWait = s.mbWait := rfl
@[simp] theorem State.set_cmds (s : State) (f : Field) (i v : Nat) : (s.set f i v).cmds = s.cmds := rfl
@[simp] theorem State.set_waits (s : State) (f : Field) (i v : Nat) : (s.set f i v).waits = s.waits := rfl
@[simp] theorem State.set_spill (s : State) (f : Field) (i v : Nat) : (s.set f i v).spill = s.spill := rfl
@[simp] theorem State.set_spillCount (s : State) (f : Field) (i v : Nat) : (s.set f i v).spillCount = s.spillCount := rfl
@[simp] theorem State.set_fired (s : State) (f : Field) (i v : Nat) : (s.set f i v).fired = s.fired := rfl
@[simp] theorem State.set_evts (s : State) (f : Field) (i v : Nat) : (s.set f i v).evts = s.evts := rfl
@[simp] theorem State.set_evtSeq (s : State) (f : Field) (i v : Nat) : (s.set f i v).evtSeq = s.evtSeq := rfl
@[simp] theorem State.set_spillSeq (s : State) (f : Field) (i v : Nat) : (s.set f i v).spillSeq = s.spillSeq := rfl
@[simp] theorem State.set_gen (s : State) (f : Field) (i v : Nat) : (s.set f i v).gen = s.gen := rfl
@[simp] theorem State.set_fwStarted (s : State) (f : Field) (i v : Nat) : (s.set f i v).fwStarted = s.fwStarted := rfl
@[simp] theorem State.set_restartCause (s : State) (f : Field) (i v : Nat) : (s.set f i v).restartCause = s.restartCause := rfl
@[simp] theorem State.set_restarting (s : State) (f : Field) (i v : Nat) : (s.set f i v).restarting = s.restarting := rfl
@[simp] theorem State.set_sessions (s : State) (f : Field) (i v : Nat) : (s.set f i v).sessions = s.sessions := rfl
@[simp] theorem State.set_image (s : State) (f : Field) (i v : Nat) : (s.set f i v).image = s.image := rfl
@[simp] theorem State.set_imageTouched (s : State) (f : Field) (i v : Nat) : (s.set f i v).imageTouched = s.imageTouched := rfl
@[simp] theorem State.set_erased (s : State) (f : Field) (i v : Nat) : (s.set f i v).erased = s.erased := rfl
@[simp] theorem State.set_fellBack (s : State) (f : Field) (i v : Nat) : (s.set f i v).fellBack = s.fellBack := rfl
@[simp] theorem State.set_sealed (s : State) (f : Field) (i v : Nat) : (s.set f i v).sealed = s.sealed := rfl
@[simp] theorem State.set_mode (s : State) (f : Field) (i v : Nat) : (s.set f i v).mode = s.mode := rfl
@[simp] theorem State.set_emerg (s : State) (f : Field) (i v : Nat) : (s.set f i v).emerg = s.emerg := rfl
@[simp] theorem State.set_modeReqs (s : State) (f : Field) (i v : Nat) : (s.set f i v).modeReqs = s.modeReqs := rfl
@[simp] theorem State.set_modeWait (s : State) (f : Field) (i v : Nat) : (s.set f i v).modeWait = s.modeWait := rfl
@[simp] theorem State.set_modePost (s : State) (f : Field) (i v : Nat) : (s.set f i v).modePost = s.modePost := rfl
@[simp] theorem State.set_switched (s : State) (f : Field) (i v : Nat) : (s.set f i v).switched = s.switched := rfl
@[simp] theorem State.set_caughtUp (s : State) (f : Field) (i v : Nat) : (s.set f i v).caughtUp = s.caughtUp := rfl
@[simp] theorem State.set_keys (s : State) (f : Field) (i v : Nat) : (s.set f i v).keys = s.keys := rfl
@[simp] theorem State.set_panelEncs (s : State) (f : Field) (i v : Nat) : (s.set f i v).panelEncs = s.panelEncs := rfl
@[simp] theorem State.set_leds (s : State) (f : Field) (i v : Nat) : (s.set f i v).leds = s.leds := rfl
@[simp] theorem State.set_sched (s : State) (f : Field) (i v : Nat) : (s.set f i v).sched = s.sched := rfl
@[simp] theorem State.set_boot (s : State) (f : Field) (i v : Nat) : (s.set f i v).boot = s.boot := rfl
@[simp] theorem State.set_shedPlan (s : State) (f : Field) (i v : Nat) : (s.set f i v).shedPlan = s.shedPlan := rfl
@[simp] theorem State.set_railDown (s : State) (f : Field) (i v : Nat) : (s.set f i v).railDown = s.railDown := rfl
@[simp] theorem State.set_brownRails (s : State) (f : Field) (i v : Nat) : (s.set f i v).brownRails = s.brownRails := rfl
@[simp] theorem State.set_tamperOn (s : State) (f : Field) (i v : Nat) : (s.set f i v).tamperOn = s.tamperOn := rfl
@[simp] theorem State.set_recoveryDue (s : State) (f : Field) (i v : Nat) : (s.set f i v).recoveryDue = s.recoveryDue := rfl
@[simp] theorem State.set_bypassPin (s : State) (f : Field) (i v : Nat) : (s.set f i v).bypassPin = s.bypassPin := rfl
@[simp] theorem State.set_bypassCmd (s : State) (f : Field) (i v : Nat) : (s.set f i v).bypassCmd = s.bypassCmd := rfl
@[simp] theorem State.set_pairs (s : State) (f : Field) (i v : Nat) : (s.set f i v).pairs = s.pairs := rfl
@[simp] theorem State.set_fuseSealed (s : State) (f : Field) (i v : Nat) : (s.set f i v).fuseSealed = s.fuseSealed := rfl
@[simp] theorem State.set_fuseRetired (s : State) (f : Field) (i v : Nat) : (s.set f i v).fuseRetired = s.fuseRetired := rfl
@[simp] theorem State.set_fuseKeys (s : State) (f : Field) (i v : Nat) : (s.set f i v).fuseKeys = s.fuseKeys := rfl
@[simp] theorem State.set_fuseArmed (s : State) (f : Field) (i v : Nat) : (s.set f i v).fuseArmed = s.fuseArmed := rfl
@[simp] theorem State.set_fuseMask (s : State) (f : Field) (i v : Nat) : (s.set f i v).fuseMask = s.fuseMask := rfl
@[simp] theorem State.set_service (s : State) (f : Field) (i v : Nat) : (s.set f i v).service = s.service := rfl
@[simp] theorem State.set_retireDue (s : State) (f : Field) (i v : Nat) : (s.set f i v).retireDue = s.retireDue := rfl
@[simp] theorem State.set_enrolled (s : State) (f : Field) (i v : Nat) : (s.set f i v).enrolled = s.enrolled := rfl

/-! ### `State.setB` leaves every field but the register file -/

@[simp] theorem State.setB_pending (s : State) (f : Field) (i : Nat) (b : Bool) : (s.setB f i b).pending = s.pending := rfl
@[simp] theorem State.setB_part (s : State) (f : Field) (i : Nat) (b : Bool) : (s.setB f i b).part = s.part := rfl
@[simp] theorem State.setB_stepping (s : State) (f : Field) (i : Nat) (b : Bool) : (s.setB f i b).stepping = s.stepping := rfl
@[simp] theorem State.setB_tod (s : State) (f : Field) (i : Nat) (b : Bool) : (s.setB f i b).tod = s.tod := rfl
@[simp] theorem State.setB_stepped (s : State) (f : Field) (i : Nat) (b : Bool) : (s.setB f i b).stepped = s.stepped := rfl
@[simp] theorem State.setB_refclk (s : State) (f : Field) (i : Nat) (b : Bool) : (s.setB f i b).refclk = s.refclk := rfl
@[simp] theorem State.setB_drawn (s : State) (f : Field) (i : Nat) (b : Bool) : (s.setB f i b).drawn = s.drawn := rfl
@[simp] theorem State.setB_yard (s : State) (f : Field) (i : Nat) (b : Bool) : (s.setB f i b).yard = s.yard := rfl
@[simp] theorem State.setB_tablesReady (s : State) (f : Field) (i : Nat) (b : Bool) : (s.setB f i b).tablesReady = s.tablesReady := rfl
@[simp] theorem State.setB_yardOut (s : State) (f : Field) (i : Nat) (b : Bool) : (s.setB f i b).yardOut = s.yardOut := rfl
@[simp] theorem State.setB_yardErr (s : State) (f : Field) (i : Nat) (b : Bool) : (s.setB f i b).yardErr = s.yardErr := rfl
@[simp] theorem State.setB_poison (s : State) (f : Field) (i : Nat) (b : Bool) : (s.setB f i b).poison = s.poison := rfl
@[simp] theorem State.setB_flash (s : State) (f : Field) (i : Nat) (b : Bool) : (s.setB f i b).flash = s.flash := rfl
@[simp] theorem State.setB_tack (s : State) (f : Field) (i : Nat) (b : Bool) : (s.setB f i b).tack = s.tack := rfl
@[simp] theorem State.setB_tackErr (s : State) (f : Field) (i : Nat) (b : Bool) : (s.setB f i b).tackErr = s.tackErr := rfl
@[simp] theorem State.setB_mbi (s : State) (f : Field) (i : Nat) (b : Bool) : (s.setB f i b).mbi = s.mbi := rfl
@[simp] theorem State.setB_mbo (s : State) (f : Field) (i : Nat) (b : Bool) : (s.setB f i b).mbo = s.mbo := rfl
@[simp] theorem State.setB_rx (s : State) (f : Field) (i : Nat) (b : Bool) : (s.setB f i b).rx = s.rx := rfl
@[simp] theorem State.setB_tx (s : State) (f : Field) (i : Nat) (b : Bool) : (s.setB f i b).tx = s.tx := rfl
@[simp] theorem State.setB_enc (s : State) (f : Field) (i : Nat) (b : Bool) : (s.setB f i b).enc = s.enc := rfl
@[simp] theorem State.setB_srcs (s : State) (f : Field) (i : Nat) (b : Bool) : (s.setB f i b).srcs = s.srcs := rfl
@[simp] theorem State.setB_eligible (s : State) (f : Field) (i : Nat) (b : Bool) : (s.setB f i b).eligible = s.eligible := rfl
@[simp] theorem State.setB_lastElig (s : State) (f : Field) (i : Nat) (b : Bool) : (s.setB f i b).lastElig = s.lastElig := rfl
@[simp] theorem State.setB_lastOther (s : State) (f : Field) (i : Nat) (b : Bool) : (s.setB f i b).lastOther = s.lastOther := rfl
@[simp] theorem State.setB_entries (s : State) (f : Field) (i : Nat) (b : Bool) : (s.setB f i b).entries = s.entries := rfl
@[simp] theorem State.setB_actions (s : State) (f : Field) (i : Nat) (b : Bool) : (s.setB f i b).actions = s.actions := rfl
@[simp] theorem State.setB_groups (s : State) (f : Field) (i : Nat) (b : Bool) : (s.setB f i b).groups = s.groups := rfl
@[simp] theorem State.setB_bindings (s : State) (f : Field) (i : Nat) (b : Bool) : (s.setB f i b).bindings = s.bindings := rfl
@[simp] theorem State.setB_unbound (s : State) (f : Field) (i : Nat) (b : Bool) : (s.setB f i b).unbound = s.unbound := rfl
@[simp] theorem State.setB_hits (s : State) (f : Field) (i : Nat) (b : Bool) : (s.setB f i b).hits = s.hits := rfl
@[simp] theorem State.setB_acts (s : State) (f : Field) (i : Nat) (b : Bool) : (s.setB f i b).acts = s.acts := rfl
@[simp] theorem State.setB_commitAsked (s : State) (f : Field) (i : Nat) (b : Bool) : (s.setB f i b).commitAsked = s.commitAsked := rfl
@[simp] theorem State.setB_sweepDue (s : State) (f : Field) (i : Nat) (b : Bool) : (s.setB f i b).sweepDue = s.sweepDue := rfl
@[simp] theorem State.setB_routerStaged (s : State) (f : Field) (i : Nat) (b : Bool) : (s.setB f i b).routerStaged = s.routerStaged := rfl
@[simp] theorem State.setB_routerQ (s : State) (f : Field) (i : Nat) (b : Bool) : (s.setB f i b).routerQ = s.routerQ := rfl
@[simp] theorem State.setB_voterQ (s : State) (f : Field) (i : Nat) (b : Bool) : (s.setB f i b).voterQ = s.voterQ := rfl
@[simp] theorem State.setB_ballots (s : State) (f : Field) (i : Nat) (b : Bool) : (s.setB f i b).ballots = s.ballots := rfl
@[simp] theorem State.setB_agreeRun (s : State) (f : Field) (i : Nat) (b : Bool) : (s.setB f i b).agreeRun = s.agreeRun := rfl
@[simp] theorem State.setB_latches (s : State) (f : Field) (i : Nat) (b : Bool) : (s.setB f i b).latches = s.latches := rfl
@[simp] theorem State.setB_stalls (s : State) (f : Field) (i : Nat) (b : Bool) : (s.setB f i b).stalls = s.stalls := rfl
@[simp] theorem State.setB_logSeq (s : State) (f : Field) (i : Nat) (b : Bool) : (s.setB f i b).logSeq = s.logSeq := rfl
@[simp] theorem State.setB_groomPass (s : State) (f : Field) (i : Nat) (b : Bool) : (s.setB f i b).groomPass = s.groomPass := rfl
@[simp] theorem State.setB_groomNext (s : State) (f : Field) (i : Nat) (b : Bool) : (s.setB f i b).groomNext = s.groomNext := rfl
@[simp] theorem State.setB_voidRun (s : State) (f : Field) (i : Nat) (b : Bool) : (s.setB f i b).voidRun = s.voidRun := rfl
@[simp] theorem State.setB_trackers (s : State) (f : Field) (i : Nat) (b : Bool) : (s.setB f i b).trackers = s.trackers := rfl
@[simp] theorem State.setB_trackAge (s : State) (f : Field) (i : Nat) (b : Bool) : (s.setB f i b).trackAge = s.trackAge := rfl
@[simp] theorem State.setB_persistMap (s : State) (f : Field) (i : Nat) (b : Bool) : (s.setB f i b).persistMap = s.persistMap := rfl
@[simp] theorem State.setB_pulses (s : State) (f : Field) (i : Nat) (b : Bool) : (s.setB f i b).pulses = s.pulses := rfl
@[simp] theorem State.setB_caps (s : State) (f : Field) (i : Nat) (b : Bool) : (s.setB f i b).caps = s.caps := rfl
@[simp] theorem State.setB_frame (s : State) (f : Field) (i : Nat) (b : Bool) : (s.setB f i b).frame = s.frame := rfl
@[simp] theorem State.setB_servo (s : State) (f : Field) (i : Nat) (b : Bool) : (s.setB f i b).servo = s.servo := rfl
@[simp] theorem State.setB_zones (s : State) (f : Field) (i : Nat) (b : Bool) : (s.setB f i b).zones = s.zones := rfl
@[simp] theorem State.setB_readings (s : State) (f : Field) (i : Nat) (b : Bool) : (s.setB f i b).readings = s.readings := rfl
@[simp] theorem State.setB_pixDue (s : State) (f : Field) (i : Nat) (b : Bool) : (s.setB f i b).pixDue = s.pixDue := rfl
@[simp] theorem State.setB_pixTicked (s : State) (f : Field) (i : Nat) (b : Bool) : (s.setB f i b).pixTicked = s.pixTicked := rfl
@[simp] theorem State.setB_stagedEnc (s : State) (f : Field) (i : Nat) (b : Bool) : (s.setB f i b).stagedEnc = s.stagedEnc := rfl
@[simp] theorem State.setB_stagedGroup (s : State) (f : Field) (i : Nat) (b : Bool) : (s.setB f i b).stagedGroup = s.stagedGroup := rfl
@[simp] theorem State.setB_stagedDelay (s : State) (f : Field) (i : Nat) (b : Bool) : (s.setB f i b).stagedDelay = s.stagedDelay := rfl
@[simp] theorem State.setB_runNow (s : State) (f : Field) (i : Nat) (b : Bool) : (s.setB f i b).runNow = s.runNow := rfl
@[simp] theorem State.setB_srcNow (s : State) (f : Field) (i : Nat) (b : Bool) : (s.setB f i b).srcNow = s.srcNow := rfl
@[simp] theorem State.setB_curves (s : State) (f : Field) (i : Nat) (b : Bool) : (s.setB f i b).curves = s.curves := rfl
@[simp] theorem State.setB_curveDue (s : State) (f : Field) (i : Nat) (b : Bool) : (s.setB f i b).curveDue = s.curveDue := rfl
@[simp] theorem State.setB_seedLeft (s : State) (f : Field) (i : Nat) (b : Bool) : (s.setB f i b).seedLeft = s.seedLeft := rfl
@[simp] theorem State.setB_seedHeld (s : State) (f : Field) (i : Nat) (b : Bool) : (s.setB f i b).seedHeld = s.seedHeld := rfl
@[simp] theorem State.setB_univs (s : State) (f : Field) (i : Nat) (b : Bool) : (s.setB f i b).univs = s.univs := rfl
@[simp] theorem State.setB_syncOff (s : State) (f : Field) (i : Nat) (b : Bool) : (s.setB f i b).syncOff = s.syncOff := rfl
@[simp] theorem State.setB_channels (s : State) (f : Field) (i : Nat) (b : Bool) : (s.setB f i b).channels = s.channels := rfl
@[simp] theorem State.setB_spares (s : State) (f : Field) (i : Nat) (b : Bool) : (s.setB f i b).spares = s.spares := rfl
@[simp] theorem State.setB_calSeq (s : State) (f : Field) (i : Nat) (b : Bool) : (s.setB f i b).calSeq = s.calSeq := rfl
@[simp] theorem State.setB_calHeld (s : State) (f : Field) (i : Nat) (b : Bool) : (s.setB f i b).calHeld = s.calHeld := rfl
@[simp] theorem State.setB_calSaved (s : State) (f : Field) (i : Nat) (b : Bool) : (s.setB f i b).calSaved = s.calSaved := rfl
@[simp] theorem State.setB_calUnsaved (s : State) (f : Field) (i : Nat) (b : Bool) : (s.setB f i b).calUnsaved = s.calUnsaved := rfl
@[simp] theorem State.setB_twin (s : State) (f : Field) (i : Nat) (b : Bool) : (s.setB f i b).twin = s.twin := rfl
@[simp] theorem State.setB_stream (s : State) (f : Field) (i : Nat) (b : Bool) : (s.setB f i b).stream = s.stream := rfl
@[simp] theorem State.setB_eth (s : State) (f : Field) (i : Nat) (b : Bool) : (s.setB f i b).eth = s.eth := rfl
@[simp] theorem State.setB_spiOut (s : State) (f : Field) (i : Nat) (b : Bool) : (s.setB f i b).spiOut = s.spiOut := rfl
@[simp] theorem State.setB_ackNo (s : State) (f : Field) (i : Nat) (b : Bool) : (s.setB f i b).ackNo = s.ackNo := rfl
@[simp] theorem State.setB_rungBy (s : State) (f : Field) (i : Nat) (b : Bool) : (s.setB f i b).rungBy = s.rungBy := rfl
@[simp] theorem State.setB_ringNo (s : State) (f : Field) (i : Nat) (b : Bool) : (s.setB f i b).ringNo = s.ringNo := rfl
@[simp] theorem State.setB_mbFrom (s : State) (f : Field) (i : Nat) (b : Bool) : (s.setB f i b).mbFrom = s.mbFrom := rfl
@[simp] theorem State.setB_mbWait (s : State) (f : Field) (i : Nat) (b : Bool) : (s.setB f i b).mbWait = s.mbWait := rfl
@[simp] theorem State.setB_cmds (s : State) (f : Field) (i : Nat) (b : Bool) : (s.setB f i b).cmds = s.cmds := rfl
@[simp] theorem State.setB_waits (s : State) (f : Field) (i : Nat) (b : Bool) : (s.setB f i b).waits = s.waits := rfl
@[simp] theorem State.setB_spill (s : State) (f : Field) (i : Nat) (b : Bool) : (s.setB f i b).spill = s.spill := rfl
@[simp] theorem State.setB_spillCount (s : State) (f : Field) (i : Nat) (b : Bool) : (s.setB f i b).spillCount = s.spillCount := rfl
@[simp] theorem State.setB_fired (s : State) (f : Field) (i : Nat) (b : Bool) : (s.setB f i b).fired = s.fired := rfl
@[simp] theorem State.setB_evts (s : State) (f : Field) (i : Nat) (b : Bool) : (s.setB f i b).evts = s.evts := rfl
@[simp] theorem State.setB_evtSeq (s : State) (f : Field) (i : Nat) (b : Bool) : (s.setB f i b).evtSeq = s.evtSeq := rfl
@[simp] theorem State.setB_spillSeq (s : State) (f : Field) (i : Nat) (b : Bool) : (s.setB f i b).spillSeq = s.spillSeq := rfl
@[simp] theorem State.setB_gen (s : State) (f : Field) (i : Nat) (b : Bool) : (s.setB f i b).gen = s.gen := rfl
@[simp] theorem State.setB_fwStarted (s : State) (f : Field) (i : Nat) (b : Bool) : (s.setB f i b).fwStarted = s.fwStarted := rfl
@[simp] theorem State.setB_restartCause (s : State) (f : Field) (i : Nat) (b : Bool) : (s.setB f i b).restartCause = s.restartCause := rfl
@[simp] theorem State.setB_restarting (s : State) (f : Field) (i : Nat) (b : Bool) : (s.setB f i b).restarting = s.restarting := rfl
@[simp] theorem State.setB_sessions (s : State) (f : Field) (i : Nat) (b : Bool) : (s.setB f i b).sessions = s.sessions := rfl
@[simp] theorem State.setB_image (s : State) (f : Field) (i : Nat) (b : Bool) : (s.setB f i b).image = s.image := rfl
@[simp] theorem State.setB_imageTouched (s : State) (f : Field) (i : Nat) (b : Bool) : (s.setB f i b).imageTouched = s.imageTouched := rfl
@[simp] theorem State.setB_erased (s : State) (f : Field) (i : Nat) (b : Bool) : (s.setB f i b).erased = s.erased := rfl
@[simp] theorem State.setB_fellBack (s : State) (f : Field) (i : Nat) (b : Bool) : (s.setB f i b).fellBack = s.fellBack := rfl
@[simp] theorem State.setB_sealed (s : State) (f : Field) (i : Nat) (b : Bool) : (s.setB f i b).sealed = s.sealed := rfl
@[simp] theorem State.setB_mode (s : State) (f : Field) (i : Nat) (b : Bool) : (s.setB f i b).mode = s.mode := rfl
@[simp] theorem State.setB_emerg (s : State) (f : Field) (i : Nat) (b : Bool) : (s.setB f i b).emerg = s.emerg := rfl
@[simp] theorem State.setB_modeReqs (s : State) (f : Field) (i : Nat) (b : Bool) : (s.setB f i b).modeReqs = s.modeReqs := rfl
@[simp] theorem State.setB_modeWait (s : State) (f : Field) (i : Nat) (b : Bool) : (s.setB f i b).modeWait = s.modeWait := rfl
@[simp] theorem State.setB_modePost (s : State) (f : Field) (i : Nat) (b : Bool) : (s.setB f i b).modePost = s.modePost := rfl
@[simp] theorem State.setB_switched (s : State) (f : Field) (i : Nat) (b : Bool) : (s.setB f i b).switched = s.switched := rfl
@[simp] theorem State.setB_caughtUp (s : State) (f : Field) (i : Nat) (b : Bool) : (s.setB f i b).caughtUp = s.caughtUp := rfl
@[simp] theorem State.setB_keys (s : State) (f : Field) (i : Nat) (b : Bool) : (s.setB f i b).keys = s.keys := rfl
@[simp] theorem State.setB_panelEncs (s : State) (f : Field) (i : Nat) (b : Bool) : (s.setB f i b).panelEncs = s.panelEncs := rfl
@[simp] theorem State.setB_leds (s : State) (f : Field) (i : Nat) (b : Bool) : (s.setB f i b).leds = s.leds := rfl
@[simp] theorem State.setB_sched (s : State) (f : Field) (i : Nat) (b : Bool) : (s.setB f i b).sched = s.sched := rfl
@[simp] theorem State.setB_boot (s : State) (f : Field) (i : Nat) (b : Bool) : (s.setB f i b).boot = s.boot := rfl
@[simp] theorem State.setB_shedPlan (s : State) (f : Field) (i : Nat) (b : Bool) : (s.setB f i b).shedPlan = s.shedPlan := rfl
@[simp] theorem State.setB_railDown (s : State) (f : Field) (i : Nat) (b : Bool) : (s.setB f i b).railDown = s.railDown := rfl
@[simp] theorem State.setB_brownRails (s : State) (f : Field) (i : Nat) (b : Bool) : (s.setB f i b).brownRails = s.brownRails := rfl
@[simp] theorem State.setB_tamperOn (s : State) (f : Field) (i : Nat) (b : Bool) : (s.setB f i b).tamperOn = s.tamperOn := rfl
@[simp] theorem State.setB_recoveryDue (s : State) (f : Field) (i : Nat) (b : Bool) : (s.setB f i b).recoveryDue = s.recoveryDue := rfl
@[simp] theorem State.setB_bypassPin (s : State) (f : Field) (i : Nat) (b : Bool) : (s.setB f i b).bypassPin = s.bypassPin := rfl
@[simp] theorem State.setB_bypassCmd (s : State) (f : Field) (i : Nat) (b : Bool) : (s.setB f i b).bypassCmd = s.bypassCmd := rfl
@[simp] theorem State.setB_pairs (s : State) (f : Field) (i : Nat) (b : Bool) : (s.setB f i b).pairs = s.pairs := rfl
@[simp] theorem State.setB_fuseSealed (s : State) (f : Field) (i : Nat) (b : Bool) : (s.setB f i b).fuseSealed = s.fuseSealed := rfl
@[simp] theorem State.setB_fuseRetired (s : State) (f : Field) (i : Nat) (b : Bool) : (s.setB f i b).fuseRetired = s.fuseRetired := rfl
@[simp] theorem State.setB_fuseKeys (s : State) (f : Field) (i : Nat) (b : Bool) : (s.setB f i b).fuseKeys = s.fuseKeys := rfl
@[simp] theorem State.setB_fuseArmed (s : State) (f : Field) (i : Nat) (b : Bool) : (s.setB f i b).fuseArmed = s.fuseArmed := rfl
@[simp] theorem State.setB_fuseMask (s : State) (f : Field) (i : Nat) (b : Bool) : (s.setB f i b).fuseMask = s.fuseMask := rfl
@[simp] theorem State.setB_service (s : State) (f : Field) (i : Nat) (b : Bool) : (s.setB f i b).service = s.service := rfl
@[simp] theorem State.setB_retireDue (s : State) (f : Field) (i : Nat) (b : Bool) : (s.setB f i b).retireDue = s.retireDue := rfl
@[simp] theorem State.setB_enrolled (s : State) (f : Field) (i : Nat) (b : Bool) : (s.setB f i b).enrolled = s.enrolled := rfl

/-! ### `State.addTo` leaves every field but the register file -/

@[simp] theorem State.addTo_pending (s : State) (f : Field) (i n : Nat) : (s.addTo f i n).pending = s.pending := rfl
@[simp] theorem State.addTo_part (s : State) (f : Field) (i n : Nat) : (s.addTo f i n).part = s.part := rfl
@[simp] theorem State.addTo_stepping (s : State) (f : Field) (i n : Nat) : (s.addTo f i n).stepping = s.stepping := rfl
@[simp] theorem State.addTo_tod (s : State) (f : Field) (i n : Nat) : (s.addTo f i n).tod = s.tod := rfl
@[simp] theorem State.addTo_stepped (s : State) (f : Field) (i n : Nat) : (s.addTo f i n).stepped = s.stepped := rfl
@[simp] theorem State.addTo_refclk (s : State) (f : Field) (i n : Nat) : (s.addTo f i n).refclk = s.refclk := rfl
@[simp] theorem State.addTo_drawn (s : State) (f : Field) (i n : Nat) : (s.addTo f i n).drawn = s.drawn := rfl
@[simp] theorem State.addTo_yard (s : State) (f : Field) (i n : Nat) : (s.addTo f i n).yard = s.yard := rfl
@[simp] theorem State.addTo_tablesReady (s : State) (f : Field) (i n : Nat) : (s.addTo f i n).tablesReady = s.tablesReady := rfl
@[simp] theorem State.addTo_yardOut (s : State) (f : Field) (i n : Nat) : (s.addTo f i n).yardOut = s.yardOut := rfl
@[simp] theorem State.addTo_yardErr (s : State) (f : Field) (i n : Nat) : (s.addTo f i n).yardErr = s.yardErr := rfl
@[simp] theorem State.addTo_poison (s : State) (f : Field) (i n : Nat) : (s.addTo f i n).poison = s.poison := rfl
@[simp] theorem State.addTo_flash (s : State) (f : Field) (i n : Nat) : (s.addTo f i n).flash = s.flash := rfl
@[simp] theorem State.addTo_tack (s : State) (f : Field) (i n : Nat) : (s.addTo f i n).tack = s.tack := rfl
@[simp] theorem State.addTo_tackErr (s : State) (f : Field) (i n : Nat) : (s.addTo f i n).tackErr = s.tackErr := rfl
@[simp] theorem State.addTo_mbi (s : State) (f : Field) (i n : Nat) : (s.addTo f i n).mbi = s.mbi := rfl
@[simp] theorem State.addTo_mbo (s : State) (f : Field) (i n : Nat) : (s.addTo f i n).mbo = s.mbo := rfl
@[simp] theorem State.addTo_rx (s : State) (f : Field) (i n : Nat) : (s.addTo f i n).rx = s.rx := rfl
@[simp] theorem State.addTo_tx (s : State) (f : Field) (i n : Nat) : (s.addTo f i n).tx = s.tx := rfl
@[simp] theorem State.addTo_enc (s : State) (f : Field) (i n : Nat) : (s.addTo f i n).enc = s.enc := rfl
@[simp] theorem State.addTo_srcs (s : State) (f : Field) (i n : Nat) : (s.addTo f i n).srcs = s.srcs := rfl
@[simp] theorem State.addTo_eligible (s : State) (f : Field) (i n : Nat) : (s.addTo f i n).eligible = s.eligible := rfl
@[simp] theorem State.addTo_lastElig (s : State) (f : Field) (i n : Nat) : (s.addTo f i n).lastElig = s.lastElig := rfl
@[simp] theorem State.addTo_lastOther (s : State) (f : Field) (i n : Nat) : (s.addTo f i n).lastOther = s.lastOther := rfl
@[simp] theorem State.addTo_entries (s : State) (f : Field) (i n : Nat) : (s.addTo f i n).entries = s.entries := rfl
@[simp] theorem State.addTo_actions (s : State) (f : Field) (i n : Nat) : (s.addTo f i n).actions = s.actions := rfl
@[simp] theorem State.addTo_groups (s : State) (f : Field) (i n : Nat) : (s.addTo f i n).groups = s.groups := rfl
@[simp] theorem State.addTo_bindings (s : State) (f : Field) (i n : Nat) : (s.addTo f i n).bindings = s.bindings := rfl
@[simp] theorem State.addTo_unbound (s : State) (f : Field) (i n : Nat) : (s.addTo f i n).unbound = s.unbound := rfl
@[simp] theorem State.addTo_hits (s : State) (f : Field) (i n : Nat) : (s.addTo f i n).hits = s.hits := rfl
@[simp] theorem State.addTo_acts (s : State) (f : Field) (i n : Nat) : (s.addTo f i n).acts = s.acts := rfl
@[simp] theorem State.addTo_commitAsked (s : State) (f : Field) (i n : Nat) : (s.addTo f i n).commitAsked = s.commitAsked := rfl
@[simp] theorem State.addTo_sweepDue (s : State) (f : Field) (i n : Nat) : (s.addTo f i n).sweepDue = s.sweepDue := rfl
@[simp] theorem State.addTo_routerStaged (s : State) (f : Field) (i n : Nat) : (s.addTo f i n).routerStaged = s.routerStaged := rfl
@[simp] theorem State.addTo_routerQ (s : State) (f : Field) (i n : Nat) : (s.addTo f i n).routerQ = s.routerQ := rfl
@[simp] theorem State.addTo_voterQ (s : State) (f : Field) (i n : Nat) : (s.addTo f i n).voterQ = s.voterQ := rfl
@[simp] theorem State.addTo_ballots (s : State) (f : Field) (i n : Nat) : (s.addTo f i n).ballots = s.ballots := rfl
@[simp] theorem State.addTo_agreeRun (s : State) (f : Field) (i n : Nat) : (s.addTo f i n).agreeRun = s.agreeRun := rfl
@[simp] theorem State.addTo_latches (s : State) (f : Field) (i n : Nat) : (s.addTo f i n).latches = s.latches := rfl
@[simp] theorem State.addTo_stalls (s : State) (f : Field) (i n : Nat) : (s.addTo f i n).stalls = s.stalls := rfl
@[simp] theorem State.addTo_logSeq (s : State) (f : Field) (i n : Nat) : (s.addTo f i n).logSeq = s.logSeq := rfl
@[simp] theorem State.addTo_groomPass (s : State) (f : Field) (i n : Nat) : (s.addTo f i n).groomPass = s.groomPass := rfl
@[simp] theorem State.addTo_groomNext (s : State) (f : Field) (i n : Nat) : (s.addTo f i n).groomNext = s.groomNext := rfl
@[simp] theorem State.addTo_voidRun (s : State) (f : Field) (i n : Nat) : (s.addTo f i n).voidRun = s.voidRun := rfl
@[simp] theorem State.addTo_trackers (s : State) (f : Field) (i n : Nat) : (s.addTo f i n).trackers = s.trackers := rfl
@[simp] theorem State.addTo_trackAge (s : State) (f : Field) (i n : Nat) : (s.addTo f i n).trackAge = s.trackAge := rfl
@[simp] theorem State.addTo_persistMap (s : State) (f : Field) (i n : Nat) : (s.addTo f i n).persistMap = s.persistMap := rfl
@[simp] theorem State.addTo_pulses (s : State) (f : Field) (i n : Nat) : (s.addTo f i n).pulses = s.pulses := rfl
@[simp] theorem State.addTo_caps (s : State) (f : Field) (i n : Nat) : (s.addTo f i n).caps = s.caps := rfl
@[simp] theorem State.addTo_frame (s : State) (f : Field) (i n : Nat) : (s.addTo f i n).frame = s.frame := rfl
@[simp] theorem State.addTo_servo (s : State) (f : Field) (i n : Nat) : (s.addTo f i n).servo = s.servo := rfl
@[simp] theorem State.addTo_zones (s : State) (f : Field) (i n : Nat) : (s.addTo f i n).zones = s.zones := rfl
@[simp] theorem State.addTo_readings (s : State) (f : Field) (i n : Nat) : (s.addTo f i n).readings = s.readings := rfl
@[simp] theorem State.addTo_pixDue (s : State) (f : Field) (i n : Nat) : (s.addTo f i n).pixDue = s.pixDue := rfl
@[simp] theorem State.addTo_pixTicked (s : State) (f : Field) (i n : Nat) : (s.addTo f i n).pixTicked = s.pixTicked := rfl
@[simp] theorem State.addTo_stagedEnc (s : State) (f : Field) (i n : Nat) : (s.addTo f i n).stagedEnc = s.stagedEnc := rfl
@[simp] theorem State.addTo_stagedGroup (s : State) (f : Field) (i n : Nat) : (s.addTo f i n).stagedGroup = s.stagedGroup := rfl
@[simp] theorem State.addTo_stagedDelay (s : State) (f : Field) (i n : Nat) : (s.addTo f i n).stagedDelay = s.stagedDelay := rfl
@[simp] theorem State.addTo_runNow (s : State) (f : Field) (i n : Nat) : (s.addTo f i n).runNow = s.runNow := rfl
@[simp] theorem State.addTo_srcNow (s : State) (f : Field) (i n : Nat) : (s.addTo f i n).srcNow = s.srcNow := rfl
@[simp] theorem State.addTo_curves (s : State) (f : Field) (i n : Nat) : (s.addTo f i n).curves = s.curves := rfl
@[simp] theorem State.addTo_curveDue (s : State) (f : Field) (i n : Nat) : (s.addTo f i n).curveDue = s.curveDue := rfl
@[simp] theorem State.addTo_seedLeft (s : State) (f : Field) (i n : Nat) : (s.addTo f i n).seedLeft = s.seedLeft := rfl
@[simp] theorem State.addTo_seedHeld (s : State) (f : Field) (i n : Nat) : (s.addTo f i n).seedHeld = s.seedHeld := rfl
@[simp] theorem State.addTo_univs (s : State) (f : Field) (i n : Nat) : (s.addTo f i n).univs = s.univs := rfl
@[simp] theorem State.addTo_syncOff (s : State) (f : Field) (i n : Nat) : (s.addTo f i n).syncOff = s.syncOff := rfl
@[simp] theorem State.addTo_channels (s : State) (f : Field) (i n : Nat) : (s.addTo f i n).channels = s.channels := rfl
@[simp] theorem State.addTo_spares (s : State) (f : Field) (i n : Nat) : (s.addTo f i n).spares = s.spares := rfl
@[simp] theorem State.addTo_calSeq (s : State) (f : Field) (i n : Nat) : (s.addTo f i n).calSeq = s.calSeq := rfl
@[simp] theorem State.addTo_calHeld (s : State) (f : Field) (i n : Nat) : (s.addTo f i n).calHeld = s.calHeld := rfl
@[simp] theorem State.addTo_calSaved (s : State) (f : Field) (i n : Nat) : (s.addTo f i n).calSaved = s.calSaved := rfl
@[simp] theorem State.addTo_calUnsaved (s : State) (f : Field) (i n : Nat) : (s.addTo f i n).calUnsaved = s.calUnsaved := rfl
@[simp] theorem State.addTo_twin (s : State) (f : Field) (i n : Nat) : (s.addTo f i n).twin = s.twin := rfl
@[simp] theorem State.addTo_stream (s : State) (f : Field) (i n : Nat) : (s.addTo f i n).stream = s.stream := rfl
@[simp] theorem State.addTo_eth (s : State) (f : Field) (i n : Nat) : (s.addTo f i n).eth = s.eth := rfl
@[simp] theorem State.addTo_spiOut (s : State) (f : Field) (i n : Nat) : (s.addTo f i n).spiOut = s.spiOut := rfl
@[simp] theorem State.addTo_ackNo (s : State) (f : Field) (i n : Nat) : (s.addTo f i n).ackNo = s.ackNo := rfl
@[simp] theorem State.addTo_rungBy (s : State) (f : Field) (i n : Nat) : (s.addTo f i n).rungBy = s.rungBy := rfl
@[simp] theorem State.addTo_ringNo (s : State) (f : Field) (i n : Nat) : (s.addTo f i n).ringNo = s.ringNo := rfl
@[simp] theorem State.addTo_mbFrom (s : State) (f : Field) (i n : Nat) : (s.addTo f i n).mbFrom = s.mbFrom := rfl
@[simp] theorem State.addTo_mbWait (s : State) (f : Field) (i n : Nat) : (s.addTo f i n).mbWait = s.mbWait := rfl
@[simp] theorem State.addTo_cmds (s : State) (f : Field) (i n : Nat) : (s.addTo f i n).cmds = s.cmds := rfl
@[simp] theorem State.addTo_waits (s : State) (f : Field) (i n : Nat) : (s.addTo f i n).waits = s.waits := rfl
@[simp] theorem State.addTo_spill (s : State) (f : Field) (i n : Nat) : (s.addTo f i n).spill = s.spill := rfl
@[simp] theorem State.addTo_spillCount (s : State) (f : Field) (i n : Nat) : (s.addTo f i n).spillCount = s.spillCount := rfl
@[simp] theorem State.addTo_fired (s : State) (f : Field) (i n : Nat) : (s.addTo f i n).fired = s.fired := rfl
@[simp] theorem State.addTo_evts (s : State) (f : Field) (i n : Nat) : (s.addTo f i n).evts = s.evts := rfl
@[simp] theorem State.addTo_evtSeq (s : State) (f : Field) (i n : Nat) : (s.addTo f i n).evtSeq = s.evtSeq := rfl
@[simp] theorem State.addTo_spillSeq (s : State) (f : Field) (i n : Nat) : (s.addTo f i n).spillSeq = s.spillSeq := rfl
@[simp] theorem State.addTo_gen (s : State) (f : Field) (i n : Nat) : (s.addTo f i n).gen = s.gen := rfl
@[simp] theorem State.addTo_fwStarted (s : State) (f : Field) (i n : Nat) : (s.addTo f i n).fwStarted = s.fwStarted := rfl
@[simp] theorem State.addTo_restartCause (s : State) (f : Field) (i n : Nat) : (s.addTo f i n).restartCause = s.restartCause := rfl
@[simp] theorem State.addTo_restarting (s : State) (f : Field) (i n : Nat) : (s.addTo f i n).restarting = s.restarting := rfl
@[simp] theorem State.addTo_sessions (s : State) (f : Field) (i n : Nat) : (s.addTo f i n).sessions = s.sessions := rfl
@[simp] theorem State.addTo_image (s : State) (f : Field) (i n : Nat) : (s.addTo f i n).image = s.image := rfl
@[simp] theorem State.addTo_imageTouched (s : State) (f : Field) (i n : Nat) : (s.addTo f i n).imageTouched = s.imageTouched := rfl
@[simp] theorem State.addTo_erased (s : State) (f : Field) (i n : Nat) : (s.addTo f i n).erased = s.erased := rfl
@[simp] theorem State.addTo_fellBack (s : State) (f : Field) (i n : Nat) : (s.addTo f i n).fellBack = s.fellBack := rfl
@[simp] theorem State.addTo_sealed (s : State) (f : Field) (i n : Nat) : (s.addTo f i n).sealed = s.sealed := rfl
@[simp] theorem State.addTo_mode (s : State) (f : Field) (i n : Nat) : (s.addTo f i n).mode = s.mode := rfl
@[simp] theorem State.addTo_emerg (s : State) (f : Field) (i n : Nat) : (s.addTo f i n).emerg = s.emerg := rfl
@[simp] theorem State.addTo_modeReqs (s : State) (f : Field) (i n : Nat) : (s.addTo f i n).modeReqs = s.modeReqs := rfl
@[simp] theorem State.addTo_modeWait (s : State) (f : Field) (i n : Nat) : (s.addTo f i n).modeWait = s.modeWait := rfl
@[simp] theorem State.addTo_modePost (s : State) (f : Field) (i n : Nat) : (s.addTo f i n).modePost = s.modePost := rfl
@[simp] theorem State.addTo_switched (s : State) (f : Field) (i n : Nat) : (s.addTo f i n).switched = s.switched := rfl
@[simp] theorem State.addTo_caughtUp (s : State) (f : Field) (i n : Nat) : (s.addTo f i n).caughtUp = s.caughtUp := rfl
@[simp] theorem State.addTo_keys (s : State) (f : Field) (i n : Nat) : (s.addTo f i n).keys = s.keys := rfl
@[simp] theorem State.addTo_panelEncs (s : State) (f : Field) (i n : Nat) : (s.addTo f i n).panelEncs = s.panelEncs := rfl
@[simp] theorem State.addTo_leds (s : State) (f : Field) (i n : Nat) : (s.addTo f i n).leds = s.leds := rfl
@[simp] theorem State.addTo_sched (s : State) (f : Field) (i n : Nat) : (s.addTo f i n).sched = s.sched := rfl
@[simp] theorem State.addTo_boot (s : State) (f : Field) (i n : Nat) : (s.addTo f i n).boot = s.boot := rfl
@[simp] theorem State.addTo_shedPlan (s : State) (f : Field) (i n : Nat) : (s.addTo f i n).shedPlan = s.shedPlan := rfl
@[simp] theorem State.addTo_railDown (s : State) (f : Field) (i n : Nat) : (s.addTo f i n).railDown = s.railDown := rfl
@[simp] theorem State.addTo_brownRails (s : State) (f : Field) (i n : Nat) : (s.addTo f i n).brownRails = s.brownRails := rfl
@[simp] theorem State.addTo_tamperOn (s : State) (f : Field) (i n : Nat) : (s.addTo f i n).tamperOn = s.tamperOn := rfl
@[simp] theorem State.addTo_recoveryDue (s : State) (f : Field) (i n : Nat) : (s.addTo f i n).recoveryDue = s.recoveryDue := rfl
@[simp] theorem State.addTo_bypassPin (s : State) (f : Field) (i n : Nat) : (s.addTo f i n).bypassPin = s.bypassPin := rfl
@[simp] theorem State.addTo_bypassCmd (s : State) (f : Field) (i n : Nat) : (s.addTo f i n).bypassCmd = s.bypassCmd := rfl
@[simp] theorem State.addTo_pairs (s : State) (f : Field) (i n : Nat) : (s.addTo f i n).pairs = s.pairs := rfl
@[simp] theorem State.addTo_fuseSealed (s : State) (f : Field) (i n : Nat) : (s.addTo f i n).fuseSealed = s.fuseSealed := rfl
@[simp] theorem State.addTo_fuseRetired (s : State) (f : Field) (i n : Nat) : (s.addTo f i n).fuseRetired = s.fuseRetired := rfl
@[simp] theorem State.addTo_fuseKeys (s : State) (f : Field) (i n : Nat) : (s.addTo f i n).fuseKeys = s.fuseKeys := rfl
@[simp] theorem State.addTo_fuseArmed (s : State) (f : Field) (i n : Nat) : (s.addTo f i n).fuseArmed = s.fuseArmed := rfl
@[simp] theorem State.addTo_fuseMask (s : State) (f : Field) (i n : Nat) : (s.addTo f i n).fuseMask = s.fuseMask := rfl
@[simp] theorem State.addTo_service (s : State) (f : Field) (i n : Nat) : (s.addTo f i n).service = s.service := rfl
@[simp] theorem State.addTo_retireDue (s : State) (f : Field) (i n : Nat) : (s.addTo f i n).retireDue = s.retireDue := rfl
@[simp] theorem State.addTo_enrolled (s : State) (f : Field) (i n : Nat) : (s.addTo f i n).enrolled = s.enrolled := rfl

/-! ### `State.inc` leaves every field but the register file -/

@[simp] theorem State.inc_pending (s : State) (f : Field) (i : Nat) : (s.inc f i).pending = s.pending := rfl
@[simp] theorem State.inc_part (s : State) (f : Field) (i : Nat) : (s.inc f i).part = s.part := rfl
@[simp] theorem State.inc_stepping (s : State) (f : Field) (i : Nat) : (s.inc f i).stepping = s.stepping := rfl
@[simp] theorem State.inc_tod (s : State) (f : Field) (i : Nat) : (s.inc f i).tod = s.tod := rfl
@[simp] theorem State.inc_stepped (s : State) (f : Field) (i : Nat) : (s.inc f i).stepped = s.stepped := rfl
@[simp] theorem State.inc_refclk (s : State) (f : Field) (i : Nat) : (s.inc f i).refclk = s.refclk := rfl
@[simp] theorem State.inc_drawn (s : State) (f : Field) (i : Nat) : (s.inc f i).drawn = s.drawn := rfl
@[simp] theorem State.inc_yard (s : State) (f : Field) (i : Nat) : (s.inc f i).yard = s.yard := rfl
@[simp] theorem State.inc_tablesReady (s : State) (f : Field) (i : Nat) : (s.inc f i).tablesReady = s.tablesReady := rfl
@[simp] theorem State.inc_yardOut (s : State) (f : Field) (i : Nat) : (s.inc f i).yardOut = s.yardOut := rfl
@[simp] theorem State.inc_yardErr (s : State) (f : Field) (i : Nat) : (s.inc f i).yardErr = s.yardErr := rfl
@[simp] theorem State.inc_poison (s : State) (f : Field) (i : Nat) : (s.inc f i).poison = s.poison := rfl
@[simp] theorem State.inc_flash (s : State) (f : Field) (i : Nat) : (s.inc f i).flash = s.flash := rfl
@[simp] theorem State.inc_tack (s : State) (f : Field) (i : Nat) : (s.inc f i).tack = s.tack := rfl
@[simp] theorem State.inc_tackErr (s : State) (f : Field) (i : Nat) : (s.inc f i).tackErr = s.tackErr := rfl
@[simp] theorem State.inc_mbi (s : State) (f : Field) (i : Nat) : (s.inc f i).mbi = s.mbi := rfl
@[simp] theorem State.inc_mbo (s : State) (f : Field) (i : Nat) : (s.inc f i).mbo = s.mbo := rfl
@[simp] theorem State.inc_rx (s : State) (f : Field) (i : Nat) : (s.inc f i).rx = s.rx := rfl
@[simp] theorem State.inc_tx (s : State) (f : Field) (i : Nat) : (s.inc f i).tx = s.tx := rfl
@[simp] theorem State.inc_enc (s : State) (f : Field) (i : Nat) : (s.inc f i).enc = s.enc := rfl
@[simp] theorem State.inc_srcs (s : State) (f : Field) (i : Nat) : (s.inc f i).srcs = s.srcs := rfl
@[simp] theorem State.inc_eligible (s : State) (f : Field) (i : Nat) : (s.inc f i).eligible = s.eligible := rfl
@[simp] theorem State.inc_lastElig (s : State) (f : Field) (i : Nat) : (s.inc f i).lastElig = s.lastElig := rfl
@[simp] theorem State.inc_lastOther (s : State) (f : Field) (i : Nat) : (s.inc f i).lastOther = s.lastOther := rfl
@[simp] theorem State.inc_entries (s : State) (f : Field) (i : Nat) : (s.inc f i).entries = s.entries := rfl
@[simp] theorem State.inc_actions (s : State) (f : Field) (i : Nat) : (s.inc f i).actions = s.actions := rfl
@[simp] theorem State.inc_groups (s : State) (f : Field) (i : Nat) : (s.inc f i).groups = s.groups := rfl
@[simp] theorem State.inc_bindings (s : State) (f : Field) (i : Nat) : (s.inc f i).bindings = s.bindings := rfl
@[simp] theorem State.inc_unbound (s : State) (f : Field) (i : Nat) : (s.inc f i).unbound = s.unbound := rfl
@[simp] theorem State.inc_hits (s : State) (f : Field) (i : Nat) : (s.inc f i).hits = s.hits := rfl
@[simp] theorem State.inc_acts (s : State) (f : Field) (i : Nat) : (s.inc f i).acts = s.acts := rfl
@[simp] theorem State.inc_commitAsked (s : State) (f : Field) (i : Nat) : (s.inc f i).commitAsked = s.commitAsked := rfl
@[simp] theorem State.inc_sweepDue (s : State) (f : Field) (i : Nat) : (s.inc f i).sweepDue = s.sweepDue := rfl
@[simp] theorem State.inc_routerStaged (s : State) (f : Field) (i : Nat) : (s.inc f i).routerStaged = s.routerStaged := rfl
@[simp] theorem State.inc_routerQ (s : State) (f : Field) (i : Nat) : (s.inc f i).routerQ = s.routerQ := rfl
@[simp] theorem State.inc_voterQ (s : State) (f : Field) (i : Nat) : (s.inc f i).voterQ = s.voterQ := rfl
@[simp] theorem State.inc_ballots (s : State) (f : Field) (i : Nat) : (s.inc f i).ballots = s.ballots := rfl
@[simp] theorem State.inc_agreeRun (s : State) (f : Field) (i : Nat) : (s.inc f i).agreeRun = s.agreeRun := rfl
@[simp] theorem State.inc_latches (s : State) (f : Field) (i : Nat) : (s.inc f i).latches = s.latches := rfl
@[simp] theorem State.inc_stalls (s : State) (f : Field) (i : Nat) : (s.inc f i).stalls = s.stalls := rfl
@[simp] theorem State.inc_logSeq (s : State) (f : Field) (i : Nat) : (s.inc f i).logSeq = s.logSeq := rfl
@[simp] theorem State.inc_groomPass (s : State) (f : Field) (i : Nat) : (s.inc f i).groomPass = s.groomPass := rfl
@[simp] theorem State.inc_groomNext (s : State) (f : Field) (i : Nat) : (s.inc f i).groomNext = s.groomNext := rfl
@[simp] theorem State.inc_voidRun (s : State) (f : Field) (i : Nat) : (s.inc f i).voidRun = s.voidRun := rfl
@[simp] theorem State.inc_trackers (s : State) (f : Field) (i : Nat) : (s.inc f i).trackers = s.trackers := rfl
@[simp] theorem State.inc_trackAge (s : State) (f : Field) (i : Nat) : (s.inc f i).trackAge = s.trackAge := rfl
@[simp] theorem State.inc_persistMap (s : State) (f : Field) (i : Nat) : (s.inc f i).persistMap = s.persistMap := rfl
@[simp] theorem State.inc_pulses (s : State) (f : Field) (i : Nat) : (s.inc f i).pulses = s.pulses := rfl
@[simp] theorem State.inc_caps (s : State) (f : Field) (i : Nat) : (s.inc f i).caps = s.caps := rfl
@[simp] theorem State.inc_frame (s : State) (f : Field) (i : Nat) : (s.inc f i).frame = s.frame := rfl
@[simp] theorem State.inc_servo (s : State) (f : Field) (i : Nat) : (s.inc f i).servo = s.servo := rfl
@[simp] theorem State.inc_zones (s : State) (f : Field) (i : Nat) : (s.inc f i).zones = s.zones := rfl
@[simp] theorem State.inc_readings (s : State) (f : Field) (i : Nat) : (s.inc f i).readings = s.readings := rfl
@[simp] theorem State.inc_pixDue (s : State) (f : Field) (i : Nat) : (s.inc f i).pixDue = s.pixDue := rfl
@[simp] theorem State.inc_pixTicked (s : State) (f : Field) (i : Nat) : (s.inc f i).pixTicked = s.pixTicked := rfl
@[simp] theorem State.inc_stagedEnc (s : State) (f : Field) (i : Nat) : (s.inc f i).stagedEnc = s.stagedEnc := rfl
@[simp] theorem State.inc_stagedGroup (s : State) (f : Field) (i : Nat) : (s.inc f i).stagedGroup = s.stagedGroup := rfl
@[simp] theorem State.inc_stagedDelay (s : State) (f : Field) (i : Nat) : (s.inc f i).stagedDelay = s.stagedDelay := rfl
@[simp] theorem State.inc_runNow (s : State) (f : Field) (i : Nat) : (s.inc f i).runNow = s.runNow := rfl
@[simp] theorem State.inc_srcNow (s : State) (f : Field) (i : Nat) : (s.inc f i).srcNow = s.srcNow := rfl
@[simp] theorem State.inc_curves (s : State) (f : Field) (i : Nat) : (s.inc f i).curves = s.curves := rfl
@[simp] theorem State.inc_curveDue (s : State) (f : Field) (i : Nat) : (s.inc f i).curveDue = s.curveDue := rfl
@[simp] theorem State.inc_seedLeft (s : State) (f : Field) (i : Nat) : (s.inc f i).seedLeft = s.seedLeft := rfl
@[simp] theorem State.inc_seedHeld (s : State) (f : Field) (i : Nat) : (s.inc f i).seedHeld = s.seedHeld := rfl
@[simp] theorem State.inc_univs (s : State) (f : Field) (i : Nat) : (s.inc f i).univs = s.univs := rfl
@[simp] theorem State.inc_syncOff (s : State) (f : Field) (i : Nat) : (s.inc f i).syncOff = s.syncOff := rfl
@[simp] theorem State.inc_channels (s : State) (f : Field) (i : Nat) : (s.inc f i).channels = s.channels := rfl
@[simp] theorem State.inc_spares (s : State) (f : Field) (i : Nat) : (s.inc f i).spares = s.spares := rfl
@[simp] theorem State.inc_calSeq (s : State) (f : Field) (i : Nat) : (s.inc f i).calSeq = s.calSeq := rfl
@[simp] theorem State.inc_calHeld (s : State) (f : Field) (i : Nat) : (s.inc f i).calHeld = s.calHeld := rfl
@[simp] theorem State.inc_calSaved (s : State) (f : Field) (i : Nat) : (s.inc f i).calSaved = s.calSaved := rfl
@[simp] theorem State.inc_calUnsaved (s : State) (f : Field) (i : Nat) : (s.inc f i).calUnsaved = s.calUnsaved := rfl
@[simp] theorem State.inc_twin (s : State) (f : Field) (i : Nat) : (s.inc f i).twin = s.twin := rfl
@[simp] theorem State.inc_stream (s : State) (f : Field) (i : Nat) : (s.inc f i).stream = s.stream := rfl
@[simp] theorem State.inc_eth (s : State) (f : Field) (i : Nat) : (s.inc f i).eth = s.eth := rfl
@[simp] theorem State.inc_spiOut (s : State) (f : Field) (i : Nat) : (s.inc f i).spiOut = s.spiOut := rfl
@[simp] theorem State.inc_ackNo (s : State) (f : Field) (i : Nat) : (s.inc f i).ackNo = s.ackNo := rfl
@[simp] theorem State.inc_rungBy (s : State) (f : Field) (i : Nat) : (s.inc f i).rungBy = s.rungBy := rfl
@[simp] theorem State.inc_ringNo (s : State) (f : Field) (i : Nat) : (s.inc f i).ringNo = s.ringNo := rfl
@[simp] theorem State.inc_mbFrom (s : State) (f : Field) (i : Nat) : (s.inc f i).mbFrom = s.mbFrom := rfl
@[simp] theorem State.inc_mbWait (s : State) (f : Field) (i : Nat) : (s.inc f i).mbWait = s.mbWait := rfl
@[simp] theorem State.inc_cmds (s : State) (f : Field) (i : Nat) : (s.inc f i).cmds = s.cmds := rfl
@[simp] theorem State.inc_waits (s : State) (f : Field) (i : Nat) : (s.inc f i).waits = s.waits := rfl
@[simp] theorem State.inc_spill (s : State) (f : Field) (i : Nat) : (s.inc f i).spill = s.spill := rfl
@[simp] theorem State.inc_spillCount (s : State) (f : Field) (i : Nat) : (s.inc f i).spillCount = s.spillCount := rfl
@[simp] theorem State.inc_fired (s : State) (f : Field) (i : Nat) : (s.inc f i).fired = s.fired := rfl
@[simp] theorem State.inc_evts (s : State) (f : Field) (i : Nat) : (s.inc f i).evts = s.evts := rfl
@[simp] theorem State.inc_evtSeq (s : State) (f : Field) (i : Nat) : (s.inc f i).evtSeq = s.evtSeq := rfl
@[simp] theorem State.inc_spillSeq (s : State) (f : Field) (i : Nat) : (s.inc f i).spillSeq = s.spillSeq := rfl
@[simp] theorem State.inc_gen (s : State) (f : Field) (i : Nat) : (s.inc f i).gen = s.gen := rfl
@[simp] theorem State.inc_fwStarted (s : State) (f : Field) (i : Nat) : (s.inc f i).fwStarted = s.fwStarted := rfl
@[simp] theorem State.inc_restartCause (s : State) (f : Field) (i : Nat) : (s.inc f i).restartCause = s.restartCause := rfl
@[simp] theorem State.inc_restarting (s : State) (f : Field) (i : Nat) : (s.inc f i).restarting = s.restarting := rfl
@[simp] theorem State.inc_sessions (s : State) (f : Field) (i : Nat) : (s.inc f i).sessions = s.sessions := rfl
@[simp] theorem State.inc_image (s : State) (f : Field) (i : Nat) : (s.inc f i).image = s.image := rfl
@[simp] theorem State.inc_imageTouched (s : State) (f : Field) (i : Nat) : (s.inc f i).imageTouched = s.imageTouched := rfl
@[simp] theorem State.inc_erased (s : State) (f : Field) (i : Nat) : (s.inc f i).erased = s.erased := rfl
@[simp] theorem State.inc_fellBack (s : State) (f : Field) (i : Nat) : (s.inc f i).fellBack = s.fellBack := rfl
@[simp] theorem State.inc_sealed (s : State) (f : Field) (i : Nat) : (s.inc f i).sealed = s.sealed := rfl
@[simp] theorem State.inc_mode (s : State) (f : Field) (i : Nat) : (s.inc f i).mode = s.mode := rfl
@[simp] theorem State.inc_emerg (s : State) (f : Field) (i : Nat) : (s.inc f i).emerg = s.emerg := rfl
@[simp] theorem State.inc_modeReqs (s : State) (f : Field) (i : Nat) : (s.inc f i).modeReqs = s.modeReqs := rfl
@[simp] theorem State.inc_modeWait (s : State) (f : Field) (i : Nat) : (s.inc f i).modeWait = s.modeWait := rfl
@[simp] theorem State.inc_modePost (s : State) (f : Field) (i : Nat) : (s.inc f i).modePost = s.modePost := rfl
@[simp] theorem State.inc_switched (s : State) (f : Field) (i : Nat) : (s.inc f i).switched = s.switched := rfl
@[simp] theorem State.inc_caughtUp (s : State) (f : Field) (i : Nat) : (s.inc f i).caughtUp = s.caughtUp := rfl
@[simp] theorem State.inc_keys (s : State) (f : Field) (i : Nat) : (s.inc f i).keys = s.keys := rfl
@[simp] theorem State.inc_panelEncs (s : State) (f : Field) (i : Nat) : (s.inc f i).panelEncs = s.panelEncs := rfl
@[simp] theorem State.inc_leds (s : State) (f : Field) (i : Nat) : (s.inc f i).leds = s.leds := rfl
@[simp] theorem State.inc_sched (s : State) (f : Field) (i : Nat) : (s.inc f i).sched = s.sched := rfl
@[simp] theorem State.inc_boot (s : State) (f : Field) (i : Nat) : (s.inc f i).boot = s.boot := rfl
@[simp] theorem State.inc_shedPlan (s : State) (f : Field) (i : Nat) : (s.inc f i).shedPlan = s.shedPlan := rfl
@[simp] theorem State.inc_railDown (s : State) (f : Field) (i : Nat) : (s.inc f i).railDown = s.railDown := rfl
@[simp] theorem State.inc_brownRails (s : State) (f : Field) (i : Nat) : (s.inc f i).brownRails = s.brownRails := rfl
@[simp] theorem State.inc_tamperOn (s : State) (f : Field) (i : Nat) : (s.inc f i).tamperOn = s.tamperOn := rfl
@[simp] theorem State.inc_recoveryDue (s : State) (f : Field) (i : Nat) : (s.inc f i).recoveryDue = s.recoveryDue := rfl
@[simp] theorem State.inc_bypassPin (s : State) (f : Field) (i : Nat) : (s.inc f i).bypassPin = s.bypassPin := rfl
@[simp] theorem State.inc_bypassCmd (s : State) (f : Field) (i : Nat) : (s.inc f i).bypassCmd = s.bypassCmd := rfl
@[simp] theorem State.inc_pairs (s : State) (f : Field) (i : Nat) : (s.inc f i).pairs = s.pairs := rfl
@[simp] theorem State.inc_fuseSealed (s : State) (f : Field) (i : Nat) : (s.inc f i).fuseSealed = s.fuseSealed := rfl
@[simp] theorem State.inc_fuseRetired (s : State) (f : Field) (i : Nat) : (s.inc f i).fuseRetired = s.fuseRetired := rfl
@[simp] theorem State.inc_fuseKeys (s : State) (f : Field) (i : Nat) : (s.inc f i).fuseKeys = s.fuseKeys := rfl
@[simp] theorem State.inc_fuseArmed (s : State) (f : Field) (i : Nat) : (s.inc f i).fuseArmed = s.fuseArmed := rfl
@[simp] theorem State.inc_fuseMask (s : State) (f : Field) (i : Nat) : (s.inc f i).fuseMask = s.fuseMask := rfl
@[simp] theorem State.inc_service (s : State) (f : Field) (i : Nat) : (s.inc f i).service = s.service := rfl
@[simp] theorem State.inc_retireDue (s : State) (f : Field) (i : Nat) : (s.inc f i).retireDue = s.retireDue := rfl
@[simp] theorem State.inc_enrolled (s : State) (f : Field) (i : Nat) : (s.inc f i).enrolled = s.enrolled := rfl

/-! ### `State.putRw` leaves every field but the register file -/

@[simp] theorem State.putRw_pending (s : State) (r : RegAddr) (w : Word) : (s.putRw r w).pending = s.pending := rfl
@[simp] theorem State.putRw_part (s : State) (r : RegAddr) (w : Word) : (s.putRw r w).part = s.part := rfl
@[simp] theorem State.putRw_stepping (s : State) (r : RegAddr) (w : Word) : (s.putRw r w).stepping = s.stepping := rfl
@[simp] theorem State.putRw_tod (s : State) (r : RegAddr) (w : Word) : (s.putRw r w).tod = s.tod := rfl
@[simp] theorem State.putRw_stepped (s : State) (r : RegAddr) (w : Word) : (s.putRw r w).stepped = s.stepped := rfl
@[simp] theorem State.putRw_refclk (s : State) (r : RegAddr) (w : Word) : (s.putRw r w).refclk = s.refclk := rfl
@[simp] theorem State.putRw_drawn (s : State) (r : RegAddr) (w : Word) : (s.putRw r w).drawn = s.drawn := rfl
@[simp] theorem State.putRw_yard (s : State) (r : RegAddr) (w : Word) : (s.putRw r w).yard = s.yard := rfl
@[simp] theorem State.putRw_tablesReady (s : State) (r : RegAddr) (w : Word) : (s.putRw r w).tablesReady = s.tablesReady := rfl
@[simp] theorem State.putRw_yardOut (s : State) (r : RegAddr) (w : Word) : (s.putRw r w).yardOut = s.yardOut := rfl
@[simp] theorem State.putRw_yardErr (s : State) (r : RegAddr) (w : Word) : (s.putRw r w).yardErr = s.yardErr := rfl
@[simp] theorem State.putRw_poison (s : State) (r : RegAddr) (w : Word) : (s.putRw r w).poison = s.poison := rfl
@[simp] theorem State.putRw_flash (s : State) (r : RegAddr) (w : Word) : (s.putRw r w).flash = s.flash := rfl
@[simp] theorem State.putRw_tack (s : State) (r : RegAddr) (w : Word) : (s.putRw r w).tack = s.tack := rfl
@[simp] theorem State.putRw_tackErr (s : State) (r : RegAddr) (w : Word) : (s.putRw r w).tackErr = s.tackErr := rfl
@[simp] theorem State.putRw_mbi (s : State) (r : RegAddr) (w : Word) : (s.putRw r w).mbi = s.mbi := rfl
@[simp] theorem State.putRw_mbo (s : State) (r : RegAddr) (w : Word) : (s.putRw r w).mbo = s.mbo := rfl
@[simp] theorem State.putRw_rx (s : State) (r : RegAddr) (w : Word) : (s.putRw r w).rx = s.rx := rfl
@[simp] theorem State.putRw_tx (s : State) (r : RegAddr) (w : Word) : (s.putRw r w).tx = s.tx := rfl
@[simp] theorem State.putRw_enc (s : State) (r : RegAddr) (w : Word) : (s.putRw r w).enc = s.enc := rfl
@[simp] theorem State.putRw_srcs (s : State) (r : RegAddr) (w : Word) : (s.putRw r w).srcs = s.srcs := rfl
@[simp] theorem State.putRw_eligible (s : State) (r : RegAddr) (w : Word) : (s.putRw r w).eligible = s.eligible := rfl
@[simp] theorem State.putRw_lastElig (s : State) (r : RegAddr) (w : Word) : (s.putRw r w).lastElig = s.lastElig := rfl
@[simp] theorem State.putRw_lastOther (s : State) (r : RegAddr) (w : Word) : (s.putRw r w).lastOther = s.lastOther := rfl
@[simp] theorem State.putRw_entries (s : State) (r : RegAddr) (w : Word) : (s.putRw r w).entries = s.entries := rfl
@[simp] theorem State.putRw_actions (s : State) (r : RegAddr) (w : Word) : (s.putRw r w).actions = s.actions := rfl
@[simp] theorem State.putRw_groups (s : State) (r : RegAddr) (w : Word) : (s.putRw r w).groups = s.groups := rfl
@[simp] theorem State.putRw_bindings (s : State) (r : RegAddr) (w : Word) : (s.putRw r w).bindings = s.bindings := rfl
@[simp] theorem State.putRw_unbound (s : State) (r : RegAddr) (w : Word) : (s.putRw r w).unbound = s.unbound := rfl
@[simp] theorem State.putRw_hits (s : State) (r : RegAddr) (w : Word) : (s.putRw r w).hits = s.hits := rfl
@[simp] theorem State.putRw_acts (s : State) (r : RegAddr) (w : Word) : (s.putRw r w).acts = s.acts := rfl
@[simp] theorem State.putRw_commitAsked (s : State) (r : RegAddr) (w : Word) : (s.putRw r w).commitAsked = s.commitAsked := rfl
@[simp] theorem State.putRw_sweepDue (s : State) (r : RegAddr) (w : Word) : (s.putRw r w).sweepDue = s.sweepDue := rfl
@[simp] theorem State.putRw_routerStaged (s : State) (r : RegAddr) (w : Word) : (s.putRw r w).routerStaged = s.routerStaged := rfl
@[simp] theorem State.putRw_routerQ (s : State) (r : RegAddr) (w : Word) : (s.putRw r w).routerQ = s.routerQ := rfl
@[simp] theorem State.putRw_voterQ (s : State) (r : RegAddr) (w : Word) : (s.putRw r w).voterQ = s.voterQ := rfl
@[simp] theorem State.putRw_ballots (s : State) (r : RegAddr) (w : Word) : (s.putRw r w).ballots = s.ballots := rfl
@[simp] theorem State.putRw_agreeRun (s : State) (r : RegAddr) (w : Word) : (s.putRw r w).agreeRun = s.agreeRun := rfl
@[simp] theorem State.putRw_latches (s : State) (r : RegAddr) (w : Word) : (s.putRw r w).latches = s.latches := rfl
@[simp] theorem State.putRw_stalls (s : State) (r : RegAddr) (w : Word) : (s.putRw r w).stalls = s.stalls := rfl
@[simp] theorem State.putRw_logSeq (s : State) (r : RegAddr) (w : Word) : (s.putRw r w).logSeq = s.logSeq := rfl
@[simp] theorem State.putRw_groomPass (s : State) (r : RegAddr) (w : Word) : (s.putRw r w).groomPass = s.groomPass := rfl
@[simp] theorem State.putRw_groomNext (s : State) (r : RegAddr) (w : Word) : (s.putRw r w).groomNext = s.groomNext := rfl
@[simp] theorem State.putRw_voidRun (s : State) (r : RegAddr) (w : Word) : (s.putRw r w).voidRun = s.voidRun := rfl
@[simp] theorem State.putRw_trackers (s : State) (r : RegAddr) (w : Word) : (s.putRw r w).trackers = s.trackers := rfl
@[simp] theorem State.putRw_trackAge (s : State) (r : RegAddr) (w : Word) : (s.putRw r w).trackAge = s.trackAge := rfl
@[simp] theorem State.putRw_persistMap (s : State) (r : RegAddr) (w : Word) : (s.putRw r w).persistMap = s.persistMap := rfl
@[simp] theorem State.putRw_pulses (s : State) (r : RegAddr) (w : Word) : (s.putRw r w).pulses = s.pulses := rfl
@[simp] theorem State.putRw_caps (s : State) (r : RegAddr) (w : Word) : (s.putRw r w).caps = s.caps := rfl
@[simp] theorem State.putRw_frame (s : State) (r : RegAddr) (w : Word) : (s.putRw r w).frame = s.frame := rfl
@[simp] theorem State.putRw_servo (s : State) (r : RegAddr) (w : Word) : (s.putRw r w).servo = s.servo := rfl
@[simp] theorem State.putRw_zones (s : State) (r : RegAddr) (w : Word) : (s.putRw r w).zones = s.zones := rfl
@[simp] theorem State.putRw_readings (s : State) (r : RegAddr) (w : Word) : (s.putRw r w).readings = s.readings := rfl
@[simp] theorem State.putRw_pixDue (s : State) (r : RegAddr) (w : Word) : (s.putRw r w).pixDue = s.pixDue := rfl
@[simp] theorem State.putRw_pixTicked (s : State) (r : RegAddr) (w : Word) : (s.putRw r w).pixTicked = s.pixTicked := rfl
@[simp] theorem State.putRw_stagedEnc (s : State) (r : RegAddr) (w : Word) : (s.putRw r w).stagedEnc = s.stagedEnc := rfl
@[simp] theorem State.putRw_stagedGroup (s : State) (r : RegAddr) (w : Word) : (s.putRw r w).stagedGroup = s.stagedGroup := rfl
@[simp] theorem State.putRw_stagedDelay (s : State) (r : RegAddr) (w : Word) : (s.putRw r w).stagedDelay = s.stagedDelay := rfl
@[simp] theorem State.putRw_runNow (s : State) (r : RegAddr) (w : Word) : (s.putRw r w).runNow = s.runNow := rfl
@[simp] theorem State.putRw_srcNow (s : State) (r : RegAddr) (w : Word) : (s.putRw r w).srcNow = s.srcNow := rfl
@[simp] theorem State.putRw_curves (s : State) (r : RegAddr) (w : Word) : (s.putRw r w).curves = s.curves := rfl
@[simp] theorem State.putRw_curveDue (s : State) (r : RegAddr) (w : Word) : (s.putRw r w).curveDue = s.curveDue := rfl
@[simp] theorem State.putRw_seedLeft (s : State) (r : RegAddr) (w : Word) : (s.putRw r w).seedLeft = s.seedLeft := rfl
@[simp] theorem State.putRw_seedHeld (s : State) (r : RegAddr) (w : Word) : (s.putRw r w).seedHeld = s.seedHeld := rfl
@[simp] theorem State.putRw_univs (s : State) (r : RegAddr) (w : Word) : (s.putRw r w).univs = s.univs := rfl
@[simp] theorem State.putRw_syncOff (s : State) (r : RegAddr) (w : Word) : (s.putRw r w).syncOff = s.syncOff := rfl
@[simp] theorem State.putRw_channels (s : State) (r : RegAddr) (w : Word) : (s.putRw r w).channels = s.channels := rfl
@[simp] theorem State.putRw_spares (s : State) (r : RegAddr) (w : Word) : (s.putRw r w).spares = s.spares := rfl
@[simp] theorem State.putRw_calSeq (s : State) (r : RegAddr) (w : Word) : (s.putRw r w).calSeq = s.calSeq := rfl
@[simp] theorem State.putRw_calHeld (s : State) (r : RegAddr) (w : Word) : (s.putRw r w).calHeld = s.calHeld := rfl
@[simp] theorem State.putRw_calSaved (s : State) (r : RegAddr) (w : Word) : (s.putRw r w).calSaved = s.calSaved := rfl
@[simp] theorem State.putRw_calUnsaved (s : State) (r : RegAddr) (w : Word) : (s.putRw r w).calUnsaved = s.calUnsaved := rfl
@[simp] theorem State.putRw_twin (s : State) (r : RegAddr) (w : Word) : (s.putRw r w).twin = s.twin := rfl
@[simp] theorem State.putRw_stream (s : State) (r : RegAddr) (w : Word) : (s.putRw r w).stream = s.stream := rfl
@[simp] theorem State.putRw_eth (s : State) (r : RegAddr) (w : Word) : (s.putRw r w).eth = s.eth := rfl
@[simp] theorem State.putRw_spiOut (s : State) (r : RegAddr) (w : Word) : (s.putRw r w).spiOut = s.spiOut := rfl
@[simp] theorem State.putRw_ackNo (s : State) (r : RegAddr) (w : Word) : (s.putRw r w).ackNo = s.ackNo := rfl
@[simp] theorem State.putRw_rungBy (s : State) (r : RegAddr) (w : Word) : (s.putRw r w).rungBy = s.rungBy := rfl
@[simp] theorem State.putRw_ringNo (s : State) (r : RegAddr) (w : Word) : (s.putRw r w).ringNo = s.ringNo := rfl
@[simp] theorem State.putRw_mbFrom (s : State) (r : RegAddr) (w : Word) : (s.putRw r w).mbFrom = s.mbFrom := rfl
@[simp] theorem State.putRw_mbWait (s : State) (r : RegAddr) (w : Word) : (s.putRw r w).mbWait = s.mbWait := rfl
@[simp] theorem State.putRw_cmds (s : State) (r : RegAddr) (w : Word) : (s.putRw r w).cmds = s.cmds := rfl
@[simp] theorem State.putRw_waits (s : State) (r : RegAddr) (w : Word) : (s.putRw r w).waits = s.waits := rfl
@[simp] theorem State.putRw_spill (s : State) (r : RegAddr) (w : Word) : (s.putRw r w).spill = s.spill := rfl
@[simp] theorem State.putRw_spillCount (s : State) (r : RegAddr) (w : Word) : (s.putRw r w).spillCount = s.spillCount := rfl
@[simp] theorem State.putRw_fired (s : State) (r : RegAddr) (w : Word) : (s.putRw r w).fired = s.fired := rfl
@[simp] theorem State.putRw_evts (s : State) (r : RegAddr) (w : Word) : (s.putRw r w).evts = s.evts := rfl
@[simp] theorem State.putRw_evtSeq (s : State) (r : RegAddr) (w : Word) : (s.putRw r w).evtSeq = s.evtSeq := rfl
@[simp] theorem State.putRw_spillSeq (s : State) (r : RegAddr) (w : Word) : (s.putRw r w).spillSeq = s.spillSeq := rfl
@[simp] theorem State.putRw_gen (s : State) (r : RegAddr) (w : Word) : (s.putRw r w).gen = s.gen := rfl
@[simp] theorem State.putRw_fwStarted (s : State) (r : RegAddr) (w : Word) : (s.putRw r w).fwStarted = s.fwStarted := rfl
@[simp] theorem State.putRw_restartCause (s : State) (r : RegAddr) (w : Word) : (s.putRw r w).restartCause = s.restartCause := rfl
@[simp] theorem State.putRw_restarting (s : State) (r : RegAddr) (w : Word) : (s.putRw r w).restarting = s.restarting := rfl
@[simp] theorem State.putRw_sessions (s : State) (r : RegAddr) (w : Word) : (s.putRw r w).sessions = s.sessions := rfl
@[simp] theorem State.putRw_image (s : State) (r : RegAddr) (w : Word) : (s.putRw r w).image = s.image := rfl
@[simp] theorem State.putRw_imageTouched (s : State) (r : RegAddr) (w : Word) : (s.putRw r w).imageTouched = s.imageTouched := rfl
@[simp] theorem State.putRw_erased (s : State) (r : RegAddr) (w : Word) : (s.putRw r w).erased = s.erased := rfl
@[simp] theorem State.putRw_fellBack (s : State) (r : RegAddr) (w : Word) : (s.putRw r w).fellBack = s.fellBack := rfl
@[simp] theorem State.putRw_sealed (s : State) (r : RegAddr) (w : Word) : (s.putRw r w).sealed = s.sealed := rfl
@[simp] theorem State.putRw_mode (s : State) (r : RegAddr) (w : Word) : (s.putRw r w).mode = s.mode := rfl
@[simp] theorem State.putRw_emerg (s : State) (r : RegAddr) (w : Word) : (s.putRw r w).emerg = s.emerg := rfl
@[simp] theorem State.putRw_modeReqs (s : State) (r : RegAddr) (w : Word) : (s.putRw r w).modeReqs = s.modeReqs := rfl
@[simp] theorem State.putRw_modeWait (s : State) (r : RegAddr) (w : Word) : (s.putRw r w).modeWait = s.modeWait := rfl
@[simp] theorem State.putRw_modePost (s : State) (r : RegAddr) (w : Word) : (s.putRw r w).modePost = s.modePost := rfl
@[simp] theorem State.putRw_switched (s : State) (r : RegAddr) (w : Word) : (s.putRw r w).switched = s.switched := rfl
@[simp] theorem State.putRw_caughtUp (s : State) (r : RegAddr) (w : Word) : (s.putRw r w).caughtUp = s.caughtUp := rfl
@[simp] theorem State.putRw_keys (s : State) (r : RegAddr) (w : Word) : (s.putRw r w).keys = s.keys := rfl
@[simp] theorem State.putRw_panelEncs (s : State) (r : RegAddr) (w : Word) : (s.putRw r w).panelEncs = s.panelEncs := rfl
@[simp] theorem State.putRw_leds (s : State) (r : RegAddr) (w : Word) : (s.putRw r w).leds = s.leds := rfl
@[simp] theorem State.putRw_sched (s : State) (r : RegAddr) (w : Word) : (s.putRw r w).sched = s.sched := rfl
@[simp] theorem State.putRw_boot (s : State) (r : RegAddr) (w : Word) : (s.putRw r w).boot = s.boot := rfl
@[simp] theorem State.putRw_shedPlan (s : State) (r : RegAddr) (w : Word) : (s.putRw r w).shedPlan = s.shedPlan := rfl
@[simp] theorem State.putRw_railDown (s : State) (r : RegAddr) (w : Word) : (s.putRw r w).railDown = s.railDown := rfl
@[simp] theorem State.putRw_brownRails (s : State) (r : RegAddr) (w : Word) : (s.putRw r w).brownRails = s.brownRails := rfl
@[simp] theorem State.putRw_tamperOn (s : State) (r : RegAddr) (w : Word) : (s.putRw r w).tamperOn = s.tamperOn := rfl
@[simp] theorem State.putRw_recoveryDue (s : State) (r : RegAddr) (w : Word) : (s.putRw r w).recoveryDue = s.recoveryDue := rfl
@[simp] theorem State.putRw_bypassPin (s : State) (r : RegAddr) (w : Word) : (s.putRw r w).bypassPin = s.bypassPin := rfl
@[simp] theorem State.putRw_bypassCmd (s : State) (r : RegAddr) (w : Word) : (s.putRw r w).bypassCmd = s.bypassCmd := rfl
@[simp] theorem State.putRw_pairs (s : State) (r : RegAddr) (w : Word) : (s.putRw r w).pairs = s.pairs := rfl
@[simp] theorem State.putRw_fuseSealed (s : State) (r : RegAddr) (w : Word) : (s.putRw r w).fuseSealed = s.fuseSealed := rfl
@[simp] theorem State.putRw_fuseRetired (s : State) (r : RegAddr) (w : Word) : (s.putRw r w).fuseRetired = s.fuseRetired := rfl
@[simp] theorem State.putRw_fuseKeys (s : State) (r : RegAddr) (w : Word) : (s.putRw r w).fuseKeys = s.fuseKeys := rfl
@[simp] theorem State.putRw_fuseArmed (s : State) (r : RegAddr) (w : Word) : (s.putRw r w).fuseArmed = s.fuseArmed := rfl
@[simp] theorem State.putRw_fuseMask (s : State) (r : RegAddr) (w : Word) : (s.putRw r w).fuseMask = s.fuseMask := rfl
@[simp] theorem State.putRw_service (s : State) (r : RegAddr) (w : Word) : (s.putRw r w).service = s.service := rfl
@[simp] theorem State.putRw_retireDue (s : State) (r : RegAddr) (w : Word) : (s.putRw r w).retireDue = s.retireDue := rfl
@[simp] theorem State.putRw_enrolled (s : State) (r : RegAddr) (w : Word) : (s.putRw r w).enrolled = s.enrolled := rfl

end Sys2Proof.Machine
end

