-- ==== Sys2Proof/Laws/Memory.lean ====
section
/-! SUPPORT. Memories: every write keeps the canonical form, a read gives the bytes last written, and a write leaves
every other byte. -/

namespace Sys2Proof.Machine

/-! ### Canonical forms -/

theorem tblWfFrom_mono {α : Type} [DecidableEq α] (d : α) {b c : Nat} (h : c ≤ b) {t : Tbl α} (w : tblWfFrom d b t = true) :
    tblWfFrom d c t = true := by
  cases t with
  | nil => rfl
  | cons e r =>
    simp only [tblWfFrom, Bool.and_eq_true, decide_eq_true_eq] at w ⊢
    exact ⟨⟨h.trans w.1.1, w.1.2⟩, w.2⟩

theorem tdrop_wfFrom {α : Type} [DecidableEq α] (d : α) (k : Nat) {t : Tbl α} {b : Nat} (w : tblWfFrom d b t = true) :
    tblWfFrom d b (tdrop t k) = true := by
  induction t generalizing b with
  | nil => rfl
  | cons e r ih =>
    simp only [tblWfFrom, Bool.and_eq_true, decide_eq_true_eq] at w
    unfold tdrop
    split
    · exact tblWfFrom_mono d (by omega) (ih w.2)
    · simp only [tblWfFrom, Bool.and_eq_true, decide_eq_true_eq]
      exact ⟨w.1, ih w.2⟩

theorem tins_wfFrom {α : Type} [DecidableEq α] (d : α) (k : Nat) {v : α} (hv : v ≠ d) {t : Tbl α} {b : Nat} (hb : b ≤ k)
    (w : tblWfFrom d b t = true) : tblWfFrom d b (tins t k v) = true := by
  induction t generalizing b with
  | nil => simp [tins, tblWfFrom, hb, hv]
  | cons e r ih =>
    simp only [tblWfFrom, Bool.and_eq_true, decide_eq_true_eq] at w
    unfold tins
    split
    · simp only [tblWfFrom, Bool.and_eq_true, decide_eq_true_eq]
      exact ⟨⟨hb, hv⟩, ⟨by omega, w.1.2⟩, w.2⟩
    · split
      · rename_i h; subst h
        simp only [tblWfFrom, Bool.and_eq_true, decide_eq_true_eq]
        exact ⟨⟨hb, hv⟩, w.2⟩
      · simp only [tblWfFrom, Bool.and_eq_true, decide_eq_true_eq]
        exact ⟨w.1, ih (by omega) w.2⟩

theorem tput_wf {α : Type} [DecidableEq α] (d : α) (k : Nat) (v : α) {t : Tbl α} (w : tblWf d t = true) :
    tblWf d (tput t k v d) = true := by
  unfold tput
  split
  · exact tdrop_wfFrom d k w
  · rename_i h; exact tins_wfFrom d k h (Nat.zero_le _) w

theorem memWrite_wf (d : Byte) (a : Nat) (bs : List Byte) {m : List Host.Cell} (w : Memory.wf d m = true) :
    Memory.wf d (memWrite m d a bs) = true := by
  induction bs generalizing m a with
  | nil => exact w
  | cons b r ih => exact ih _ (tput_wf d a b w)

theorem filter_wfFrom {α : Type} [DecidableEq α] (d : α) (p : Nat × α → Bool) {t : Tbl α} {b : Nat} (w : tblWfFrom d b t = true) :
    tblWfFrom d b (t.filter p) = true := by
  induction t generalizing b with
  | nil => rfl
  | cons e r ih =>
    simp only [tblWfFrom, Bool.and_eq_true, decide_eq_true_eq] at w
    rw [List.filter_cons]
    split
    · simp only [tblWfFrom, Bool.and_eq_true, decide_eq_true_eq]
      exact ⟨w.1, ih w.2⟩
    · exact tblWfFrom_mono d (by omega) (ih w.2)

theorem yardWfFrom_mono (ready : Bool) {b c : Nat} (h : c ≤ b) {t : List Host.Cell} (w : yardWfFrom ready b t = true) :
    yardWfFrom ready c t = true := by
  cases t with
  | nil => rfl
  | cons e r =>
    simp only [yardWfFrom, Bool.and_eq_true, decide_eq_true_eq] at w ⊢
    exact ⟨⟨h.trans w.1.1, w.1.2⟩, w.2⟩

theorem yard_tdrop_wf (ready : Bool) (k : Nat) {t : List Host.Cell} {b : Nat} (w : yardWfFrom ready b t = true) :
    yardWfFrom ready b (tdrop t k) = true := by
  induction t generalizing b with
  | nil => rfl
  | cons e r ih =>
    simp only [yardWfFrom, Bool.and_eq_true, decide_eq_true_eq] at w
    unfold tdrop
    split
    · exact yardWfFrom_mono ready (by omega) (ih w.2)
    · simp only [yardWfFrom, Bool.and_eq_true, decide_eq_true_eq]
      exact ⟨w.1, ih w.2⟩

theorem yard_tins_wf (ready : Bool) (k : Nat) {v : Byte} (hv : v ≠ yardInit ready k) {t : List Host.Cell} {b : Nat} (hb : b ≤ k)
    (w : yardWfFrom ready b t = true) : yardWfFrom ready b (tins t k v) = true := by
  induction t generalizing b with
  | nil => simp [tins, yardWfFrom, hb, hv]
  | cons e r ih =>
    simp only [yardWfFrom, Bool.and_eq_true, decide_eq_true_eq] at w
    unfold tins
    split
    · simp only [yardWfFrom, Bool.and_eq_true, decide_eq_true_eq]
      exact ⟨⟨hb, hv⟩, ⟨by omega, w.1.2⟩, w.2⟩
    · split
      · rename_i h; subst h
        simp only [yardWfFrom, Bool.and_eq_true, decide_eq_true_eq]
        exact ⟨⟨hb, hv⟩, w.2⟩
      · simp only [yardWfFrom, Bool.and_eq_true, decide_eq_true_eq]
        exact ⟨w.1, ih (by omega) w.2⟩

theorem yard_tput_wf (ready : Bool) (k : Nat) (v : Byte) {t : List Host.Cell} {b : Nat} (hb : b ≤ k) (w : yardWfFrom ready b t = true) :
    yardWfFrom ready b (tput t k v (yardInit ready k)) = true := by
  unfold tput
  split
  · exact yard_tdrop_wf ready k w
  · rename_i h; exact yard_tins_wf ready k h hb w

theorem yard_filter_wf (ready : Bool) (p : Host.Cell → Bool) {t : List Host.Cell} {b : Nat} (w : yardWfFrom ready b t = true) :
    yardWfFrom ready b (t.filter p) = true := by
  induction t generalizing b with
  | nil => rfl
  | cons e r ih =>
    simp only [yardWfFrom, Bool.and_eq_true, decide_eq_true_eq] at w
    rw [List.filter_cons]
    split
    · simp only [yardWfFrom, Bool.and_eq_true, decide_eq_true_eq]
      exact ⟨w.1, ih w.2⟩
    · exact yardWfFrom_mono ready (by omega) (ih w.2)

/-- Erasing the cells that `q` does not keep. -/
theorem tget_filter {α : Type} (t : Tbl α) (q : Nat → Bool) (k : Nat) (d : α) :
    tget (t.filter (fun e => q e.1)) k d = if q k then tget t k d else d := by
  induction t with
  | nil => simp [tget]
  | cons e r ih =>
    obtain ⟨a, v⟩ := e
    rw [List.filter_cons]
    by_cases h : a = k
    · subst h
      by_cases hq : q a = true
      · simp [tget, hq]
      · simp only [hq, Bool.false_eq_true, if_false] at ih ⊢
        simp [ih]
    · by_cases hq : q a = true
      · simp [tget, hq, h, ih]
      · simp [tget, hq, h, ih]

/-! ### Reads after writes -/

/-- A byte after a write: the one written where it lies in the range, the old one elsewhere. -/
theorem memByte_memWrite (m : List Host.Cell) (d : Byte) (a : Nat) (bs : List Byte) (k : Nat) :
    memByte (memWrite m d a bs) d k = if a ≤ k ∧ k < a + bs.length then bs.getD (k - a) d else memByte m d k := by
  induction bs generalizing m a with
  | nil =>
    rw [if_neg (by simp)]
    rfl
  | cons b r ih =>
    unfold memWrite
    rw [ih]
    by_cases h1 : a + 1 ≤ k ∧ k < a + 1 + r.length
    · rw [if_pos h1, if_pos (by simp; omega)]
      have : k - a = (k - (a + 1)) + 1 := by omega
      rw [this]; simp
    · rw [if_neg h1]
      by_cases h2 : k = a
      · subst h2
        rw [if_pos (by simp)]
        simp [memByte]
      · rw [if_neg (by simp; omega)]
        exact tget_tput_ne _ h2 _ _ _

@[simp] theorem memRead_length (m : List Host.Cell) (d : Byte) (a n : Nat) : (memRead m d a n).length = n := by
  induction n generalizing a with
  | zero => rfl
  | succ n ih => simp [memRead, ih]

theorem memRead_getD (m : List Host.Cell) (d e : Byte) (a n i : Nat) (h : i < n) : (memRead m d a n).getD i e = memByte m d (a + i) := by
  induction n generalizing a i with
  | zero => omega
  | succ n ih =>
    cases i with
    | zero => rfl
    | succ i => simp only [memRead, List.getD_cons_succ]; rw [ih (a + 1) i (by omega)]; congr 1; omega

/-- Reading back what was written. -/
theorem memRead_memWrite (m : List Host.Cell) (d : Byte) (a : Nat) (bs : List Byte) :
    memRead (memWrite m d a bs) d a bs.length = bs := by
  apply List.ext_getElem (by simp)
  intro i h1 h2
  have e := memRead_getD (memWrite m d a bs) d d a bs.length i h2
  rw [memByte_memWrite, if_pos (by omega)] at e
  simp only [Nat.add_sub_cancel_left] at e
  rw [List.getD_eq_getElem _ _ h1, List.getD_eq_getElem _ _ h2] at e
  exact e

/-- A write outside a range leaves the bytes read from it. -/
theorem memRead_memWrite_apart (m : List Host.Cell) (d : Byte) (a b n : Nat) (bs : List Byte)
    (h : b + n ≤ a ∨ a + bs.length ≤ b) : memRead (memWrite m d a bs) d b n = memRead m d b n := by
  induction n generalizing b with
  | zero => rfl
  | succ n ih =>
    simp only [memRead]
    rw [ih (b + 1) (by omega), memByte_memWrite, if_neg (by omega)]

end Sys2Proof.Machine
end

