-- ==== Sys2Proof/Laws/Yard.lean ====
section
/-! SUPPORT. Storing bytes in the yard: what a byte holds afterwards, and what else a store touches. -/

namespace Sys2Proof.Machine

theorem namedBits_nil (r : RegAddr) : namedBits [] r = 0 := rfl

theorem keepsRegsBut_refl (l : List (Field × Nat)) (s : State) : keepsRegsBut l s s := fun _ _ => rfl

theorem keepsRegsBut_trans {l : List (Field × Nat)} {s t u : State} (h : keepsRegsBut l s t) (k : keepsRegsBut l t u) :
    keepsRegsBut l s u := fun r hr => (k r hr).trans (h r hr)

theorem testBit_foldl_mask (l : List (Field × Nat)) (k m : Nat) :
    (l.foldl (fun m e => m ||| e.1.mask) m).testBit k = (m.testBit k || l.any (fun e => e.1.mask.testBit k)) := by
  induction l generalizing m with
  | nil => simp
  | cons e l ih => simp [ih, Nat.testBit_or, Bool.or_assoc]

/-- Setting a field listed keeps the others. -/
theorem keepsRegsBut_set {l : List (Field × Nat)} (s : State) (f : Field) (i v : Nat) (h : (f, i) ∈ l)
    (hi : i < 65536) (ho : f.off < 65536) : keepsRegsBut l s (s.set f i v) := by
  intro r hr
  have hr2 : r.inst < 65536 ∧ r.off < 65536 := by simp [wfReg] at hr; omega
  by_cases e : r = f.addr i
  · subst e
    simp only [State.set, State.reg_setReg_self]
    have hm : ∀ k, k < 32 → f.mask.testBit k = true → (namedBits l (f.addr i)).getLsbD k = true := by
      intro k hk hb
      simp only [namedBits, BitVec.getLsbD_ofNat, hk, decide_true, Bool.true_and, testBit_foldl_mask, Nat.zero_testBit, Bool.false_or,
        List.any_eq_true]
      exact ⟨(f, i), by simp [h], hb⟩
    apply BitVec.eq_of_getLsbD_eq
    intro k hk
    have e : ∀ x : Word, x.getLsbD k = x.toNat.testBit k := fun x => (BitVec.testBit_toNat x).symm
    simp only [BitVec.getLsbD_and, BitVec.getLsbD_not, hk, decide_true, Bool.true_and]
    by_cases hb : f.mask.testBit k = true
    · simp [hm k hk hb]
    · rw [e (putField _ _ _), testBit_putField _ _ _ _ hk]
      rw [testBit_mask] at hb
      rw [if_neg (by simpa using hb), ← e]
  · have : (s.set f i v).reg r = s.reg r := by
      apply State.reg_setReg_ne _ _ _ hr2.1 hr2.2 e
      · exact hi
      · exact ho
    rw [this]

/-! ### Where a word stands (R264, R265, R269) -/

theorem mapEntry_here {s : State} {b row e : Nat} (h : mapEntry s b row = some e) : mapsHere s b row e = true := by
  unfold mapEntry at h
  exact List.find?_some h

/-- No two words of the yard stand in one place by the farrier's doing. -/
theorem cells_inj {s : State} {v w : Nat} (hv : v < 4194304) (hw : w < 4194304) (h : s.cells v = s.cells w) : v = w := by
  unfold State.cells spareWord at h
  cases ev : mapEntry s (v % 16) (v / 16) <;> cases ew : mapEntry s (w % 16) (w / 16) <;> rw [ev, ew] at h <;> simp at h
  · exact h
  · omega
  · omega
  · subst h
    have a := mapEntry_here ev
    have b := mapEntry_here ew
    simp only [mapsHere, Bool.and_eq_true, beq_iff_eq] at a b
    have := a.1.1.symm.trans b.1.1
    have := a.1.2.symm.trans b.1.2
    omega

theorem saveWord_ge (r i : Nat) : 0x3FFF80 ≤ saveWord r i := by unfold saveWord; split <;> omega

theorem saveWord_lt (r i : Nat) (h : i < 64) : saveWord r i < 4194304 := by unfold saveWord; split <;> omega

theorem saveWord_inj {r i j : Nat} (h : saveWord r i = saveWord r j) : i = j := by unfold saveWord at h; omega

theorem away_region {g : GroomPass} {w : Nat} (h : g.away w = true) : w / 64 = g.region := by
  simp only [GroomPass.away, Bool.and_eq_true, beq_iff_eq] at h
  exact h.1.1.2

/-- No two words below the save buffers are served from one word by the groom's doing. -/
theorem home_inj {s : State} {v w : Nat} (hv : v < 0x3FFF80) (hw : w < 0x3FFF80) (h : s.home v = s.home w) : v = w := by
  unfold State.home at h
  cases hg : s.groomPass with
  | none => rw [hg] at h; exact h
  | some g =>
    rw [hg] at h
    have a := saveWord_ge g.region (v % 64)
    have b := saveWord_ge g.region (w % 64)
    by_cases hav : g.away v = true <;> by_cases haw : g.away w = true <;> simp [hav, haw] at h
    · have := saveWord_inj h
      have := away_region hav
      have := away_region haw
      omega
    · omega
    · omega
    · exact h

theorem home_lt {s : State} {w : Nat} (h : w < 0x3FFF80) : s.home w < 4194304 := by
  unfold State.home
  split
  · split
    · exact saveWord_lt _ _ (by omega)
    · omega
  · omega

/-- Every address below the save buffers has its own place. -/
theorem place_inj {s : State} {a b : Nat} (ha : a < 0x1FFFC00) (hb : b < 0x1FFFC00) (h : s.place a = s.place b) : a = b := by
  unfold State.place State.loc at h
  have hc : s.cells (s.home (a / 8)) = s.cells (s.home (b / 8)) := by omega
  have := home_inj (by omega) (by omega) (cells_inj (home_lt (by omega)) (home_lt (by omega)) hc)
  omega

/-- With no pass under way and no row on a spare, every word stands at its own address. -/
theorem place_plain {s : State} (hg : s.groomPass = none) {a : Nat} (hm : mapEntry s (a / 8 % 16) (a / 8 / 16) = none) :
    s.place a = a := by
  unfold State.place State.loc State.home State.cells
  rw [hg]
  simp only [hm, Option.map_none, Option.getD_none]
  omega

/-! ### What a store touches -/

/-- Marking a groomed region as written touches the pass alone. -/
theorem State.markWritten_rest (s : State) (a : Nat) : s.markWritten a = { s with groomPass := (s.markWritten a).groomPass } := by
  unfold State.markWritten
  split
  · split <;> rfl
  · rfl

theorem State.markWritten_place (s : State) (a k : Nat) : (s.markWritten a).place k = s.place k := by
  unfold State.markWritten
  split
  · rename_i g hg
    split
    · have h : ({ s with groomPass := some { g with written := true } } : State).home (k / 8) = s.home (k / 8) := by
        unfold State.home; rw [hg]; rfl
      unfold State.place State.loc
      rw [h]; rfl
    · rfl
  · rfl

theorem State.yardPut_place (s : State) (a : Nat) (b : Byte) (k : Nat) : (s.yardPut a b).place k = s.place k :=
  s.markWritten_place a k

/-- One byte stored below the save buffers. -/
theorem State.yardPut_cell (s : State) (a : Nat) (b : Byte) (k : Nat) (ha : a < 0x1FFFC00) (hk : k < 0x1FFFC00) :
    (s.yardPut a b).yardCell k = if k = a then b else s.yardCell k := by
  have e : (s.yardPut a b).yardCell k =
      tget (tput s.yard (s.place a) b (yardInit s.tablesReady (s.place a))) (s.place k) (yardInit s.tablesReady (s.place k)) := by
    unfold State.yardCell
    rw [State.yardPut_place]
    unfold State.yardPut
    rw [State.markWritten_rest]
  rw [e]
  by_cases h : k = a
  · subst h; simp
  · have : s.place k ≠ s.place a := fun q => h (place_inj hk ha q)
    rw [if_neg h, tget_tput_ne _ this]; rfl

theorem State.yardPut_rest (s : State) (a : Nat) (b : Byte) :
    s.yardPut a b = { s with yard := (s.yardPut a b).yard, groomPass := (s.yardPut a b).groomPass } := by
  unfold State.yardPut
  rw [State.markWritten_rest]

/-- Bytes stored below the save buffers: each reads as stored, every other as before. -/
theorem State.yardStore_cell (s : State) (a : Nat) (l : List Byte) (k : Nat) (ha : a + l.length ≤ 0x1FFFC00) (hk : k < 0x1FFFC00) :
    (s.yardStore a l).yardCell k = if a ≤ k ∧ k < a + l.length then l.getD (k - a) 0 else s.yardCell k := by
  induction l generalizing s a with
  | nil =>
    rw [if_neg (by simp)]
    rfl
  | cons b l ih =>
    simp only [List.length_cons] at ha
    unfold State.yardStore
    rw [ih _ _ (by omega), State.yardPut_cell _ _ _ _ (by omega) hk]
    by_cases h1 : a + 1 ≤ k ∧ k < a + 1 + l.length
    · rw [if_pos h1, if_pos (by simp; omega)]
      have : k - a = (k - (a + 1)) + 1 := by omega
      rw [this]; simp
    · rw [if_neg h1]
      by_cases h2 : k = a
      · subst h2
        rw [if_pos rfl, if_pos (by simp)]
        simp
      · rw [if_neg h2, if_neg (by simp; omega)]

theorem State.yardStore_rest (s : State) (a : Nat) (l : List Byte) :
    s.yardStore a l = { s with yard := (s.yardStore a l).yard, groomPass := (s.yardStore a l).groomPass } := by
  induction l generalizing s a with
  | nil => rfl
  | cons b l ih =>
    unfold State.yardStore
    rw [ih, State.yardPut_rest]

/-- What a store of bytes touches: yard bytes, the symbol errors and POISON of the words written whole, and WRITTEN of a pass. -/
theorem State.poke_rest (s : State) (a : Nat) (l : List Byte) :
    s.poke a l = { s with yard := (s.poke a l).yard, yardErr := (s.poke a l).yardErr, poison := (s.poke a l).poison,
                          groomPass := (s.poke a l).groomPass } := by
  unfold State.poke State.freshen
  rw [State.yardStore_rest]

/-- A store of bytes leaves every register. -/
theorem State.poke_reg (s : State) (a : Nat) (l : List Byte) (r : RegAddr) : (s.poke a l).reg r = s.reg r := by
  rw [State.poke_rest]; rfl

theorem State.poke_cell (s : State) (a : Nat) (l : List Byte) (k : Nat) (ha : a + l.length ≤ 0x1FFFC00) (hk : k < 0x1FFFC00) :
    (s.poke a l).yardCell k = if a ≤ k ∧ k < a + l.length then l.getD (k - a) 0 else s.yardCell k :=
  s.yardStore_cell a l k ha hk

end Sys2Proof.Machine
end

