-- ==== Sys2Proof/Laws/Flags.lean ====
section
/-! SUPPORT. Raising a flag: the bit it sets, the event it fires, and all that it leaves. Counters that hold and counters
that wrap. -/

namespace Sys2Proof.Machine

/-! ### Counters -/

/-- A counter that holds at its maximum. -/
theorem State.get_inc (s : State) (f : Field) (hf : f.fits) (i : Nat) :
    (s.inc f i).get f i = min (s.get f i + 1) (2 ^ f.width - 1) := by
  have h : 0 < 2 ^ f.width := Nat.two_pow_pos _
  unfold State.inc State.addTo
  rw [State.get_set_self _ _ hf]
  exact Nat.mod_eq_of_lt (by omega)

theorem State.get_addTo (s : State) (f : Field) (hf : f.fits) (i n : Nat) :
    (s.addTo f i n).get f i = min (s.get f i + n) (2 ^ f.width - 1) := by
  have h : 0 < 2 ^ f.width := Nat.two_pow_pos _
  unfold State.addTo
  rw [State.get_set_self _ _ hf]
  exact Nat.mod_eq_of_lt (by omega)

/-- A counter that wraps. -/
theorem State.get_incWrap (s : State) (f : Field) (hf : f.fits) (i : Nat) :
    (s.incWrap f i).get f i = (s.get f i + 1) % 2 ^ f.width := s.get_set_self f hf i _

theorem State.on_setB (s : State) (f : Field) (hf : f.fits) (hw : 0 < f.width) (i : Nat) (b : Bool) :
    (s.setB f i b).on f i = b := by
  unfold State.on State.setB
  rw [State.get_set_self _ _ hf]
  have : 2 ≤ 2 ^ f.width := by
    calc 2 = 2 ^ 1 := rfl
      _ ≤ 2 ^ f.width := Nat.pow_le_pow_right (by decide) hw
  cases b
  · simp [b2n]
  · simp [b2n, Nat.mod_eq_of_lt (show 1 < 2 ^ f.width by omega)]

/-! ### Raising -/

/-- The firing of an event now. -/
def firingOf (s : State) (e : Nat) : Firing := { event := e, stamp := s.stamp, tsState := s.tsState }

/-- Raising a flag touches its register and the firings. -/
theorem raise_rest (s : State) (fl ev : Field) (i bit e : Nat) :
    raise s fl ev i bit e = { s with regs := (raise s fl ev i bit e).regs, fired := (raise s fl ev i bit e).fired } := by
  unfold raise
  dsimp only
  split
  · rfl
  · split <;> rfl

/-- The register file after a raise. -/
theorem raise_reg (s : State) (fl ev : Field) (i bit e : Nat) (r : RegAddr) :
    (raise s fl ev i bit e).reg r =
      if (s.get fl i).testBit bit then s.reg r else (s.set fl i (s.get fl i ||| 2 ^ bit)).reg r := by
  unfold raise
  dsimp only
  split
  · rfl
  · split <;> rfl

theorem raise_get (s : State) (fl ev : Field) (i bit e : Nat) (g : Field) (j : Nat) :
    (raise s fl ev i bit e).get g j =
      if (s.get fl i).testBit bit then s.get g j else (s.set fl i (s.get fl i ||| 2 ^ bit)).get g j := by
  unfold raise
  dsimp only
  split
  · rfl
  · split <;> rfl

/-- The flag's bit is set and no other bit of its field moves. -/
theorem raise_get_self (s : State) (fl ev : Field) (hf : fl.fits) (i bit e : Nat) (hb : bit < fl.width) :
    (raise s fl ev i bit e).get fl i = s.get fl i ||| 2 ^ bit := by
  rw [raise_get]
  split
  · rename_i h
    apply Nat.eq_of_testBit_eq
    intro k
    rw [Nat.testBit_or, Nat.testBit_two_pow]
    by_cases hk : bit = k
    · subst hk; simp [h]
    · simp [hk]
  · rw [State.get_set_self _ _ hf]
    apply Nat.mod_eq_of_lt
    apply Nat.or_lt_two_pow (get_lt s fl i)
    exact Nat.pow_lt_pow_right (by decide) hb

/-- Other registers are untouched. -/
theorem raise_get_key (s : State) (fl ev : Field) (i bit e : Nat) (g : Field) (j : Nat)
    (h : regKey (g.addr j) ≠ regKey (fl.addr i)) : (raise s fl ev i bit e).get g j = s.get g j := by
  rw [raise_get]
  split
  · rfl
  · exact s.get_set_key fl g i j h _

theorem raise_get_off (s : State) (fl ev : Field) (i bit e : Nat) (g : Field) (j : Nat)
    (h : fl.off % 65536 ≠ g.off % 65536) : (raise s fl ev i bit e).get g j = s.get g j := by
  rw [raise_get]
  split
  · rfl
  · exact s.get_set_off _ _ _ _ _ h

theorem raise_get_blk (s : State) (fl ev : Field) (i bit e : Nat) (g : Field) (j : Nat) (h : fl.blk ≠ g.blk)
    (hi : i < 65536) (hj : j < 65536) (hf : fl.off < 65536) (hg : g.off < 65536) :
    (raise s fl ev i bit e).get g j = s.get g j := by
  rw [raise_get]
  split
  · rfl
  · exact s.get_set_blk _ _ _ _ _ h hi hj hf hg

theorem raise_keeps {l : List (Field × Nat)} (s : State) (fl ev : Field) (i bit e : Nat) (h : (fl, i) ∈ l)
    (hi : i < 65536) (ho : fl.off < 65536) : keepsRegsBut l s (raise s fl ev i bit e) := by
  intro r hr
  rw [raise_reg]
  split
  · rfl
  · exact keepsRegsBut_set s fl i _ h hi ho r hr

/-- The event fires where the bit goes from 0 to 1 while it is enabled. -/
theorem raise_fired (s : State) (fl ev : Field) (i bit e : Nat) (h : regKey (F.time_SERVO.addr 0) ≠ regKey (fl.addr i)) :
    (raise s fl ev i bit e).fired =
      if (s.get fl i).testBit bit = false ∧ (s.get ev i).testBit bit = true then s.fired ++ [firingOf s e] else s.fired := by
  unfold raise
  dsimp only
  by_cases h1 : (s.get fl i).testBit bit = true
  · simp [h1]
  · by_cases h2 : (s.get ev i).testBit bit = true
    · rw [if_neg h1, if_pos h2, if_pos ⟨by simpa using h1, h2⟩]
      have e1 : (s.set fl i (s.get fl i ||| 2 ^ bit)).tsState = s.tsState := by
        unfold State.tsState
        rw [State.get_set_key _ _ _ _ _ h]
      simp [fire, firingOf, e1, State.stamp]
    · simp [h1, h2]

theorem keepsRegsBut_mono {l m : List (Field × Nat)} {s t : State} (h : keepsRegsBut l s t)
    (k : ∀ e ∈ l, e ∈ m) : keepsRegsBut m s t := by
  intro r hr
  have hm : ∀ j, (namedBits l r).getLsbD j = true → (namedBits m r).getLsbD j = true := by
    intro j hj
    simp only [namedBits, BitVec.getLsbD_ofNat, Bool.and_eq_true, decide_eq_true_eq, testBit_foldl_mask, Nat.zero_testBit,
      Bool.false_or, List.any_eq_true] at hj ⊢
    obtain ⟨h1, x, h2, h3⟩ := hj
    refine ⟨h1, x, ?_, h3⟩
    simp only [List.mem_filter, decide_eq_true_eq] at h2 ⊢
    exact ⟨k x h2.1, h2.2⟩
  have h0 := h r hr
  apply BitVec.eq_of_getLsbD_eq
  intro j hj
  have h1 := congrArg (fun w : Word => w.getLsbD j) h0
  simp only [BitVec.getLsbD_and, BitVec.getLsbD_not, hj, decide_true, Bool.true_and] at h1 ⊢
  by_cases hb : (namedBits l r).getLsbD j = true
  · simp [hm j hb]
  · simp only [hb, Bool.not_false, Bool.and_true] at h1
    rw [h1]

/-- States with the same register file. -/
theorem keepsRegsBut_of_regs {l : List (Field × Nat)} {s t : State} (h : t.regs = s.regs) : keepsRegsBut l s t := by
  intro r _
  simp [State.reg, h]

end Sys2Proof.Machine
end

