-- ==== Sys2Proof/Laws/Operands.lean ====
section
/-! SUPPORT. What a mailbox command's row does, once for every command: with a request that firmware carries out, the
command's outcome is posted; otherwise the answer is one of the checks of R472. -/

namespace Sys2Proof.Machine

theorem takes_running {s : State} {r : Req} (h : takes s r = true) : s.running = true := by
  simp only [takes, Bool.and_eq_true] at h; exact h.1.1

theorem takes_life {s : State} {r : Req} (h : takes s r = true) : (s.life == 3) = false := by
  simp only [takes, Bool.and_eq_true, bne_iff_ne] at h; simpa using h.1.2

theorem takes_gen {s : State} {r : Req} (h : takes s r = true) : (r.genCheck && r.cfgGen != s.gen) = false := by
  simp only [takes, Bool.and_eq_true] at h
  have := h.2
  cases hg : r.genCheck <;> simp_all

/-- A request taken, of a command fitted: what the command came to is posted. -/
theorem cmdRow_taken {s : State} {r : Req} (h : takes s r = true) (op : Nat) (g : Bool) (f : Req → State → CmdOut) :
    cmdRow op g true f r s = finish op g r none false (f r s) := by
  simp [cmdRow, runReq, takes_running h, takes_life h, takes_gen h]

/-- A request taken that names no unit of this variant is answered NOT_FITTED. -/
theorem cmdRow_unfitted {s : State} {r : Req} (h : takes s r = true) (op : Nat) (g : Bool) (f : Req → State → CmdOut) :
    cmdRow op g false f r s = refusedWith op St.notFitted r s := by
  simp [cmdRow, runReq, takes_running h, takes_life h, takes_gen h, finish, genAfter, no, refusedWith]

/-- A command whose outcome is OK with data. -/
theorem finish_ok (op : Nat) (g : Bool) (r : Req) (t : State) (data : List Byte) :
    finish op g r none false (ok t data) = answered op g r t data := by
  cases g <;> simp [finish, ok, genAfter, answered, St.ok]

/-- A command whose outcome is OK with nothing done. -/
theorem finish_okSame (op : Nat) (g : Bool) (r : Req) (t : State) (data : List Byte) :
    finish op g r none false (okSame t data) = answered op false r t data := by
  cases g <;> simp [finish, okSame, genAfter, answered, St.ok]

/-- A command whose outcome is another status. -/
theorem finish_no (op : Nat) (g : Bool) (r : Req) (s : State) (st : Nat) :
    finish op g r none false (no s st) = refusedWith op st r s := by
  simp [finish, no, genAfter, refusedWith]

/-- LENGTH as its row says. -/
theorem sized_of {r : Req} {n : Nat} (h : r.body.length = n) (s : State) (f : State → CmdOut) : sized r n s f = f s := by
  simp [sized, lengthCheck, h]

@[simp] theorem firstFail_nil (s : State) (f : State → CmdOut) : firstFail s [] f = f s := rfl

@[simp] theorem firstFail_cons (s : State) (b : Bool) (st : Nat) (l : List (Bool × Nat)) (f : State → CmdOut) :
    firstFail s ((b, st) :: l) f = if b then no s st else firstFail s l f := rfl

end Sys2Proof.Machine
end

