-- ==== Sys2Proof/Laws/Panel.lean ====
section
/-! SUPPORT. The debounced levels of the panel's inputs: one bit moves at a time. -/

namespace Sys2Proof.Machine

/-- The input's bit takes the level, and every other keeps its own. -/
theorem setLevel_level (s : State) (i : Nat) (hi : i < 16) (level : Bool) (j : Nat) :
    ((setLevel s i level).get F.panel_LEVEL 0).testBit j = if j = i then level else (s.get F.panel_LEVEL 0).testBit j := by
  unfold setLevel
  rw [State.get_set_self _ _ (by decide), Nat.testBit_mod_two_pow, testBit_maskOf]
  have h16 := get_lt s F.panel_LEVEL 0
  have hw : F.panel_LEVEL.width = 16 := rfl
  rw [hw]; rw [hw] at h16
  by_cases hj : j < 16
  · simp only [hj, decide_true, Bool.true_and]
    cases level <;> by_cases e : j = i <;> simp [e, hj]
  · have hne : j ≠ i := by omega
    rw [testBit_ge h16 (by omega)]
    simp [hj, hne]

theorem setLevel_keeps {l : List (Field × Nat)} (h : (F.panel_LEVEL, 0) ∈ l) (s : State) (i : Nat) (level : Bool) :
    keepsRegsBut l s (setLevel s i level) := keepsRegsBut_set _ _ _ _ h (by decide) (by decide)

theorem setLevel_rest (s : State) (i : Nat) (level : Bool) : setLevel s i level = { s with regs := (setLevel s i level).regs } := rfl

/-- Every field outside the LEVEL register is as it was. -/
theorem setLevel_get (s : State) (i : Nat) (level : Bool) (f : Field) (h : f.off % 65536 ≠ 4) :
    (setLevel s i level).get f 0 = s.get f 0 := s.get_set_off _ _ _ _ _ (Ne.symm h)

theorem setLevel_stuck (s : State) (i : Nat) (level : Bool) : (setLevel s i level).get F.panel_STUCK 0 = s.get F.panel_STUCK 0 :=
  s.get_set_beside _ _ _ _ rfl rfl (by decide) (by decide)

end Sys2Proof.Machine
end

