-- ==== Sys2Proof/Tests/Slice0.lean ====
section
/-! SUPPORT. The author's own tests: ill-formed commands that WellFormed refuses, small one-step tests, and for each
statement with hypotheses a state and operands that meet them. -/

namespace Sys2Proof.Tests

open Sys2Proof.Machine

-- One theorem at a time: each waits for the kernel, and a thread that waits keeps its stack.
set_option Elab.async false

/-! ### A small hub -/

/-- Fields set one by one. -/
def put (s : State) (l : List (Field × Nat × Nat)) : State := l.foldl (fun t e => t.set e.1 e.2.1 e.2.2) s

/-- Every shed up and firmware running, nothing else done. -/
def hub : State := put State.reset [(F.pwr_UP, 0, 0xFFF), (F.host_RUNNING, 0, 1)]

/-- The same on the smallest variant. -/
def small : State := { hub with part := .plv9624 }

/-- The hub with fields set. -/
def st (l : List (Field × Nat × Nat)) : State := put hub l

/-- A mailbox request with a body. -/
def rq (body : List Byte) : Req :=
  { mbox := 0, via := .spi, tag := 0, fence := false, quiet := false, genCheck := false, cfgGen := 0, body := body }

/-- A request whose body is words. -/
def rw (ws : List Nat) : Req := rq (ws.flatMap (le 4))

/-- A RANGE word: FIRST and COUNT. -/
def rg (first count : Nat) : Nat := first + count * 65536

/-- An outcome's next state. -/
def after (o : Host.Outcome State Fault Refusal) (s : State) : State :=
  match o with
  | .next t => t
  | _ => s

/-! ### Ill-formed commands, one for each check -/

theorem test_wf_read_count : WellFormed (.spiRead 0 1025 []) = false := by decide
theorem test_wf_register : WellFormed (.registerWrite ⟨.host, 0, 6⟩ 0) = false := by decide
theorem test_wf_register_offset : WellFormed (.w1cWrite ⟨.host, 0, 4096⟩ 0 0) = false := by decide
theorem test_wf_mailbox : WellFormed (.mailboxAck 8) = false := by decide
theorem test_wf_sideband : WellFormed (.sidebandPacket 0 33 [] true) = false := by decide
theorem test_wf_event : WellFormed (.eventFire 256) = false := by decide
theorem test_wf_restart_cause : WellFormed (.warmRestart 3) = false := by decide
theorem test_wf_request_mailbox : WellFormed (.nop { rq [] with mbox := 8 }) = false := by decide
theorem test_wf_request_body : WellFormed (.echo (rq (List.replicate 497 0))) = false := by decide +kernel
theorem test_wf_judge_step : WellFormed (.judgeTest (rq []) 202) = false := by decide
theorem test_wf_lane : WellFormed (.rearm 96) = false := by decide
theorem test_wf_mode : WellFormed (.laneModeWrite 0 16) = false := by decide
theorem test_wf_source : WellFormed (.seqClr 96) = false := by decide
theorem test_wf_eth_port : WellFormed (.ethCntClr 2) = false := by decide
theorem test_wf_stall : WellFormed (.stallMark ⟨256, 0⟩) = false := by decide
theorem test_wf_record_kind : WellFormed (.stallRecordWrite 0 16 0 0 [] 0) = false := by decide
theorem test_wf_edge : WellFormed (.startBit 0 false { ago := 0, m := 8 }) = false := by decide
theorem test_wf_wave : WellFormed (.laneCharacter 0 { data := 0, parity := false, stop := true, edge := { ago := 0, m := 0 } }
    (List.replicate 17 0)) = false := by decide
theorem test_wf_listener : WellFormed (.listenerGrant 98) = false := by decide
theorem test_wf_yard_port : WellFormed (.yardAccess [{ port := 8, addr := 0, op := .read 1 }] ⟨[], 0, []⟩) = false := by decide
theorem test_wf_yard_length : WellFormed (.yardAccess [{ port := 0, addr := 0, op := .write (List.replicate 9 0) }] ⟨[], 0, []⟩) = false := by decide
theorem test_wf_row : WellFormed (.farrierRemap 16 0 0) = false := by decide
theorem test_wf_pulse : WellFormed (.pulseEdge 8) = false := by decide
theorem test_wf_capture : WellFormed (.timeCapEdge 8 true { ago := 0, m := 0 }) = false := by decide
theorem test_wf_channel : WellFormed (.measSample 24 0 0) = false := by decide
theorem test_wf_spare : WellFormed (.spareValidExpiry 2) = false := by decide
theorem test_wf_part : WellFormed (.intentReceived true 128 0 []) = false := by decide
theorem test_wf_txc : WellFormed (.txcReceived false false 0 (List.replicate 257 { listener := 0, cls := 0, source := 0, seqn := 0 })) = false := by decide +kernel
theorem test_wf_shed : WellFormed (.shedRaiseDone 12) = false := by decide
theorem test_wf_rail : WellFormed (.brownout 8) = false := by decide
theorem test_wf_tamper : WellFormed (.tamperDetect 6) = false := by decide
theorem test_wf_pair : WellFormed (.bypassHandback 48) = false := by decide
theorem test_wf_key : WellFormed (.keyStuck 16) = false := by decide
theorem test_wf_encoder : WellFormed (.encoderTransition 8 0) = false := by decide

/-! ### No word of the table is a command -/

theorem test_no_word (n w : Nat) : decodeTableWord n w = none := rfl

theorem test_fetch_word (s : State) (n w : Nat) : s.withFetchWord n w = s := rfl
/-! ### Witnesses: states and operands that meet the hypotheses of the statements, clause by clause -/

/-- StepTakesTheFrontCommand, EveryStepTakesOneCommand, EveryStepKeepsMemoriesCanonical. -/
theorem witness_step : ({ hub with pending := [.claim] } : State).pending = .claim :: [] ∧ (hub.pending = [] ∧ hub.refclk = true) ∧
    ({ hub with refclk := false } : State).refclk = false ∧ hub.memWf = true := by decide

theorem test_step_takes_front : (after (step { hub with pending := [.claim, .release] }) hub).pending = [.release] := by decide

theorem test_step_ticks : (after (step hub) hub).tod = 4 * 2 ^ 32 := by decide

/-- IdentityCommandsAnswer. -/
theorem witness_identity : takes hub (rq []) = true ∧ (rq []).body = [] ∧ takes hub (rq (List.replicate 492 0)) = true ∧
    (rq (List.replicate 493 0)).body.length = 493 := by decide +kernel

/-- ImageWriteProgramsTheCopyNotInUse: the first and the last bytes of a copy. -/
theorem witness_image_write : takes hub (rw [0, 1]) = true ∧ (rw [0, 1]).body.length = 8 ∧ u32 (rw [0, 1]).body 0 % 4 = 0 ∧
    u32 (rw [0x3FFFFC, 1]).body 0 + ((rw [0x3FFFFC, 1]).body.length - 4) = 0x400000 := by decide

theorem test_image_write : memByte (after (exec (.imageWrite (rw [8, 0x12345678])) hub) hub).flash 0xFF 9 = 0x56#8 := by decide +kernel

/-- ImageCommitAndOverlaysStore: lengths at their bounds, a slot not in force, a size of 16,384; the first clause asks for
signatures, which no numeral shows, so its other hypotheses are met here. -/
theorem witness_image_commit : takes hub (rw [1]) = true ∧ (rw [1]).body.length = 4 ∧ u32 (rw [0x400000]).body 0 = 0x400000 ∧
    (firmwareOk hub 1 && imageOk hub 1) = false ∧ slotInForce hub 3 = false ∧ fld (rw [3, 0]).body 0 0 5 = 3 ∧
    (rw [3, 16384]).body.length = 8 ∧ u32 (rw [3, 16384]).body 4 = 16384 ∧ sealOk hub (slotBytes hub 3 1) 1 = false := by decide +kernel

/-- ModeCommandsAnswerOrQueue. -/
theorem witness_mode : takes hub (rw [3]) = true ∧ (rw [3]).body.length = 4 ∧ ({ hub with modeReqs := [{ origin := 4, what := 0, slot := 1 }] } : State).modeReqs ≠ [] ∧
    hub.modeReqs = [] ∧ hub.modeWait = none ∧ ({ hub with mode := some 3 } : State).mode = some (fld (rw [3]).body 0 0 5) ∧
    hub.mode ≠ some 3 ∧ 3 ∉ hub.sealed ∧ 3 ∈ ({ hub with sealed := [3] } : State).sealed ∧ slotRole { hub with sealed := [3] } 3 ≠ 2 ∧
    slotSealOk { hub with sealed := [3] } 3 = false ∧ flag (rw [7]).body 0 0 = true ∧ flag (rw [6]).body 0 0 = false ∧ hub.emerg = none ∧
    ({ hub with emerg := some 3 } : State).emerg = some (fld (rw [7]).body 0 1 5) := by decide +kernel

/-- PanelKeysActOncePerPress. -/
theorem witness_keys :
    let s : State := { hub with keys := [(15, { action := 1, slot := 2, pressed := true, acted := false })] }
    inPair s 15 = false ∧ (s.get F.panel_LEVEL 0).testBit 15 = true ∧ ((put s [(F.panel_LEVEL, 0, 0)]).get F.panel_LEVEL 0).testBit 15 = false ∧
    (tget s.keys 15 {}).report = false ∧ (tget s.keys 15 {}).holdMs = 0 ∧ (tget s.keys 15 {}).action = 1 ∧ s.running = true ∧
    s.on F.twin_PAIRED 0 = false ∧ (tget s.keys 15 {}).pressed = true ∧ (tget s.keys 15 {}).acted = false := by decide

/-- PanelEncodersCountAndStep. -/
theorem witness_encoders :
    let s : State := { st [(F.panel_ENC_MASK, 0, 0x80)] with panelEncs := [(7, { bound := true })] }
    (s.get F.panel_ENC_MASK 0).testBit 7 = true ∧ (hub.get F.panel_ENC_MASK 0).testBit 7 = false ∧ (tget s.panelEncs 7 {}).state ≠ 1 ∧
    (quadPos 1 + 4 - quadPos (tget s.panelEncs 7 {}).state) % 4 ≠ 2 ∧ (quadPos 0 + 4 - quadPos (tget s.panelEncs 7 {}).state) % 4 = 2 ∧
    (tget s.panelEncs 7 {}).bound = true ∧ s.running = true ∧ (tget hub.panelEncs 7 {}).bound = false := by decide

/-- RailsAndVoltageFollowTheirEvents. -/
theorem witness_rails : hub.railDown.any (fun e => e.1 == 5) = false ∧
    ({ hub with railDown := [(7, 1)] } : State).railDown.find? (fun e => e.1 == 7) = some (7, 1) ∧ hub.shedPlan = none := by decide

/-- ResetsLeaveOnlyTheBaseShed. -/
theorem witness_resets : portAlive hub = true ∧ watchdogRuns { hub with boot := .firmware } = true ∧ 3 ∉ hub.brownRails ∧
    ((st [(F.sec_ARMED, 0, 7)]).get F.sec_ARMED 0).testBit 2 = true ∧ 5 ∉ hub.tamperOn ∧
    ({ hub with recoveryDue := true, retireDue := true } : State).recoveryDue = true ∧ bypassCause hub = 0 := by decide

theorem test_software_reset : (after (exec (.swReset 0xA5) hub) hub).get F.pwr_UP 0 = 1 := by decide +kernel

/-- BootRunsThroughItsStages. -/
theorem witness_boot : mayBoot { hub with boot := .waitS4 } = true ∧ mayBoot { hub with boot := .waitS1 } = true ∧
    mayBoot { hub with boot := .rom } = true ∧ ({ hub with boot := .firmware } : State).running = true ∧ hub.shedPlan = none ∧
    2 ∈ ({ hub with tamperOn := [2] } : State).tamperOn ∧ ({ hub with fuseSealed := true, service := true } : State).life = 2 ∧
    ({ hub with fuseRetired := true } : State).life = 3 ∧ copyOk hub 1 = false ∧ copyOk hub 2 = false := by decide +kernel

/-- RomRecoveryTakesThreeCommands. -/
theorem witness_rom :
    let s : State := { st [(F.host_STATE, 0, 1)] with boot := .recovery }
    mbState s 0 = 1 ∧ s.life ≠ 3 ∧ (rq []).mbox = 0 ∧ (rq []).via = .spi ∧ (rq []).genCheck = false ∧
    ({ s with boot := .held, fuseRetired := true } : State).life = 3 ∧ s.shedUp 1 = true ∧ u32 (rw [0x400000]).body 0 = 0x400000 := by decide

/-- A request over a session. -/
def sess (body : List Byte) : Req := { rq body with via := .session 7 }

/-- SecurityCommandsMoveKeysSessionsAndLife: the lengths, an enrolled key that the signature does not fit, LIFE SERVICE,
and the last entries of the log. -/
theorem witness_security :
    takes hub (sess (List.replicate 108 0)) = true ∧ (sess (List.replicate 108 0)).body.length = 108 ∧ (sess []).via = .session 7 ∧
    hub.enrolled = none ∧ fld (List.replicate 108 (0 : Byte)) 0 0 1 < hub.part.ports ∧
    ({ hub with enrolled := some (1, 2) } : State).enrolled = some (1, 2) ∧
    u32 (rw [0]).body 0 = 0 ∧ u32 (rw [9]).body 0 ≠ 0 ∧ (rq (List.replicate 64 0)).body.length = 64 ∧ hub.life = 0 ∧
    (rq (List.replicate 68 1)).body.length = 68 ∧ fld (List.replicate 68 (1 : Byte)) 0 0 3 = 1 ∧
    ({ hub with fuseSealed := true, service := true } : State).life = 2 ∧
    rangeCount (rw [rg 34 30]).body = 30 ∧ rangeFirst (rw [rg 34 30]).body + rangeCount (rw [rg 34 30]).body = 64 := by decide +kernel

/-- A signature whose two halves are one number. -/
def twice (n : Nat) : List Byte := be32 n ++ be32 n

/-- SecurityCommandsMoveKeysSessionsAndLife: a key and a signature over the message of zeros that fits it; both were
computed from R571 and the curve's own formulas. -/
theorem witness_session_signature :
    ecdsaOk (0x4ab84129ede63071494b4f7521044e9bda4ab0b014b86869fa52d4676852d85f, 0x5695de5987a6ddb37b6c1820a33e2ce0d8f464b64b8fde5a232da183950c2520)
      (ascii8 "PLVSESS" ++ slice (List.replicate 44 0 ++ twice 0x424272cd57613f07c0033af3ea9b8d8231a278cb7458b0ec45c102ff23e3747a) 0 44)
      (slice (List.replicate 44 0 ++ twice 0x424272cd57613f07c0033af3ea9b8d8231a278cb7458b0ec45c102ff23e3747a) 0x2C 64) = true := by decide +kernel

/-- The same for LIFE_SET from OPEN to SEALED. -/
theorem witness_life_signature :
    let body : List Byte := le 4 1 ++ twice 0x8cd06a746792db8fd5d86933ab6fc6b01b327df40ac39368730e7f4bd50c9653
    body.length = 68 ∧ (rq body).via = .spi ∧ fld body 0 0 3 = 1 ∧
    ecdsaOk (0xefac3056c8c1d273bda0ef85a7e75f4b958b8087b79b3b8dc536b31b6da81b, 0xc4e0a079b46cb180a2ea1dc84afe9802deb01ce1bcdf1bbd8eb2d4156d7a72d8)
      (ascii8 "PLVLIFE" ++ slice body 0 4 ++ memRead hub.tack 0 0xFC00 8) (slice body 4 64) = true := by decide +kernel

theorem test_session_close : (after (exec (.sessionClose (rw [0])) hub) hub).sessions = [] := by decide +kernel

/-- WriteOneToClearKeepsWhatIsLatchedMeanwhile, RegisterWritesSetTheirFields: registers of fitted and powered units, one of
a unit without power, and an addend outside its range. -/
theorem witness_registers : wfReg ⟨.yard, 0, 8⟩ = true ∧ blkFitted hub.part .yard 0 = true ∧ hub.shedUp (regShed ⟨.yard, 0, 8⟩) = true ∧
    blkFitted small.part .laneRx 95 = false ∧ State.reset.shedUp (regShed ⟨.yard, 0, 8⟩) = false ∧ hub.laneUp 95 = true ∧ hub.shedUp 4 = true ∧
    (3435974#32).toInt = 3435974 ∧ (0#32).toInt = 0 := by decide

theorem test_w1c : ((after (exec (.w1cWrite ⟨.laneRx, 3, 0x18⟩ 3 2) (st [(F.rx_FLAGS, 3, 7)])) hub).get F.rx_FLAGS 3) = 6 := by decide

/-- SpiTransactionsMoveWords: a free mailbox, a taken one, the last word of block 0x1000, one word past it. -/
theorem witness_spi : portAlive hub = true ∧ (0x1000#24).toNat / 4 * 4 = 0x1000 + 512 * 0 + 0 ∧ 508 + 4 * [0#32].length ≤ 512 ∧
    hub.on F.pwr_ECON 0 = false ∧ mbOwner hub 0 = 0 ∧ mbState hub 0 = 0 ∧ mbState (st [(F.host_STATE, 0, 1)]) 0 ≠ 0 ∧
    hostBlock 0x1000 ≠ 0 ∧ hostBlock 0x1004 = hostBlock 0x1000 ∧ hostBlock 0x2000 ≠ hostBlock 0x1FFC ∧ hub.shedUp 1 = true := by decide

theorem test_spi_write_then_ring : mbState (after (exec (.doorbell 1) hub) hub) 0 = 1 := by decide

/-- DoorbellsReleasesAndAcknowledgement. -/
theorem witness_doorbells :
    let s := st [(F.host_STATE, 0, 1)]
    let m := parseMsg (List.replicate 32 (0 : Byte))
    let e : Entry := { id := 0, mbox := 0, via := .spi, msg := { m with opcode := 1 } }
    let w : State := { hub with cmds := [e] }
    portAlive hub = true ∧ s.running = true ∧ mbOwner s 0 = 0 ∧ mbState s 0 = 1 ∧ (queueOf s 0).length < 16 ∧
    (queueOf w 0).find? (fun e => e.st = .acked) = some e ∧ mayBegin w e = true ∧ e.via = .spi ∧ e.msg.length ≤ 496 ∧
    e.msg.crc.toNat ≠ msgCrc e.msg ∧ w.waits = [] ∧ (w.get F.host_FULL 0).testBit 0 = false ∧ (w.get F.host_SPILLING 0).testBit 0 = false := by
  decide +kernel

/-- A stall that exists, in CREDIT mode, of 2^k bytes, with credit granted. -/
def stallSet (q k granted : Nat) : List (Field × Nat × Nat) :=
  [(F.stall_SIZE_LOG2, q, k), (F.stall_MODE, q, 1), (F.stall_STATE, q, 2), (F.stall_GRANTED, q, granted)]

/-- Q240 and Q243 with room and credit, a firing, a counted event and a spilled message. -/
def loud : State :=
  { st (stallSet 240 12 32 ++ stallSet 243 12 1000) with
    fired := [{ event := 251, stamp := 0 }], evts := [(240, { count := 1 })], spill := [{ mbo := 7, entry := none, bytes := [1, 2, 3, 4] }] }

/-- EventsAndSpilledMessagesBecomeRecords: a bound Q240 and Q243 with room and credit. -/
theorem witness_events : loud.running = true ∧ loud.fired.find? (fun x => x.event == 251) = some { event := 251, stamp := 0 } ∧
    (tget loud.evts 240 {}).count ≠ 0 ∧ stallOn loud 240 = true ∧
    (loud.stall 240).reset = none ∧ 32 ≤ stallSize loud 240 ∧ loud.on F.stall_MODE 240 = true ∧ 32 ≤ loud.get F.stall_GRANTED 240 ∧
    stallOn loud 243 = true ∧ (spillRecord loud 7 [1, 2, 3, 4]).length ≤ loud.get F.stall_GRANTED 243 := by decide +kernel

/-- WarmRestartsStopAndStartFirmware. -/
theorem witness_restart : hub.running = true ∧ portAlive hub = true ∧ State.reset.running = false ∧ ({ hub with restarting := true } : State).restarting = true := by
  decide

theorem test_wrong_restart_key : ((after (exec (.fwRestart 0x5A) hub) hub).get F.host_ERR 0) = 128 := by decide

/-- Lane n in a mode, its receiver in a state, carrying role n. -/
def lane (n m rx : Nat) : State := st [(F.tx_ACTIVE, n, m), (F.tx_MODE, n, m), (F.rx_STATE, n, rx), (F.tx_ROLE, n, n)]

/-- A character with its stop bit. -/
def good (b : Byte) : CharSample := { data := b, parity := false, stop := true, edge := { ago := 0, m := 0 } }

/-- FalseStartIsCountedAndRearms, CharactersReachTheHoldingRegister: an armed lane, one in a character, one searching. -/
theorem witness_start : laneMode (lane 95 1 3) 95 = 1 ∧ ((lane 95 1 3).rxLane 95).ignoring = false ∧ rxState (lane 95 1 3) 95 = 3 ∧
    laneMode (lane 95 5 4) 95 = 5 ∧ rxState (lane 95 5 4) 95 = 4 ∧ ((lane 95 5 4).rxLane 95).confirmed = false ∧
    laneMode (lane 0 3 2) 0 = 3 ∧ rxState (lane 0 3 2) 0 = 2 ∧ abWinner (lane 0 3 2) 0 [] = none := by decide

theorem test_false_start : (after (exec (.startBit 95 true { ago := 0, m := 0 }) (lane 95 1 3)) hub).get F.rx_N_FALSE_START 95 = 1 := by decide

/-- A lane in the middle of a confirmed character. -/
def midChar (n m : Nat) : State := { lane n m 4 with rx := [(n, { confirmed := true })] }

/-- CharactersReachTheHoldingRegister: a sound stop bit, a missing one, a break, a slot of an open packet. -/
theorem witness_character : rxState (midChar 3 1) 3 = 4 ∧ ((midChar 3 1).rxLane 3).confirmed = true ∧ (good 0x41).stop = true ∧
    rxParityBad (midChar 3 1) 3 (good 0x41) = false ∧ rxAllLow (midChar 3 1) 3 { good 0x41 with stop := false } = false ∧
    rxAllLow (midChar 3 1) 3 { good 0 with stop := false } = true ∧ ((midChar 3 1).rxLane 3).silentDue = false ∧
    ({ midChar 3 5 with rx := [(3, { confirmed := true, dmxOpen := true })] } : State).rxLane 3 = { confirmed := true, dmxOpen := true } := by decide

theorem test_character : (((after (exec (.laneCharacter 3 (good 0x41) []) (midChar 3 1)) hub).rxLane 3).hold.map (·.data)) = some 0x41#8 := by
  decide +kernel

/-- ParityErrorIsCountedAndDelivered: even parity, one bit set, parity sampled 0. -/
theorem witness_parity : rxParityBad (put (midChar 3 1) [(F.rx_PARITY, 3, 1)]) 3 (good 1) = true ∧
    rxParityBad (put (midChar 3 1) [(F.rx_PARITY, 3, 2)]) 3 (good 1) = false := by decide

/-- ReceiverTimersTakeEffect. -/
theorem witness_receiver_timers : rxState (lane 5 1 5) 5 = 5 ∧ (put (lane 5 1 6) [(F.rx_STUCK_TO, 5, 1)]).get F.rx_STUCK_TO 5 ≠ 0 ∧
    ((lane 5 1 1).rxLane 5).silentDue = false ∧ hub.shedUp 2 = true ∧ hub.shedUp 4 = true ∧ rxState (lane 5 1 1) 5 = 1 ∧ rxState (lane 5 1 7) 5 = 7 ∧
    (put (lane 5 1 3) [(F.rx_SILENT_TO, 5, 1), (F.rx_ICT, 5, 1)]).get F.rx_SILENT_TO 5 ≠ 0 ∧
    laneOpen { lane 5 1 3 with srcs := [(5, { sent := some { source := 5, long := false } })] } 5 = true ∧
    autobaudOn (lane 5 1 1) 5 = false ∧ autobaudOn (put (lane 5 1 1) [(F.rx_AB_EN, 5, 1)]) 5 = true := by decide

/-- DmxReceiveAndSenseLanes: the least low time that is a break, an open packet with a slot, a gate that ends. -/
theorem witness_dmx_sense : laneMode (lane 9 5 3) 9 = 5 ∧ rxState (lane 9 5 3) 9 = 3 ∧ (2 + 8 + 0) * 1600 ≤ 16000 ∧ (lane 9 5 3).get F.rx_PARITY 9 = 0 ∧
    ({ lane 9 5 3 with rx := [(9, { dmxOpen := true, dmxSlots := [0] })] } : State).rxLane 9 = { dmxOpen := true, dmxSlots := [0] } ∧
    laneMode (lane 9 9 0) 9 = 9 ∧ (put (lane 9 9 0) [(F.tx_MEAS_EN, 9, 1), (F.rx_SILENT_TO, 9, 1)]).on F.tx_MEAS_EN 9 = true ∧
    ({ lane 9 9 0 with rx := [(9, { gateOpen := true })] } : State).rxLane 9 = { gateOpen := true } ∧
    (lane 9 9 0).on F.tx_MEAS_EN 9 = false ∧ (lane 9 9 0).get F.tx_CAPT_EDGE 9 = 0 ∧ ((lane 9 9 0).rxLane 9).noSignal = false := by decide

/-- A transmit lane in a phase. -/
def sender (n m : Nat) (ph : TxPhase) : State := { lane n m 0 with tx := [(n, { phase := ph })] }

/-- Q0 with one 24-byte record, read by lane role 2 at class 1. -/
def fed : State :=
  { st ([(F.tx_ACTIVE, 2, 2), (F.tx_ROLE, 2, 2)] ++ stallSet 0 12 0) with
    bindings := [(2, [0x0000#32, 0x0002#32])], stalls := [(0, { a := { wr := 24, rel := 0, rd := 0, mark := 0 }, lens := [24] })] }

/-- TransmittersGrantSendAndRetry. -/
theorem witness_transmit : hub.laneUp 95 = true ∧ laneMode (sender 95 3 .waiting) 95 = 3 ∧ ((sender 95 3 .waiting).txLane 95).phase = .waiting ∧
    laneOpen (sender 95 3 .waiting) 95 = false ∧ ((sender 95 2 .lead).txLane 95).phase = .lead ∧ ((sender 95 2 .sending).txLane 95).phase = .sending ∧
    ((sender 95 2 .tail).txLane 95).collided = false ∧ ((sender 95 3 .backoff).txLane 95).phase = .backoff ∧ laneMode (sender 95 4 .idle) 95 = 4 ∧
    ((sender 95 4 .idle).txLane 95).dmxRunning = false ∧ grantsStopped hub = false := by decide +kernel

theorem witness_grant : laneMode fed 2 = 2 ∧ roleLane fed 2 = some 2 := by decide +kernel

theorem witness_grant_class : grantClass fed 2 = some 1 ∧ (bound fed 2).find? (fun e => e.2 == 1) = some (0, 1) ∧ (recordAtRd fed 0).isSome = true := by
  decide +kernel

/-- LaneModesChangeAtTheirBoundary. -/
theorem witness_boundary :
    (put hub [(F.tx_PADDOCK, 7, 1)]).on F.tx_PADDOCK 7 = true ∧ hub.on F.tx_PADDOCK 7 = false ∧ hub.on F.tx_PENDING 7 = false ∧
    (hub.txLane 7).moveTo = none ∧ (put hub [(F.tx_PENDING, 7, 1)]).on F.tx_PENDING 7 = true ∧ (hub.txLane 7).phase = .idle ∧
    ((sender 7 2 .sending).txLane 7).phase = .sending ∧ (st [(F.tx_DRAIN, 7, 1)]).on F.tx_DRAIN 7 = true ∧ (st [(F.tx_DRAIN, 7, 0)]).on F.tx_DRAIN 7 = false ∧
    (({ hub with tx := [(7, { moveTo := some 95 })] } : State).txLane 7).moveTo = some 95 := by decide +kernel

theorem test_mode_boundary : (after (exec (.laneModeBoundary 7) (put hub [(F.tx_PENDING, 7, 1), (F.tx_MODE, 7, 1)])) hub).get F.tx_ACTIVE 7 = 1 := by
  decide +kernel

/-- LaneCommandsReachTheirLanes: the last lane of each variant, and the lengths. -/
theorem witness_lane_commands : takes hub (rw [rg 95 1, 2]) = true ∧ (rw [rg 95 1, 2]).body.length = 8 ∧ u16 (rw [rg 95 1]).body 0 + 1 ≤ hub.part.lanes ∧
    takes small (rw [rg 23 1, 6]) = true ∧ fld (rw [rg 23 1, 6]).body 4 0 4 = 6 ∧ small.part.hasPixel = false ∧ roleParked hub 95 = false ∧
    (rw [rg 0 1, 0, 0, 0, 0, 0]).body.length = 24 ∧ ambiguous (keyRuns 0 (some (0, 0))) = false ∧ (rw [rg 0 1, 0, 0, 0, 0, 0, 0, 0, 0]).body.length = 36 ∧
    (rw [rg 0 1, 0, 0]).body.length = 12 ∧ (rw [rg 0 1]).body.length = 4 ∧ laneOff hub 0 = true ∧
    fld (rw [5 + 95 * 256]).body 0 0 7 = 5 ∧ fld (rw [5 + 95 * 256]).body 0 8 7 = 95 ∧ (put hub [(F.tx_PADDOCK, 95, 1)]).on F.tx_PADDOCK 95 = true ∧
    roleLane (lane 5 0 0) 5 = some 5 := by decide +kernel


/-- A capture input records into stall 5; a lane that would record there is refused, one that records into stall 6 is not. -/
theorem test_captures_share_no_stall :
    let s : State := st [(F.cap_EDGE, 7, 1), (F.cap_STALL, 7, 5)]
    let body := fun (q : Nat) => rw [rg 0 1, 0, 0x00145855, 0, 0, 0, 0, 0, 1 + q * 2 ^ 19]
    capNames s 8 5 = true ∧ capNames s 8 6 = false ∧
      after (exec (.laneTxSet (body 5)) s) hub = refusedWith 0x0203 4 (body 5) s ∧
      (after (exec (.laneTxSet (body 6)) s) hub).get F.tx_CAPT_EDGE 0 = 1 := by decide +kernel
/-- CounterClearsClearExactlyTheirCounters. -/
theorem witness_clears : hub.laneUp 95 = true ∧ hub.part.hasSource 95 = true ∧ hub.part.hasSource 0x1001 = true ∧ hub.shedUp 2 = true ∧ hub.shedUp 3 = true ∧
    hub.shedUp 4 = true ∧ hub.part.hasPixel = true ∧ hub.shedUp 5 = true ∧ hub.shedUp 6 = true ∧ hub.shedUp 7 = true ∧ 1 < hub.part.ports ∧
    (st (stallSet 255 12 0)).get F.stall_SIZE_LOG2 255 ≠ 0 ∧ (st (stallSet 255 12 0)).get F.stall_STATE 255 ≠ 0 ∧ (hub.stall 255).reset = none := by
  decide +kernel

theorem test_seq_clr : (after (exec (.seqClr 0x1001) (st [(F.parse_NEXT, 0x1001, 5)])) hub).get F.parse_NEXT 0x1001 = 0 := by decide

/-- TackRoomIsClosedToOthers: a read and a write by another than the service. -/
theorem witness_tack : (YardOp.read 8 = .read 8) ∧ (after (exec (.tackAccess false 0xFC00 (.read 1) []) hub) hub).yardOut = [(8, 0, [0])] := by decide

/-- YardAccessesReadWriteCorrectAndRefuse: the first and the last bytes of the yard, two ports at one byte, one symbol in error. -/
theorem witness_yard : hub.shedUp 4 = true ∧ hub.yardErr = [] ∧ 0x1FFFFFF + [(1 : Byte)].length ≤ 0x2000000 ∧ 0x2000000 < 0x1FFFFFF + 8 ∧
    hub.tackErr = [] ∧ (put hub [(F.yard_CE_REPEAT, 0, 0)]).get F.yard_CE_REPEAT 0 = 0 := by decide

theorem test_yard_priority : (after (exec (.yardAccess [⟨0, 64, .write [1]⟩, ⟨7, 64, .write [2]⟩] ⟨[], 0, []⟩) hub) hub).yardCell 64 = 1#8 := by decide +kernel

/-- GroomAndFarrierKeepTheYard. -/
theorem witness_groom :
    let g : State := { st [(F.yard_GROOM_EN, 0, 1)] with groomNext := 65535 }
    let p : State := { st [(F.yard_WRITTEN, 0, 1)] with groomPass := some { region := 65534, march := true } }
    g.on F.yard_GROOM_EN 0 = true ∧ g.groomPass = none ∧ g.groomNext < 65536 ∧ p.on F.yard_WRITTEN 0 = true ∧ hub.on F.yard_WRITTEN 0 = false ∧
    hub.voidRun < max 1 (hub.get F.yard_VOID_MAX 0) ∧ (bankEntries 15).find? (spareFree hub) = some 960 ∧ hub.running = true ∧
    (st [(F.yard_DIRTY, 0, 1)]).on F.yard_DIRTY 0 = true := by decide +kernel

theorem witness_remap : remapDue { hub with groomPass := some { region := 65535, march := true } } 15 262143 1 = true := by decide

/-- ServiceCommandsAnswer. -/
theorem witness_service : takes hub (rq []) = true ∧ takes small (rw [64]) = true ∧ fld (rw [64]).body 0 6 1 = 1 ∧ fld (rw [3]).body 0 0 2 = 3 ∧
    hub.shedUp 3 = true ∧ (st [(F.vote_OUT_JUDGE, 0, 2)]).get F.vote_OUT_JUDGE 0 = fld (rw [2]).body 0 0 2 ∧ hub.on F.vote_PENDING_IN 0 = false ∧
    serviceOn hub = false ∧ (rw [0, 0]).body.length = 8 ∧ hub.shedPlan = none ∧ hub.waits = [] ∧
    fld (rw [0xFFF, 0]).body 0 0 12 &&& hub.part.sheds = 0xFFF ∧ fld (rw [0x800, 0]).body 0 0 12 &&& small.part.sheds = 0 := by decide +kernel

/-- ShedsAndBypassFollow. -/
theorem witness_sheds :
    let low : State := put State.reset [(F.pwr_UP, 0, 0x13), (F.host_RUNNING, 0, 1)]
    let plan : State := { low with boot := .firmware, shedPlan := some { raise := [2], fromCommand := true } }
    takes low (rw [4, 0]) = true ∧ fld (rw [4, 0]).body 0 0 12 = 2 ^ 2 ∧ fld (rw [4, 0]).body 4 0 12 = 0 ∧ low.part.sheds.testBit 2 = true ∧ low.shedUp 2 = false ∧
    needMet (low.get F.pwr_UP 0) 2 = true ∧ low.shedPlan = none ∧ plan.tamperOn = [] ∧ plan.brownRails = [] ∧ plan.boot ≠ .waitS4 ∧ plan.boot ≠ .waitS1 ∧
    low.life ≠ 3 ∧ low.bypassCmd = false ∧ bypassCause { low with pairs := [47] } = 0 ∧ 47 ∈ ({ low with pairs := [47] } : State).pairs := by decide

/-- TimeSettingCommandsAnswer: the lengths, REF 3 and REF in use, the holdover cases, a PTP configuration with the family's
defaults, a frame rate that fits. -/
theorem witness_time_commands : takes hub (rq []) = true ∧ hub.servo.offset = none ∧
    ({ hub with servo := { hub.servo with offset := some 5 } } : State).servo.offset = some 5 ∧ fld (rw [3, 0, 0, 0, 0, 0]).body 0 0 2 = 3 ∧
    (rw [3, 0, 0, 0, 0, 0]).body.length = 24 ∧ hub.get F.time_REF 0 = 0 ∧ (st [(F.time_REF, 0, 1), (F.time_SERVO, 0, 2)]).get F.time_SERVO 0 = 2 ∧
    (st [(F.time_SERVO, 0, 4)]).get F.time_SERVO 0 = 4 ∧ (rw [0, 0x02808080, 0, 0, 0, 0, 0]).body.length = 28 ∧
    bits (u32 (rw [0, 0x02808080]).body 4) 0 24 = 0x808080 ∧ 2 ≤ bits (u32 (rw [0, 0x02808080]).body 4) 24 8 ∧
    flag (rw [0x1000, 0]).body 0 12 = true ∧ small.part.ports < 2 ∧ bits (u32 (rw [3]).body 0) 0 2 = 3 := by decide +kernel

theorem witness_frame_set : (rw [60, 1, 0]).body.length = 12 ∧ frameSetWaits hub = false ∧ rateOk 60 1 0 = true ∧ fitsAt hub 60 1 = true ∧ rateOk 0 1 0 = false ∧
    frameSetWaits { hub with waits := [{ entry := none, opcode := 0x0508, req := rq [], on := .frameSet true }] } = true := by decide +kernel

/-- TimeStepPulseAndCaptureCommands: service mode by a sealed service overlay is a matter of its own; here the refusals, a pulse
in the future, one in the past, a running one, a capture. -/
theorem witness_pulses : serviceOn hub = false ∧ flag (rw [1, 0, 0]).body 0 0 = true ∧ (rw [7, 0, 100, 0, 0, 1000, 10, 0]).body.length = 32 ∧
    pulseBad hub (rw [7, 0, 100, 0, 0, 1000, 10, 0]).body = false ∧ (tget hub.pulses 7 {}).high = false ∧ hub.tod ≤ 100 * nsUnit ∧
    100 * nsUnit < ({ hub with tod := 101 * nsUnit } : State).tod ∧ pulseBad hub (rw [7, 0, 2 ^ 30 - 1, 0, 0, 1, 0, 0]).body = true ∧
    (tget ({ hub with pulses := [(7, { high := true })] } : State).pulses 7 {}).high = true ∧ (st [(F.pulse_ARMED, 7, 1)]).on F.pulse_ARMED 7 = true ∧
    fld (rw [128]).body 0 0 8 = 2 ^ 7 ∧ (rw [7, 1]).body.length = 8 ∧ fld (rw [7, 240 * 4]).body 4 2 8 = 240 ∧ senseNames hub 239 = false ∧
    capNames hub 7 239 = false ∧ (st (stallSet 5 12 0)).on F.stall_MODE 5 = true := by decide +kernel

/-- Service mode on the base of R504 and R524: slot 31 in force with the role of a service overlay. -/
def serviced : State :=
  { hub with mode := some 31, sealed := [31], yard := [(0x1F00000 + 16384 * 31 + 2, 1)] }

theorem witness_step_command : serviceOn serviced = true ∧ hub.on F.time_EVER_LOCKED 0 = false ∧
    (put serviced [(F.time_EVER_LOCKED, 0, 1)]).on F.time_EVER_LOCKED 0 = true ∧ (List.range 8).all (fun n => !(serviced.on F.pulse_ARMED n)) = true := by
  decide +kernel

/-- ClockAndServoFollowTheReference. -/
theorem witness_servo :
    let s : State := { st [(F.time_REF, 0, 1), (F.time_SERVO, 0, 3)] with servo := { hub.servo with offset := some 0, inRun := 15 } }
    hub.get F.time_REF 0 = 0 ∧ s.get F.time_REF 0 = 1 ∧ s.get F.time_SERVO 0 = 3 ∧ s.servo.offset = some 0 ∧ s.servo.jumped = false ∧ s.servo.inRun = 15 ∧
    (st [(F.time_SERVO, 0, 2)]).get F.time_SERVO 0 = 2 ∧ (st [(F.time_SERVO, 0, 1)]).get F.time_SERVO 0 = 1 ∧ hub.refclk = true ∧ s.servo.history = [] ∧
    hub.on F.time_PTP_EN 0 = false ∧ (st [(F.time_PTP_EN, 0, 1), (F.eth_EN, 0, 1), (F.eth_LINK, 0, 1)]).on F.eth_LINK 0 = true := by decide +kernel

/-- TicksPulsesCapturesAndSchedules. -/
theorem witness_ticks : tickDue hub = true ∧ tickDue { hub with frame := { hub.frame with t := 1000 } } = false ∧ hub.frame.staged = none ∧
    tickTooEarly { hub with frame := { hub.frame with lastFired := some 0 } } = true ∧ tickTooEarly hub = false ∧ hub.modeWait = none ∧
    hub.twin.adopt = false ∧ hub.twin.handover = none ∧ (st [(F.pulse_ARMED, 7, 1)]).on F.pulse_FRAME 7 = false ∧ hub.get F.time_REF 0 ≠ 2 ∧
    ((st [(F.cap_EDGE, 7, 1)]).get F.cap_EDGE 7).testBit 0 = true ∧ (hub.get F.cap_EDGE 7).testBit 0 = false ∧
    dueAt { hub with tod := 5 * secUnit } { daily := false, slot := 1, emerg := false, time := 3 } = some 3 ∧
    dueAt { hub with tod := 5 * secUnit } { daily := false, slot := 2, emerg := false, time := 5 } = some 5 ∧
    (st [(F.time_SERVO, 0, 2)]).tsState ≤ 1 := by decide +kernel

theorem test_frame_tick : (after (exec .frameTick hub) hub).frame.n = hub.frame.n + 1 := by decide +kernel

/-- StreamAndEthernetCommandsAnswer. -/
theorem witness_stream_commands : takes small (rq []) = true ∧ small.part.hasPixel = false ∧ hub.part.hasPixel = true ∧ flag (rw [0]).body 0 0 = false ∧
    (st [(F.str_LINKED, 0, 1)]).on F.str_LINKED 0 = true ∧ (rw [1, 0, 0, 0, 0, 0, 0, 0, 0, 0]).body.length = 40 ∧ fld (rw [1]).body 0 0 1 = 1 ∧
    small.part.ports ≤ 1 ∧ fld (rw [0, 4095 * 65536]).body 4 16 12 = 4095 ∧ State.reset.shedUp 7 = false := by decide +kernel

/-- A linked stream port with allowance. -/
def linked (f : Option StreamFrame) : State :=
  { st [(F.str_LINKED, 0, 1), (F.str_EN, 0, 1), (F.str_SB_EN, 0, 1)] with stream := { hub.stream with allowance := 256, frame := f } }

/-- A beat of words. -/
def beat (a b c d : Nat) : Beat := { w0 := BitVec.ofNat 32 a, w1 := BitVec.ofNat 32 b, w2 := BitVec.ofNat 32 c, w3 := BitVec.ofNat 32 d, err := false }

/-- A frame of one pixel in one line, before and inside its line. -/
def oneLine (inLine : Bool) (beats : Nat) : StreamFrame := { id := 7, pixels := 1, lines := 1, inLine := inLine, dest := 786431, count := 1, beats := beats }

/-- StreamFramesAreTakenBeatByBeat: the last pixel of the buffer, and a line past it. -/
theorem witness_beats : (linked none).stream.fifo < 256 ∧ 0 < (linked none).stream.allowance ∧ (linked none).stream.frame = none ∧
    bits (beat 786431 1 0 0).w0.toNat 0 20 + bits (beat 786431 1 0 0).w1.toNat 0 13 ≤ 786432 ∧
    786432 < bits (beat 786432 1 0 0).w0.toNat 0 20 + bits (beat 786432 1 0 0).w1.toNat 0 13 ∧ (oneLine false 0).line = 0 ∧
    (oneLine true 0).beats < ((oneLine true 0).count + 1) / 2 ∧ (oneLine true 1).beats = ((oneLine true 1).count + 1) / 2 ∧
    crc32c (oneLine true 1).bytes = (beat (crc32c []) 0 0 0).w0.toNat ∧ frameGood (oneLine true 0) (beat 0 0 0 0) = false ∧
    hub.srcNow = false ∧ ({ hub with srcNow := true } : State).srcNow = true := by decide +kernel

theorem test_sof : (after (exec (.streamSof (beat 7 1 1 0)) (linked none)) hub).on F.str_IN_FRAME 0 = true := by decide +kernel

/-- StreamLinkCreditsAndSidebandPackets. -/
theorem witness_link : (st [(F.str_EN, 0, 1)]).on F.str_EN 0 = true ∧ hub.on F.str_LINKED 0 = false ∧ (linked none).on F.str_LINKED 0 = true ∧
    ({ linked none with stream := { (linked none).stream with fifo := 16 } } : State).stream.fifo = 16 ∧ (linked none).stream.skipping = false ∧
    (linked none).stream.fifo + 1 + 1 ≤ 256 ∧ 1 = (16 + u16 (List.replicate 16 (0 : Byte)) 4 + 15) / 16 ∧ (linked none).on F.str_SB_EN 0 = true ∧
    mbOwner (put (linked none) [(F.host_OWNER, 0, 32768)]) 7 = 2 ∧ mbState (linked none) 7 = 0 ∧
    (linked none).mbWait = [] := by decide +kernel

/-- EthernetPortsTestCountAndDeliver. -/
theorem witness_ethernet : 1 < hub.part.ports ∧ (st [(F.eth_EN, 1, 1)]).on F.eth_EN 1 = true ∧ (st [(F.eth_LINK, 1, 1)]).on F.eth_LINK 1 = true ∧
    1536 ≤ ethFree hub 1 ∧ frameSound hub 1 [] = false ∧ hub.syncOff = [] ∧ (hub.ethPort 1).inbox = [] ∧
    (hub.sessions.find? (fun x => x.number == u32 [] 0)) = none ∧ ({ hub with eth := [(1, { sending := true })] } : State).ethPort 1 = { sending := true } ∧
    (hub.ethPort 1).granted = none := by decide +kernel

/-- A stall of 4,096 bytes that holds the records given, in a mode (0 OVERWRITE, 1 CREDIT), in a state. -/
def stalled (q mode state : Nat) (lens : List Nat) : State :=
  let n := lens.foldl (· + ·) 0
  { st [(F.stall_SIZE_LOG2, q, 12), (F.stall_MODE, q, mode), (F.stall_STATE, q, state)] with
    stalls := [(q, { a := { wr := n, rel := 0, rd := 0, mark := 0 }, b := { wr := n, rel := 0, rd := 0, mark := 0 }, lens := lens })] }

/-- ReaderCommandsMoveTheirPointers: Q239, with a record to read and without one, running and not. -/
theorem witness_reader : (stalled 239 0 1 [32]).get F.stall_SIZE_LOG2 239 ≠ 0 ∧ ((stalled 239 0 1 [32]).stall 239).reset = none ∧
    (stalled 239 0 1 [32]).get F.stall_STATE 239 ∈ [1, 2, 3, 4] ∧ unreadLens (stalled 239 0 1 [32]) 239 = 32 :: [] ∧
    unreadLens (stalled 239 0 4 []) 239 = [] ∧ (stalled 239 0 2 [32]).get F.stall_STATE 239 = 2 := by decide +kernel

theorem test_stall_next : (((after (exec (.stallNext 239 0) (stalled 239 0 1 [32, 24])) hub).stall 239).a).rd = 32 := by decide +kernel

/-- RecordsAndCreditFollowTheStallsMode: no stall, a record that is too long, no credit, credit, a full ring, a request. -/
theorem witness_records : hub.get F.stall_SIZE_LOG2 255 = 0 ∧ (hub.stall 255).reset = none ∧ 2 ^ (stalled 255 0 1 []).get F.stall_SIZE_LOG2 255 < recordSize 4096 ∧
    (stalled 255 1 1 []).get F.stall_GRANTED 255 < recordSize 0 ∧ recordSize 0 ≤ (st (stallSet 255 12 32)).get F.stall_GRANTED 255 ∧
    recordSize 4000 ≤ stallFree (stalled 255 0 1 []) 255 ∧ ((stalled 255 0 1 [4096]).stall 255).lens = [4096] ∧ 4096 - 4096 < recordSize 0 ∧
    ((stalled 255 0 1 [4096]).stall 255).a.wr = (0 + 4096) % (2 * 4096) ∧
    (stalled 255 1 1 []).get F.stall_GRANTED 255 + 4096 ≤ stallFree (stalled 255 1 1 []) 255 ∧
    stallFree (stalled 255 1 1 [32]) 255 < (stalled 255 1 1 [32]).get F.stall_GRANTED 255 + 4096 := by decide +kernel

theorem test_record_too_big : (after (exec (.stallRecordWrite 255 1 0 0 (List.replicate 5000 0) 0) (stalled 255 0 1 [])) hub).get F.stall_LOST 255 = 1 := by
  decide +kernel

/-- AStallResetEmptiesItAndLeavesAMarker. -/
theorem witness_stall_reset :
    let s : State := { stalled 255 0 1 [32] with stalls := [(255, { reset := some { cause := 2, mismatch := 0, newCfg := none } })] }
    (hub.stall 255).reset = none ∧ (s.stall 255).reset = some { cause := 2, mismatch := 0, newCfg := none } ∧ s.waits = [] ∧
    8 ≤ s.get F.stall_SIZE_LOG2 255 ∧ (1 : BitVec 4) ≠ 0 := by decide +kernel

/-- A STALL_CONFIG: q, log2 of the size, mode, reader, watermark. -/
def cfg (q k mode reader wm : Nat) : Req := rw [q + k * 256 + mode * 8192 + reader * 16384, wm]

/-- StallCommandsAllocateResizeAndReset. -/
theorem witness_stall_commands : takes hub (cfg 239 8 0 0 0) = true ∧ (cfg 239 8 0 0 0).body.length = 8 ∧ fld (cfg 240 8 0 0 0).body 0 0 8 = 240 ∧
    fld (cfg 239 20 1 2 8).body 0 8 5 = 20 ∧ fld (cfg 239 20 1 2 8).body 0 13 1 = 1 ∧ fld (cfg 239 20 1 2 8).body 0 14 3 = 2 ∧
    stallNamed hub 239 = false ∧ hub.get F.stall_READER 239 ≠ 3 ∧ hub.get F.stall_SIZE_LOG2 239 = 0 ∧ regionUsed hub 239 + 2 ^ 8 ≤ 0x400000 ∧
    (place hub 239 8).isSome = true ∧ (stalled 239 0 1 []).get F.stall_SIZE_LOG2 239 = 12 ∧ (stalled 239 0 1 []).get F.stall_MODE 239 ≠ 1 ∧
    rangeFirst (rw [rg 248 8]).body + rangeCount (rw [rg 248 8]).body = 256 ∧ rangeCount (rw [rg 0 9]).body = 9 ∧ rangeCount (rw [0]).body = 0 := by
  decide +kernel

theorem test_stall_config : (after (exec (.stallConfig (cfg 5 8 1 0 0)) hub) hub).get F.stall_MODE 5 = 1 := by decide +kernel

/-- A source's queue of one byte. -/
def typed (src : Nat) (b : Byte) (x : Option Sentence) : State :=
  { hub with srcs := [(src, { input := [{ data := b, tsSrc := 1, stamp := 0, last := false }], sent := x })] }

/-- An open sentence with one byte. -/
def open1 (src : Nat) : Sentence := { source := src, long := false, bytes := [0x24], count := 1 }

/-- TheParserFramesCountsAndClosesSentences: a start, a stray, an end of line, the last byte that fits and the first that does not. -/
theorem witness_parser : hub.part.hasSource 0x1001 = true ∧ isStart (startCfg hub 0x1001) 0x24 = true ∧ isStart (startCfg hub 0x1001) 0x41 = false ∧
    ((typed 0x1001 0x24 none).source 0x1001).sent = none ∧ ((typed 0x1001 0x0A (some (open1 0x1001))).source 0x1001).sent = some (open1 0x1001) ∧
    (open1 0x1001).causes = [] ∧ (open1 0x1001).overlong = false ∧ (open1 0x1001).malformed = false ∧ (open1 0x1001).mbox = none ∧
    ({ open1 0x1001 with count := 81 } : Sentence).count < 82 ∧ 82 ≤ ({ open1 0x1001 with count := 82 } : Sentence).count ∧
    (hub.source 0x1001).input = [] ∧ (hub.source 0x1001).closing = [] := by decide +kernel

/-- A closed sentence waits for the classifier. -/
def closed1 : State := { hub with srcs := [(0x1001, { closed := [open1 0x1001] })] }

/-- ClassificationAppliesTheFirstMatchingEntry and what follows it: a copyback, levelled tables. -/
theorem witness_router : (st [(F.router_COPYBACK, 0, 1)]).on F.router_COPYBACK 0 = true ∧ hub.running = true ∧ hub.waits = [] ∧
    chooseSource hub = none ∧ chooseSource closed1 = some 0x1001 ∧ (closed1.source 0x1001).closed = open1 0x1001 :: [] ∧
    (open1 0x1001).cap = none ∧ closed1.eligible = [] ∧ (lookup closed1 closed1.rtActive (open1 0x1001)).verdict.miss = true ∧
    tblWf entry0 hub.entries = true ∧ tblWf action0 hub.actions = true ∧ tblWf group0 hub.groups = true ∧ hub.commitAsked = false ∧
    ({ hub with commitAsked := true } : State).commitAsked = true := by decide +kernel

/-- VotesNeedAMajorityOfTheJudges. -/
theorem witness_votes : hub.ballots = [] ∧ (st [(F.vote_IN, 0, 7), (F.vote_SUSPECT_N, 0, 0)]).get F.vote_IN 0 = 7 ∧
    (st [(F.vote_SUSPECT_N, 0, 0)]).get F.vote_SUSPECT_N 0 = 0 ∧ (st [(F.vote_PENDING_IN, 0, 1)]).on F.vote_PENDING_IN 0 = true ∧
    preRemains hub = false ∧ (st [(F.vote_OUT_JUDGE, 0, 2)]).get F.vote_OUT_JUDGE 0 < 3 ∧
    ({ hub with enc := [(95, { ovrQ := [2] })] } : State).encLane 95 = { ovrQ := [2] } ∧ pixelMode (encMode hub 95) = false ∧
    pixelMode (encMode (st [(F.tx_ACTIVE, 95, 8)]) 95) = true ∧ (st [(F.enc_OVR, 95, 1), (F.vote_EGRESS_LATCH, 0, 1)]).get F.enc_OVR 95 = 1 := by
  decide +kernel

/-- RouterTableCommandsWriteTheInactiveCopy: lengths, the last records of each table, a copyback that runs. -/
theorem witness_tables : takes hub (rw (rg 4095 1 :: List.replicate 14 0)) = true ∧ (rw (rg 4095 1 :: List.replicate 14 0)).body.length = 4 + 4 * 14 * 1 ∧
    rangeFirst (rw [rg 4095 1]).body + 1 = 4096 ∧ rangeFirst (rw [rg 4095 2]).body + 2 = 4097 ∧ hub.on F.router_COPYBACK 0 = false ∧
    (rw (rg 1023 1 :: List.replicate 8 0)).body.length = 4 + 4 * 8 * 1 ∧ groupBad hub (bodyWords (rw (rg 0 1 :: List.replicate 8 0)) 4 8) = false ∧
    actionBad (bodyWords (rw (rg 0 1 :: List.replicate 4 0)) 4 4) = false ∧ hookAbsent hub (bodyWords (rw (rg 0 1 :: List.replicate 4 0)) 4 4) = false ∧
    fld (rw [3, rg 95 1]).body 0 0 2 = 3 ∧ rangeCount (rw [rg 0 124]).body = 124 := by decide +kernel

/-- SourcesListenersAndJudgesAreSet. -/
theorem witness_sources : (rw [rg 0 1, 0]).body.length = 4 + (2 * 1 + 3) / 4 * 4 ∧ hub.part.hasSource 0 = true ∧ (newEligible hub 0 [0]).length ≤ 48 ∧
    fld (rw [97, 0, 0]).body 0 0 7 = 97 ∧ fld (rw [98, 0, 0]).body 0 0 7 = 98 ∧ small.part.lanes ≤ 24 ∧ boundElsewhere hub 5 239 = false ∧
    hub.get F.stall_READER 239 ∉ [1, 2, 4] ∧ hub.waits = [] ∧ hub.cmds = [] ∧ (hub.source 0x2000).sent = none ∧
    hostSentenceOk (hub.reg (F.parse_NMEA_EN.addr 0x2000)) [0x24, 0x47, 0x50, 0x58, 0x58, 0x58, 0x0D, 0x0A] = true ∧
    flag (rw [rg 0 1, 15]).body 4 4 = false ∧ (st [(F.vote_OUT_JUDGE, 0, 3)]).get F.vote_OUT_JUDGE 0 = 3 ∧
    (st [(F.vote_OUT_JUDGE, 0, 1)]).get F.vote_OUT_JUDGE 0 = fld (rw [1]).body 0 0 2 ∧ hub.srcs = [] := by decide +kernel


/-- What a classification captured: a match of entry 4095 that forwards in class 0 to one stall. -/
def cap1 : Captured :=
  { verdict := { miss := false, entry := 4095, forward := true, cls := 0, group := 1023, hookKind := 0, hookTarget := 1023 }
    num := 0, action := [], copy := 0, stalls := [5] }

/-- A ballot of that sentence, before every judge. -/
def voted : State :=
  { st [(F.vote_IN, 0, 7), (F.vote_SUSPECT_N, 0, 0)] with ballots := [{ sent := { open1 0x1001 with cap := some cap1 }, dropped := false }] }

theorem witness_ballot : voted.ballots = { sent := { open1 0x1001 with cap := some cap1 }, dropped := false } :: [] ∧ overrideOf voted { open1 0x1001 with cap := some cap1 } = none ∧
    cap1.stalls ≠ [] ∧ trimWord (voteWord { open1 0x1001 with cap := some cap1 } cap1.verdict) = voteWord { open1 0x1001 with cap := some cap1 } cap1.verdict ∧
    voted.get F.vote_IN 0 = 7 := by decide +kernel

theorem test_vote_agrees : (after (exec (.vote []) voted) hub).voterQ.map (·.agree) = [7] := by decide +kernel

/-- Another answer of a judge. -/
def odd (e : Nat) : VoteWord := { voteWord (open1 0x1001) cap1.verdict with entry := e }

/-- No two judges agree, so nothing leaves. -/
theorem test_vote_no_majority : (after (exec (.vote [(0, odd 1), (1, odd 2)]) voted) hub).get F.vote_NO_MAJORITY 0 = 1 := by decide +kernel

/-- One judge differs: the sentence leaves on the others' word. -/
theorem test_vote_dissent : (after (exec (.vote [(2, odd 1)]) voted) hub).voterQ.map (·.agree) = [3] ∧
    (after (exec (.vote [(2, odd 1)]) voted) hub).get F.vote_DISSENTS 0 = 1 := by decide +kernel

/-- PixelTableWritesChangeTheInactiveCopy: the last record of each table, one past it, a bad record, a copyback that runs. -/
theorem witness_pixel_tables : takes hub (rw (rg 255 1 :: List.replicate 32 0)) = true ∧ hub.part.hasPixel = true ∧
    (rw (rg 255 1 :: List.replicate 32 0)).body.length = 4 + 4 * 32 * 1 ∧ rangeFirst (rw [rg 255 1]).body + 1 = 256 ∧
    rangeFirst (rw [rg 1023 2]).body + 2 = 1025 ∧ hub.on F.pixel_COPYBACK 0 = false ∧ (st [(F.pixel_COPYBACK, 0, 1)]).on F.pixel_COPYBACK 0 = true ∧
    profBad (List.replicate 32 0) = true ∧ zoneBad (List.replicate 8 0) = false ∧ zoneBad [0xC00, 0, 0, 0, 0, 0, 0, 0] = true ∧
    zoneAbsent small [BitVec.ofNat 32 (2 + 24 * 4), 0, 0, 0, 0, 0, 0, 0] = true ∧ sourceBad [0, 0x100000] = false ∧ sourceBad [0x7FFFFFFF, 0] = true ∧ sourceBad [0x30000, 0] = true ∧
    sourcesClash hub = false ∧ segBad [0, 0, 0, 0] = true ∧ roleParked hub 95 = false ∧ segSum hub 95 = 0 ∧
    fld (rw [95]).body 0 0 7 = 95 ∧ small.part.lanes ≤ 24 ∧ fld (rw [63 * 256 + 65536]).body 0 8 6 + fld (rw [63 * 256 + 65536]).body 0 16 6 = 64 ∧
    curveNamed hub 63 = false ∧ curveNamed hub 0 = true ∧
    fld (rw [63 + 256 + 4095 * 65536, 0]).body 0 16 12 + fld (rw [63 + 256 + 4095 * 65536, 0]).body 0 8 7 = 4096 ∧ hub.yardErr = [] := by decide +kernel

/-- PixelSettingsLevelsAndCommit. -/
theorem witness_pixel_settings : takes small (rq []) = true ∧ small.part.hasPixel = false ∧ (rw [1, 0]).body.length = 8 ∧
    flag (rw [1, 0]).body 0 0 = true ∧ flag (rw [0, 0]).body 0 0 = false ∧ hub.tablesReady = false ∧ commitOk hub = true ∧
    commitOk (st [(F.grp_SIZE, 1, 0)]) = commitOk hub ∧ u32 (rw [123]).body 0 = 123 ∧ u32 (rw [42]).body 0 = 42 ∧
    (rw [1, 1023, 0, 0]).body.length = 16 ∧ fld (rw [1, 1023, 0, 0]).body 4 0 10 = 1023 ∧ fld (zoneRec hub 1023) 0 0 2 ≠ 3 ∧
    fld (zoneRec hub 1023) 0 10 2 ≠ 2 ∧ flag (rw [1, 65536, 0, 0]).body 4 16 = true ∧
    (rw (rg 95 1 :: List.replicate 8 0)).body.length = 36 ∧ encBad (rw (rg 95 1 :: List.replicate 8 0)).body = true ∧
    encBad (rw (rg 95 1 :: [0, 0x00F00078, 0x012C01F4, 8, 0, 0, 100000, 0])).body = false ∧ roleLane (st [(F.tx_ROLE, 95, 95)]) 95 = some 95 ∧
    rangeFirst (rw [rg 63 1, 96]).body + 1 = 64 ∧ (rw [rg 63 1, 96]).body.length = 4 + (1 + 3) / 4 * 4 ∧
    (byteAt (rw [rg 63 1, 96]).body 4).toNat % 128 = 96 ∧ fld (rw [95]).body 0 0 7 = 95 := by decide +kernel

/-- A segment of one lamp of one slot. -/
def seg1 : SegOut := { slots := 1, depth := 8, lamps := [[65535]] }

/-- An encoder lane: a mode, and what the encoder holds. -/
def lamp (n m : Nat) (x : EncLane) : State := { st [(F.tx_ACTIVE, n, m), (F.pixel_RUN, 0, 1)] with enc := [(n, x)], runNow := true }

/-- Two source records whose seeding has not finished, a packet waiting for the second. -/
def seeding : State := { st [(F.pixel_SEEDING, 0, 1)] with seedLeft := [3, 5], seedHeld := [(5, [0#8])] }

theorem test_seed_done : (after (exec .seedDone seeding) hub).seedLeft = [5] ∧ (after (exec .seedDone seeding) hub).seedHeld.length = 1 ∧
    (after (exec .seedDone (after (exec .seedDone seeding) hub)) hub).seedHeld = [] := by
  decide +kernel

/-- LampOutputsSendLatchAndCount: each phase, each mode. -/
theorem witness_lamps : hub.part.hasPixel = true ∧ hub.shedUp 5 = true ∧ encMode (lamp 95 6 {}) 95 = 6 ∧ encMode (lamp 0 7 {}) 0 = 7 ∧
    encMode (lamp 0 8 { h := 1, period := 2 }) 0 = 8 ∧ (lamp 95 6 { frames := [([seg1], 7)] }).runNow = true ∧
    ((lamp 95 6 { frames := [([seg1], 7)] }).encLane 95).frames = ([seg1], 7) :: [] ∧ ((lamp 95 6 {}).encLane 95).phase = .idle ∧ ((lamp 95 6 {}).encLane 95).idleUntil ≤ hub.ran ∧
    hub.ran < ((lamp 0 7 { idleUntil := 1 }).encLane 0).idleUntil ∧ ((lamp 95 6 { phase := .sending, segs := [seg1] }).encLane 95).before = none ∧
    ((lamp 95 6 { phase := .sending, segs := [seg1] }).encLane 95).segs = seg1 :: [] ∧
    (put (lamp 95 6 {}) [(F.enc_OVR, 95, 2)]).get F.enc_OVR 95 = 2 ∧ (put (lamp 95 6 {}) [(F.enc_OVR, 95, 3)]).get F.enc_OVR 95 = 3 ∧
    ((lamp 0 7 { phase := .bitsDone }).encLane 0).phase = .bitsDone ∧ ((lamp 0 7 { phase := .latching }).encLane 0).phase = .latching ∧
    frameField { cfg := [2#32, 0#32, 0#32, 0#32, 0#32, 0x90000#32] } F.enc_LATCH_MODE = 1 ∧
    frameField { cfg := [2#32, 0#32, 0#32, 0#32, 0#32, 0x90000#32] } F.enc_LATCH_AT ≠ 0 ∧ hub.get F.enc_OVR 0 = 0 ∧
    ((lamp 0 8 { h := 1, period := 2 }).encLane 0).h < 2 ∧ hub.seedLeft = [] ∧
    (seeding.seedLeft = 3 :: [5] ∧ ∀ e ∈ hub.seedHeld, [5].contains e.1 = true) ∧ hub.running = true ∧ hub.waits = [] ∧ hub.memWf = true := by
  decide +kernel

/-- R355: HDR, PREFIX, the slot and the latch word, each most significant bit first. -/
theorem test_frame_bits : frameBits { cfg := [0#32, 0#32, 0#32, 0x00520300#32, 4#32, 0x82#32], sent := [{ slots := 1, depth := 0, lamps := [[0x81]] }] } true =
    [true, false, false, false, true, true, false, false, false, false, false, false, true, true, true] := by decide +kernel

theorem test_underrun : (after (exec (.underrun 95) (lamp 95 6 { phase := .sending, segs := [seg1] })) hub).get F.enc_N_UNDERRUN 95 = 1 := by
  decide +kernel

theorem test_frame_latched : ((after (exec (.frameLatched 0) (lamp 0 7 { phase := .latching, sent := [seg1] })) hub).encLane 0).latched = [seg1] := by
  decide +kernel

/-- MeasurementCommandsSetAndCalibrate: the last channel, one past it, a calibration in progress, each spare. -/
theorem witness_meas_commands : takes hub (rw [rg 23 1, 1, 0]) = true ∧ (rw [rg 23 1, 1, 0]).body.length = 12 ∧ rangeFirst (rw [rg 23 1]).body = 23 ∧
    fld (rw [rg 23 1, 3, 0]).body 4 0 3 = 3 ∧ fld (rw [rg 23 1, 2, 0]).body 4 0 3 = 2 ∧ (hub.channel 23).cal = none ∧ chKind hub 23 = 0 ∧
    chKind (st [(F.ch_KIND, 23, 1)]) 23 ≠ 0 ∧ fld (rw [24]).body 0 0 5 = 24 ∧ (rw (List.replicate 10 0)).body.length = 40 ∧ hub.shedUp 6 = true ∧
    hub.get F.ch_STATE 23 ≠ 4 ∧ fld (rw [3 * 512]).body 0 9 2 = 3 ∧ fld (rw [512 + 23]).body 0 9 2 = 1 ∧ spareIdle hub 0 = true ∧ spareIdle hub 1 = true ∧
    spareIdle (st [(F.meas_CH_MS0, 0, 5)]) 0 = false ∧ flag (rw [23]).body 0 8 = false ∧ (rw (List.replicate 5 0)).body.length = 20 ∧
    (∀ k, k < 24 → (hub.channel k).cal = none) := by decide +kernel

/-- A calibration of channel 0 on the first spare, at a phase. -/
def calAt (ph : Nat) : Cal := { spare := 0, system := false, expect := 0, phase := ph, oldOffset := 0, oldGain := 32768, settle := 0, overlap := 65535 }

/-- Channel 0 in that calibration. -/
def calib (c : Cal) : State := { st [(F.ch_KIND, 0, 1), (F.meas_CH_MS0, 0, 0), (F.ch_STATE, 0, 3)] with channels := [(0, { cal := some c })] }

/-- A pass with every sample the same. -/
def pass (a b : Int) : CalPass := { a := List.replicate (calAvg hub) a, b := List.replicate (calAvg hub) b }

/-- SamplesAreCorrectedAndCalibrationsRunTheirPhases. -/
theorem witness_meas : hub.shedUp 6 = true ∧ chKind (st [(F.ch_KIND, 23, 1)]) 23 ≠ 0 ∧ (hub.channel 23).settle = 0 ∧ (hub.channel 23).slew = none ∧
    (({ hub with channels := [(23, { settle := 2 })] } : State).channel 23).settle = 2 ∧ hub.get F.ch_STATE 23 ≠ 1 ∧
    ({ hub with part := .plv9624 } : State).part.hasPixel = false ∧ passShape hub false (pass 0 60000) = true ∧
    ((calib (calAt 1)).channel 0).cal = some (calAt 1) ∧ (calAt 2).settle = 0 ∧ hub.get F.meas_OVERLAP 0 ≤ (calAt 2).overlap ∧
    ({ calAt 2 with overlap := 0 } : Cal).overlap < hub.get F.meas_OVERLAP 0 ∧ (calAt 2).handover ≤ hub.get F.meas_HANDOVER_TOL 0 ∧
    ((calib { calAt 6 with p1 := some (0, 32768) }).channel 0).cal = some { calAt 6 with p1 := some (0, 32768) } ∧
    ({ calAt 8 with result := some (-32768, 65535) } : Cal).result = some (-32768, 65535) ∧
    (st [(F.ch_PRIVILEGED, 0, 1)]).on F.ch_PRIVILEGED 0 = true ∧ hub.on F.ch_PRIVILEGED 0 = false ∧ hub.running = true ∧
    hub.get F.meas_SPARE_VALID 0 ≠ 0 ∧ (st [(F.meas_SPARE_VALID, 0, 0)]).get F.meas_SPARE_VALID 0 = 0 := by decide +kernel

theorem test_meas_clamp : (after (exec (.measSample 0 131071 0) { st [(F.ch_KIND, 0, 1)] with part := .plv9624 }) hub).get F.ch_VALUE 0 = 65535 := by
  decide +kernel

theorem test_cal_gap : (((after (exec (.calGapEnd 0) (calib (calAt 5))) hub).channel 0).cal.map (·.phase)) = some 6 := by decide +kernel

/-- One of a pair: what the pins and the twin unit hold. -/
def twin (own role hold : Nat) (x : Twin) : State :=
  { st [(F.twin_PAIRED, 0, 1), (F.twin_OWN, 0, own), (F.twin_ROLE, 0, role), (F.twin_HOLD_IN, 0, hold)] with twin := x }

/-- A living peer. -/
def peer (role owns : Bool) : Heartbeat := { role := role, owns := owns, alive := true, qualified := true, unit := 0, gen := 0, cfgGen := hub.gen }

/-- TheInterlockIsClaimedReleasedAndWatched: each premise of the interlock, of the keep-alive, of the tether. -/
theorem witness_interlock : hub.part.hasTwin = true ∧ hub.shedUp 7 = true ∧ (twin 0 1 0 {}).on F.twin_OWN 0 = false ∧ (twin 0 1 0 {}).twin.claiming = false ∧
    (twin 0 0 1 {}).on F.twin_HOLD_IN 0 = true ∧ ¬ (twin 0 0 1 {}).twin.holdRise + 10000 * 2 ^ 32 ≤ (twin 0 0 1 {}).ran ∧
    (0 : Nat) + 10000 * 2 ^ 32 ≤ ({ twin 0 0 1 {} with tod := 10000 * 2 ^ 32 } : State).ran ∧ (twin 0 1 0 { claiming := true }).twin.claiming = true ∧
    (twin 1 0 0 { alive := true }).twin.alive = true ∧ bypassCause hub = 0 ∧ bypassCause { hub with bypassPin := true } ≠ 0 ∧
    (twin 1 0 0 {}).on F.twin_PAIRED 0 = true ∧ (twin 1 0 0 {}).on F.twin_OWN 0 = true ∧ (twin 0 0 0 {}).twin.handover = none ∧
    mayTake (put (twin 0 1 0 { joined := true }) [(F.twin_UNIT, 0, 2)]) = true ∧ mayTake (twin 0 1 0 {}) = false ∧
    ((twin 0 1 0 { peer := some (peer false true) }).twin.peer.map (·.owns)).getD false = true ∧
    (twin 0 1 0 { startup := true, peer := some { peer false false with alive := false } }).twin.startup = true ∧ tetherOn hub = true ∧
    (peer true true).cfgGen = hub.gen ∧ frameLenOk 0 12 = true ∧ frameLenOk 1 24 = true ∧ frameLenOk 1 2080 = true ∧ frameLenOk 1 2084 = false := by
  decide +kernel

/-- An entry of an INTENT message, and a window with it. -/
def intent1 : IntentEntry := { role := 95, item := 2, source := 1, key := 2, value := 3 }

/-- The window. -/
def window1 : IntentWindow := { window := 9, parts := 1, complete := true, items := [intent1] }

/-- TwinMessagesReportCompareAndSnapshot. -/
theorem witness_twin_messages : tetherOn hub = true ∧ isActive hub = false ∧ isActive (twin 1 0 0 {}) = true ∧ isStandby (twin 0 0 0 {}) = false ∧
    isStandby (twin 0 1 0 { joined := true, windows := [window1] }) = true ∧ (twin 0 1 0 { windows := [window1] }).twin.windows = [window1] ∧
    window1.items = [intent1] ∧ intent1.item < 3 ∧ shadowView (twin 0 1 0 { items := [intent1] }) intent1 = some 3 ∧
    shadowView (twin 0 1 0 {}) intent1 = none ∧ hub.get F.twin_CONFIRM 0 ≠ 1 ∧
    ((twin 1 0 0 { peer := some (peer true false) }).twin.peer.map (·.qualified)).getD false = true ∧ hub.running = true ∧
    (twin 1 0 0 { snapMark := some 5 }).twin.snapMark = some 5 ∧ genNewer 1 0 = true ∧ genNewer 0 0 = false ∧ hub.twin.commitMark = none ∧
    crc32c (hub.peek (0x1E00000 + (1 - hub.twin.snapBuf) * 0x80000) (min 0 0x80000)) = 0 ∧ (twin 0 1 0 { replaying := true }).twin.replaying = true ∧
    upstream hub = true ∧ 255 < 256 := by decide +kernel

/-- A standby fit to take over. -/
def fit : State := put (twin 0 1 0 { joined := true, aligned := true, hbValid := true, peer := some (peer false true), commitMark := some 1, journalFrom := some 0 })
    [(F.twin_SNAP_MS, 0, 100), (F.time_FRAME_N, 0, 2)]

/-- A TWIN_SWAP that waits. -/
def swapping (h : Handover) : State :=
  { twin 1 0 0 { handover := some h, finishing := [95] } with waits := [{ entry := none, opcode := 0x0803, req := rq [], on := .twinSwap }] }

/-- TwinCommandsAndHandoverMoveOwnership. -/
theorem witness_handover : takes small (rq []) = true ∧ small.part.hasTwin = false ∧ hub.part.hasTwin = true ∧ (rw [0, 0, 0]).body.length = 12 ∧
    hub.twin.faulted = false ∧ flag (rw [0]).body 0 0 = false ∧ flag (rw [1]).body 0 0 = true ∧ qualified fit = true ∧ tetherUp fit = true ∧
    isActive (put fit [(F.twin_OWN, 0, 1)]) = true ∧ ((put fit [(F.twin_OWN, 0, 1)]).twin.peer.map (·.qualified)).getD false = true ∧
    fit.twin.handover = none ∧ (swapping { giving := true, revert := false, stage := 1 }).twin.handover.isSome = true ∧
    (swapping { giving := true, revert := false, stage := 1 }).twin.finishing = [95] ∧ drained hub = true ∧
    drained { hub with tx := [(0, { dmxRunning := true })] } = false ∧ (takeChannel (twin 1 0 0 {}) 0).on F.twin_OWN 0 = true ∧
    (takeChannel fit 0).twin.handover = none ∧ qualified (takeChannel fit 0) = true ∧ (takeChannel hub 0).on F.twin_OWN 0 = false ∧
    (twin 0 1 1 { handover := some { giving := false, revert := false, stage := 3 } }).on F.twin_HOLD_IN 0 = true := by decide +kernel

theorem test_swap_refused_alone : after (exec (.twinSwap (rq [])) hub) State.reset = refusedWith 0x0803 9 (rq []) hub := by decide +kernel

/-! ### Further witnesses, clause by clause -/

/-- PanelEncodersCountAndStep: a detent at DIV 4 in a variant with pixels; RailsAndVoltageFollowTheirEvents: the last rail. -/
theorem witness_panel_rails :
    let s : State := { st [(F.panel_ENC_MASK, 0, 1)] with panelEncs := [(0, { bound := true, div := 2, trans := 3 })] }
    (s.get F.panel_ENC_MASK 0).testBit 0 = true ∧ (quadPos 2 + 4 - quadPos (tget s.panelEncs 0 {}).state) % 4 = 1 ∧
    (4 : Int).natAbs ≤ ((tget s.panelEncs 0 {}).trans + 1).natAbs ∧ (tget s.panelEncs 0 {}).report = false ∧ s.part.hasPixel = true ∧
    hub.railDown.any (fun e => e.1 == 7) = false ∧ hub.railDown.any (fun e => e.1 == 4) = false ∧ hub.running = true ∧ raiseList 16 ≠ [] ∧
    0 ∉ hub.brownRails ∧ (0xA4 : Byte) ≠ 0xA5 := by decide +kernel

/-- SecurityCommandsMoveKeysSessionsAndLife: a session's own request, a number that is open, a word of the log that reads DUE. -/
theorem witness_security_more :
    (∃ n, (sess (List.replicate 108 0)).via = .session n) ∧ fld (List.replicate 108 (0 : Byte)) 0 0 1 < hub.part.ports ∧
    small.part.ports ≤ fld (List.replicate 108 (1 : Byte)) 0 0 1 ∧
    (∃ x ∈ ({ hub with sessions := [{ number := 9, port := 0, ip := 0, udp := 0, key := [], peerCounter := 0, ownCounter := 0 }] } : State).sessions, x.number = u32 (rw [9]).body 0) ∧
    ¬ (∃ x ∈ hub.sessions, x.number = u32 (rw [9]).body 0) ∧
    wordState (tget ({ hub with tackErr := [(0x1F80, 0x101)] } : State).tackErr (0x1F80 + 2 * rangeFirst (rw [rg 0 30]).body + 0) 0) = .due := by
  refine ⟨⟨7, rfl⟩, ?_, ?_, ⟨_, List.mem_singleton_self _, ?_⟩, ?_, ?_⟩ <;> decide +kernel

/-- RegisterWritesSetTheirFields: a register of each kind with words of its own. -/
theorem witness_register_kinds : wfReg ⟨.laneTx, 95, 4⟩ = true ∧ blkFitted hub.part .laneTx 95 = true ∧ hub.shedUp (regShed ⟨.laneTx, 95, 4⟩) = true ∧
    hub.shedUp 0 = true ∧ hub.frame.staged = none ∧ hub.shedUp 7 = true ∧ (0xFFFFFFFF#32).getLsbD F.str_EN.lo = true ∧ 1 < hub.part.ports ∧
    (0xFFFFFFFF#32).getLsbD F.eth_EN.lo = true ∧ (0x80000000#32).toInt < -3435973 ∧ 3435973 < (0x7FFFFFFF#32).toInt ∧
    rxState (lane 5 1 4) 5 = 4 ∧ rxState (lane 5 1 3) 5 ≠ 4 := by decide +kernel

/-- SpiTransactionsMoveWords: a foreign mailbox, too few commit cycles, a stall window in a sound yard, a mailbox's last word. -/
theorem witness_spi_more : mbOwner (st [(F.host_OWNER, 0, 1)]) 0 ≠ 0 ∧ ([0#32] : List Word) ≠ [] ∧ (2 : Nat) < 3 ∧ hub.yardErr = [] ∧
    hostBlock 0x2FFC = hostBlock 0x2E00 ∧ (0x21FC : Nat) = 0x2000 + 512 * 0 + 508 ∧ (0xEC : Byte) ≠ 0xEB ∧ (0x9F : Byte) ≠ 0x03 := by decide +kernel

/-- DoorbellsReleasesAndAcknowledgement: a NOP with a right CRC, free outbound mailbox; a wrong CRC. -/
theorem witness_begin :
    let m0 := parseMsg (List.replicate 32 (0 : Byte))
    let m := { m0 with crc := BitVec.ofNat 32 (msgCrc m0) }
    let e : Entry := { id := 0, mbox := 7, via := .spi, msg := m }
    let w : State := { hub with cmds := [e] }
    (queueOf w 7).find? (fun e => e.st = .acked) = some e ∧ mayBegin w e = true ∧ e.msg.length ≤ 496 ∧ e.msg.crc.toNat = msgCrc e.msg ∧
    rsvSet e.msg = false ∧ e.msg.opcode = 0 ∧ e.msg.flags = 0 ∧ e.msg.body = [] ∧ e.via = .spi ∧ w.life ≠ 3 ∧ w.waits = [] ∧
    (w.get F.host_FULL 0).testBit 7 = false ∧ (w.get F.host_SPILLING 0).testBit 7 = false ∧ w.running = true ∧
    ({ m0 with crc := BitVec.ofNat 32 (msgCrc m0 + 1) } : Msg).crc.toNat ≠ msgCrc m0 ∧ m0.opcode ≠ 0x0301 ∧
    (∀ j, j < 7 → mbState (st [(F.host_STATE, 0, 0x4000)]) j ≠ 1) ∧
    mbState (st [(F.host_STATE, 0, 0x4000)]) 7 = 1 := by decide +kernel

/-- EventsAndSpilledMessagesBecomeRecords: rings whose pointer copies agree, at a base and a place of whole words. -/
theorem witness_events_more : mismatchOf (loud.stall 240) = 0 ∧ mismatchOf (loud.stall 243) = 0 ∧ (loud.stall 240).reset = none ∧ (loud.stall 243).reset = none ∧
    (loud.stall 240).base % 8 = 0 ∧ (loud.stall 240).a.wr % 8 = 0 ∧ (loud.stall 240).base + stallSize loud 240 ≤ 0x1FFFC00 ∧
    (loud.stall 243).base % 8 = 0 ∧ (loud.stall 243).a.wr % 8 = 0 ∧ (loud.stall 243).base + stallSize loud 243 ≤ 0x1FFFC00 ∧
    loud.shedUp 1 = true ∧ 32 ≤ stallSize loud 240 ∧ (spillRecord loud 7 [1, 2, 3, 4]).length ≤ stallSize loud 243 ∧ loud.on F.stall_MODE 243 = true ∧
    loud.spill = { mbo := 7, entry := none, bytes := [1, 2, 3, 4] } :: [] ∧ eventEnabled loud 251 = false ∧
    eventEnabled (loud.setReg ⟨.host, 0, 0x5C⟩ 0xFFFFFFFF#32) 255 = true := by decide +kernel

/-- WarmRestartsStopAndStartFirmware: a command that began and does not survive. -/
theorem witness_restart_wait :
    let e : Entry := { id := 5, mbox := 0, via := .spi, msg := parseMsg (List.replicate 32 (0 : Byte)), st := .started }
    let w : Wait := { entry := some 5, opcode := 0x0105, req := rq [], on := .modeSwitch }
    let s : State := { hub with cmds := [e], waits := [w] }
    s.running = true ∧ w ∈ s.waits ∧ waitSurvives w = false ∧ w.entry = some 5 := by decide

/-- ReceiverTimersTakeEffect: a stuck lane, one whose line is high, an autobaud lane that locked, a sentence open without a start bit. -/
theorem witness_receiver_more : rxState (lane 95 1 6) 95 = 6 ∧ ((lane 95 1 6).rxLane 95).ignoring = false ∧ rxState (lane 95 3 7) 95 = 7 ∧
    ((put { lane 5 1 3 with rx := [(5, { heard := true })] } [(F.rx_SILENT_TO, 5, 1)]).rxLane 5).heard = true ∧ (lane 5 1 3).on F.rx_SILENT 5 = false ∧
    rxState (midChar 5 1) 5 = 4 ∧ ((midChar 5 1).rxLane 5).confirmed = true ∧ laneMode (lane 5 1 3) 5 ≠ 5 ∧ (st [(F.rx_ICT, 5, 1)]).get F.rx_ICT 5 ≠ 0 ∧
    ¬ (rxState (lane 5 1 3) 5 = 4 ∧ ((lane 5 1 3).rxLane 5).confirmed = true) ∧ 1 ≤ rxState (lane 5 1 5) 5 ∧ rxState (lane 5 1 5) 5 ≤ 5 := by decide

/-- CharactersReachTheHoldingRegister: a wave whose runs fit the key of the dollar sign at 16,000 cycles a bit. -/
theorem witness_autobaud :
    let s := put (lane 5 1 2) [(F.rx_AB_EN, 5, 1), (F.rx_KEY_DOLLAR, 5, 1)]
    rxState s 5 = 2 ∧ (abWinner s 5 [48000, 16000, 32000, 16000, 32000, 160000]).isSome = true ∧ abWinner s 5 [] = none := by decide +kernel

/-- DmxReceiveAndSenseLanes: a break at the least, a mark too short, an edge after NO_SIGNAL, a gate at its last period. -/
theorem witness_sense_more : (88 : Nat) * 400 ≤ 35200 ∧ (8 : Nat) * 400 ≤ 3200 ∧ (3199 : Nat) < 8 * 400 ∧ (lane 9 5 3).get F.tx_BREAK_MIN 9 = 88 ∧
    (lane 9 5 3).get F.tx_MAB_MIN 9 = 8 ∧ (put (lane 9 5 3) [(F.tx_OUT, 9, 0)]).get F.tx_OUT 9 = 0 ∧
    (({ lane 9 9 0 with rx := [(9, { noSignal := true })] } : State).rxLane 9).noSignal = true ∧
    max 1 ((lane 9 9 0).get F.tx_GATE 9) ≤ (({ lane 9 9 0 with rx := [(9, { gateOpen := true, gatePeriods := 65535 })] } : State).rxLane 9).gatePeriods + 1 ∧
    (st [(F.rx_SILENT_TO, 9, 1)]).get F.rx_SILENT_TO 9 ≠ 0 ∧ (put (lane 9 9 0) [(F.pwr_UP, 0, 0xFDF)]).shedUp 5 = false := by decide

/-- A granted record of one byte. -/
def gr1 : Granted := { q := 0, cls := 1, marker := false, source := 0, seqn := 0, dup := false, bytes := List.replicate 24 0 ++ [0x24] }

/-- TransmittersGrantSendAndRetry: every premise of a grant, of the last and of a bad character, of a lead's end, of DMX. -/
theorem witness_transmit_more : (fed.txLane 2).granted = none ∧ (fed.txLane 2).moveTo = none ∧ fed.on F.tx_PENDING 2 = false ∧ upstream fed = true ∧
    grantsStopped fed = false ∧ bypassed fed 2 = false ∧ (fed.txLane 2).phase = .idle ∧ (fed.txLane 2).de = false ∧ tget fed.unbound 2 [] = [] ∧
    fld (headRecord fed 0) 4 20 4 ≠ 3 ∧
    (({ fed with tx := [(2, { phase := .tail, de := true })] } : State).txLane 2).phase = .tail ∧
    (({ fed with tx := [(2, { phase := .next, de := true })] } : State).txLane 2).phase = .next ∧
    (({ fed with tx := [(2, { phase := .sending, granted := some gr1 })] } : State).txLane 2).granted = some gr1 ∧
    gr1.body.length ≤ 0 + 1 ∧ 0 + 1 < ({ gr1 with bytes := List.replicate 24 0 ++ [1, 2] } : Granted).body.length ∧
    echoBad (put (sender 95 3 .sending) [(F.tx_ECHO_CHECK, 95, 1)]) 95 0x24 { started := true, data := 0x25, parity := false, stop := true } = true ∧
    (put (sender 95 3 .sending) [(F.tx_ECHO_CHECK, 95, 1)]).on F.tx_ECHO_CHECK 95 = true ∧
    (put hub [(F.tx_RETRY, 95, 1)]).get F.tx_RETRY 95 = 1 ∧ rxState (sender 95 3 .waiting) 95 ≠ 4 ∧
    (({ sender 95 4 .idle with tx := [(95, { dmxRunning := true, pos := 512 })] } : State).txLane 95).dmxRunning = true ∧
    min 512 ((st [(F.tx_DMX_SLOTS, 95, 512)]).get F.tx_DMX_SLOTS 95) ≤ 512 ∧
    (({ lane 95 3 1 with rx := [(95, { ignoring := true })] } : State).rxLane 95).ignoring = true ∧ (lane 95 3 1).on F.tx_DMX_SYNC_TICK 95 = false := by
  decide +kernel

/-- An Ethernet port with a destination and a record of its own listener. -/
def portFed : State :=
  { st ([(F.eth_EN, 1, 1), (F.eth_LINK, 1, 1), (F.eth_DEST_VALID, 1, 1), (F.twin_OWN, 0, 1)] ++ stallSet 0 12 0) with
    bindings := [(97, [0#32, 1#32])], stalls := [(0, { a := { wr := 24, rel := 0, rd := 0, mark := 0 }, b := { wr := 24, rel := 0, rd := 0, mark := 0 }, lens := [24] })] }

theorem witness_port_grant : portReady portFed 1 = true ∧ tget portFed.unbound (96 + 1) [] = [] ∧ (grantClass portFed (96 + 1)).isSome = true := by
  decide +kernel

/-- LaneModesChangeAtTheirBoundary: the mode in force, another, a move of a lane that carries a role. -/
theorem witness_mode_more : (st [(F.tx_ACTIVE, 0, 15)]).get F.tx_ACTIVE 0 = 15 ∧ (hub.txLane 0).phase = .idle ∧ (laneMode hub 0 = 4 → (hub.txLane 0).de = false) ∧
    (({ hub with tx := [(0, { phase := .lead })] } : State).txLane 0).phase = .lead ∧
    ({ hub with tx := [(0, { moveTo := some 95 })] } : State).waits = [] := by decide +kernel

/-- LaneCommandsReachTheirLanes: the last role, a programmed key, an OFF lane, a move to an empty paddock lane. -/
theorem witness_lane_more : fld (rw [rg 95 1, 9]).body 4 0 4 = 9 ∧ [95].any (roleParked hub) = false ∧ fld (rw [rg 0 1, 6]).body 4 1 2 = 3 ∧
    (bits (u32 (rw [rg 0 1, 16, 0, 0x800A5, 0, 0]).body 12) 19 1 = 1) ∧ (progRuns 0xA5 8).isSome = true ∧
    fld (rw [rg 0 1, 0, 0, 0, 0, 0, 0, 0, 239 * 2 ^ 19 + 1]).body 32 19 8 = 239 ∧ hub.on F.stall_MODE 239 = false ∧ capNames hub 8 239 = false ∧
    (st [(F.tx_ROLE, 5, 5)]).get F.tx_ROLE 5 < 96 ∧ (({ hub with tx := [(5, { parked := some 95 })] } : State).txLane 5).parked = some 95 ∧
    hub.tx.any (fun e => e.2.moveTo == some 95) = false ∧ hub.shedUp (laneShed 95) = true := by decide +kernel

/-- YardAccessesReadWriteCorrectAndRefuse: the last bytes beside a pass's save buffers, two symbols that no correction mends. -/
theorem witness_yard_more : 0x1FFFBFF + 1 ≤ 0x1FFFC00 ∧ 0x1FFFFF8 + 8 ≤ 0x2000000 ∧ hub.groomPass = none ∧ 0x2000000 < 0x1FFFFF9 + 8 ∧ hub.on F.yard_DUE_VALID 0 = false ∧
    wordState (((1 : Byte).toNat * 256 ^ 10) ^^^ ((1 : Byte).toNat * 256 ^ 0)) = .due ∧ (1 : Byte) ≠ 0 ∧ 0xFFF8 + 8 ≤ 65536 := by decide +kernel

/-- GroomAndFarrierKeepTheYard: a march, void and not, a scrub, the last region, a free spare and none. -/
theorem witness_groom_more :
    let p : State := { hub with groomPass := some { region := 65534, march := true, written := true } }
    let q : State := { hub with groomPass := some { region := 65535, march := false } }
    p.yardErr = [] ∧ p.groomPass = some { region := 65534, march := true, written := true } ∧ ({ region := 65534, march := true, written := true } : GroomPass).turn ≤ 768 ∧
    q.groomPass = some { region := 65535, march := false } ∧ q.voidRun < max 1 (q.get F.yard_VOID_MAX 0) ∧
    ({ region := 65534, march := true } : GroomPass).found = [] ∧ ({ region := 65534, march := true } : GroomPass).differ = [] ∧
    (bankEntries 0).find? (spareFree (put hub ((List.range 64).map (fun e => (F.map_VALID, e, 1))))) = none := by decide +kernel

/-- ServiceCommandsAnswer: a sound mask, one that names no shed, every group of counters on the largest variant. -/
theorem witness_service_more : (rq (le 4 0)).body.length = 4 ∧ fld (rw [0xFF]).body 0 6 1 = 1 ∧ 2 ≤ hub.part.ports ∧ hub.part.hasPixel = true ∧ fld (rw [0]).body 0 0 8 = 0 ∧
    (fld (rw [0xFFE, 0]).body 0 0 12).testBit 0 = false ∧ (∀ n, n < 12 → (fld (rw [0xFFE, 0]).body 0 0 12).testBit n = true → hub.shedUp n = true) ∧
    hub.bypassPin = false ∧ (200 : Nat) < 201 := by decide +kernel

/-- ShedsAndBypassFollow: a plan with its last shed and a command that waits for it; an engaged pair. -/
theorem witness_sheds_more :
    let w : Wait := { entry := none, opcode := 0x0B01, req := rq [], on := .sheds }
    let s : State := { hub with boot := .loaded, shedPlan := some { raise := [11], fromCommand := true }, waits := [w] }
    s.tamperOn = [] ∧ s.brownRails = [] ∧ s.boot ≠ .waitS4 ∧ s.boot ≠ .waitS1 ∧ s.shedPlan = some { raise := [11], fromCommand := true } ∧
    s.waits = [w] ∧ w.on = .sheds ∧ s.life ≠ 3 ∧ s.bypassCmd = false := by decide

/-- TimeSettingCommandsAnswer: an offset at each end, references taken and given up, a domain that changes under REF 1. -/
theorem witness_time_more : (-2147483648 : Int) < 2147483647 ∧ (st [(F.time_REF, 0, 2), (F.time_SERVO, 0, 3)]).get F.time_REF 0 % 3 ≠ 0 ∧ hub.get F.time_SERVO 0 = 0 ∧
    fld (rw [2, 0, 0, 0, 0, 0]).body 0 0 2 ≠ hub.get F.time_REF 0 ∧ (st [(F.time_SERVO, 0, 4)]).get F.time_REF 0 % 3 = 0 ∧
    logOk (bits (u32 (rw [0, 0x02808080]).body 4) 0 8) 7 1 = true ∧ logOk (bits (u32 (rw [0, 0x02808080]).body 4) 8 8) 3 3 = true ∧
    logOk (bits (u32 (rw [0, 0x02808080]).body 4) 16 8) 7 5 = true ∧ bits (u32 (rw [0x10]).body 0) 4 7 ≠ bits (ptpWord hub 0) 4 7 := by decide +kernel

/-- TimeStepPulseAndCaptureCommands: a step by a given amount and by a measurement, one that would go below zero, a pulse that is
armed for the future, one in its pulse that is disarmed. -/
theorem witness_step_more :
    let m : State := { serviced with servo := { hub.servo with offset := some (-5), measuredAt := some 0 } }
    recentOffset m = some (-5) ∧ recentOffset hub = none ∧ flag (rw [0, 0, 0]).body 0 0 = false ∧
    sx 64 (u32 (rw [1, 1, 0]).body 4 + u32 (rw [1, 1, 0]).body 8 * 4294967296) = 1 ∧
    (hub.nowNs : Int) + sx 64 (u32 (rw [1, 0xFFFFFFFF, 0xFFFFFFFF]).body 4 + u32 (rw [1, 0xFFFFFFFF, 0xFFFFFFFF]).body 8 * 4294967296) < 0 ∧
    pulseBad hub (rw [7, 4, 100, 0, 0, 1000, 10, 0]).body = false ∧ flag (rw [7, 4, 100, 0, 0, 1000, 10, 0]).body 4 2 = true ∧
    ({ hub with pulses := [(7, { high := true })] } : State).pulses = [(7, { high := true })] ∧ fld (rw [128]).body 0 0 8 = 2 ^ 7 ∧
    (fld (rw [7, 1]).body 4 0 2 ≠ 0) ∧ hub.on F.stall_MODE 0 = false := by decide +kernel

/-- ClockAndServoFollowTheReference: a jump past JUMP_TH from LOCKED, a clock that is gone, a PTP message inside the settings and
one outside, a kind that a slave sends. -/
theorem witness_servo_more :
    let s : State := { st [(F.time_REF, 0, 1), (F.time_SERVO, 0, 2), (F.time_JUMP_TH, 0, 1)] with servo := { hub.servo with offset := some 0 } }
    let p : State := st [(F.time_PTP_EN, 0, 1), (F.eth_EN, 0, 1), (F.eth_LINK, 0, 1)]
    let m : PtpMsg := { version := 2, domain := bits (ptpWord hub 0) 4 7, kind := 11, profile := bits (ptpWord hub 0) 0 2,
                        transport := bits (ptpWord hub 0) 2 1, tlvs := [], identity := 1, rank := 1, ago := 0 }
    s.get F.time_JUMP_TH 0 ≠ 0 ∧ s.get F.time_JUMP_TH 0 * 1000 < ((1001 : Int) - 0).natAbs ∧ s.servo.jumped = false ∧ (0 : Int).natAbs ≤ 4 * max 1 (s.get F.time_LOCK_TH 0) ∧
    ((hub.getI F.time_ADJ 0).natAbs ≤ 3435973) ∧ (hub.get F.time_SERVO 0 = 0 ∧ hub.servo.history = []) ∧ ({ hub with refclk := false } : State).refclk = false ∧
    p.on F.time_PTP_EN 0 = true ∧ ptpRefused p 0 m = false ∧ ptpRefused p 0 { m with version := 1 } = true ∧
    ethOn p (p.get F.time_PTP_PORT 0) = true ∧ p.on F.eth_EN (p.get F.time_PTP_PORT 0) = true ∧ p.on F.eth_LINK (p.get F.time_PTP_PORT 0) = true ∧
    ptpMaySend p 2 = true ∧ ptpMaySend p 12 = false := by decide +kernel

/-- TicksPulsesCapturesAndSchedules: an output at rest whose instant has come and one whose has not, a frame output that is due, a
fall that is due and one that is not, an edge within 1 µs of the recorded one, a schedule entry that a later one displaces. -/
theorem witness_ticks_more :
    let a : State := { st [(F.pulse_ARMED, 7, 1)] with pulses := [(7, { next := 0 })] }
    let b : State := { st [(F.pulse_ARMED, 7, 1), (F.pulse_FRAME, 7, 1)] with pulses := [(7, { frameDue := true })] }
    let c : State := { hub with pulses := [(7, { high := true, endAt := 4, last := true })] }
    let k : State := { st [(F.cap_EDGE, 7, 3)] with caps := [(7, { recorded := some 0 })] }
    let e : Sched := { daily := false, slot := 1, emerg := false, time := 3 }
    let f : Sched := { daily := false, slot := 2, emerg := false, time := 5 }
    let sc : State := { st [(F.time_SERVO, 0, 2), (F.time_TS_STATE, 0, 0)] with tod := 5 * secUnit, sched := [e, f] }
    (tget a.pulses 7 {}).high = false ∧ a.on F.pulse_ARMED 7 = true ∧ a.on F.pulse_FRAME 7 = false ∧ (tget a.pulses 7 {}).next * nsUnit ≤ a.tod ∧
    a.tod < (tget ({ a with pulses := [(7, { next := 1 })] } : State).pulses 7 {}).next * nsUnit ∧ b.on F.pulse_FRAME 7 = true ∧ (tget b.pulses 7 {}).frameDue = true ∧
    c.tod < (tget c.pulses 7 {}).endAt ∧ (tget c.pulses 7 {}).endAt ≤ ({ c with tod := 4 } : State).tod ∧ (tget c.pulses 7 {}).rearm = none ∧
    (tget c.pulses 7 {}).stepOff = false ∧ (tget c.pulses 7 {}).disarm = false ∧ (tget c.pulses 7 {}).last = true ∧
    (tget k.caps 7 {}).recorded = some 0 ∧
    sc.sched[1]? = some f ∧ sc.tsState ≤ 1 ∧ dueAt sc f = some 5 ∧ (∃ x ∈ sc.sched, ∃ v, dueAt sc x = some v ∧ 3 < v) ∧
    (∀ x ∈ sc.sched, (dueAt sc x).getD 0 ≤ 5) := by
  refine ⟨?_, ?_, ?_, ?_, ?_, ?_, ?_, ?_, ?_, ?_, ?_, ?_, ?_, ?_, ?_, ?_, ?_, ⟨{ daily := false, slot := 2, emerg := false, time := 5 }, ?_, 5, ?_, ?_⟩, ?_⟩ <;>
    decide +kernel

/-- An instant of 0 on a counter without steps is early. -/
theorem early (a : Nat) (b : Int) (ha : a ≤ 0) (hb : b = 0) : ((a : Int) - 16 * b).toNat < 0 + 16000 := by
  subst hb; omega

/-- The same: an edge within 1 µs of the one recorded at the counter's start. -/
theorem witness_edge_bounce :
    let k : State := { st [(F.cap_EDGE, 7, 3)] with caps := [(7, { recorded := some 0 })] }
    ((edgeStamp k { ago := 0, m := 0 } : Int) - 16 * k.stepped).toNat < 0 + 16000 := by
  exact early _ _ (Nat.le_trans (Nat.sub_le _ _) (Nat.le_trans (Nat.sub_le _ _) (by decide +kernel))) (by decide +kernel)

/-- The same: a request for the overlay that is in force, and EMERGENCY off with the base configuration to build. -/
theorem witness_mode_switch :
    let s : State := { hub with mode := some 3, modeReqs := [{ origin := 4, what := 0, slot := 3 }] }
    s.modeWait = none ∧ s.on F.router_COPYBACK 0 = false ∧ s.on F.pixel_COPYBACK 0 = false ∧
    judgeReq { s with modeReqs := [] } (normalReq { s with modeReqs := [] } { origin := 4, what := 0, slot := 3 }) = .same ∧
    judgeReq { hub with emerg := some 3 } { origin := 4, what := 2, slot := 0 } = .runs := by decide +kernel

/-- StreamAndEthernetCommandsAnswer: EN 1, the port linked and not, a port up and down. -/
theorem witness_stream_more : flag (rw [1]).body 0 0 = true ∧ hub.on F.str_LINKED 0 = false ∧ hub.shedUp 7 = true ∧ (put hub [(F.pwr_UP, 0, 0xF7F)]).shedUp 7 = false ∧
    fld (rw [0, 0]).body 4 16 12 ≠ 4095 ∧ flag (rw [0, 1]).body 4 0 = true ∧ flag (rw [0, 0]).body 4 0 = false ∧ (st [(F.eth_LINK, 0, 1)]).on F.eth_LINK 0 = true := by
  decide +kernel

/-- StreamFramesAreTakenBeatByBeat: a beat with an error, the next LINE and another, the last pixel of a line, a whole frame, each
case of a commit. -/
theorem witness_beats_more :
    let e : StreamFrame := { id := 7, pixels := 1, lines := 1, line := 1, sum := 1 }
    ({ beat 0 0 0 0 with err := true } : Beat).err = true ∧ (beat 0 0 0 0).err = false ∧ bits (beat 5 0 0 0).w1.toNat 16 16 = (oneLine false 0).line % 65536 ∧
    bits (beat 5 65536 0 0).w1.toNat 16 16 ≠ (oneLine false 0).line % 65536 ∧ (oneLine true 0).inLine = true ∧ (oneLine true 0).dest + (oneLine true 0).count ≤ 786432 ∧
    (frameGood e (beat 0 0 0 0) = true ∨ frameGood e (beat 7 1 1 0) = true) ∧ hub.srcNow = false ∧
    ({ hub with stream := { hub.stream with toCommit := [(7, true)] } } : State).stream.toCommit = (7, true) :: [] ∧
    hub.get F.pixel_READY 0 = 3 ∧ (st [(F.pixel_READY, 0, 1)]).get F.pixel_READY 0 ≠ 3 ∧ (put hub [(F.pwr_UP, 0, 0xFDF)]).shedUp 5 = false := by
  decide +kernel

/-- A broadcast frame of 60 bytes with its FCS. -/
def fcs (b : List Byte) : List Byte := b ++ le 4 (crc32 b)

/-- An ARP frame to all. -/
def arp : List Byte := fcs (List.replicate 6 0xFF ++ List.replicate 6 2 ++ [8, 6] ++ List.replicate 46 0)

/-- An IPv4 header with its checksum 0x7AD2 over UDP with no data, to all, to UDP port 5. -/
def udp : List Byte :=
  fcs (List.replicate 6 0xFF ++ List.replicate 6 2 ++ [8, 0, 0x45, 0, 0, 28, 0, 0, 0, 0, 64, 17, 0x7A, 0xD2, 0, 0, 0, 0, 0xFF, 0xFF, 0xFF, 0xFF] ++
    [0, 7, 0, 5, 0, 8, 0, 0] ++ List.replicate 18 0)

/-- EthernetPortsTestCountAndDeliver: an ARP frame, a datagram for SENT_UDP, a frame for another, too little buffer, a session's
datagram before its checks. -/
theorem witness_frames :
    frameSound hub 0 arp = true ∧ forUs hub 0 arp = true ∧ be arp 12 2 = 0x0806 ∧ isPause arp = false ∧
    frameSound hub 0 udp = true ∧ forUs hub 0 udp = true ∧ be udp 12 2 = 0x0800 ∧ byteAt udp 14 = 0x45#8 ∧ ipSumOk (slice udp 14 20) = true ∧
    be udp 20 2 % 16384 = 0 ∧ byteAt udp 23 = 17#8 ∧ be udp 16 2 = 20 + be udp 38 2 ∧ 8 ≤ be udp 38 2 ∧ 38 + be udp 38 2 ≤ udp.length ∧ be udp 36 2 ≠ 0 ∧
    be udp 36 2 ∉ [319, 320, 5568] ∧ be udp 36 2 = (st [(F.eth_SENT_UDP, 0, 5)]).get F.eth_SENT_UDP 0 ∧
    be udp 36 2 ≠ (st [(F.eth_MBX_UDP, 0, 5)]).get F.eth_SENT_UDP 0 ∧ be udp 36 2 = (st [(F.eth_MBX_UDP, 0, 5)]).get F.eth_MBX_UDP 0 ∧
    forUs hub 0 (fcs (List.replicate 60 2)) = false ∧ isPause (fcs (List.replicate 60 2)) = false ∧ frameSound hub 0 (fcs (List.replicate 60 2)) = true ∧
    ethFree { hub with eth := [(0, { frames := [(1, List.range 3905)], inbox := [(1, [])] })] } 0 < 1536 ∧ 7 ∉ hub.syncOff := by decide +kernel

/-- The same: a session's datagram with its authentication over all the bytes before it. -/
theorem witness_session_datagram :
    let body : List Byte := le 4 9 ++ le 8 1 ++ le 4 0 ++ List.replicate 16 0
    let b := body ++ hmac [1] body
    let x : Session := { number := 9, port := 0, ip := 0, udp := 0, key := [1], peerCounter := 0, ownCounter := 0 }
    let s : State := { st [(F.host_OWNER, 0, 1)] with sessions := [x] }
    s.sessions.find? (fun x => x.number == u32 b 0) = some x ∧ b.length = 64 + u16 b 0x14 ∧ b.drop (b.length - 32) = hmac x.key (b.take (b.length - 32)) ∧
    x.peerCounter < ofLe (slice b 4 8) ∧ mbOwner s (fld b 0xC 0 3) = 1 ∧ mbState s (fld b 0xC 0 3) = 0 ∧ s.mbWait = [] := by decide +kernel

/-- ReaderCommandsMoveTheirPointers, RecordsAndCreditFollowTheStallsMode, AStallResetEmptiesItAndLeavesAMarker: pointer copies that
agree and that do not, each mode with room, a kind of each sort, a request of each sort, a reset of each cause. -/
theorem witness_pointers : mismatchOf ((stalled 239 0 1 [32]).stall 239) = 0 ∧ (stalled 239 0 4 [32]).get F.stall_STATE 239 ≠ 2 ∧
    mismatchOf (({ hub with stalls := [(239, { a := { wr := 8, rel := 0, rd := 0, mark := 0 } })] } : State).stall 239) ≠ 0 ∧
    kindProduced 0 = false ∧ kindProduced 1 = true ∧ kindProduced 9 = true ∧ kindProduced 10 = false ∧
    (stalled 255 1 1 []).on F.stall_MODE 255 = true ∧ (stalled 255 0 1 []).on F.stall_MODE 255 = false ∧ (5 : Nat) % 8 ≠ 0 ∧
    ((stalled 255 0 1 [4096]).stall 255).a.rd = ((stalled 255 0 1 [4096]).stall 255).a.rel ∧ ((stalled 255 0 1 [4096]).stall 255).a.rel < 2 * 4096 ∧
    ((stalled 255 0 1 [4096]).stall 255).a.mark = ((stalled 255 0 1 [4096]).stall 255).a.rel ∧ hub.calHeld = [] ∧
    ((stalled 239 0 1 [32]).stall 239).refused = [] ∧ (stalled 239 0 1 [32]).get F.stall_WM 239 = 0 ∧
    ((stalled 255 0 1 [32]).stall 255).base % 8 = 0 ∧ ((stalled 255 0 1 [32]).stall 255).base + 32 ≤ 0x1FFFC00 := by decide +kernel

/-- StallCommandsAllocateResizeAndReset: no room, an allocated stall with no listener, another size, a stall nothing names, a
stall allocated for a reset, the last stalls of a status. -/
theorem witness_stall_more :
    0x400000 < regionUsed (put hub ((List.range 4).map (fun q => (F.stall_SIZE_LOG2, q, 20)))) 239 + 2 ^ 20 ∧ (place (stalled 239 0 1 []) 239 13).isSome = true ∧
    regionUsed (stalled 239 0 1 []) 239 + 2 ^ 13 ≤ 0x400000 ∧ (stalled 239 0 1 []).get F.stall_SIZE_LOG2 239 ≠ 13 ∧ stallNamed (stalled 239 0 1 []) 239 = false ∧
    (stalled 239 0 1 []).get F.stall_READER 239 ≠ 3 ∧ ((stalled 239 0 1 []).stall 239).reset = none ∧ (stalled 239 0 1 []).waits = [] ∧
    fld (cfg 239 12 0 1 4096).body 0 8 5 = (stalled 239 0 1 []).get F.stall_SIZE_LOG2 239 ∧ fld (cfg 239 0 0 0 0).body 0 8 5 = 0 ∧
    ¬ ((7 = 0 ∨ (8 ≤ 7 ∧ 7 ≤ 20)) ∧ (0 : Nat) % 8 = 0) ∧ rangeFirst (rw [rg 249 8]).body + rangeCount (rw [rg 249 8]).body = 257 := by decide +kernel

/-- TheParserFramesCountsAndClosesSentences: a printable byte inside a sentence, a lane's held byte, a runt, an accepted and a bad
sentence at its close, a fault before the fourth. -/
theorem witness_parser_more :
    let h : HoldChar := { data := 0x41, parityBad := true, framingBad := false, stamp := 0, tsState := 0 }
    let l : State := { lane 95 1 3 with rx := [(95, { hold := some h })], srcs := [(95, { sent := some (open1 95) })] }
    let r : Sentence := { open1 0x1001 with runt := true }
    hub.yardErr = [] ∧ hub.shedUp 2 = true ∧ isStart (startCfg hub 0x1001) 0x42 = false ∧ (0x42#8) ∉ [0x21#8, 0x24#8, 0x2A#8] ∧
    ({ open1 0x1001 with stage := 1 } : Sentence).stage = 1 ∧ (open1 0x1001).source = 0x1001 ∧ roleLane l 95 = some 95 ∧ (l.rxLane 95).hold = some h ∧
    ringLevel l 95 < 2048 ∧ (l.source 95).input = [] ∧ (l.source 95).sent = some (open1 95) ∧ isStart (startCfg l 95) h.data = false ∧ h.data ≠ 0x0A#8 ∧
    r.runt = true ∧ (({ hub with srcs := [(0x1001, { closing := [r] })] } : State).source 0x1001).closing = r :: [] ∧ refused r = true ∧
    refused (open1 0x1001) = false ∧ (open1 0x1001).numbered = false ∧ (open1 0x1001).offered = false ∧ journals hub = false ∧ hub.get F.time_REF 0 ≠ 2 ∧
    ((open1 0x1001).spots.length = (open1 0x1001).bytes.length → (open1 0x1001).spots.map hub.yardByte = (open1 0x1001).bytes) ∧
    (isBad (open1 0x1001) = true ∨ isBad (open1 0x1001) = false) ∧ ({ open1 0x1001 with reruns := 2 } : Sentence).reruns < 3 := by decide +kernel

/-- A copy that waits for stall 5. -/
def copy1 : Enqueue := { sent := { open1 0x1001 with cap := some cap1 }, verdict := cap1.verdict, stalls := [5] }

/-- ClassificationAppliesTheFirstMatchingEntry: an entry that matches all and forwards, one that drops, an empty group, a stall with
room, one under its reset, a swap asked for. -/
theorem witness_router_more :
    let q : State := { stalled 5 0 1 [] with routerQ := [copy1] }
    let e (f : Nat) : State := { closed1 with entries := [(0, (List.replicate 14 0#32).set 0 (BitVec.ofNat 32 f))] }
    closed1.eligible = [] ∧ q.routerQ = [copy1] ∧ q.voterQ = [] ∧ copy1.rerun = false ∧ copy1.stalls = 5 :: [] ∧ copy1.sent.mbox = none ∧
    (q.stall 5).reset = none ∧ mismatchOf (q.stall 5) = 0 ∧ q.get F.stall_SIZE_LOG2 5 ≠ 0 ∧ recordSize copy1.sent.bytes.length ≤ stallFree q 5 ∧
    recordSize copy1.sent.bytes.length ≤ stallSize q 5 ∧ q.on F.stall_MODE 5 = false ∧
    (copy1.sent.spots.length = copy1.sent.bytes.length → copy1.sent.spots.map q.yardByte = copy1.sent.bytes) ∧
    swapDue hub = false ∧ hub.modeWait = none ∧ (e 0).rtActive = hub.rtActive := by decide +kernel

/-- VotesNeedAMajorityOfTheJudges: a return with a sentence from before it, one with nothing left, a word each override meets. -/
theorem witness_votes_more :
    (st [(F.vote_PENDING_IN, 0, 1), (F.vote_OUT_JUDGE, 0, 2)]).on F.vote_AUTO_OUT 0 = false ∧ trimWord (odd 1) ≠ trimWord (odd 2) ∧
    trimWord (odd 1) ≠ voteWord { open1 0x1001 with cap := some cap1 } cap1.verdict ∧ cap1.verdict.entry < 4096 ∧ cap1.verdict.group < 1024 ∧
    cap1.verdict.hookTarget < 1024 ∧ hub.shedUp 3 = true ∧ (({ hub with enc := [(95, { ovrQ := [3] })] } : State).encLane 95).ovrQ = 3 :: [] ∧
    encMode (st [(F.tx_ACTIVE, 95, 8)]) 95 = 8 := by decide +kernel

/-- RouterTableCommandsWriteTheInactiveCopy, SourcesListenersAndJudgesAreSet: held and not, an action with a hook, a binding of two
stalls, a set past 48, a judge out and none. -/
theorem witness_tables_more :
    tablesHeld hub = false ∧ tablesHeld { hub with commitAsked := true } = true ∧ (rw [rg 0 9]).body.length ≠ 4 + 4 * 14 * 9 ∧ rangeCount (rw [0]).body = 0 ∧
    rangeFirst (rw [rg 4095 1]).body + 1 ≤ 4096 ∧ fld (rw [2, rg 1009 15]).body 0 0 2 = 2 ∧ rangeFirst ((rw [2, rg 1009 15]).body.drop 4) + 15 = 1024 ∧
    48 < (newEligible { hub with eligible := List.range 48 } 1 [90]).length ∧ (∀ n ∈ [0, 95, 0x1001], hub.part.hasSource n = true) ∧
    [5, 239].Nodup ∧ boundElsewhere hub 97 5 = false ∧ hub.get F.stall_READER 5 ∉ [1, 2, 4] ∧ (rq [0]).body.length < 8 ∧
    hostSentenceOk (hub.reg (F.parse_NMEA_EN.addr 0x2000)) ((rq [0x24, 0x47, 0x50, 0x58, 0x58, 0x58, 0x0D, 0x0A]).body) = true ∧
    (hub.source 0x2000).input = [] ∧ hub.get F.vote_OUT_JUDGE 0 = 3 ∧ hub.get F.vote_SUSPECT 0 = 0 ∧ (rw (List.replicate 9 0)).body.length = 36 ∧
    typeOk [0x47, 0x50, 0x58, 0x58, 0x58, 0, 0, 0] = true ∧ typeOk (List.replicate 8 0) = false ∧ fld (rw [3]).body 0 0 2 = 3 := by decide +kernel

/-- PixelTableWritesChangeTheInactiveCopy, PixelSettingsLevelsAndCommit: a role no variant has, the last segment, a parked role, a
curve at its end, an entry of each kind of zone input. -/
theorem witness_pixel_more :
    fld (rw [96]).body 0 0 7 = 96 ∧ (rw (rg 0 0 :: [])).body.length = 4 ∧ segBad [0, 0, 0, 0] = true ∧ roleParked hub 95 = false ∧ roleParked { hub with tx := [(0, { parked := some 95 })] } 95 = true ∧
    sourcesClash hub = false ∧ hub.on F.pixel_COPYBACK 0 = false ∧ (rw [0]).body.length = 4 + 4 * 0 ∧ u32 (rw [0]).body 0 = 0 ∧
    hub.shedUp 5 = true ∧ ({ hub with tablesReady := true } : State).tablesReady = true ∧ fld (rw [1, 0]).body 0 0 1 = 1 ∧
    rangeFirst (rw [rg 0 1, 0]).body = 0 ∧ (byteAt (rw [rg 1 1, 97]).body 4).toNat % 128 = 97 ∧
    fld (zoneRec { hub with yard := [(0x1AA8000 + 0x20000, 3)] } 0) 0 0 2 = 3 ∧ fld (zoneRec { hub with yard := [(0x1AA8000 + 0x20000 + 1, 8)] } 0) 0 10 2 = 2 := by
  decide +kernel

/-- MeasurementCommandsSetAndCalibrate, SamplesAreCorrectedAndCalibrationsRunTheirPhases: a calibration in an early and a late phase,
a clamp at each end, a new limit, passes that hold and that do not, a result on each kind of channel. -/
theorem witness_meas_more :
    ((calib (calAt 2)).channel 0).cal = some (calAt 2) ∧ (calAt 6).phase < 7 ∧ 3 ≤ (calAt 6).phase ∧ (calAt 0).phase < 3 ∧
    (∃ k, k < 24 ∧ ((calib (calAt 1)).channel k).cal.isSome = true) ∧ ((-65536 : Int) - hub.getI F.ch_OFFSET 0) * hub.get F.ch_GAIN 0 / 32768 < 0 ∧
    65535 < ((131071 : Int) - hub.getI F.ch_OFFSET 0) * hub.get F.ch_GAIN 0 / 32768 ∧
    outside (st [(F.ch_LIM_HI, 0, 5), (F.ch_LIM_COUNT, 0, 1)]) 0 6 = true ∧ (st [(F.ch_LIM_HI, 0, 5), (F.ch_LIM_COUNT, 0, 1)]).on F.ch_LIM_ACTIVE 0 = false ∧
    passShape (calib (calAt 1)) false (pass 0 60000) = true ∧ (calAt 1).spare < 2 ∧ (calAt 8).result = none ∧
    ({ calAt 2 with handover := 65535 } : Cal).handover > hub.get F.meas_HANDOVER_TOL 0 ∧ (st [(F.meas_CAL_GAP, 0, 0)]).get F.meas_CAL_GAP 0 = 0 ∧
    hub.get F.meas_CAL_GAP 0 = hub.get F.meas_CAL_GAP 0 ∧ flag (rw [0, 0]).body 0 11 = false ∧ spareIdle hub 0 = true := by
  refine ⟨?_, ?_, ?_, ?_, ⟨0, ?_, ?_⟩, ?_, ?_, ?_, ?_, ?_, ?_, ?_, ?_, ?_, ?_, ?_, ?_⟩ <;> decide +kernel

/-- TheInterlockIsClaimedReleasedAndWatched: a start-up secondary beside a dead peer, a silent peer, a frame of each kind. -/
theorem witness_interlock_more :
    let s := twin 0 1 0 { startup := true, peer := some { peer false false with alive := false } }
    let p := List.replicate 3 0#32
    (∃ hb, s.twin.peer = some hb ∧ hb.alive = false) ∧ s.on F.twin_OWN 0 = false ∧ s.twin.claiming = false ∧ s.on F.twin_ROLE 0 = true ∧
    (twin 0 0 0 {}).on F.twin_ROLE 0 = false ∧ tetherWaiting hub = 0 ∧ (0xC0000#32).toNat / 65536 = 4 * p.length ∧ frameLenOk ((0xC0000#32).toNat % 16) (4 * p.length) = true ∧
    crc32c (le 4 (0xC0000#32).toNat ++ wordsBytes p) < 2 ^ 32 ∧ 2 ≤ (0xC000F#32).toNat % 16 ∧ (twin 1 1 0 {}).on F.twin_OWN 0 = true := by
  refine ⟨⟨{ peer false false with alive := false }, ?_, ?_⟩, ?_⟩ <;> decide +kernel

/-- TwinMessagesReportCompareAndSnapshot: full records, a broken window, each verdict's line, a whole snapshot of one chunk. -/
theorem witness_twin_more :
    let s := twin 0 1 0 { joined := true, windows := [window1], items := [intent1], chunks := [0], chunkGen := 1 }
    ({ window1 with broken := true } : IntentWindow).broken = true ∧ (List.replicate 170 intent1).length ≤ 170 ∧ ([some 3] : List (Option Nat)).getD 0 none = some intent1.value ∧
    shadowView s intent1 = some intent1.value ∧ ([some 4] : List (Option Nat)).getD 0 none ≠ some intent1.value ∧ shadowView (twin 0 1 0 {}) intent1 ≠ some intent1.value ∧
    s.twin.chunkGen = 1 ∧ (∀ i, i < 1 → i ∈ s.twin.chunks) ∧ s.twin.commitGen = none ∧ tetherOn s = true ∧ isStandby (takeChannel s 2) = true ∧
    (takeChannel s 2).twin.chunks = [0] ∧ (takeChannel s 2).yardErr = [] ∧ (List.replicate 2048 (0 : Byte)).length = 2048 ∧
    (takeChannel (twin 0 1 0 {}) 1).twin.handover = none := by decide +kernel

/-- TwinCommandsAndHandoverMoveOwnership: an owner with a fit standby, one in each stage, a due reversion. -/
theorem witness_handover_more :
    let own := twin 1 0 0 { joined := true, aligned := true, hbValid := true, peer := some (peer true false) }
    let giving (n : Nat) : Handover := { giving := true, revert := false, stage := n }
    isActive own = true ∧ (own.twin.peer.map (·.qualified)).getD false = true ∧ tetherUp own = true ∧ (takeChannel own 0).twin.handover = none ∧
    (({ own with twin := { own.twin with handover := some (giving 2) } } : State).twin.handover = some (giving 2)) ∧ tetherOn own = true ∧
    ({ own with twin := { own.twin with finishing := [95, 94] } } : State).twin.finishing = [95, 94] ∧ hub.twin.finishing.contains 95 = false ∧
    (showUnit (put fit [(F.twin_AUTO_REVERT, 0, 1), (F.twin_ROLE, 0, 0), (F.twin_REVERT_S, 0, 0)])).get F.twin_UNIT 0 = 2 := by decide +kernel

/-- ShedsAndBypassFollow, its pins: without the interlock; a dark bank, a pixel lane without S5; an engaged pair's odd lane; a receive
lane on the last lane. -/
theorem witness_pins :
    let own : State := put hub [(F.twin_OWN, 0, 1)]
    let pair : State := { own with pairs := [47] }
    let dark : State := put own [(F.pwr_UP, 0, 0x7DF), (F.tx_ACTIVE, 95, 8)]
    (put hub [(F.twin_OWN, 0, 0), (F.twin_PAIRED, 0, 1)]).owns = false ∧ hub.twin.finishing.contains 95 = false ∧ own.owns = true ∧
    own.twin.taking.contains 95 = false ∧ inBypassPair own 95 = false ∧ inBypassPair dark 95 = false ∧ dark.shedUp (laneShed 95) = false ∧
    dark.shedUp 5 = false ∧ pixelMode (dark.get F.tx_ACTIVE 95) = true ∧ inBypassPair pair 95 = true ∧ 95 % 2 = 1 ∧
    own.laneUp 95 = true ∧ own.on F.tx_PADDOCK 95 = false ∧ (put own [(F.tx_ACTIVE, 95, 5)]).get F.tx_ACTIVE 95 ∈ [1, 5] := by decide +kernel

/-- R93, R545, R559: the pins of a receive lane, of an OFF lane, and of an engaged pair. -/
theorem test_lane_pins :
    let own : State := put hub [(F.twin_OWN, 0, 1), (F.tx_ACTIVE, 3, 5), (F.tx_ACTIVE, 4, 0)]
    lanePins own 3 0 false 0 true = { tx := .high, de := .low } ∧ lanePins own 4 0 false 0 true = { tx := .highZ, de := .highZ } ∧
    lanePins { own with pairs := [1] } 3 0 false 0 false = { tx := .low, de := .high } := by decide +kernel
end Sys2Proof.Tests
end

section
/-! PROOF. The reset state: the registers, the sheds and the memories right after PORST_N. -/

namespace Sys2Proof.Machine

/-- After PORST_N only S0 is up, so no lane's bank is powered. -/
theorem reset_laneUp (n : Nat) : State.reset.laneUp n = false := by
  have hup : State.reset.get F.pwr_UP 0 = 1 := by decide
  have hbit : Nat.testBit 1 (laneShed n) = false := by
    unfold laneShed
    rw [show 8 + n / 24 = (7 + n / 24) + 1 by omega, Nat.testBit_add_one]
    simp
  simp [State.laneUp, State.shedUp, hup, hbit]

/-- Settles O2: no register is listed, so each reads its Reset value; the rest is read off the reset state. -/
theorem resetLeavesResetValues : Obligations.ResetLeavesResetValues := by
  refine ⟨fun r => rfl, ?_, ?_, ?_, ?_, ?_, ?_, rfl, ?_, reset_laneUp, rfl, rfl, ?_⟩ <;> decide
end Sys2Proof.Machine
end

section
/-! PROOF. Write-one-to-clear (R16): latching a flag bit sets that bit of its register, and beside it only events fire. -/

namespace Sys2Proof.Machine

theorem wfReg_size {r : RegAddr} (h : wfReg r = true) : r.inst < 65536 ∧ r.off < 65536 := by
  simp [wfReg] at h
  omega

/-- Storing a register's word leaves every other register. -/
theorem keepsRegsExcept_setReg (s : State) {r : RegAddr} (hr : r.inst < 65536 ∧ r.off < 65536) (w : Word) :
    keepsRegsExcept r s (s.setReg r w) := fun _ hq hne =>
  s.reg_setReg_ne hr.1 hr.2 (wfReg_size hq).1 (wfReg_size hq).2 (by simpa using hne) w

/-- Bits `x` of register `q` are set on the way from `s` to `t`; beside that only events may have fired. -/
structure SetsBits (q : RegAddr) (x : Word) (s t : State) : Prop where
  rest : t = { s with regs := t.regs, fired := t.fired }
  others : keepsRegsExcept q s t
  bits : t.reg q = s.reg q ||| x

theorem SetsBits.refl (q : RegAddr) (s : State) : SetsBits q 0 s s := ⟨rfl, fun _ _ _ => rfl, by simp⟩

theorem SetsBits.trans {q : RegAddr} {x y : Word} {s t u : State} (h : SetsBits q x s t) (k : SetsBits q y t u) :
    SetsBits q (x ||| y) s u := by
  refine ⟨?_, fun r hr hq => (k.others r hr hq).trans (h.others r hr hq), ?_⟩
  · rw [k.rest, h.rest]
  · rw [k.bits, h.bits, BitVec.or_assoc]

/-- A field or-ed with one bit of its own: the word is or-ed with that bit. -/
theorem putField_or_twoPow (w : Word) (f : Field) (hf : f.fits) (b : Nat) (hb : b < f.width) :
    putField w f (bits w.toNat f.lo f.width ||| 2 ^ b) = w ||| BitVec.twoPow 32 (f.lo + b) := by
  apply BitVec.eq_of_getLsbD_eq
  intro k hk
  have hfit : f.lo + f.width ≤ 32 := hf
  rw [BitVec.getLsbD_or, BitVec.getLsbD_twoPow, ← BitVec.testBit_toNat, testBit_putField _ _ _ _ hk, ← BitVec.testBit_toNat]
  by_cases hin : f.lo ≤ k ∧ k < f.lo + f.width
  · obtain ⟨hlo, hhi⟩ := hin
    rw [if_pos ⟨hlo, hhi⟩, Nat.testBit_or, testBit_bits, Nat.testBit_two_pow, Nat.add_sub_cancel' hlo]
    have e : (b = k - f.lo) ↔ (f.lo + b = k) := by omega
    have hw : k - f.lo < f.width := by omega
    have h32 : f.lo + b < 32 := by omega
    simp [e, hw, h32]
  · have hne : f.lo + b ≠ k := by omega
    simp [if_neg hin, hne]

theorem set_setsBits (s : State) (f : Field) (hf : f.fits) (i b : Nat) (hi : i < 65536) (ho : f.off < 65536) (hb : b < f.width) :
    SetsBits (f.addr i) (BitVec.twoPow 32 (f.lo + b)) s (s.set f i (s.get f i ||| 2 ^ b)) := by
  refine ⟨rfl, keepsRegsExcept_setReg s ⟨hi, ho⟩ _, ?_⟩
  simp only [State.set, State.reg_setReg_self]
  exact putField_or_twoPow _ f hf b hb

/-- A bit that reads 1 already may be counted as set. -/
theorem setsBits_of_on (s : State) (f : Field) (hf : f.fits) (i b : Nat) (hb : b < f.width) (hon : (s.get f i).testBit b = true) :
    SetsBits (f.addr i) (BitVec.twoPow 32 (f.lo + b)) s s := by
  have hor : s.get f i ||| 2 ^ b = s.get f i := by
    apply Nat.eq_of_testBit_eq
    intro k
    rw [Nat.testBit_or, Nat.testBit_two_pow]
    by_cases hk : b = k
    · simp [← hk, hon]
    · simp [hk]
  have hw : bits (s.reg (f.addr i)).toNat f.lo f.width = s.get f i := rfl
  refine ⟨rfl, fun _ _ _ => rfl, ?_⟩
  rw [← putField_or_twoPow _ f hf b hb, hw, hor]
  apply BitVec.eq_of_getLsbD_eq
  intro k hk
  rw [← BitVec.testBit_toNat, ← BitVec.testBit_toNat, testBit_putField _ _ _ _ hk]
  split
  · next hin =>
    rw [← hw, testBit_bits, Nat.add_sub_cancel' hin.1]
    simp only [show k - f.lo < f.width by omega, decide_true, Bool.true_and]
  · rfl

theorem SetsBits.fire {q : RegAddr} {x : Word} {s t : State} (h : SetsBits q x s t) (e : Nat) : SetsBits q x s (fire t e) :=
  ⟨by rw [Machine.fire, h.rest], h.others, h.bits⟩

theorem raise_setsBits (s : State) (f ev : Field) (hf : f.fits) (i b e : Nat) (hi : i < 65536) (ho : f.off < 65536)
    (hb : b < f.width) : SetsBits (f.addr i) (BitVec.twoPow 32 (f.lo + b)) s (raise s f ev i b e) := by
  have hset := set_setsBits s f hf i b hi ho hb
  unfold raise
  dsimp only
  split
  · next hon => exact setsBits_of_on s f hf i b hb hon
  · split
    · exact hset.fire e
    · exact hset

theorem hostErr_setsBits (s : State) (b : Nat) (hb : b < 9) :
    SetsBits (F.host_ERR.addr 0) (BitVec.twoPow 32 (F.host_ERR.lo + b)) s (hostErr s b) := by
  have hset := set_setsBits s F.host_ERR (by decide) 0 b (by decide) (by decide) hb
  unfold hostErr
  dsimp only
  split
  · next hon => exact setsBits_of_on s F.host_ERR (by decide) 0 b hb hon
  · exact hset.fire 252

/-- The W1C fields of each block. -/
def flagFields : Blk → List Field
  | .laneRx => [F.rx_FLAGS]
  | .laneTx => [F.tx_FLAGS]
  | .router => [F.router_FLAGS]
  | .vote => [F.vote_FLAGS]
  | .stall => [F.stall_FLAGS]
  | .yard => [F.yard_FLAGS, F.yard_GROOM_FLAGS]
  | .time => [F.time_FLAGS]
  | .pulse => [F.pulse_PINFLAGS]
  | .pixel => [F.pixel_FLAGS]
  | .encGlobal => [F.encg_FLAGS]
  | .meas => [F.meas_FLAGS]
  | .twin => [F.twin_FLAGS]
  | .stream => [F.str_FLAGS]
  | .eth => [F.eth_FLAGS]
  | .power => [F.pwr_FLAGS]
  | .sec => [F.sec_FLAGS]
  | .host => [F.host_ERR, F.host_PEND_W1C]
  | _ => []

theorem filter_w1c (b : Blk) : (fieldsOf b).filter (fun f => f.acc == .w1c) = flagFields b := by
  cases b <;> rfl

/-- The flags of one register lie in one field of its block. -/
theorem flagFields_off (b : Blk) (o : Nat) : (flagFields b).filter (fun f => f.off == o) = [] ∨
    ∃ f ∈ flagFields b, f.blk = b ∧ f.off = o ∧ (flagFields b).filter (fun f => f.off == o) = [f] := by
  by_cases h : ∃ f ∈ flagFields b, f.off = o
  · right
    obtain ⟨f, hf, rfl⟩ := h
    refine ⟨f, hf, ?_, rfl, ?_⟩ <;> revert f <;> cases b <;> decide
  · left
    rw [List.filter_eq_nil_iff]
    intro f hf hoff
    exact h ⟨f, hf, by simpa using hoff⟩

/-- What latching one bit of a flag register does: the bit as its unit raises it, or a bit of HOST_PEND. -/
def latchBit (f : Field) (i : Nat) (s : State) (b : Nat) : State :=
  if f.blk = .host ∧ f.off = 0x34 then s.set f 0 (s.get f 0 ||| 2 ^ b) else raiseOf f s i b

/-- Latching a bit sets it in the flag register of its unit. -/
theorem latchBit_setsBits (p : Part) (s : State) (blk : Blk) (i b : Nat) (hi : i < 65536) (hfit : blkFitted p blk i = true) (f : Field)
    (hf : f ∈ flagFields blk) (hb : b < f.width) : SetsBits (f.addr i) (BitVec.twoPow 32 (f.lo + b)) s (latchBit f i s b) := by
  cases blk with
  | host =>
    obtain rfl : i = 0 := by simpa [blkFitted] using hfit
    obtain rfl | rfl : f = F.host_ERR ∨ f = F.host_PEND_W1C := by simpa [flagFields] using hf
    · exact hostErr_setsBits s b hb
    · exact set_setsBits s F.host_PEND_W1C (by decide) 0 b hi (by decide) hb
  | yard =>
    obtain rfl : i = 0 := by simpa [blkFitted] using hfit
    obtain rfl | rfl : f = F.yard_FLAGS ∨ f = F.yard_GROOM_FLAGS := by simpa [flagFields] using hf
    · exact raise_setsBits s F.yard_FLAGS _ (by decide) 0 b _ hi (by decide) hb
    · exact raise_setsBits s F.yard_GROOM_FLAGS _ (by decide) 0 b _ hi (by decide) hb
  | laneRx | laneTx | stall | pulse | eth =>
    simp only [flagFields, List.mem_singleton] at hf
    subst hf
    exact raise_setsBits s _ _ (by decide) i b _ hi (by decide) hb
  | router | vote | time | meas | power | sec =>
    obtain rfl : i = 0 := by simpa [blkFitted] using hfit
    simp only [flagFields, List.mem_singleton] at hf
    subst hf
    exact raise_setsBits s _ _ (by decide) 0 b _ hi (by decide) hb
  | pixel | encGlobal | twin | stream =>
    obtain ⟨-, rfl⟩ : _ ∧ i = 0 := by simpa [blkFitted] using hfit
    simp only [flagFields, List.mem_singleton] at hf
    subst hf
    exact raise_setsBits s _ _ (by decide) 0 b _ hi (by decide) hb
  | parse | farrierMap | cap | pixelCue | encLane | encGroup | measCh | measLin | panel => simp [flagFields] at hf

/-- Bits `lo` to `lo + n - 1` of a word. -/
def bitsBelow (w : Word) (lo : Nat) : Nat → Word
  | 0 => 0
  | n + 1 => bitsBelow w lo n ||| if w.getLsbD (lo + n) then BitVec.twoPow 32 (lo + n) else 0

theorem bitsBelow_getLsbD (w : Word) (lo n k : Nat) (hk : k < 32) :
    (bitsBelow w lo n).getLsbD k = (w.getLsbD k && decide (lo ≤ k) && decide (k < lo + n)) := by
  induction n with
  | zero =>
    have hempty : ¬ (lo ≤ k ∧ k < lo) := by omega
    by_cases h : lo ≤ k <;> simp_all [bitsBelow]
  | succ n ih =>
    rw [bitsBelow, BitVec.getLsbD_or, ih]
    have hbit : (if w.getLsbD (lo + n) then BitVec.twoPow 32 (lo + n) else 0 : Word).getLsbD k =
        (w.getLsbD k && decide (lo + n = k)) := by
      cases hw : w.getLsbD (lo + n) with
      | false =>
        rw [if_neg Bool.false_ne_true, BitVec.ofNat_eq_ofNat, BitVec.getLsbD_zero]
        by_cases he : lo + n = k
        · rw [← he, hw, Bool.false_and]
        · rw [decide_eq_false he, Bool.and_false]
      | true =>
        rw [if_pos rfl, BitVec.getLsbD_twoPow]
        by_cases he : lo + n = k
        · rw [← he, hw, decide_eq_true (he ▸ hk), Bool.true_and]
        · rw [decide_eq_false he, Bool.and_false, Bool.and_false]
    have hrange : (decide (lo ≤ k) && decide (k < lo + n) || decide (lo + n = k)) = (decide (lo ≤ k) && decide (k < lo + (n + 1))) := by
      by_cases he : lo + n = k
      · simp [show lo ≤ k by omega, show k < lo + (n + 1) by omega, he]
      · simp [he, show k < lo + (n + 1) ↔ k < lo + n by omega]
    rw [hbit, Bool.and_assoc, ← Bool.and_or_distrib_left, hrange, Bool.and_assoc]

/-- The bits of one flag field latched in turn. -/
theorem latchRange_setsBits (p : Part) (s : State) (blk : Blk) (i : Nat) (w : Word) (hi : i < 65536) (hfit : blkFitted p blk i = true)
    (f : Field) (hf : f ∈ flagFields blk) (n : Nat) (hn : n ≤ f.width) : SetsBits (f.addr i) (bitsBelow w f.lo n) s
      ((List.range n).foldl (fun u b => if !w.getLsbD (f.lo + b) then u else latchBit f i u b) s) := by
  induction n with
  | zero => exact SetsBits.refl _ s
  | succ n ih =>
    rw [List.range_succ, List.foldl_append]
    refine (ih (by omega)).trans ?_
    simp only [List.foldl_cons, List.foldl_nil]
    cases hw : w.getLsbD (f.lo + n)
    · exact SetsBits.refl _ _
    · exact latchBit_setsBits p _ blk i n hi hfit f hf (by omega)

theorem latchFlags_fields (s : State) (r : RegAddr) (w : Word) : latchFlags s r w =
    ((flagFields r.blk).filter (fun f => f.off == r.off)).foldl (fun t f =>
      (List.range f.width).foldl (fun u b => if !w.getLsbD (f.lo + b) then u else latchBit f r.inst u b) t) s := by
  unfold latchFlags
  rw [← filter_w1c, List.filter_filter]
  rfl

theorem regMask_w1c (r : RegAddr) : regMask r (fun a => a == .w1c) =
    BitVec.ofNat 32 (((flagFields r.blk).filter (fun f => f.off == r.off)).foldl (fun m f => m + f.mask) 0) := by
  rw [← filter_w1c, List.filter_filter]
  unfold regMask regFields
  rw [List.filter_filter]
  simp only [Bool.and_comm]

/-- Latching bits `w` of a fitted register sets those that are W1C bits of it. -/
theorem latchFlags_setsBits (s : State) (r : RegAddr) (w : Word) (p : Part) (hi : r.inst < 65536)
    (hfit : blkFitted p r.blk r.inst = true) :
    SetsBits r (w &&& regMask r (fun a => a == .w1c)) s (latchFlags s r w) := by
  rw [latchFlags_fields, regMask_w1c]
  obtain hnone | ⟨f, hf, hblk, hoff, hone⟩ := flagFields_off r.blk r.off
  · rw [hnone]
    simpa using SetsBits.refl r s
  · rw [hone]
    have haddr : f.addr r.inst = r := by
      cases r
      simp_all [Field.addr]
    have hmask : w &&& BitVec.ofNat 32 ([f].foldl (fun m f => m + f.mask) 0) = bitsBelow w f.lo f.width := by
      apply BitVec.eq_of_getLsbD_eq
      intro k hk
      rw [bitsBelow_getLsbD _ _ _ _ hk, BitVec.getLsbD_and, BitVec.getLsbD_ofNat, List.foldl_cons, List.foldl_nil, Nat.zero_add,
        testBit_mask, decide_eq_true hk, Bool.true_and, Bool.and_assoc]
    have h := latchRange_setsBits p s r.blk r.inst w hi hfit f hf f.width (le_refl _)
    rw [haddr] at h
    rw [hmask]
    exact h

/-- With no bit to latch nothing changes. -/
theorem latchFlags_zero (s : State) (r : RegAddr) : latchFlags s r 0 = s := by
  rw [latchFlags_fields]
  simp

/-- Settles O16: the write first clears among the bits latched before it, keeping those latched again in the same access;
the hub then latches the bits that read 0, each as its unit raises it. -/
theorem writeOneToClearKeepsWhatIsLatchedMeanwhile : Obligations.WriteOneToClearKeepsWhatIsLatchedMeanwhile := by
  intro s r v latched hwf hfit hshed
  have hsize := wfReg_size hwf
  have hlatch := latchFlags_setsBits (writeW1c s r v (latched &&& s.reg r)) r (latched &&& ~~~ s.reg r) s.part hsize.1 hfit
  refine ⟨_, by rw [exec, execW1cWrite, if_pos (by simp [hfit, hshed])], ?_, ?_, ?_, ?_⟩
  · rw [hlatch.rest]
    rfl
  · exact fun q hq hne => (hlatch.others q hq hne).trans (keepsRegsExcept_setReg s hsize _ q hq hne)
  · intro hon
    have hnone : latched &&& ~~~ s.reg r = 0 := by
      apply BitVec.eq_of_getLsbD_eq
      intro k hk
      have := hon k hk
      cases h : latched.getLsbD k <;> simp_all
    rw [hnone, latchFlags_zero]
    rfl
  · intro k hk
    rw [hlatch.bits, writeW1c, State.reg_setReg_self]
    simp only [BitVec.getLsbD_or, BitVec.getLsbD_and, BitVec.getLsbD_not, hk, decide_true, Bool.true_and]
    cases (regMask r (fun a => a == .w1c)).getLsbD k <;> cases (s.reg r).getLsbD k <;> cases latched.getLsbD k <;>
      cases v.getLsbD k <;> rfl

end Sys2Proof.Machine
end

section
/-! PROOF. Register writes (R15, R18): the bits that REGISTER_WRITE puts, what a write does beside its register, and the four
writes with a row of their own. -/

namespace Sys2Proof.Machine

/-! ### The bits a write puts -/

/-- The bits that REGISTER_WRITE may change: the RW fields without a row of their own. -/
def writtenMask (r : RegAddr) : Word := regMask r (fun a => a == .rw) &&& ~~~ BitVec.ofNat 32 (ownRowMask r)

/-- A register after a word was put into its written bits. -/
def plainWrite (s : State) (r : RegAddr) (v : Word) : State :=
  s.putRw r ((v &&& ~~~ BitVec.ofNat 32 (ownRowMask r)) ||| (s.reg r &&& BitVec.ofNat 32 (ownRowMask r)))

theorem exec_registerWrite_up (s : State) (r : RegAddr) (v : Word) (hfit : blkFitted s.part r.blk r.inst = true)
    (hup : s.shedUp (regShed r) = true) : exec (.registerWrite r v) s = .next (afterWrite s (plainWrite s r v) r) := by
  simp only [exec, execRegisterWrite, hfit, hup, Bool.not_true, Bool.or_false, Bool.false_eq_true, if_false, plainWrite]

theorem exec_registerWrite_ignored (s : State) (r : RegAddr) (v : Word)
    (h : blkFitted s.part r.blk r.inst = false ∨ s.shedUp (regShed r) = false) : exec (.registerWrite r v) s = .next s := by
  obtain h | h := h <;> simp [exec, execRegisterWrite, h]

theorem keepsRegsExcept_plainWrite (s : State) (r : RegAddr) (v : Word) (hr : r.inst < 65536 ∧ r.off < 65536) :
    keepsRegsExcept r s (plainWrite s r v) := keepsRegsExcept_setReg s hr _

theorem plainWrite_reg (s : State) (r : RegAddr) (v : Word) :
    (plainWrite s r v).reg r = (s.reg r &&& ~~~ writtenMask r) ||| (v &&& writtenMask r) := by
  simp only [plainWrite, State.putRw, State.reg_setReg_self, writtenMask]
  apply BitVec.eq_of_getLsbD_eq
  intro k hk
  simp only [BitVec.getLsbD_or, BitVec.getLsbD_and, BitVec.getLsbD_not, hk, decide_true, Bool.true_and]
  cases (regMask r (fun a => a == .rw)).getLsbD k <;> cases (BitVec.ofNat 32 (ownRowMask r)).getLsbD k <;> simp

/-- A field inside a mask takes the bits put under it. -/
theorem bits_masked (w v m : Word) (f : Field) (h : ∀ k, k < f.width → m.getLsbD (f.lo + k) = true) :
    bits ((w &&& ~~~ m) ||| (v &&& m)).toNat f.lo f.width = bits v.toNat f.lo f.width := by
  apply Nat.eq_of_testBit_eq
  intro k
  rw [testBit_bits, testBit_bits]
  by_cases hk : k < f.width
  · simp only [BitVec.testBit_toNat, BitVec.getLsbD_or, BitVec.getLsbD_and, BitVec.getLsbD_not, h k hk, Bool.not_true, Bool.and_false,
      Bool.and_true, Bool.false_or]
  · simp [hk]

theorem plainWrite_get (s : State) (f : Field) (i : Nat) (v : Word)
    (h : ∀ k, k < f.width → (writtenMask (f.addr i)).getLsbD (f.lo + k) = true) :
    (plainWrite s (f.addr i) v).get f i = bits v.toNat f.lo f.width := by
  rw [State.get, plainWrite_reg]
  exact bits_masked _ _ _ f h

theorem bits_bit (v : Word) (lo : Nat) (h : v.getLsbD lo = true) : bits v.toNat lo 1 = 1 := by
  have : bits v.toNat lo 1 < 2 := Nat.mod_lt _ (by decide)
  have hb : (bits v.toNat lo 1).testBit 0 = true := by
    rw [testBit_bits, Nat.add_zero, BitVec.testBit_toNat, h]
    rfl
  interval_cases bits v.toNat lo 1
  · simp at hb
  · rfl

/-! ### What follows a write -/

/-- A register without an effect of its own: nothing follows its write. -/
theorem afterWrite_plain (s t : State) (r : RegAddr) (htime : r.blk = .time → r.off ∉ [0, 4, 0x24, 0x28, 0x2C])
    (hfirst : r.blk ∈ [Blk.cap, .vote, .farrierMap, .stream, .eth] → r.off ≠ 0) (hany : r.blk ∉ [Blk.meas, .measCh, .twin]) :
    afterWrite s t r = t := by
  obtain ⟨blk, i, o⟩ := r
  unfold afterWrite
  split <;> simp_all

/-- A register whose write has no effect of its own (R15). -/
theorem registerWrite_plain (s : State) (r : RegAddr) (v : Word) (hr : r.inst < 65536 ∧ r.off < 65536)
    (hfit : blkFitted s.part r.blk r.inst = true) (hup : s.shedUp (regShed r) = true)
    (hafter : afterWrite s (plainWrite s r v) r = plainWrite s r v) :
    ∃ t, exec (.registerWrite r v) s = .next t ∧ t = { s with regs := t.regs } ∧ keepsRegsExcept r s t ∧
      t.reg r = (s.reg r &&& ~~~ writtenMask r) ||| (v &&& writtenMask r) :=
  ⟨plainWrite s r v, by rw [exec_registerWrite_up s r v hfit hup, hafter], rfl, keepsRegsExcept_plainWrite s r v hr,
    plainWrite_reg s r v⟩

/-- The write of an enable bit that is on ends with the bit. -/
theorem registerWrite_enable (s : State) (f : Field) (i : Nat) (v : Word) (hw : f.width = 1) (hr : i < 65536 ∧ f.off < 65536)
    (hfit : blkFitted s.part f.blk i = true) (hup : s.shedUp (regShed (f.addr i)) = true)
    (hmask : ∀ k, k < f.width → (writtenMask (f.addr i)).getLsbD (f.lo + k) = true) (hv : v.getLsbD f.lo = true)
    (hafter : ∀ t : State, t.on f i = true → afterWrite s t (f.addr i) = t) :
    ∃ t, exec (.registerWrite (f.addr i) v) s = .next t ∧ t = { s with regs := t.regs } ∧ t.on f i = true ∧
      keepsRegsExcept (f.addr i) s t := by
  have hon : (plainWrite s (f.addr i) v).on f i = true := by
    rw [State.on, plainWrite_get s f i v hmask, hw, bits_bit v f.lo hv]
    rfl
  obtain ⟨t, ht, hrest, hothers, hreg⟩ := registerWrite_plain s (f.addr i) v hr hfit hup (hafter _ hon)
  rw [exec_registerWrite_up s (f.addr i) v hfit hup, hafter _ hon] at ht
  cases ht
  exact ⟨_, by rw [exec_registerWrite_up s (f.addr i) v hfit hup, hafter _ hon], hrest, hon, hothers⟩

theorem restartCapture_caps (s : State) (n : Nat) : (restartCapture s n).caps = tput s.caps n {} {} := rfl

/-- The first word of a capture block (R305, R317). -/
theorem registerWrite_capture (s : State) (v : Word) (n : Nat) (hn : n < 8) (hup : s.shedUp 0 = true) :
    ∃ t, exec (.registerWrite ⟨.cap, n, 0⟩ v) s = .next t ∧ t = { s with regs := t.regs, caps := t.caps } ∧
      tget t.caps n {} = {} ∧ (∀ k, k ≠ n → tget t.caps k {} = tget s.caps k {}) ∧ t.get F.cap_VALID n = 0 ∧
      t.get F.cap_EDGE n = bits v.toNat F.cap_EDGE.lo F.cap_EDGE.width ∧
      keepsRegsOutside (fun r => r == ⟨.cap, n, 0⟩ || r == ⟨.cap, n, 0xC⟩) s t := by
  have hmask : ∀ k, k < F.cap_EDGE.width → (writtenMask (F.cap_EDGE.addr 0)).getLsbD (F.cap_EDGE.lo + k) = true := by decide
  have hedge := plainWrite_get s F.cap_EDGE n v hmask
  have hn16 : n < 65536 := by omega
  refine ⟨restartCapture (plainWrite s ⟨.cap, n, 0⟩ v) n,
    exec_registerWrite_up s ⟨.cap, n, 0⟩ v (by simpa [blkFitted] using hn) hup, rfl, ?_,
    fun k hk => ?_, State.get_set_self _ F.cap_VALID (by decide) n 0,
    (State.get_set_off _ F.cap_VALID F.cap_EDGE n n 0 (by decide)).trans hedge, ?_⟩
  · rw [restartCapture_caps, tget_tput_self]
  · rw [restartCapture_caps, tget_tput_ne _ hk]
    rfl
  · intro q hq hne
    obtain ⟨hword, hvalid⟩ := Bool.or_eq_false_iff.1 hne
    exact (keepsRegsExcept_setReg (plainWrite s ⟨.cap, n, 0⟩ v) (r := F.cap_VALID.addr n) ⟨hn16, (by decide : 12 < 65536)⟩ _ q hq
      hvalid).trans (keepsRegsExcept_plainWrite s ⟨.cap, n, 0⟩ v ⟨hn16, (by decide : 0 < 65536)⟩ q hq hword)

/-- NUM, DEN and PHASE are staged for the old grid's next tick (R308). -/
theorem registerWrite_grid (s : State) (v : Word) (hnone : s.frame.staged = none) (hup : s.shedUp 0 = true) :
    exec (.registerWrite ⟨.time, 0, 0x24⟩ v) s = .next { s with
      frame := { s.frame with staged := some (v.toNat % 2 ^ 20, s.get F.time_DEN 0, s.get F.time_FRAME_PHASE 0) } } ∧
    exec (.registerWrite ⟨.time, 0, 0x28⟩ v) s = .next { s with
      frame := { s.frame with staged := some (s.get F.time_NUM 0, v.toNat % 2 ^ 16, s.get F.time_FRAME_PHASE 0) } } ∧
    exec (.registerWrite ⟨.time, 0, 0x2C⟩ v) s = .next { s with
      frame := { s.frame with staged := some (s.get F.time_NUM 0, s.get F.time_DEN 0, v.toNat) } } := by
  have hlow : ∀ w, bits v.toNat 0 w = v.toNat % 2 ^ w := fun w => by simp [bits]
  have hnum : (plainWrite s ⟨.time, 0, 0x24⟩ v).get F.time_NUM 0 = v.toNat % 2 ^ 20 :=
    (plainWrite_get s F.time_NUM 0 v (by decide)).trans (hlow 20)
  have hden : (plainWrite s ⟨.time, 0, 0x28⟩ v).get F.time_DEN 0 = v.toNat % 2 ^ 16 :=
    (plainWrite_get s F.time_DEN 0 v (by decide)).trans (hlow 16)
  have hphase : (plainWrite s ⟨.time, 0, 0x2C⟩ v).get F.time_FRAME_PHASE 0 = v.toNat :=
    (plainWrite_get s F.time_FRAME_PHASE 0 v (by decide)).trans ((hlow 32).trans (Nat.mod_eq_of_lt v.isLt))
  have hexec : ∀ o, exec (.registerWrite ⟨.time, 0, o⟩ v) s = .next (afterWrite s (plainWrite s ⟨.time, 0, o⟩ v) ⟨.time, 0, o⟩) :=
    fun o => exec_registerWrite_up s ⟨.time, 0, o⟩ v rfl hup
  refine ⟨?_, ?_, ?_⟩ <;> rw [hexec] <;> simp [afterWrite, stageGrid, hnone, hnum, hden, hphase]

/-! ### The writes with a row of their own -/

/-- A register all of whose bits are RW takes the word. -/
theorem putRw_all (s : State) (r : RegAddr) (v : Word) (hall : regMask r (fun a => a == .rw) = BitVec.allOnes 32) :
    (s.putRw r v).reg r = v := by
  rw [State.putRw, State.reg_setReg_self, hall, BitVec.and_allOnes, BitVec.not_allOnes, BitVec.and_zero, BitVec.zero_or]

theorem rxBaud_rw (n : Nat) : regMask ⟨.laneRx, n, 4⟩ (fun a => a == .rw) = BitVec.allOnes 32 := by
  have h : regMask ⟨.laneRx, 0, 4⟩ (fun a => a == .rw) = BitVec.allOnes 32 := by decide
  exact h

theorem txBaud_rw (n : Nat) : regMask ⟨.laneTx, n, 8⟩ (fun a => a == .rw) = BitVec.allOnes 32 := by
  have h : regMask ⟨.laneTx, 0, 8⟩ (fun a => a == .rw) = BitVec.allOnes 32 := by decide
  exact h

theorem laneTxBaudWrite_puts (s : State) (v : Word) (n : Nat) (hn : n < 96) (hup : s.laneUp n = true) :
    ∃ t, exec (.laneTxBaudWrite n v) s = .next t ∧ t = { s with regs := t.regs } ∧ t.reg ⟨.laneTx, n, 8⟩ = v ∧
      keepsRegsExcept ⟨.laneTx, n, 8⟩ s t :=
  ⟨s.putRw ⟨.laneTx, n, 8⟩ v, by rw [exec, execLaneTxBaudWrite, if_pos hup]; rfl, rfl, putRw_all s _ v (txBaud_rw n),
    keepsRegsExcept_setReg s ⟨Nat.lt_trans hn (by decide), (by decide : 8 < 65536)⟩ _⟩

/-- In a character the rate in use stands (R86). -/
theorem writeRxBaud_inChar (s : State) (n : Nat) (v : Word) (h : rxState s n = 4) :
    writeRxBaud s n v = s.putRw ⟨.laneRx, n, 4⟩ v := by
  unfold writeRxBaud
  rw [h]
  rfl

/-- A receiver between characters takes its rate from the new word (R86). -/
theorem writeRxBaud_between (s : State) (n : Nat) (v : Word) (h : rxState s n ≠ 4) :
    writeRxBaud s n v = (s.putRw ⟨.laneRx, n, 4⟩ v).putRx n { s.rxLane n with baud := baudPeriod v } := by
  have hreg := putRw_all s ⟨.laneRx, n, 4⟩ v (rxBaud_rw n)
  unfold writeRxBaud takeBaud
  rw [if_neg (by simpa using h)]
  exact congrArg (fun w => (s.putRw ⟨.laneRx, n, 4⟩ v).putRx n { s.rxLane n with baud := baudPeriod w }) hreg

theorem laneRxBaudWrite_puts (s : State) (v : Word) (n : Nat) (hn : n < 96) (hup : s.laneUp n = true) :
    ∃ t, exec (.laneRxBaudWrite n v) s = .next t ∧ t = { s with regs := t.regs, rx := t.rx } ∧ t.reg ⟨.laneRx, n, 4⟩ = v ∧
      keepsRegsExcept ⟨.laneRx, n, 4⟩ s t ∧
      t.rxLane n = { s.rxLane n with baud := if rxState s n = 4 then (s.rxLane n).baud else baudPeriod v } ∧
      ∀ k, k ≠ n → t.rxLane k = s.rxLane k := by
  have hsize : n < 65536 ∧ 4 < 65536 := ⟨Nat.lt_trans hn (by decide), by decide⟩
  have hreg := putRw_all s ⟨.laneRx, n, 4⟩ v (rxBaud_rw n)
  refine ⟨writeRxBaud s n v, by rw [exec, execLaneRxBaudWrite, if_pos hup], ?_⟩
  by_cases h : rxState s n = 4
  · rw [writeRxBaud_inChar s n v h, if_pos h]
    exact ⟨rfl, hreg, keepsRegsExcept_setReg s hsize _, rfl, fun _ _ => rfl⟩
  · rw [writeRxBaud_between s n v h, if_neg h]
    exact ⟨rfl, hreg, keepsRegsExcept_setReg s hsize _, tget_tput_self _ _ _ _, fun k hk => tget_tput_ne _ hk _ _ _⟩

theorem groomEnWrite_puts (s : State) (en : Bool) (hup : s.shedUp 4 = true) :
    ∃ t, exec (.groomEnWrite en) s = .next t ∧ t = { s with regs := t.regs } ∧ t.on F.yard_GROOM_EN 0 = en ∧
      keepsRegsBut [(F.yard_GROOM_EN, 0)] s t :=
  ⟨s.setB F.yard_GROOM_EN 0 en, by rw [exec, execGroomEnWrite, if_pos hup], rfl,
    State.on_setB s _ (by decide) (by decide) 0 en,
    keepsRegsBut_set s F.yard_GROOM_EN 0 _ (List.mem_singleton.2 rfl) (by decide) (by decide)⟩

/-! ### ADJ (R286, R312) -/

theorem sx_toNat (v : Word) : sx 32 v.toNat = v.toInt := by
  have := v.isLt
  simp only [sx, BitVec.toInt]
  split <;> split <;> omega

/-- A signed number within a field's range reads back from it. -/
theorem sx_ux (i : Int) (hlo : -2 ^ 31 ≤ i) (hhi : i < 2 ^ 31) : sx 32 (ux 32 i % 2 ^ 32) = i := by
  simp only [sx, ux]
  omega

theorem clampI_limit (i : Int) : clampI (-adjLimit) adjLimit i = max (-3435973) (min 3435973 i) := by
  simp only [clampI, adjLimit]
  omega

/-- ADJ and AT_LIMIT after a write, before the flag. -/
def putAdj (s : State) (c : Int) : State :=
  (s.setI F.time_ADJ 0 c).setB F.time_AT_LIMIT 0 (decide (c.natAbs = adjLimit.natAbs))

theorem writeAdj_within (s : State) (v : Int) (h : max (-3435973) (min 3435973 v) = v) : writeAdj s v = putAdj s v := by
  unfold writeAdj
  rw [clampI_limit, h]
  simp [putAdj]

theorem writeAdj_beyond (s : State) (v : Int) (h : max (-3435973) (min 3435973 v) ≠ v) :
    writeAdj s v = raiseTime (putAdj s (max (-3435973) (min 3435973 v))) 5 := by
  unfold writeAdj
  rw [clampI_limit]
  simp [putAdj, h, Bit.tmAtLimit]

/-- ADJ as read after a write of a number within the limit. -/
theorem putAdj_getI (s : State) (c : Int) (hlo : -3435973 ≤ c) (hhi : c ≤ 3435973) : (putAdj s c).getI F.time_ADJ 0 = c := by
  have hget : (putAdj s c).get F.time_ADJ 0 = ux 32 c % 2 ^ 32 :=
    (State.get_set_off _ _ _ _ _ _ (by decide)).trans (State.get_set_self _ _ (by decide) _ _)
  rw [State.getI, hget]
  exact sx_ux c (by omega) (by omega)

theorem putAdj_atLimit (s : State) (c : Int) : (putAdj s c).on F.time_AT_LIMIT 0 = decide (c = 3435973 ∨ c = -3435973) := by
  refine (State.on_setB _ _ (by decide) (by decide) _ _).trans (decide_eq_decide.2 ?_)
  simp only [adjLimit]
  omega

theorem putAdj_flags (s : State) (c : Int) : (putAdj s c).get F.time_FLAGS 0 = s.get F.time_FLAGS 0 :=
  (State.get_set_off _ _ _ _ _ _ (by decide)).trans (State.get_set_off _ _ _ _ _ _ (by decide))

theorem putAdj_keeps (s : State) (c : Int) :
    keepsRegsBut [(F.time_ADJ, 0), (F.time_AT_LIMIT, 0), (F.time_FLAGS, 0)] s (putAdj s c) :=
  keepsRegsBut_trans (keepsRegsBut_set s F.time_ADJ 0 _ (by simp) (by decide) (by decide))
    (keepsRegsBut_set _ F.time_AT_LIMIT 0 _ (by simp) (by decide) (by decide))

theorem addendWrite_puts (s : State) (v : Word) : ∃ t, exec (.addendWrite v) s = .next t ∧ onlyRegs s t ∧
    t.getI F.time_ADJ 0 = max (-3435973) (min 3435973 v.toInt) ∧
    (v.toInt < -3435973 ∨ 3435973 < v.toInt → t.get F.time_FLAGS 0 = s.get F.time_FLAGS 0 ||| 32) ∧
    (-3435973 ≤ v.toInt → v.toInt ≤ 3435973 → t.get F.time_FLAGS 0 = s.get F.time_FLAGS 0 ∧ t.fired = s.fired) ∧
    t.on F.time_AT_LIMIT 0 = decide (t.getI F.time_ADJ 0 = 3435973 ∨ t.getI F.time_ADJ 0 = -3435973) ∧
    keepsRegsBut [(F.time_ADJ, 0), (F.time_AT_LIMIT, 0), (F.time_FLAGS, 0)] s t := by
  refine ⟨writeAdj s v.toInt, by rw [exec, execAddendWrite, sx_toNat], ?_⟩
  have hadj := putAdj_getI s (max (-3435973) (min 3435973 v.toInt)) (by omega) (by omega)
  have hlimit := putAdj_atLimit s (max (-3435973) (min 3435973 v.toInt))
  by_cases h : max (-3435973) (min 3435973 v.toInt) = v.toInt
  · rw [writeAdj_within s _ h]
    rw [h] at hadj hlimit ⊢
    rw [hadj]
    exact ⟨rfl, rfl, fun hout => absurd h (by omega), fun _ _ => ⟨putAdj_flags s _, rfl⟩, hlimit, putAdj_keeps s _⟩
  · rw [writeAdj_beyond s _ h]
    have hin : ¬ (-3435973 ≤ v.toInt ∧ v.toInt ≤ 3435973) := by omega
    generalize max (-3435973) (min 3435973 v.toInt) = c at *
    have hgetI : (raiseTime (putAdj s c) 5).getI F.time_ADJ 0 = c :=
      (congrArg (sx 32) (raise_get_off _ F.time_FLAGS F.time_EVEN 0 5 _ F.time_ADJ 0 (by decide))).trans hadj
    have hon : (raiseTime (putAdj s c) 5).on F.time_AT_LIMIT 0 = (putAdj s c).on F.time_AT_LIMIT 0 :=
      congrArg (· == 1) (raise_get_off _ F.time_FLAGS F.time_EVEN 0 5 _ F.time_AT_LIMIT 0 (by decide))
    have hflag : (raiseTime (putAdj s c) 5).get F.time_FLAGS 0 = s.get F.time_FLAGS 0 ||| 32 :=
      (raise_get_self _ _ _ (by decide) 0 5 _ (by decide)).trans (congrArg (· ||| 2 ^ 5) (putAdj_flags s c))
    rw [hgetI, hon]
    refine ⟨raise_rest _ _ _ _ _ _, rfl, fun _ => hflag, fun hlo hhi => absurd ⟨hlo, hhi⟩ hin, hlimit,
      keepsRegsBut_trans (putAdj_keeps s c) (raise_keeps _ _ _ _ _ _ (by simp) (by decide) (by decide))⟩

/-- Settles O17, one lemma for each kind of write. -/
theorem registerWritesSetTheirFields : Obligations.RegisterWritesSetTheirFields := by
  intro s v
  refine ⟨fun r hr hfit hup htime hfirst hany => registerWrite_plain s r v (wfReg_size hr) hfit hup
      (afterWrite_plain _ _ r htime hfirst hany),
    fun n hn hup => registerWrite_capture s v n hn hup, fun hnone hup => registerWrite_grid s v hnone hup,
    fun hup hpix hen => ?_, fun p hup hp hen => ?_, fun r h => exec_registerWrite_ignored s r v h,
    fun n hn hup => laneTxBaudWrite_puts s v n hn hup, fun n hn hup => laneRxBaudWrite_puts s v n hn hup,
    addendWrite_puts s v, fun en hup => groomEnWrite_puts s en hup⟩
  · exact registerWrite_enable s F.str_EN 0 v rfl (by decide) (by rw [← hpix]; exact Bool.and_true _) hup (by decide) hen
      (fun t ht => if_pos ht)
  · have hports : s.part.ports ≤ 2 := by cases s.part <;> decide
    have hmask : ∀ k, k < F.eth_EN.width → (writtenMask (F.eth_EN.addr 0)).getLsbD (F.eth_EN.lo + k) = true := by decide
    exact registerWrite_enable s F.eth_EN p v rfl ⟨by omega, by decide⟩ (decide_eq_true hp) hup hmask hen
      (fun t ht => if_pos ht)

end Sys2Proof.Machine
end

section
/-! PROOF. Lane commands (R497, R498): what one lane's operation may touch (`LaneStep`), what a run of them over roles or lanes
leaves of each lane (`SameAt`), and each command's operation on one lane. -/

namespace Sys2Proof.Machine

/-! ### One lane's share of the state -/

/-- A register of lane `n`: of its receiver or its transmitter. -/
def laneReg (n : Nat) (q : RegAddr) : Prop := q.inst = n ∧ (q.blk = .laneRx ∨ q.blk = .laneTx)

/-- From `s` to `t` only lane `n` has changed, among registers, receivers and transmitters. -/
structure LaneStep (n : Nat) (s t : State) : Prop where
  reg : ∀ q : RegAddr, q.inst < 65536 → q.off < 65536 → ¬ laneReg n q → t.reg q = s.reg q
  rx : ∀ k, k ≠ n → t.rxLane k = s.rxLane k
  tx : ∀ k, k ≠ n → t.txLane k = s.txLane k
  part : t.part = s.part

/-- All that lane `n` reads is in `t` as in `s`: its own registers, receiver and transmitter, and what no lane holds. -/
structure SameAt (n : Nat) (s t : State) : Prop where
  reg : ∀ q : RegAddr, q.inst < 65536 → q.off < 65536 → (q.inst = n ∨ (q.blk ≠ .laneRx ∧ q.blk ≠ .laneTx)) → t.reg q = s.reg q
  rx : t.rxLane n = s.rxLane n
  tx : t.txLane n = s.txLane n
  part : t.part = s.part

theorem LaneStep.refl (n : Nat) (s : State) : LaneStep n s s := ⟨fun _ _ _ _ => rfl, fun _ _ => rfl, fun _ _ => rfl, rfl⟩

theorem LaneStep.trans {n : Nat} {s t u : State} (h : LaneStep n s t) (k : LaneStep n t u) : LaneStep n s u :=
  ⟨fun q hi ho hq => (k.reg q hi ho hq).trans (h.reg q hi ho hq), fun j hj => (k.rx j hj).trans (h.rx j hj),
    fun j hj => (k.tx j hj).trans (h.tx j hj), k.part.trans h.part⟩

theorem SameAt.refl (n : Nat) (s : State) : SameAt n s s := ⟨fun _ _ _ _ => rfl, rfl, rfl, rfl⟩

theorem SameAt.trans {n : Nat} {s t u : State} (h : SameAt n s t) (k : SameAt n t u) : SameAt n s u :=
  ⟨fun q hi ho hq => (k.reg q hi ho hq).trans (h.reg q hi ho hq), k.rx.trans h.rx, k.tx.trans h.tx, k.part.trans h.part⟩

/-- An operation on another lane leaves lane `n` what it reads. -/
theorem LaneStep.sameAt {n m : Nat} {s t : State} (h : LaneStep m s t) (hne : n ≠ m) : SameAt n s t := by
  refine ⟨fun q hi ho hq => h.reg q hi ho fun ⟨hm, hblk⟩ => ?_, h.rx n hne, h.tx n hne, h.part⟩
  obtain hn | ⟨hrx, htx⟩ := hq
  · exact hne (hn.symm.trans hm)
  · exact hblk.elim hrx htx

theorem SameAt.get {n : Nat} {s t : State} (h : SameAt n s t) (f : Field) (hn : n < 65536) (ho : f.off < 65536) :
    t.get f n = s.get f n := by
  rw [State.get, State.get, h.reg (f.addr n) hn ho (Or.inl rfl)]

theorem SameAt.on {n : Nat} {s t : State} (h : SameAt n s t) (f : Field) (hn : n < 65536) (ho : f.off < 65536) :
    t.on f n = s.on f n := by
  rw [State.on, State.on, h.get f hn ho]

theorem SameAt.shedUp {n : Nat} {s t : State} (h : SameAt n s t) (k : Nat) : t.shedUp k = s.shedUp k := by
  rw [State.shedUp, State.shedUp, State.get, State.get,
    h.reg (F.pwr_UP.addr 0) (by decide) (by decide) (Or.inr ⟨by decide, by decide⟩)]

theorem SameAt.laneUp {n : Nat} {s t : State} (h : SameAt n s t) (k : Nat) : t.laneUp k = s.laneUp k := by
  rw [State.laneUp, State.laneUp, h.shedUp, h.part]

/-! ### What touches one lane -/

theorem laneStep_setReg (s : State) (r : RegAddr) (w : Word) (hr : r.inst < 65536 ∧ r.off < 65536)
    (hblk : r.blk = .laneRx ∨ r.blk = .laneTx) : LaneStep r.inst s (s.setReg r w) :=
  ⟨fun _ hi ho hq => s.reg_setReg_ne hr.1 hr.2 hi ho (fun e => hq ⟨by rw [e], by rw [e]; exact hblk⟩) w, fun _ _ => rfl,
    fun _ _ => rfl, rfl⟩

theorem laneStep_set (s : State) (f : Field) (n v : Nat) (hn : n < 65536) (ho : f.off < 65536)
    (hblk : f.blk = .laneRx ∨ f.blk = .laneTx) : LaneStep n s (s.set f n v) := laneStep_setReg s (f.addr n) _ ⟨hn, ho⟩ hblk

theorem laneStep_putReg (s : State) (b : Blk) (n o : Nat) (w : Word) (hn : n < 65536) (ho : o < 65536)
    (hblk : b = .laneRx ∨ b = .laneTx) : LaneStep n s (putReg s b n o w) := laneStep_setReg s ⟨b, n, o⟩ _ ⟨hn, ho⟩ hblk

theorem laneStep_putRx (s : State) (n : Nat) (x : LaneRx) : LaneStep n s (s.putRx n x) :=
  ⟨fun _ _ _ _ => rfl, fun _ hk => tget_tput_ne _ hk _ _ _, fun _ _ => rfl, rfl⟩

theorem laneStep_putTx (s : State) (n : Nat) (x : LaneTx) : LaneStep n s (s.putTx n x) :=
  ⟨fun _ _ _ _ => rfl, fun _ _ => rfl, fun _ hk => tget_tput_ne _ hk _ _ _, rfl⟩

theorem laneStep_raise (s : State) (f ev : Field) (n b e : Nat) (hn : n < 65536) (ho : f.off < 65536)
    (hblk : f.blk = .laneRx ∨ f.blk = .laneTx) : LaneStep n s (raise s f ev n b e) := by
  have hset := laneStep_set s f n (s.get f n ||| 2 ^ b) hn ho hblk
  unfold raise
  dsimp only
  split
  · exact LaneStep.refl n s
  · split
    · exact ⟨hset.reg, hset.rx, hset.tx, hset.part⟩
    · exact hset

/-! ### A run over roles -/

/-- An operation that touches its own lane alone and leaves its role. -/
structure LaneOp (f : State → Nat → State) : Prop where
  step : ∀ u n, n < 65536 → LaneStep n u (f u n)

/-- An operation on the lane of a role: it leaves the role too, so the next role is looked up as before. -/
structure RoleOp (f : State → Nat → State) : Prop extends LaneOp f where
  role : ∀ u n, n < 65536 → (f u n).get F.tx_ROLE n = u.get F.tx_ROLE n

theorem roleLane_role {s : State} {role n : Nat} (h : roleLane s role = some n) :
    s.get F.tx_ROLE n = role ∧ n < s.part.lanes ∧ s.shedUp (laneShed n) = true := by
  have hp := List.find?_some h
  have hm := List.mem_of_find?_eq_some h
  simp only [Bool.and_eq_true, beq_iff_eq] at hp
  exact ⟨hp.2, List.mem_range.1 hm, hp.1⟩

theorem lanes_le (p : Part) : p.lanes ≤ 96 := by cases p <;> decide

theorem lanes_le_max (p : Part) : p.lanes ≤ lanesMax := lanes_le p

theorem roleLane_lt {s : State} {role n : Nat} (h : roleLane s role = some n) : n < 65536 := by
  have hn := (roleLane_role h).2.1
  have := lanes_le s.part
  omega

theorem laneUp_lt {s : State} {n : Nat} (h : s.laneUp n = true) : n < 65536 := by
  simp only [State.laneUp, Bool.and_eq_true, decide_eq_true_eq] at h
  have := lanes_le s.part
  omega

/-- An operation that leaves its lane's role leaves every role's lane. -/
theorem roleLane_laneStep {n : Nat} {s t : State} (h : LaneStep n s t) (hrole : t.get F.tx_ROLE n = s.get F.tx_ROLE n) (role : Nat) :
    roleLane t role = roleLane s role := by
  have hn : ∀ k, k < 65536 → t.get F.tx_ROLE k = s.get F.tx_ROLE k := by
    intro k hk
    by_cases hkn : k = n
    · rw [hkn, hrole]
    · exact (h.sameAt hkn).get F.tx_ROLE hk (by decide)
  have hshed : ∀ k, t.shedUp k = s.shedUp k := (h.sameAt (Nat.succ_ne_self n)).shedUp
  unfold roleLane
  rw [h.part]
  apply List.find?_congr
  intro k hk
  have := lanes_le s.part
  rw [hshed, hn k (by have := List.mem_range.1 hk; omega)]

theorem onRoles_cons (f : State → Nat → State) (role : Nat) (roles : List Nat) (s : State) : onRoles f (role :: roles) s =
    onRoles f roles (match roleLane s role with | none => s | some n => f s n) := rfl

theorem onLanes_cons (f : State → Nat → State) (n : Nat) (lanes : List Nat) (s : State) : onLanes f (n :: lanes) s =
    onLanes f lanes (if s.laneUp n then f s n else s) := rfl

/-- What every operation of a run keeps, the run keeps. -/
theorem onRoles_induct {R : State → State → Prop} (hrefl : ∀ u, R u u) (htrans : ∀ {u v w}, R u v → R v w → R u w)
    {f : State → Nat → State} (hf : ∀ u n, R u (f u n)) (roles : List Nat) (s : State) : R s (onRoles f roles s) := by
  induction roles generalizing s with
  | nil => exact hrefl s
  | cons role roles ih =>
    rw [onRoles_cons]
    refine htrans ?_ (ih _)
    split
    · exact hrefl s
    · exact hf _ _

theorem onLanes_induct {R : State → State → Prop} (hrefl : ∀ u, R u u) (htrans : ∀ {u v w}, R u v → R v w → R u w)
    {f : State → Nat → State} (hf : ∀ u n, R u (f u n)) (lanes : List Nat) (s : State) : R s (onLanes f lanes s) := by
  induction lanes generalizing s with
  | nil => exact hrefl s
  | cons n lanes ih =>
    rw [onLanes_cons]
    refine htrans ?_ (ih _)
    split
    · exact hf _ _
    · exact hrefl s

/-- A lane that carries none of the roles stands. -/
theorem onRoles_sameAt {f : State → Nat → State} (hf : RoleOp f) (roles : List Nat) (s : State) (n : Nat)
    (hn : ∀ role ∈ roles, roleLane s role ≠ some n) : SameAt n s (onRoles f roles s) := by
  induction roles generalizing s with
  | nil => exact SameAt.refl n s
  | cons role roles ih =>
    rw [onRoles_cons]
    obtain ⟨hrole, hroles⟩ := List.forall_mem_cons.1 hn
    cases hl : roleLane s role with
    | none => exact ih s hroles
    | some m =>
      have hm := roleLane_lt hl
      have hstep := hf.step s m hm
      have hne : n ≠ m := fun e => hrole (by rw [hl, e])
      refine (hstep.sameAt hne).trans (ih _ fun x hx => ?_)
      rw [roleLane_laneStep hstep (hf.role s m hm)]
      exact hroles x hx

/-- The lane of each role ends as the operation leaves it. -/
theorem onRoles_done {f : State → Nat → State} (hf : RoleOp f) (roles : List Nat) (hnodup : roles.Nodup) (s : State) {role n : Nat}
    (hmem : role ∈ roles) (hl : roleLane s role = some n) : ∃ u, SameAt n s u ∧ SameAt n (f u n) (onRoles f roles s) := by
  induction roles generalizing s with
  | nil => cases hmem
  | cons x roles ih =>
    rw [onRoles_cons]
    obtain ⟨hx, hnodup'⟩ := List.nodup_cons.1 hnodup
    obtain rfl | hmem' := List.mem_cons.1 hmem
    · rw [hl]
      have hn := roleLane_lt hl
      refine ⟨s, SameAt.refl n s, onRoles_sameAt hf roles _ n fun y hy hy' => ?_⟩
      rw [roleLane_laneStep (hf.step s n hn) (hf.role s n hn)] at hy'
      have hxy : y = role := (roleLane_role hy').1.symm.trans (roleLane_role hl).1
      exact hx (hxy ▸ hy)
    · cases hlx : roleLane s x with
      | none => exact ih hnodup' s hmem' hl
      | some m =>
        have hm := roleLane_lt hlx
        have hstep := hf.step s m hm
        have hne : n ≠ m := by
          rintro rfl
          have hxr : x = role := (roleLane_role hlx).1.symm.trans (roleLane_role hl).1
          exact hx (hxr ▸ hmem')
        obtain ⟨u, hsu, hut⟩ := ih hnodup' (f s m) hmem' (by rw [roleLane_laneStep hstep (hf.role s m hm)]; exact hl)
        exact ⟨u, (hstep.sameAt hne).trans hsu, hut⟩

theorem onLanes_sameAt {f : State → Nat → State} (hf : LaneOp f) (lanes : List Nat) (s : State) (n : Nat)
    (hn : ∀ m ∈ lanes, s.laneUp m = true → n ≠ m) : SameAt n s (onLanes f lanes s) := by
  induction lanes generalizing s with
  | nil => exact SameAt.refl n s
  | cons m lanes ih =>
    rw [onLanes_cons]
    obtain ⟨hm, hlanes⟩ := List.forall_mem_cons.1 hn
    split
    · next hup =>
      have hstep := (hf.step s m (laneUp_lt hup)).sameAt (hm hup)
      exact hstep.trans (ih _ fun k hk hkup => hlanes k hk ((hstep.laneUp k).symm.trans hkup))
    · exact ih s hlanes

theorem onLanes_done {f : State → Nat → State} (hf : LaneOp f) (lanes : List Nat) (hnodup : lanes.Nodup) (s : State) {n : Nat}
    (hmem : n ∈ lanes) (hup : s.laneUp n = true) : ∃ u, SameAt n s u ∧ SameAt n (f u n) (onLanes f lanes s) := by
  induction lanes generalizing s with
  | nil => cases hmem
  | cons x lanes ih =>
    rw [onLanes_cons]
    obtain ⟨hx, hnodup'⟩ := List.nodup_cons.1 hnodup
    obtain rfl | hmem' := List.mem_cons.1 hmem
    · rw [if_pos hup]
      exact ⟨s, SameAt.refl n s, onLanes_sameAt hf lanes _ n fun m hm _ e => hx (e ▸ hm)⟩
    · have hne : n ≠ x := fun e => hx (e ▸ hmem')
      split
      · next hupx =>
        have hstep := (hf.step s x (laneUp_lt hupx)).sameAt hne
        obtain ⟨u, hsu, hut⟩ := ih hnodup' (f s x) hmem' ((hstep.laneUp n).trans hup)
        exact ⟨u, hstep.trans hsu, hut⟩
      · exact ih hnodup' s hmem' hup

/-- A register of the lane of one of the roles. -/
def ofRoles (s : State) (roles : List Nat) (q : RegAddr) : Bool :=
  roles.any (fun role => roleLane s role == some q.inst) && (q.blk == .laneRx || q.blk == .laneTx)

/-- A register of one of the lanes. -/
def ofLanes (lanes : List Nat) (q : RegAddr) : Bool := lanes.contains q.inst && (q.blk == .laneRx || q.blk == .laneTx)

/-- Registers of lanes that carry none of the roles are as they were. -/
theorem onRoles_others {f : State → Nat → State} (hf : RoleOp f) (roles : List Nat) (s : State) :
    keepsRegsOutside (ofRoles s roles) s (onRoles f roles s) := by
  intro q hq hnot
  rw [ofRoles] at hnot
  obtain ⟨hi, ho⟩ := wfReg_size hq
  by_cases hany : roles.any (fun role => roleLane s role == some q.inst) = true
  · simp only [hany, Bool.true_and, Bool.or_eq_false_iff, beq_eq_false_iff_ne] at hnot
    have hnone : ∀ role ∈ roles, roleLane s role ≠ some 65536 := fun role _ he => absurd (roleLane_lt he) (Nat.lt_irrefl _)
    exact (onRoles_sameAt hf roles s 65536 hnone).reg q hi ho (Or.inr hnot)
  · have hnone : ∀ role ∈ roles, roleLane s role ≠ some q.inst := fun role hr he => hany (List.any_eq_true.2 ⟨role, hr, by simp [he]⟩)
    exact (onRoles_sameAt hf roles s q.inst hnone).reg q hi ho (Or.inl rfl)

/-- Registers of lanes not named are as they were. -/
theorem onLanes_others {f : State → Nat → State} (hf : LaneOp f) (lanes : List Nat) (s : State) :
    keepsRegsOutside (ofLanes lanes) s (onLanes f lanes s) := by
  intro q hq hnot
  rw [ofLanes] at hnot
  obtain ⟨hi, ho⟩ := wfReg_size hq
  by_cases hmem : lanes.contains q.inst = true
  · simp only [hmem, Bool.true_and, Bool.or_eq_false_iff, beq_eq_false_iff_ne] at hnot
    exact (onLanes_sameAt hf lanes s 65536 fun m _ hup e => absurd (laneUp_lt hup) (e ▸ Nat.lt_irrefl _)).reg q hi ho (Or.inr hnot)
  · exact (onLanes_sameAt hf lanes s q.inst fun m hm _ e => hmem (List.contains_iff_mem.2 (e ▸ hm))).reg q hi ho (Or.inl rfl)

/-! ### A request over a range -/

theorem withRange_of {s : State} {b : List Byte} {total fitted : Nat} (hcount : 0 < rangeCount b)
    (hfit : rangeFirst b + rangeCount b ≤ fitted) (htotal : fitted ≤ total) (f : List Nat → State → CmdOut) :
    withRange s b total fitted f = f (rangeOf b) s := by
  have h0 : (rangeCount b == 0) = false := by simp; omega
  have h1 : (decide (rangeFirst b < total) && decide (fitted < min (rangeFirst b + rangeCount b) total)) = false := by
    simp
    omega
  have h2 : decide (total < rangeFirst b + rangeCount b) = false := by simp; omega
  simp only [withRange, h0, h1, h2, Bool.false_eq_true, if_false]

theorem rangeOf_nodup (b : List Byte) : (rangeOf b).Nodup :=
  List.Nodup.map (fun _ _ h => Nat.add_left_cancel h) List.nodup_range

theorem firstFail_pass {checks : List (Bool × Nat)} (h : ∀ c ∈ checks, c.1 = false) (s : State) (f : State → CmdOut) :
    firstFail s checks f = f s := by
  induction checks with
  | nil => rfl
  | cons c checks ih =>
    obtain ⟨hc, hrest⟩ := List.forall_mem_cons.1 h
    rw [firstFail_cons, hc]
    exact ih hrest

section
variable {r : Req} {s : State} (hcount : 0 < u16 r.body 2) (hfit : u16 r.body 0 + u16 r.body 2 ≤ s.part.lanes)
include hcount hfit

/-- A command over roles whose checks pass runs over them. -/
theorem roleRange_of {checks : List (Bool × Nat)} (hpass : ∀ c ∈ checks, c.1 = false)
    (hparked : (rangeOf r.body).any (roleParked s) = false) (f : State → Nat → State) :
    roleRange r s checks f = ok (onRoles f (rangeOf r.body) s) [] := by
  unfold roleRange
  rw [withRange_of hcount hfit (lanes_le_max s.part), firstFail_pass]
  intro c hc
  obtain hc | hc := List.mem_append.1 hc
  · exact hpass c hc
  · rw [List.mem_singleton.1 hc]
    exact hparked

/-- A command over lanes whose checks pass runs over them. -/
theorem laneRange_of {checks : State → List Nat → List (Bool × Nat)} (hpass : ∀ c ∈ checks s (rangeOf r.body), c.1 = false)
    (f : State → Nat → State) : laneRange r s checks f = ok (onLanes f (rangeOf r.body) s) [] := by
  unfold laneRange
  rw [withRange_of hcount hfit (lanes_le_max s.part), firstFail_pass hpass]

end

/-! ### LANE_MODE_SET (R94, R497) -/

theorem onlyRegs_refl (s : State) : onlyRegs s s := rfl

theorem onlyRegs_trans {s t u : State} (h : onlyRegs s t) (k : onlyRegs t u) : onlyRegs s u := by
  unfold onlyRegs at *
  rw [k, h]

theorem writeMode_step (s : State) (n m : Nat) (hn : n < 65536) : LaneStep n s (writeMode s n m) := by
  have hset : ∀ p, LaneStep n s ((s.set F.tx_MODE n m).set F.tx_PENDING n p) := fun p =>
    (laneStep_set s F.tx_MODE n m hn (by decide) (by decide)).trans (laneStep_set _ F.tx_PENDING n p hn (by decide) (by decide))
  unfold writeMode
  split
  · exact LaneStep.refl n s
  · split
    · exact (hset 0).trans (laneStep_raise _ F.tx_FLAGS F.tx_EVEN n _ _ hn (by decide) (by decide))
    · exact hset 1

theorem writeMode_onlyRegs (s : State) (n m : Nat) : onlyRegs s (writeMode s n m) := by
  unfold writeMode
  split
  · exact onlyRegs_refl s
  · split
    · exact onlyRegs_trans (t := (s.set F.tx_MODE n m).set F.tx_PENDING n 0) rfl (raise_rest _ _ _ _ _ _)
    · rfl

/-- The fields of the mode word after MODE was written: MODE and PENDING take the values, the others stand. -/
theorem writeMode_get (s : State) (n m : Nat) (f : Field) (hf : f.off = 0) (hpad : s.on F.tx_PADDOCK n = false) :
    (writeMode s n m).get f n = ((s.set F.tx_MODE n m).set F.tx_PENDING n (b2n (decide (m ≠ s.get F.tx_ACTIVE n)))).get f n := by
  unfold writeMode
  rw [if_neg (by rw [hpad]; exact Bool.false_ne_true)]
  by_cases h : m = s.get F.tx_ACTIVE n
  · rw [if_pos (by simpa using h), decide_eq_false (not_not.2 h)]
    exact raise_get_off _ F.tx_FLAGS F.tx_EVEN n _ _ f n (by rw [hf]; decide)
  · rw [if_neg (by simpa using h), decide_eq_true h]
    rfl

theorem writeMode_op (m : Nat) : RoleOp (fun u n => writeMode u n m) where
  step u n hn := writeMode_step u n m hn
  role u n _ := by
    cases hpad : u.on F.tx_PADDOCK n with
    | true => rw [writeMode, if_pos hpad]
    | false =>
      rw [writeMode_get u n m F.tx_ROLE rfl hpad, State.get_set_beside _ F.tx_PENDING F.tx_ROLE n _ rfl rfl (by decide) (by decide),
        State.get_set_beside _ F.tx_MODE F.tx_ROLE n _ rfl rfl (by decide) (by decide)]

/-- MODE is written, and pends where it is not the mode in force. -/
theorem writeMode_mode (s : State) (n m : Nat) (hm : m < 16) (hpad : s.on F.tx_PADDOCK n = false) :
    (writeMode s n m).get F.tx_MODE n = m ∧ (writeMode s n m).on F.tx_PENDING n = decide (m ≠ s.get F.tx_ACTIVE n) := by
  constructor
  · rw [writeMode_get s n m F.tx_MODE rfl hpad, State.get_set_beside _ F.tx_PENDING F.tx_MODE n _ rfl rfl (by decide) (by decide),
      State.get_set_self _ _ (by decide)]
    exact Nat.mod_eq_of_lt hm
  · rw [State.on, writeMode_get s n m F.tx_PENDING rfl hpad]
    exact State.on_setB _ F.tx_PENDING (by decide) (by decide) n _

/-- LANE_MODE_SET over roles: each lane's MODE and PENDING, and no other lane's registers. -/
theorem writeMode_run (m : Nat) (hm : m < 16) (roles : List Nat) (hnodup : roles.Nodup) (s : State) :
    onlyRegs s (onRoles (fun u n => writeMode u n m) roles s) ∧
      (∀ role ∈ roles, ∀ n, roleLane s role = some n → s.on F.tx_PADDOCK n = false →
        (onRoles (fun u n => writeMode u n m) roles s).get F.tx_MODE n = m ∧
        (onRoles (fun u n => writeMode u n m) roles s).on F.tx_PENDING n = decide (m ≠ s.get F.tx_ACTIVE n)) ∧
      keepsRegsOutside (ofRoles s roles) s (onRoles (fun u n => writeMode u n m) roles s) := by
  refine ⟨onRoles_induct onlyRegs_refl onlyRegs_trans (fun u n => writeMode_onlyRegs u n m) _ s, fun role hrole n hl hpad => ?_,
    onRoles_others (writeMode_op m) _ s⟩
  have hn := roleLane_lt hl
  obtain ⟨u, hsu, hut⟩ := onRoles_done (writeMode_op m) roles hnodup s hrole hl
  obtain ⟨hmode, hpend⟩ := writeMode_mode u n m hm ((hsu.on _ hn (by decide)).trans hpad)
  rw [hut.get _ hn (by decide), hut.on _ hn (by decide), hmode, hpend, hsu.get _ hn (by decide)]
  exact ⟨rfl, rfl⟩

theorem laneModeSet_done {r : Req} {s : State} (htakes : takes s r = true) (hcount : 0 < u16 r.body 2)
    (hfit : u16 r.body 0 + u16 r.body 2 ≤ s.part.lanes) (hlen : r.body.length = 8) (hm : fld r.body 4 0 4 < 10)
    (hpix : 6 ≤ fld r.body 4 0 4 → fld r.body 4 0 4 ≤ 8 → s.part.hasPixel = true)
    (hparked : (rangeOf r.body).any (roleParked s) = false) :
    exec (.laneModeSet r) s =
      .next (answered 0x0201 true r (onRoles (fun u n => writeMode u n (fld r.body 4 0 4)) (rangeOf r.body) s) []) := by
  have hpass : ∀ c ∈ [(pixelMode (fld r.body 4 0 4) && !s.part.hasPixel, St.notFitted),
      (decide (10 ≤ fld r.body 4 0 4), St.badArg)], c.1 = false := by
    have hfst : (pixelMode (fld r.body 4 0 4) && !s.part.hasPixel) = false := by
      cases hp : s.part.hasPixel with
      | true => simp
      | false =>
        have hno : ¬ (6 ≤ fld r.body 4 0 4 ∧ fld r.body 4 0 4 ≤ 8) := fun ⟨h1, h2⟩ => by simpa [hp] using hpix h1 h2
        simp [pixelMode]
        omega
    simp only [List.forall_mem_cons, hfst, decide_eq_false (Nat.not_le.2 hm), true_and]
    exact fun _ h => absurd h List.not_mem_nil
  rw [exec, execLaneModeSet, cmdRow_taken htakes, cmdLaneModeSet, sized_of hlen, roleRange_of hcount hfit hpass hparked, finish_ok]

theorem laneModeSet_notFitted {r : Req} {s : State} (htakes : takes s r = true) (hcount : 0 < u16 r.body 2)
    (hfit : u16 r.body 0 + u16 r.body 2 ≤ s.part.lanes) (hlen : r.body.length = 8) (hlo : 6 ≤ fld r.body 4 0 4)
    (hhi : fld r.body 4 0 4 ≤ 8) (hpix : s.part.hasPixel = false) :
    exec (.laneModeSet r) s = .next (refusedWith 0x0201 7 r s) := by
  have hmode : (pixelMode (fld r.body 4 0 4) && !s.part.hasPixel) = true := by
    simp [pixelMode, hpix]
    omega
  rw [exec, execLaneModeSet, cmdRow_taken htakes, cmdLaneModeSet, sized_of hlen, roleRange,
    withRange_of hcount hfit (lanes_le_max s.part), List.cons_append, firstFail_cons, if_pos hmode, finish_no]
  rfl

/-! ### What touches one receiver -/

/-- A step of lane `n` that leaves every transmitter's registers. -/
structure RxStep (n : Nat) (s t : State) : Prop extends LaneStep n s t where
  txReg : ∀ k o, k < 65536 → o < 65536 → t.reg ⟨.laneTx, k, o⟩ = s.reg ⟨.laneTx, k, o⟩

theorem RxStep.refl (n : Nat) (s : State) : RxStep n s s := ⟨LaneStep.refl n s, fun _ _ _ _ => rfl⟩

theorem RxStep.trans {n : Nat} {s t u : State} (h : RxStep n s t) (k : RxStep n t u) : RxStep n s u :=
  ⟨h.toLaneStep.trans k.toLaneStep, fun i o hi ho => (k.txReg i o hi ho).trans (h.txReg i o hi ho)⟩

theorem rxStep_setReg (s : State) (r : RegAddr) (w : Word) (hr : r.inst < 65536 ∧ r.off < 65536) (hblk : r.blk = .laneRx) :
    RxStep r.inst s (s.setReg r w) :=
  ⟨laneStep_setReg s r w hr (Or.inl hblk), fun k o hk ho =>
    s.reg_setReg_ne hr.1 hr.2 hk ho (fun e => by rw [← e] at hblk; cases hblk) w⟩

theorem rxStep_set (s : State) (f : Field) (n v : Nat) (hn : n < 65536) (ho : f.off < 65536) (hblk : f.blk = .laneRx) :
    RxStep n s (s.set f n v) := rxStep_setReg s (f.addr n) _ ⟨hn, ho⟩ hblk

theorem rxStep_putReg (s : State) (n o : Nat) (w : Word) (hn : n < 65536) (ho : o < 65536) :
    RxStep n s (putReg s .laneRx n o w) := rxStep_setReg s ⟨.laneRx, n, o⟩ _ ⟨hn, ho⟩ rfl

theorem rxStep_putRx (s : State) (n : Nat) (x : LaneRx) : RxStep n s (s.putRx n x) :=
  ⟨laneStep_putRx s n x, fun _ _ _ _ => rfl⟩

/-- Such an operation leaves every role. -/
theorem roleOp_of_rxStep {f : State → Nat → State} (h : ∀ u n, n < 65536 → RxStep n u (f u n)) : RoleOp f where
  step u n hn := (h u n hn).toLaneStep
  role u n hn := by
    rw [State.get, State.get]
    exact congrArg (fun w : Word => bits w.toNat _ _) ((h u n hn).txReg n 0 hn (by decide))

/-! ### Words of a lane's block -/

theorem reg_set_off (s : State) (f : Field) (i v : Nat) (b : Blk) (j o : Nat) (h : o % 65536 ≠ f.off % 65536) :
    (s.set f i v).reg ⟨b, j, o⟩ = s.reg ⟨b, j, o⟩ :=
  s.reg_setReg_key (by simp only [regKey, Field.addr]; omega) _

theorem reg_putReg_off (s : State) (b : Blk) (i o : Nat) (w : Word) (c : Blk) (j p : Nat) (h : p % 65536 ≠ o % 65536) :
    (putReg s b i o w).reg ⟨c, j, p⟩ = s.reg ⟨c, j, p⟩ :=
  s.reg_setReg_key (by simp only [regKey]; omega) _

theorem rwWritten_putReg (s : State) (b : Blk) (i o : Nat) (w : Word) : rwWritten ⟨b, i, o⟩ w s (putReg s b i o w) :=
  s.reg_setReg_self _ _

/-- A field read from a register that stands. -/
theorem get_of_reg {s t : State} {f : Field} {i : Nat} (h : t.reg (f.addr i) = s.reg (f.addr i)) : t.get f i = s.get f i := by
  rw [State.get, State.get, h]

/-- What was written on lane `n` stands for a state that reads alike before it and one that reads alike after it. -/
theorem rwWritten_same {n : Nat} {s u v t : State} {q : RegAddr} {w : Word} (hsu : SameAt n s u) (hvt : SameAt n v t)
    (hq : q.inst = n) (hn : n < 65536) (ho : q.off < 65536) (h : rwWritten q w u v) : rwWritten q w s t := by
  rw [rwWritten] at h ⊢
  rw [hvt.reg q (hq ▸ hn) ho (Or.inl hq), h, hsu.reg q (hq ▸ hn) ho (Or.inl hq)]

/-! ### LANE_RX_SET (R74, R85, R497) -/

theorem writeRxBaud_regs (s : State) (n : Nat) (v : Word) : (writeRxBaud s n v).regs = (s.putRw ⟨.laneRx, n, 4⟩ v).regs := by
  by_cases h : rxState s n = 4
  · rw [writeRxBaud_inChar s n v h]
  · rw [writeRxBaud_between s n v h]
    rfl

theorem writeRxBaud_reg_self (s : State) (n : Nat) (v : Word) : (writeRxBaud s n v).reg ⟨.laneRx, n, 4⟩ = v := by
  rw [State.reg, writeRxBaud_regs]
  exact putRw_all s _ v (rxBaud_rw n)

theorem writeRxBaud_reg_off (s : State) (n : Nat) (v : Word) (b : Blk) (j o : Nat) (h : o % 65536 ≠ 4) :
    (writeRxBaud s n v).reg ⟨b, j, o⟩ = s.reg ⟨b, j, o⟩ := by
  rw [State.reg, writeRxBaud_regs]
  exact reg_putReg_off s .laneRx n 4 v b j o h

theorem writeRxBaud_step (s : State) (n : Nat) (v : Word) (hn : n < 65536) : RxStep n s (writeRxBaud s n v) := by
  have hput := rxStep_putReg s n 4 v hn (by decide)
  by_cases h : rxState s n = 4
  · rw [writeRxBaud_inChar s n v h]
    exact hput
  · rw [writeRxBaud_between s n v h]
    exact hput.trans (rxStep_putRx _ n _)

/-- Only registers and receivers may differ. -/
def onlyReceivers (s t : State) : Prop := t = { s with regs := t.regs, rx := t.rx }

theorem onlyReceivers_refl (s : State) : onlyReceivers s s := rfl

theorem onlyReceivers_trans {s t u : State} (h : onlyReceivers s t) (k : onlyReceivers t u) : onlyReceivers s u := by
  unfold onlyReceivers at *
  rw [k, h]

theorem writeRxBaud_only (s : State) (n : Nat) (v : Word) : onlyReceivers s (writeRxBaud s n v) := by
  by_cases h : rxState s n = 4
  · rw [writeRxBaud_inChar s n v h]
    rfl
  · rw [writeRxBaud_between s n v h]
    rfl

theorem onlyReceivers_set {s t : State} (h : onlyReceivers s t) (f : Field) (i v : Nat) : onlyReceivers s (t.set f i v) :=
  onlyReceivers_trans h rfl

theorem onlyReceivers_putReg {s t : State} (h : onlyReceivers s t) (b : Blk) (i o : Nat) (w : Word) :
    onlyReceivers s (putReg t b i o w) := onlyReceivers_trans h rfl

/-- The receiver's words but for its rate. -/
def putReceiver (r : Req) (p : Nat × Nat) (s : State) (n : Nat) : State :=
  putReg (putReg (((putReg (putReg s .laneRx n 0 (bodyWord r 4)) .laneRx n 8 (bodyWord r 12)).set F.rx_PROG_LOW n p.1).set
    F.rx_PROG_HIGH n p.2) .laneRx n 0xC (bodyWord r 16)) .laneRx n 0x10 (bodyWord r 20)

theorem setReceiver_eq (r : Req) (p : Nat × Nat) (s : State) (n : Nat) :
    setReceiver r p s n = writeRxBaud (putReceiver r p s n) n (bodyWord r 8) := rfl

theorem setReceiver_only (r : Req) (p : Nat × Nat) (s : State) (n : Nat) : onlyReceivers s (setReceiver r p s n) :=
  onlyReceivers_trans (onlyReceivers_putReg (onlyReceivers_putReg (onlyReceivers_set (onlyReceivers_set (onlyReceivers_putReg
    (onlyReceivers_putReg (onlyReceivers_refl s) _ _ _ _) _ _ _ _) _ _ _) _ _ _) _ _ _ _) _ _ _ _) (writeRxBaud_only _ n _)

theorem setReceiver_step (r : Req) (p : Nat × Nat) (s : State) (n : Nat) (hn : n < 65536) :
    RxStep n s (setReceiver r p s n) :=
  ((((((rxStep_putReg s n 0 _ hn (by decide)).trans (rxStep_putReg _ n 8 _ hn (by decide))).trans
    (rxStep_set _ F.rx_PROG_LOW n _ hn (by decide) rfl)).trans (rxStep_set _ F.rx_PROG_HIGH n _ hn (by decide) rfl)).trans
    (rxStep_putReg _ n 0xC _ hn (by decide))).trans (rxStep_putReg _ n 0x10 _ hn (by decide))).trans
    (writeRxBaud_step _ n _ hn)

/-- What LANE_RX_SET leaves in a receiver's registers. -/
def receiverWords (r : Req) (p : Nat × Nat) (n : Nat) (s t : State) : Prop :=
  rwWritten ⟨.laneRx, n, 0⟩ (BitVec.ofNat 32 (u32 r.body 4)) s t ∧ t.reg ⟨.laneRx, n, 4⟩ = BitVec.ofNat 32 (u32 r.body 8) ∧
    t.get F.rx_PROG_LOW n = p.1 ∧ t.get F.rx_PROG_HIGH n = p.2 ∧
    (∀ f ∈ [F.rx_PROG_KEY, F.rx_KEY_DOLLAR, F.rx_KEY_BANG, F.rx_KEY_PCT, F.rx_KEY_PROG],
      t.get f n = bits (u32 r.body 12) f.lo f.width) ∧
    rwWritten ⟨.laneRx, n, 12⟩ (BitVec.ofNat 32 (u32 r.body 16)) s t ∧
    rwWritten ⟨.laneRx, n, 16⟩ (BitVec.ofNat 32 (u32 r.body 20)) s t

theorem bits_ofNat (v lo w : Nat) (h : lo + w ≤ 32) : bits (BitVec.ofNat 32 v).toNat lo w = bits v lo w := by
  apply Nat.eq_of_testBit_eq
  intro k
  rw [testBit_bits, testBit_bits]
  by_cases hk : k < w
  · rw [BitVec.testBit_toNat, BitVec.getLsbD_ofNat, decide_eq_true (show lo + k < 32 by omega), Bool.true_and]
  · simp only [decide_eq_false hk, Bool.false_and]

/-- An RW field takes the bits that the word has for it. -/
theorem get_putReg (s : State) (f : Field) (i : Nat) (v : Nat) (hf : f.fits)
    (h : ∀ k, k < f.width → (regMask (f.addr i) (fun a => a == .rw)).getLsbD (f.lo + k) = true) :
    (putReg s f.blk i f.off (BitVec.ofNat 32 v)).get f i = bits v f.lo f.width := by
  have hword : rwWritten (f.addr i) (BitVec.ofNat 32 v) s (putReg s f.blk i f.off (BitVec.ofNat 32 v)) := rwWritten_putReg _ _ _ _ _
  rw [State.get, hword, bits_masked _ _ _ f h, bits_ofNat v _ _ hf]

theorem rwWritten_of_reg {s u t : State} {q : RegAddr} {w : Word} (hsu : u.reg q = s.reg q) (h : rwWritten q w u t) :
    rwWritten q w s t := by
  rw [rwWritten, ← hsu]
  exact h

/-- The key register's fields that the body's word gives: RW, and none of the runs' bits among theirs. -/
theorem keyFields_apart : ∀ f ∈ [F.rx_PROG_KEY, F.rx_KEY_DOLLAR, F.rx_KEY_BANG, F.rx_KEY_PCT, F.rx_KEY_PROG],
    f.blk = .laneRx ∧ f.off = 8 ∧ f.fits ∧
    (F.rx_PROG_LOW.lo + F.rx_PROG_LOW.width ≤ f.lo ∨ f.lo + f.width ≤ F.rx_PROG_LOW.lo) ∧
    (F.rx_PROG_HIGH.lo + F.rx_PROG_HIGH.width ≤ f.lo ∨ f.lo + f.width ≤ F.rx_PROG_HIGH.lo) ∧
    ∀ k, k < f.width → (regMask ⟨.laneRx, 0, 8⟩ (fun a => a == .rw)).getLsbD (f.lo + k) = true := by decide

theorem setReceiver_puts (r : Req) (p : Nat × Nat) (s : State) (n : Nat) (hp : p.1 < 16 ∧ p.2 < 16) :
    receiverWords r p n s (setReceiver r p s n) := by
  have hkey : (setReceiver r p s n).reg ⟨.laneRx, n, 8⟩ = (((putReg (putReg s .laneRx n 0 (bodyWord r 4)) .laneRx n 8
      (bodyWord r 12)).set F.rx_PROG_LOW n p.1).set F.rx_PROG_HIGH n p.2).reg ⟨.laneRx, n, 8⟩ := by
    rw [setReceiver_eq, writeRxBaud_reg_off _ _ _ _ _ _ (by decide), putReceiver, reg_putReg_off _ _ _ _ _ _ _ _ (by decide),
      reg_putReg_off _ _ _ _ _ _ _ _ (by decide)]
  refine ⟨?_, writeRxBaud_reg_self _ n _, ?_, ?_, ?_, ?_, ?_⟩
  · rw [rwWritten, setReceiver_eq, writeRxBaud_reg_off _ _ _ _ _ _ (by decide), putReceiver, reg_putReg_off _ _ _ _ _ _ _ _ (by decide),
      reg_putReg_off _ _ _ _ _ _ _ _ (by decide), reg_set_off _ _ _ _ _ _ _ (by decide), reg_set_off _ _ _ _ _ _ _ (by decide),
      reg_putReg_off _ _ _ _ _ _ _ _ (by decide)]
    exact rwWritten_putReg s .laneRx n 0 _
  · rw [get_of_reg (f := F.rx_PROG_LOW) hkey, State.get_set_beside _ F.rx_PROG_HIGH F.rx_PROG_LOW n _ rfl rfl (by decide) (by decide),
      State.get_set_self _ _ (by decide)]
    exact Nat.mod_eq_of_lt hp.1
  · rw [get_of_reg (f := F.rx_PROG_HIGH) hkey, State.get_set_self _ _ (by decide)]
    exact Nat.mod_eq_of_lt hp.2
  · intro f hf
    obtain ⟨hblk, hoff, hfits, hlow, hhigh, hmask⟩ := keyFields_apart f hf
    have haddr : f.addr n = ⟨.laneRx, n, 8⟩ := by rw [Field.addr, hblk, hoff]
    have hput := get_putReg (putReg s .laneRx n 0 (bodyWord r 4)) f n (u32 r.body 12) hfits (by rw [haddr]; exact hmask)
    rw [hblk, hoff] at hput
    rw [get_of_reg (haddr ▸ hkey), State.get_set_beside _ F.rx_PROG_HIGH f n _ hblk.symm hoff.symm hfits hhigh,
      State.get_set_beside _ F.rx_PROG_LOW f n _ hblk.symm hoff.symm hfits hlow]
    exact hput
  · rw [rwWritten, setReceiver_eq, writeRxBaud_reg_off _ _ _ _ _ _ (by decide), putReceiver, reg_putReg_off _ _ _ _ _ _ _ _ (by decide)]
    refine rwWritten_of_reg ?_ (rwWritten_putReg _ .laneRx n 0xC _)
    rw [reg_set_off _ _ _ _ _ _ _ (by decide), reg_set_off _ _ _ _ _ _ _ (by decide), reg_putReg_off _ _ _ _ _ _ _ _ (by decide),
      reg_putReg_off _ _ _ _ _ _ _ _ (by decide)]
  · rw [rwWritten, setReceiver_eq, writeRxBaud_reg_off _ _ _ _ _ _ (by decide), putReceiver]
    refine rwWritten_of_reg ?_ (rwWritten_putReg _ .laneRx n 0x10 _)
    rw [reg_putReg_off _ _ _ _ _ _ _ _ (by decide), reg_set_off _ _ _ _ _ _ _ (by decide), reg_set_off _ _ _ _ _ _ _ (by decide),
      reg_putReg_off _ _ _ _ _ _ _ _ (by decide), reg_putReg_off _ _ _ _ _ _ _ _ (by decide)]

theorem receiverWords_same {r : Req} {p : Nat × Nat} {n : Nat} {s u v t : State} (hsu : SameAt n s u) (hvt : SameAt n v t)
    (hn : n < 65536) (h : receiverWords r p n u v) : receiverWords r p n s t := by
  obtain ⟨hcfg, hbaud, hlow, hhigh, hkeys, hlimits, htimes⟩ := h
  refine ⟨rwWritten_same hsu hvt rfl hn (by decide : 0 < 65536) hcfg, ?_, ?_, ?_, fun f hf => ?_,
    rwWritten_same hsu hvt rfl hn (by decide : 12 < 65536) hlimits,
    rwWritten_same hsu hvt rfl hn (by decide : 16 < 65536) htimes⟩
  · rw [hvt.reg ⟨.laneRx, n, 4⟩ hn (by decide : 4 < 65536) (Or.inl rfl), hbaud]
  · rw [hvt.get _ hn (by decide), hlow]
  · rw [hvt.get _ hn (by decide), hhigh]
  · obtain ⟨-, hoff, -⟩ := keyFields_apart f hf
    rw [hvt.get f hn (by rw [hoff]; decide), hkeys f hf]

/-- The runs of a key fit their fields. -/
theorem progRuns_lt {key d : Nat} (hd : d ≤ 8) {p : Nat × Nat} (h : progRuns key d = some p) : p.1 < 16 ∧ p.2 < 16 := by
  simp only [progRuns] at h
  split at h
  · cases h
  · obtain rfl := Option.some.inj h
    have hlen : (false :: (List.range d).map (fun i => key.testBit i)).length = d + 1 := by simp
    have hlow := (List.takeWhile_sublist (l := false :: (List.range d).map (fun i => key.testBit i)) (fun b => !b)).length_le
    have hhigh := ((List.takeWhile_sublist (fun b : Bool => b)).trans (List.drop_sublist
      ((false :: (List.range d).map (fun i => key.testBit i)).takeWhile (fun b => !b)).length
      (false :: (List.range d).map (fun i => key.testBit i)))).length_le
    rw [hlen] at hlow hhigh
    exact ⟨by omega, by omega⟩

/-- LANE_RX_SET over roles: each lane's receiver words, and no other lane's registers. -/
theorem setReceiver_run (r : Req) (p : Nat × Nat) (hp : p.1 < 16 ∧ p.2 < 16) (roles : List Nat) (hnodup : roles.Nodup) (s : State) :
    onlyReceivers s (onRoles (setReceiver r p) roles s) ∧
      (∀ role ∈ roles, ∀ n, roleLane s role = some n → receiverWords r p n s (onRoles (setReceiver r p) roles s)) ∧
      keepsRegsOutside (ofRoles s roles) s (onRoles (setReceiver r p) roles s) := by
  have hop := roleOp_of_rxStep (setReceiver_step r p)
  refine ⟨onRoles_induct onlyReceivers_refl onlyReceivers_trans (setReceiver_only r p) _ s, fun role hrole n hl => ?_,
    onRoles_others hop _ s⟩
  obtain ⟨u, hsu, hut⟩ := onRoles_done hop roles hnodup s hrole hl
  exact receiverWords_same hsu hut (roleLane_lt hl) (setReceiver_puts r p u n hp)

/-- The runs that a LANE_RX_SET body gives its programmed key. -/
def sentRuns (r : Req) : Option (Nat × Nat) :=
  if bits (u32 r.body 12) 19 1 = 1 then progRuns (bits (u32 r.body 12) 0 8) (if flag r.body 4 0 = true then 7 else 8) else some (0, 0)

theorem sentRuns_lt {r : Req} {p : Nat × Nat} (h : sentRuns r = some p) : p.1 < 16 ∧ p.2 < 16 := by
  unfold sentRuns at h
  split at h
  · exact progRuns_lt (by split <;> decide) h
  · cases h
    decide

theorem laneRxSet_done {r : Req} {s : State} (htakes : takes s r = true) (hcount : 0 < u16 r.body 2)
    (hfit : u16 r.body 0 + u16 r.body 2 ≤ s.part.lanes) (hlen : r.body.length = 24) (hparity : fld r.body 4 1 2 ≠ 3) {p : Nat × Nat}
    (hruns : sentRuns r = some p) (hkeys : flag r.body 4 4 = true → keyRuns (u32 r.body 12) (some p) ≠ [])
    (hamb : ambiguous (keyRuns (u32 r.body 12) (some p)) = false) (hparked : (rangeOf r.body).any (roleParked s) = false) :
    exec (.laneRxSet r) s = .next (answered 0x0202 true r (onRoles (setReceiver r p) (rangeOf r.body) s) []) := by
  have hpass : ∀ c ∈ [(fld r.body 4 1 2 == 3, St.badArg), ((some p).isNone, St.badArg),
      (flag r.body 4 4 && (keyRuns (u32 r.body 12) (some p)).isEmpty, St.badArg),
      (ambiguous (keyRuns (u32 r.body 12) (some p)), St.badArg)], c.1 = false := by
    have hempty : (flag r.body 4 4 && (keyRuns (u32 r.body 12) (some p)).isEmpty) = false := by
      cases hf : flag r.body 4 4 with
      | false => rfl
      | true => simpa using hkeys hf
    simp only [List.forall_mem_cons, hempty, hamb, beq_eq_false_iff_ne.2 hparity, Option.isNone_some, true_and]
    exact fun _ h => absurd h List.not_mem_nil
  have hcmd : cmdLaneRxSet r s = ok (onRoles (setReceiver r p) (rangeOf r.body) s) [] := by
    rw [cmdLaneRxSet, sized_of hlen, ← roleRange_of hcount hfit hpass hparked]
    unfold sentRuns at hruns
    simp only [beq_iff_eq, hruns, Option.getD_some]
  rw [exec, execLaneRxSet, cmdRow_taken htakes, hcmd, finish_ok]

/-! ### Registers alone -/

/-- Only registers may differ. -/
def regsOnly (s t : State) : Prop := t = { s with regs := t.regs }

theorem regsOnly_refl (s : State) : regsOnly s s := rfl

theorem regsOnly_trans {s t u : State} (h : regsOnly s t) (k : regsOnly t u) : regsOnly s u := by
  unfold regsOnly at *
  rw [k, h]

/-! ### LANE_TX_SET (R118, R497) -/

theorem putRegs_step (b : Blk) (n o : Nat) (ws : List Word) (s : State) (hblk : b = .laneRx ∨ b = .laneTx) (hn : n < 65536)
    (ho : o + 4 * ws.length < 65536) : LaneStep n s (putRegs s b n o ws) := by
  induction ws generalizing s o with
  | nil => exact LaneStep.refl n s
  | cons w ws ih =>
    rw [List.length_cons] at ho
    exact (laneStep_putReg s b n o w hn (by omega) hblk).trans (ih (o + 4) _ (by omega))

theorem putRegs_only (b : Blk) (n o : Nat) (ws : List Word) (s : State) : regsOnly s (putRegs s b n o ws) := by
  induction ws generalizing s o with
  | nil => exact regsOnly_refl s
  | cons w ws ih => exact regsOnly_trans (t := putReg s b n o w) rfl (ih (o + 4) _)

/-- Registers below the first written stand. -/
theorem putRegs_reg_below (b : Blk) (n o : Nat) (ws : List Word) (s : State) (c : Blk) (j p : Nat) (hp : p < o)
    (ho : o + 4 * ws.length < 65536) : (putRegs s b n o ws).reg ⟨c, j, p⟩ = s.reg ⟨c, j, p⟩ := by
  induction ws generalizing s o with
  | nil => rfl
  | cons w ws ih =>
    rw [List.length_cons] at ho
    rw [putRegs, ih (o + 4) _ (by omega) (by omega), reg_putReg_off _ _ _ _ _ _ _ _ (by omega)]

theorem putRegs_puts (b : Blk) (n o : Nat) (ws : List Word) (s : State) (ho : o + 4 * ws.length < 65536) (k : Nat)
    (hk : k < ws.length) : rwWritten ⟨b, n, o + 4 * k⟩ ws[k] s (putRegs s b n o ws) := by
  induction ws generalizing s o k with
  | nil => cases hk
  | cons w ws ih =>
    rw [List.length_cons] at ho hk
    cases k with
    | zero =>
      rw [rwWritten, putRegs, putRegs_reg_below _ _ _ _ _ _ _ _ (by omega) (by omega)]
      exact rwWritten_putReg s b n o w
    | succ k =>
      have h := ih (o + 4) (putReg s b n o w) (by omega) k (by omega)
      rw [show o + 4 * (k + 1) = o + 4 + 4 * k by omega]
      exact rwWritten_of_reg (reg_putReg_off _ _ _ _ _ _ _ _ (by omega)) h

/-- The words that a body carries from an offset. -/
theorem bodyWords_get (r : Req) (o n k : Nat) (hk : k < (bodyWords r o n).length) :
    (bodyWords r o n)[k] = BitVec.ofNat 32 (u32 r.body (o + 4 * k)) := by
  simp only [bodyWords, toWords, List.getElem_map, List.getElem_range, u32, slice, List.drop_drop]

theorem bodyWords_length (r : Req) (o n : Nat) : (bodyWords r o n).length = n := by simp [bodyWords, toWords]

/-- The transmitter's eight words of LANE_TX_SET. -/
def setTransmitter (r : Req) (s : State) (n : Nat) : State := putRegs s .laneTx n 4 (bodyWords r 4 8)

theorem setTransmitter_op (r : Req) : RoleOp (setTransmitter r) where
  step u n hn := putRegs_step _ _ _ _ u (Or.inr rfl) hn (by rw [bodyWords_length]; decide)
  role u n _ := get_of_reg (putRegs_reg_below _ _ _ _ u .laneTx n 0 (by decide) (by rw [bodyWords_length]; decide))

theorem setTransmitter_puts (r : Req) (s : State) (n k : Nat) (hk : k < 8) :
    rwWritten ⟨.laneTx, n, 4 + 4 * k⟩ (BitVec.ofNat 32 (u32 r.body (4 + 4 * k))) s (setTransmitter r s n) := by
  have hlen : k < (bodyWords r 4 8).length := by rw [bodyWords_length]; exact hk
  have h := putRegs_puts .laneTx n 4 (bodyWords r 4 8) s (by rw [bodyWords_length]; decide) k hlen
  rw [bodyWords_get] at h
  exact h

/-- LANE_TX_SET over roles: each lane's transmitter words, and no other lane's registers. -/
theorem setTransmitter_run (r : Req) (roles : List Nat) (hnodup : roles.Nodup) (s : State) :
    regsOnly s (onRoles (setTransmitter r) roles s) ∧
      (∀ role ∈ roles, ∀ n, roleLane s role = some n → ∀ k, k < 8 → rwWritten ⟨.laneTx, n, 4 + 4 * k⟩
        (BitVec.ofNat 32 (u32 r.body (4 + 4 * k))) s (onRoles (setTransmitter r) roles s)) ∧
      keepsRegsOutside (ofRoles s roles) s (onRoles (setTransmitter r) roles s) := by
  refine ⟨onRoles_induct regsOnly_refl regsOnly_trans (fun u n => putRegs_only _ _ _ _ u) _ s, fun role hrole n hl k hk => ?_,
    onRoles_others (setTransmitter_op r) _ s⟩
  obtain ⟨u, hsu, hut⟩ := onRoles_done (setTransmitter_op r) roles hnodup s hrole hl
  exact rwWritten_same hsu hut rfl (roleLane_lt hl) (by simp only; omega) (setTransmitter_puts r u n k hk)

theorem laneTxSet_done {r : Req} {s : State} (htakes : takes s r = true) (hcount : 0 < u16 r.body 2)
    (hfit : u16 r.body 0 + u16 r.body 2 ≤ s.part.lanes) (hlen : r.body.length = 36) (hparity : fld r.body 4 1 2 ≠ 3)
    (hstall : fld r.body 32 19 8 < 240) (hcapt : fld r.body 32 0 2 = 0 ∨ s.on F.stall_MODE (fld r.body 32 19 8) = false ∧
      capNames s 8 (fld r.body 32 19 8) = false) (hparked : (rangeOf r.body).any (roleParked s) = false) :
    exec (.laneTxSet r) s = .next (answered 0x0203 true r (onRoles (setTransmitter r) (rangeOf r.body) s) []) := by
  have hpass : ∀ c ∈ [(fld r.body 4 1 2 == 3, St.badArg), (decide (240 ≤ fld r.body 32 19 8), St.badArg),
      (fld r.body 32 0 2 != 0 && (s.on F.stall_MODE (fld r.body 32 19 8) || capNames s 8 (fld r.body 32 19 8)), St.badArg)],
      c.1 = false := by
    have hthird : (fld r.body 32 0 2 != 0 && (s.on F.stall_MODE (fld r.body 32 19 8) || capNames s 8 (fld r.body 32 19 8))) = false := by
      obtain h | ⟨h1, h2⟩ := hcapt
      · simp [h]
      · simp [h1, h2]
    simp only [List.forall_mem_cons, hthird, beq_eq_false_iff_ne.2 hparity, decide_eq_false (Nat.not_le.2 hstall), true_and]
    exact fun _ h => absurd h List.not_mem_nil
  rw [exec, execLaneTxSet, cmdRow_taken htakes, cmdLaneTxSet, sized_of hlen]
  exact congrArg _ ((congrArg _ (roleRange_of hcount hfit hpass hparked (setTransmitter r))).trans (finish_ok _ _ _ _ _))

/-! ### LANE_EVEN_SET (R90, R122, R497) -/

/-- The enables of a lane's receiver and transmitter. -/
def setEnables (r : Req) (s : State) (n : Nat) : State :=
  putReg (putReg s .laneRx n 0x1C (bodyWord r 4)) .laneTx n 0x34 (bodyWord r 8)

theorem setEnables_op (r : Req) : LaneOp (setEnables r) where
  step u n hn := (laneStep_putReg u .laneRx n 0x1C _ hn (by decide) (by decide)).trans
    (laneStep_putReg _ .laneTx n 0x34 _ hn (by decide) (by decide))

theorem setEnables_only (r : Req) (s : State) (n : Nat) : regsOnly s (setEnables r s n) := rfl

theorem setEnables_puts (r : Req) (s : State) (n : Nat) :
    rwWritten ⟨.laneRx, n, 0x1C⟩ (bodyWord r 4) s (setEnables r s n) ∧ rwWritten ⟨.laneTx, n, 0x34⟩ (bodyWord r 8) s (setEnables r s n) := by
  constructor
  · rw [rwWritten, setEnables, reg_putReg_off _ _ _ _ _ _ _ _ (by decide)]
    exact rwWritten_putReg s .laneRx n 0x1C _
  · exact rwWritten_of_reg (reg_putReg_off _ _ _ _ _ _ _ _ (by decide)) (rwWritten_putReg _ .laneTx n 0x34 _)

/-- LANE_EVEN_SET over lanes: each powered lane's enables, and no other lane's registers. -/
theorem setEnables_run (r : Req) (lanes : List Nat) (hnodup : lanes.Nodup) (s : State) :
    regsOnly s (onLanes (setEnables r) lanes s) ∧
      (∀ n ∈ lanes, s.laneUp n = true → rwWritten ⟨.laneRx, n, 0x1C⟩ (bodyWord r 4) s (onLanes (setEnables r) lanes s) ∧
        rwWritten ⟨.laneTx, n, 0x34⟩ (bodyWord r 8) s (onLanes (setEnables r) lanes s)) ∧
      keepsRegsOutside (ofLanes lanes) s (onLanes (setEnables r) lanes s) := by
  refine ⟨onLanes_induct regsOnly_refl regsOnly_trans (setEnables_only r) _ s, fun n hmem hup => ?_,
    onLanes_others (setEnables_op r) _ s⟩
  obtain ⟨u, hsu, hut⟩ := onLanes_done (setEnables_op r) lanes hnodup s hmem hup
  obtain ⟨hrx, htx⟩ := setEnables_puts r u n
  exact ⟨rwWritten_same hsu hut rfl (laneUp_lt hup) (by decide : 0x1C < 65536) hrx,
    rwWritten_same hsu hut rfl (laneUp_lt hup) (by decide : 0x34 < 65536) htx⟩

theorem laneEvenSet_done {r : Req} {s : State} (htakes : takes s r = true) (hcount : 0 < u16 r.body 2)
    (hfit : u16 r.body 0 + u16 r.body 2 ≤ s.part.lanes) (hlen : r.body.length = 12) :
    exec (.laneEvenSet r) s = .next (answered 0x0206 true r (onLanes (setEnables r) (rangeOf r.body) s) []) := by
  rw [exec, execLaneEvenSet, cmdRow_taken htakes, cmdLaneEvenSet, sized_of hlen,
    laneRange_of hcount hfit (fun _ h => absurd h List.not_mem_nil), finish_ok]
  rfl

/-! ### LANE_CNT_CLR (R85, R118, R497) -/

theorem clear_nil (s : State) (i : Nat) : s.clear [] i = s := rfl

theorem clear_cons (s : State) (f : Field) (fs : List Field) (i : Nat) : s.clear (f :: fs) i = (s.set f i 0).clear fs i := rfl

theorem clear_only (fs : List Field) (s : State) (i : Nat) : regsOnly s (s.clear fs i) := by
  induction fs generalizing s with
  | nil => exact regsOnly_refl s
  | cons f fs ih => exact regsOnly_trans (t := s.set f i 0) rfl (ih _)

theorem clear_step (fs : List Field) (hfs : ∀ f ∈ fs, f.off < 65536 ∧ (f.blk = .laneRx ∨ f.blk = .laneTx)) (s : State) (n : Nat)
    (hn : n < 65536) : LaneStep n s (s.clear fs n) := by
  induction fs generalizing s with
  | nil => exact LaneStep.refl n s
  | cons f fs ih =>
    obtain ⟨⟨ho, hblk⟩, hrest⟩ := List.forall_mem_cons.1 hfs
    exact (laneStep_set s f n 0 hn ho hblk).trans (ih hrest _)

/-- The bits of a register that the fields cover. -/
def coveredBit (fs : List Field) (b : Blk) (o k : Nat) : Bool :=
  fs.any (fun f => decide (f.blk = b) && f.off == o && decide (f.lo ≤ k) && decide (k < f.lo + f.width))

/-- Clearing fields clears the bits they cover and no other. -/
theorem clear_bit (fs : List Field) (hfs : ∀ f ∈ fs, f.off < 65536) (s : State) (b : Blk) (n o k : Nat) (hn : n < 65536)
    (ho : o < 65536) (hk : k < 32) : ((s.clear fs n).reg ⟨b, n, o⟩).getLsbD k =
      ((s.reg ⟨b, n, o⟩).getLsbD k && !coveredBit fs b o k) := by
  induction fs generalizing s with
  | nil => simp [clear_nil, coveredBit]
  | cons f fs ih =>
    obtain ⟨hfo, hrest⟩ := List.forall_mem_cons.1 hfs
    rw [clear_cons, ih hrest]
    have hset : ((s.set f n 0).reg ⟨b, n, o⟩).getLsbD k = ((s.reg ⟨b, n, o⟩).getLsbD k &&
        !(decide (f.blk = b) && f.off == o && decide (f.lo ≤ k) && decide (k < f.lo + f.width))) := by
      by_cases haddr : f.blk = b ∧ f.off = o
      · obtain ⟨rfl, rfl⟩ := haddr
        have hreg : (s.set f n 0).reg ⟨f.blk, n, f.off⟩ = putField (s.reg ⟨f.blk, n, f.off⟩) f 0 := s.reg_setReg_self _ _
        rw [hreg, ← BitVec.testBit_toNat, testBit_putField _ _ _ _ hk, ← BitVec.testBit_toNat]
        by_cases hin : f.lo ≤ k ∧ k < f.lo + f.width
        · simp [hin.1, hin.2]
        · rw [if_neg hin]
          have hcov : (decide (f.lo ≤ k) && decide (k < f.lo + f.width)) = false := by simpa using hin
          simp [hcov]
      · have hreg : (s.set f n 0).reg ⟨b, n, o⟩ = s.reg ⟨b, n, o⟩ :=
          s.reg_setReg_ne (r := f.addr n) hn hfo hn ho (fun e => haddr ⟨by cases e; rfl, by cases e; rfl⟩) _
        have hcov : (decide (f.blk = b) && f.off == o) = false := by simpa using haddr
        rw [hreg, hcov]
        simp
    rw [hset, coveredBit, coveredBit, List.any_cons, Bool.not_or, Bool.and_assoc]

/-- The receiver counters that CNT_CLR clears. -/
def rxCounters : List Field := [F.rx_CHARS, F.rx_N_FALSE_START, F.rx_N_FRAMING, F.rx_N_PARITY, F.rx_N_BREAK, F.rx_N_OVERRUN,
  F.rx_N_FRAGMENT, F.rx_N_AB_REJECT, F.rx_STUCK_CNT, F.rx_SILENT_CNT]

/-- The transmitter counters that CNT_CLR clears. -/
def txCounters : List Field := [F.tx_SENT, F.tx_N_COLLISION, F.tx_N_TX_DROP, F.tx_N_TX_ABORT, F.tx_DMX_PKTS, F.tx_N_DMX_SHORT,
  F.tx_N_DMX_UPD_ERR, F.tx_EDGES]

/-- Both counter sets of a lane cleared. -/
def clearLane (s : State) (n : Nat) : State := clearTxCounters (clearRxCounters s n) n

theorem clearRxCounters_eq (s : State) (n : Nat) :
    clearRxCounters s n = (s.clear rxCounters n).set F.rx_PEAK n (s.get F.rx_LEVEL n) := rfl

theorem clearTxCounters_eq (s : State) (n : Nat) : clearTxCounters s n = s.clear txCounters n := rfl

theorem clearLane_op : LaneOp clearLane where
  step u n hn := by
    have hrx := clear_step rxCounters (by decide) u n hn
    have hpeak := laneStep_set (u.clear rxCounters n) F.rx_PEAK n (u.get F.rx_LEVEL n) hn (by decide) (by decide)
    exact (hrx.trans hpeak).trans (clear_step txCounters (by decide) _ n hn)

theorem regsOnly_set (s : State) (f : Field) (i v : Nat) : regsOnly s (s.set f i v) := rfl

theorem clearLane_only (s : State) (n : Nat) : regsOnly s (clearLane s n) :=
  regsOnly_trans (regsOnly_trans (clear_only rxCounters s n) (regsOnly_set _ F.rx_PEAK n (s.get F.rx_LEVEL n)))
    (clear_only txCounters _ n)

/-- The transmitter's counters leave the receiver's registers. -/
theorem clearTx_rxReg (s : State) (n o : Nat) (hn : n < 65536) (ho : o < 65536) :
    (s.clear txCounters n).reg ⟨.laneRx, n, o⟩ = s.reg ⟨.laneRx, n, o⟩ := by
  apply BitVec.eq_of_getLsbD_eq
  intro k hk
  rw [clear_bit txCounters (by decide) s .laneRx n o k hn ho hk]
  simp [coveredBit, txCounters, F.tx_SENT, F.tx_N_COLLISION, F.tx_N_TX_DROP, F.tx_N_TX_ABORT, F.tx_DMX_PKTS, F.tx_N_DMX_SHORT,
    F.tx_N_DMX_UPD_ERR, F.tx_EDGES]

theorem reg_clear_covered {fs : List Field} (hfs : ∀ f ∈ fs, f.off < 65536) (s : State) (b : Blk) (n o : Nat) (hn : n < 65536)
    (ho : o < 65536) (hcov : ∀ k, k < 32 → coveredBit fs b o k = true) : (s.clear fs n).reg ⟨b, n, o⟩ = 0 := by
  apply BitVec.eq_of_getLsbD_eq
  intro k hk
  rw [clear_bit fs hfs s b n o k hn ho hk, hcov k hk]
  simp

theorem rxCounters_cover : ∀ j, j < 9 → ∀ k, k < 32 → coveredBit rxCounters .laneRx (0x24 + 4 * j) k = true := by decide +kernel

theorem txCounters_cover : ∀ j, j < 8 → ∀ k, k < 32 → coveredBit txCounters .laneTx (0x38 + 4 * j) k = true := by decide +kernel

/-- Every counter of the lane reads 0, and PEAK starts again at LEVEL (R91). -/
theorem clearLane_reads (s : State) (n : Nat) (hn : n < 65536) :
    (∀ o, 0x24 ≤ o → o ≤ 0x44 → o % 4 = 0 → (clearLane s n).reg ⟨.laneRx, n, o⟩ = 0) ∧
      (∀ o, 0x38 ≤ o → o ≤ 0x54 → o % 4 = 0 → (clearLane s n).reg ⟨.laneTx, n, o⟩ = 0) ∧
      (clearLane s n).get F.rx_PEAK n = s.get F.rx_LEVEL n % 4096 := by
  rw [clearLane, clearTxCounters_eq, clearRxCounters_eq]
  refine ⟨fun o hlo hhi hal => ?_, fun o hlo hhi hal => ?_, ?_⟩
  · obtain ⟨j, rfl⟩ : ∃ j, o = 0x24 + 4 * j := ⟨(o - 0x24) / 4, by omega⟩
    have hpeak : F.rx_PEAK.off = 0x20 := rfl
    rw [clearTx_rxReg _ n _ hn (by omega), reg_set_off _ _ _ _ _ _ _ (by omega)]
    exact reg_clear_covered (by decide) s .laneRx n _ hn (by omega) (rxCounters_cover j (by omega))
  · obtain ⟨j, rfl⟩ : ∃ j, o = 0x38 + 4 * j := ⟨(o - 0x38) / 4, by omega⟩
    exact reg_clear_covered (by decide) _ .laneTx n _ hn (by omega) (txCounters_cover j (by omega))
  · rw [get_of_reg (f := F.rx_PEAK) (clearTx_rxReg _ n 0x20 hn (by decide))]
    exact State.get_set_self _ F.rx_PEAK (by decide) n _

/-- LANE_CNT_CLR over lanes: each powered lane's counters, and no other lane's registers. -/
theorem clearLane_run (lanes : List Nat) (hnodup : lanes.Nodup) (s : State) :
    regsOnly s (onLanes clearLane lanes s) ∧
      (∀ n ∈ lanes, s.laneUp n = true →
        (∀ o, 0x24 ≤ o → o ≤ 0x44 → o % 4 = 0 → (onLanes clearLane lanes s).reg ⟨.laneRx, n, o⟩ = 0) ∧
        (∀ o, 0x38 ≤ o → o ≤ 0x54 → o % 4 = 0 → (onLanes clearLane lanes s).reg ⟨.laneTx, n, o⟩ = 0) ∧
        (onLanes clearLane lanes s).get F.rx_PEAK n = s.get F.rx_LEVEL n % 4096) ∧
      keepsRegsOutside (ofLanes lanes) s (onLanes clearLane lanes s) := by
  refine ⟨onLanes_induct regsOnly_refl regsOnly_trans clearLane_only _ s, fun n hmem hup => ?_, onLanes_others clearLane_op _ s⟩
  have hn := laneUp_lt hup
  obtain ⟨u, hsu, hut⟩ := onLanes_done clearLane_op lanes hnodup s hmem hup
  obtain ⟨hrx, htx, hpeak⟩ := clearLane_reads u n hn
  refine ⟨fun o hlo hhi hal => ?_, fun o hlo hhi hal => ?_, ?_⟩
  · rw [hut.reg ⟨.laneRx, n, o⟩ hn (by simp only; omega) (Or.inl rfl), hrx o hlo hhi hal]
  · rw [hut.reg ⟨.laneTx, n, o⟩ hn (by simp only; omega) (Or.inl rfl), htx o hlo hhi hal]
  · rw [hut.get _ hn (by decide), hpeak, hsu.get _ hn (by decide)]

theorem laneCntClr_done {r : Req} {s : State} (htakes : takes s r = true) (hcount : 0 < u16 r.body 2)
    (hfit : u16 r.body 0 + u16 r.body 2 ≤ s.part.lanes) (hlen : r.body.length = 4) :
    exec (.laneCntClr r) s = .next (answered 0x0205 false r (onLanes clearLane (rangeOf r.body) s) []) := by
  rw [exec, execLaneCntClr, cmdRow_taken htakes, cmdLaneCntClr, sized_of hlen,
    laneRange_of hcount hfit (fun _ h => absurd h List.not_mem_nil), finish_ok]
  rfl

/-! ### LANE_REARM (R71, R79, R497) -/

/-- Only registers, receivers and firings may differ. -/
def receiversFired (s t : State) : Prop := t = { s with regs := t.regs, rx := t.rx, fired := t.fired }

theorem receiversFired_refl (s : State) : receiversFired s s := rfl

theorem receiversFired_trans {s t u : State} (h : receiversFired s t) (k : receiversFired t u) : receiversFired s u := by
  unfold receiversFired at *
  rw [k, h]

theorem receiversFired_raise (s : State) (f ev : Field) (i b e : Nat) : receiversFired s (raise s f ev i b e) := by
  rw [raise_rest]
  rfl

theorem rxStep_raise (s : State) (f ev : Field) (n b e : Nat) (hn : n < 65536) (ho : f.off < 65536) (hblk : f.blk = .laneRx) :
    RxStep n s (raise s f ev n b e) :=
  ⟨laneStep_raise s f ev n b e hn ho (Or.inl hblk), fun k o hk hko => by
    rw [raise_reg]
    split
    · rfl
    · exact (rxStep_set s f n _ hn ho hblk).txReg k o hk hko⟩

theorem dropLock_step (s : State) (n : Nat) (hn : n < 65536) : RxStep n s (dropLock s n) :=
  (rxStep_set s F.rx_LOCKED n 0 hn (by decide) rfl).trans (rxStep_set _ F.rx_LOCKED_KEY n 0 hn (by decide) rfl)

theorem dropLock_only (s : State) (n : Nat) : receiversFired s (dropLock s n) := rfl

theorem abSearch_step (s : State) (n : Nat) (hn : n < 65536) : RxStep n s (abSearch s n) :=
  ((dropLock_step s n hn).trans (rxStep_set _ F.rx_STATE n 2 hn (by decide) rfl)).trans (rxStep_putRx _ n _)

theorem abSearch_only (s : State) (n : Nat) : receiversFired s (abSearch s n) :=
  receiversFired_trans (dropLock_only s n) rfl

/-- TALKER_SILENT before the lock is dropped. -/
def noteSilent (s : State) (n : Nat) : State :=
  let t := raiseRx ((s.set F.rx_SILENT n 1).inc F.rx_SILENT_CNT n) n Bit.rxSilentSet
  t.putRx n { t.rxLane n with silentDue := false, heard := false }

theorem noteSilent_step (s : State) (n : Nat) (hn : n < 65536) : RxStep n s (noteSilent s n) :=
  (((rxStep_set s F.rx_SILENT n 1 hn (by decide) rfl).trans (rxStep_set _ F.rx_SILENT_CNT n _ hn (by decide) rfl)).trans
    (rxStep_raise _ F.rx_FLAGS F.rx_EVEN n _ _ hn (by decide) rfl)).trans (rxStep_putRx _ n _)

theorem noteSilent_only (s : State) (n : Nat) : receiversFired s (noteSilent s n) :=
  receiversFired_trans (t := (s.set F.rx_SILENT n 1).inc F.rx_SILENT_CNT n) rfl
    (receiversFired_trans (receiversFired_raise _ _ _ _ _ _) rfl)

theorem raiseSilent_cases (s : State) (n : Nat) : raiseSilent s n = noteSilent s n ∨
    raiseSilent s n = dropLock (noteSilent s n) n ∨ raiseSilent s n = abSearch (dropLock (noteSilent s n) n) n := by
  unfold raiseSilent
  dsimp only
  split
  · exact Or.inl rfl
  · split
    · exact Or.inr (Or.inr rfl)
    · exact Or.inr (Or.inl rfl)

theorem raiseSilent_step (s : State) (n : Nat) (hn : n < 65536) : RxStep n s (raiseSilent s n) := by
  have hdrop := (noteSilent_step s n hn).trans (dropLock_step _ n hn)
  obtain h | h | h := raiseSilent_cases s n <;> rw [h]
  · exact noteSilent_step s n hn
  · exact hdrop
  · exact hdrop.trans (abSearch_step _ n hn)

theorem raiseSilent_only (s : State) (n : Nat) : receiversFired s (raiseSilent s n) := by
  have hdrop := receiversFired_trans (noteSilent_only s n) (dropLock_only _ n)
  obtain h | h | h := raiseSilent_cases s n <;> rw [h]
  · exact noteSilent_only s n
  · exact hdrop
  · exact receiversFired_trans hdrop (abSearch_only _ n)

/-- What REARM comes to on a lane. -/
theorem rearmLane_cases (s : State) (n : Nat) : rearmLane s n = s ∨ rearmLane s n = dropLock s n ∨
    rearmLane s n = raiseSilent (abSearch s n) n ∨ rearmLane s n = abSearch s n ∨ rearmLane s n = s.set F.rx_STATE n 3 := by
  unfold rearmLane
  dsimp only
  split
  · exact Or.inl rfl
  · split
    · split
      · exact Or.inr (Or.inl rfl)
      · exact Or.inl rfl
    · split
      · split
        · exact Or.inr (Or.inr (Or.inl rfl))
        · exact Or.inr (Or.inr (Or.inr (Or.inl rfl)))
      · split
        · exact Or.inr (Or.inr (Or.inr (Or.inr rfl)))
        · exact Or.inl rfl

theorem rearmLane_step (s : State) (n : Nat) (hn : n < 65536) : RxStep n s (rearmLane s n) := by
  obtain h | h | h | h | h := rearmLane_cases s n <;> rw [h]
  · exact RxStep.refl n s
  · exact dropLock_step s n hn
  · exact (abSearch_step s n hn).trans (raiseSilent_step _ n hn)
  · exact abSearch_step s n hn
  · exact rxStep_set s F.rx_STATE n 3 hn (by decide) rfl

theorem rearmLane_only (s : State) (n : Nat) : receiversFired s (rearmLane s n) := by
  obtain h | h | h | h | h := rearmLane_cases s n <;> rw [h]
  · exact receiversFired_refl s
  · exact dropLock_only s n
  · exact receiversFired_trans (abSearch_only s n) (raiseSilent_only _ n)
  · exact abSearch_only s n
  · rfl

/-- A waiting lane without autobaud is armed. -/
theorem rearmLane_arms (s : State) (n : Nat) (hmode : laneMode s n = 1 ∨ laneMode s n = 3) (hwait : rxState s n = 1)
    (hup : upstream s = true) (hign : (s.rxLane n).ignoring = false) (hab : s.on F.rx_AB_EN n = false) :
    rxState (rearmLane s n) n = 3 := by
  have hrec : receives (laneMode s n) = true := by obtain h | h := hmode <;> rw [h] <;> rfl
  have hset : rearmLane s n = s.set F.rx_STATE n 3 := by
    simp [rearmLane, hrec, hwait, hup, hign, autobaudOn, hab]
  rw [hset, rxState]
  exact State.get_set_self _ F.rx_STATE (by decide) n 3

/-- LANE_REARM over roles: each waiting lane without autobaud is armed, and no other lane's registers move. -/
theorem rearmLane_run (roles : List Nat) (hnodup : roles.Nodup) (s : State) :
    receiversFired s (onRoles rearmLane roles s) ∧
      (∀ role ∈ roles, ∀ n, roleLane s role = some n → (laneMode s n = 1 ∨ laneMode s n = 3) → rxState s n = 1 →
        upstream s = true → (s.rxLane n).ignoring = false → s.on F.rx_AB_EN n = false → rxState (onRoles rearmLane roles s) n = 3) ∧
      keepsRegsOutside (ofRoles s roles) s (onRoles rearmLane roles s) := by
  have hop := roleOp_of_rxStep rearmLane_step
  refine ⟨onRoles_induct receiversFired_refl receiversFired_trans rearmLane_only _ s,
    fun role hrole n hl hmode hwait hup hign hab => ?_, onRoles_others hop _ s⟩
  have hn := roleLane_lt hl
  obtain ⟨u, hsu, hut⟩ := onRoles_done hop roles hnodup s hrole hl
  have hmodeEq : laneMode u n = laneMode s n := by rw [laneMode, laneMode, hsu.laneUp, hsu.get _ hn (by decide)]
  have hupEq : upstream u = upstream s := by rw [upstream, upstream, hsu.shedUp, hsu.shedUp]
  exact (hut.get F.rx_STATE hn (by decide)).trans (rearmLane_arms u n (hmodeEq ▸ hmode)
    ((hsu.get F.rx_STATE hn (by decide)).trans hwait) (hupEq.trans hup) (hsu.rx ▸ hign)
    ((hsu.on F.rx_AB_EN hn (by decide)).trans hab))

theorem laneRearm_done {r : Req} {s : State} (htakes : takes s r = true) (hcount : 0 < u16 r.body 2)
    (hfit : u16 r.body 0 + u16 r.body 2 ≤ s.part.lanes) (hlen : r.body.length = 4)
    (hparked : (rangeOf r.body).any (roleParked s) = false) :
    exec (.laneRearm r) s = .next (answered 0x0207 false r (onRoles rearmLane (rangeOf r.body) s) []) := by
  rw [exec, execLaneRearm, cmdRow_taken htakes, cmdLaneRearm, sized_of hlen,
    roleRange_of hcount hfit (fun _ h => absurd h List.not_mem_nil) hparked, finish_ok]

/-! ### LANE_PADDOCK_SET (R113, R498) -/

/-- Only registers and transmitters may differ. -/
def onlyTransmitters (s t : State) : Prop := t = { s with regs := t.regs, tx := t.tx }

theorem onlyTransmitters_refl (s : State) : onlyTransmitters s s := rfl

theorem onlyTransmitters_trans {s t u : State} (h : onlyTransmitters s t) (k : onlyTransmitters t u) : onlyTransmitters s u := by
  unfold onlyTransmitters at *
  rw [k, h]

theorem txLane_putTx (s : State) (n : Nat) (x : LaneTx) : (s.putTx n x).txLane n = x := tget_tput_self _ _ _ _

/-- A lane's PADDOCK bit, role and parked role, written together. -/
def putPaddock (s : State) (n b role : Nat) (parked : Option Nat) : State :=
  ((s.set F.tx_PADDOCK n b).set F.tx_ROLE n role).putTx n { s.txLane n with parked := parked }

theorem putPaddock_step (s : State) (n b role : Nat) (parked : Option Nat) (hn : n < 65536) :
    LaneStep n s (putPaddock s n b role parked) :=
  ((laneStep_set s F.tx_PADDOCK n b hn (by decide) (by decide)).trans
    (laneStep_set _ F.tx_ROLE n role hn (by decide) (by decide))).trans (laneStep_putTx _ n _)

theorem putPaddock_only (s : State) (n b role : Nat) (parked : Option Nat) : onlyTransmitters s (putPaddock s n b role parked) := rfl

theorem putPaddock_get (s : State) (n b role : Nat) (parked : Option Nat) (hb : b < 2) (hrole : role < 128) :
    (putPaddock s n b role parked).get F.tx_PADDOCK n = b ∧ (putPaddock s n b role parked).get F.tx_ROLE n = role := by
  constructor
  · refine (State.get_set_beside _ F.tx_ROLE F.tx_PADDOCK n _ rfl rfl (by decide) (by decide)).trans ?_
    rw [State.get_set_self _ _ (by decide)]
    exact Nat.mod_eq_of_lt hb
  · refine (State.get_set_self _ F.tx_ROLE (by decide) n _).trans ?_
    exact Nat.mod_eq_of_lt hrole

theorem putPaddock_parked (s : State) (n b role : Nat) (parked : Option Nat) :
    ((putPaddock s n b role parked).txLane n).parked = parked := congrArg LaneTx.parked (txLane_putTx _ n _)

/-- A lane's way into the paddock and out of it. -/
def setPaddock (r : Req) (s : State) (n : Nat) : State := if flag r.body 4 0 then enterPaddock s n else leavePaddock s n

theorem setPaddock_same {r : Req} {s : State} {n : Nat} (h : s.on F.tx_PADDOCK n = flag r.body 4 0) : setPaddock r s n = s := by
  cases hf : flag r.body 4 0 with
  | true => rw [setPaddock, hf, if_pos rfl, enterPaddock, h, hf, if_pos rfl]
  | false =>
    rw [setPaddock, hf, if_neg Bool.false_ne_true, leavePaddock, h, hf]
    rfl

theorem setPaddock_enter {r : Req} {s : State} {n : Nat} (hf : flag r.body 4 0 = true) (h : s.on F.tx_PADDOCK n = false) :
    setPaddock r s n = putPaddock s n 1 127 (if s.get F.tx_ROLE n < 96 then some (s.get F.tx_ROLE n) else none) := by
  rw [setPaddock, hf, if_pos rfl, enterPaddock, h, if_neg Bool.false_ne_true]
  rfl

theorem setPaddock_leave {r : Req} {s : State} {n : Nat} (hf : flag r.body 4 0 = false) (h : s.on F.tx_PADDOCK n = true) :
    setPaddock r s n = putPaddock s n 0 ((s.txLane n).parked.getD 127) none := by
  rw [setPaddock, hf, if_neg Bool.false_ne_true, leavePaddock, h]
  rfl

/-- A lane enters, leaves, or stands. -/
theorem setPaddock_cases (r : Req) (s : State) (n : Nat) : setPaddock r s n = s ∨
    ∃ b role parked, setPaddock r s n = putPaddock s n b role parked := by
  by_cases h : s.on F.tx_PADDOCK n = flag r.body 4 0
  · exact Or.inl (setPaddock_same h)
  · cases hf : flag r.body 4 0 with
    | true => exact Or.inr ⟨_, _, _, setPaddock_enter hf (by simpa [hf] using h)⟩
    | false => exact Or.inr ⟨_, _, _, setPaddock_leave hf (by simpa [hf] using h)⟩

theorem setPaddock_op (r : Req) : LaneOp (setPaddock r) where
  step u n hn := by
    obtain h | ⟨b, role, parked, h⟩ := setPaddock_cases r u n <;> rw [h]
    · exact LaneStep.refl n u
    · exact putPaddock_step u n b role parked hn

theorem setPaddock_only (r : Req) (s : State) (n : Nat) : onlyTransmitters s (setPaddock r s n) := by
  obtain h | ⟨b, role, parked, h⟩ := setPaddock_cases r s n <;> rw [h]
  · exact onlyTransmitters_refl s
  · exact putPaddock_only s n b role parked

/-- Lane `n` went into the paddock, or out of it, from `s` to `t`: it parks its role, or takes back the one it parked. -/
def paddockMoved (r : Req) (n : Nat) (s t : State) : Prop :=
  t.on F.tx_PADDOCK n = flag r.body 4 0 ∧
    (flag r.body 4 0 = true → t.get F.tx_ROLE n = 127 ∧ (s.get F.tx_ROLE n < 96 →
      (t.txLane n).parked = some (s.get F.tx_ROLE n))) ∧
    (flag r.body 4 0 = false → ∀ role, role < 96 → (s.txLane n).parked = some role → t.get F.tx_ROLE n = role)

theorem setPaddock_puts (r : Req) (s : State) (n : Nat) (hchange : s.on F.tx_PADDOCK n = !flag r.body 4 0) :
    paddockMoved r n s (setPaddock r s n) := by
  unfold paddockMoved
  cases hf : flag r.body 4 0 with
  | true =>
    rw [hf] at hchange
    rw [setPaddock_enter hf hchange]
    obtain ⟨hpad, hrole⟩ := putPaddock_get s n 1 127 (if s.get F.tx_ROLE n < 96 then some (s.get F.tx_ROLE n) else none)
      (by decide) (by decide)
    refine ⟨by rw [State.on, hpad]; rfl, fun _ => ⟨hrole, fun hlt => ?_⟩, fun h => absurd h (by decide)⟩
    rw [putPaddock_parked, if_pos hlt]
  | false =>
    rw [hf] at hchange
    rw [setPaddock_leave hf hchange]
    refine ⟨?_, fun h => absurd h (by decide), fun _ role hlt hparked => ?_⟩
    · have hpad : (putPaddock s n 0 ((s.txLane n).parked.getD 127) none).get F.tx_PADDOCK n = 0 := by
        refine (State.get_set_beside _ F.tx_ROLE F.tx_PADDOCK n _ rfl rfl (by decide) (by decide)).trans ?_
        rw [State.get_set_self _ _ (by decide)]
        rfl
      rw [State.on, hpad]
      rfl
    · rw [hparked]
      exact (putPaddock_get s n 0 role none (by decide) (by omega)).2

/-- LANE_PADDOCK_SET over lanes: each powered lane that must move does, and no other lane's registers move. -/
theorem setPaddock_run (r : Req) (lanes : List Nat) (hnodup : lanes.Nodup) (s : State) :
    onlyTransmitters s (onLanes (setPaddock r) lanes s) ∧
      (∀ n ∈ lanes, s.laneUp n = true → s.on F.tx_PADDOCK n = !flag r.body 4 0 →
        paddockMoved r n s (onLanes (setPaddock r) lanes s)) ∧
      keepsRegsOutside (ofLanes lanes) s (onLanes (setPaddock r) lanes s) := by
  refine ⟨onLanes_induct onlyTransmitters_refl onlyTransmitters_trans (setPaddock_only r) _ s, fun n hmem hup hchange => ?_,
    onLanes_others (setPaddock_op r) _ s⟩
  have hn := laneUp_lt hup
  obtain ⟨u, hsu, hut⟩ := onLanes_done (setPaddock_op r) lanes hnodup s hmem hup
  have hputs := setPaddock_puts r u n ((hsu.on _ hn (by decide)).trans hchange)
  rw [paddockMoved, hut.on _ hn (by decide), hut.get _ hn (by decide), hut.tx, ← hsu.get _ hn (by decide), ← hsu.tx]
  exact hputs

theorem lanePaddockSet_done {r : Req} {s : State} (htakes : takes s r = true) (hcount : 0 < u16 r.body 2)
    (hfit : u16 r.body 0 + u16 r.body 2 ≤ s.part.lanes) (hlen : r.body.length = 8)
    (hoff : ∀ n ∈ rangeOf r.body, s.laneUp n = true → laneOff s n = true) :
    exec (.lanePaddockSet r) s = .next (answered 0x0208 true r (onLanes (setPaddock r) (rangeOf r.body) s) []) := by
  have hpass : ∀ c ∈ [((rangeOf r.body).any (fun n => s.laneUp n && !laneOff s n), St.state)], c.1 = false := by
    intro c hc
    rw [List.mem_singleton.1 hc]
    simp only [List.any_eq_false, Bool.and_eq_true, Bool.not_eq_true', not_and]
    intro n hn hup
    rw [hoff n hn hup]
    exact Bool.noConfusion
  rw [exec, execLanePaddockSet, cmdRow_taken htakes, cmdLanePaddockSet, sized_of hlen]
  exact congrArg _ ((congrArg _ (laneRange_of hcount hfit (checks := fun u ls => [(ls.any (fun n => u.laneUp n && !laneOff u n), St.state)])
    hpass (setPaddock r))).trans (finish_ok _ _ _ _ _))

/-! ### LANE_ROLE_MOVE and LANE_STATUS_GET (R113, R497, R498) -/

theorem laneRoleMove_waits {r : Req} {s : State} (htakes : takes s r = true) (hlen : r.body.length = 4) {old : Nat}
    (hrole : fld r.body 0 0 7 < s.part.lanes) (hnew : fld r.body 0 8 7 < s.part.lanes) (hparked : roleParked s (fld r.body 0 0 7) = false)
    (hup : s.shedUp (laneShed (fld r.body 0 8 7)) = true) (hpad : s.on F.tx_PADDOCK (fld r.body 0 8 7) = true)
    (hold : roleLane s (fld r.body 0 0 7) = some old) (hfree : s.tx.any (fun e => e.2.moveTo == some (fld r.body 0 8 7)) = false)
    (hmove : (s.txLane old).moveTo = none) :
    ∃ t, exec (.laneRoleMove r) s = .next t ∧ t = { s with tx := t.tx, waits := t.waits } ∧
      t.txLane old = { s.txLane old with moveTo := some (fld r.body 0 8 7) } ∧ t.waits.length = s.waits.length + 1 := by
  have hlanes := lanes_le_max s.part
  have hcmd : cmdLaneRoleMove r s =
      .wait (s.putTx old { s.txLane old with moveTo := some (fld r.body 0 8 7) }) (.roleMove old old) := by
    have h1 : ¬ s.part.lanes ≤ fld r.body 0 0 7 := by omega
    have h2 : ¬ s.part.lanes ≤ fld r.body 0 8 7 := by omega
    have h3 : ¬ lanesMax ≤ fld r.body 0 0 7 := by omega
    have h4 : ¬ lanesMax ≤ fld r.body 0 8 7 := by omega
    rw [cmdLaneRoleMove, sized_of hlen]
    simp only [firstFail_cons, firstFail_nil, h1, h2, h3, h4, hparked, hup, hpad, hold, hfree, hmove, decide_false, Bool.and_false,
      Bool.or_false, Bool.not_true, Option.isNone_some, Option.isSome_none, Bool.false_eq_true, if_false]
  have hexec : exec (.laneRoleMove r) s = .next (finish 0x0209 true r none false
      (.wait (s.putTx old { s.txLane old with moveTo := some (fld r.body 0 8 7) }) (.roleMove old old))) := by
    rw [exec, execLaneRoleMove, cmdRow_taken htakes, hcmd]
  exact ⟨_, hexec, rfl, txLane_putTx s old _, List.length_append⟩

theorem laneStatusGet_done {r : Req} {s : State} (htakes : takes s r = true) (hlen : r.body.length = 4)
    (hlane : fld r.body 0 0 7 < s.part.lanes) : exec (.laneStatusGet r) s = .next (answered 0x0204 false r s
      (readWords s .laneRx (fld r.body 0 0 7) 0 18 ++ readWords s .laneTx (fld r.body 0 0 7) 0 22)) := by
  have hlanes := lanes_le_max s.part
  rw [exec, execLaneStatusGet, cmdRow_taken htakes, cmdLaneStatusGet, sized_of hlen, if_neg (by omega), if_neg (by omega), finish_ok]

/-- Settles O29, one command after another: that it answers OK after its run, and what the run leaves. -/
theorem laneCommandsReachTheirLanes : Obligations.LaneCommandsReachTheirLanes := by
  intro r s htakes
  have hnodup := rangeOf_nodup r.body
  refine ⟨fun hcount hfit => ⟨?_, ?_, ?_, ?_, ?_, ?_, ?_, ?_⟩, ?_, ?_⟩
  · intro hlen hlo hhi hpix
    exact laneModeSet_notFitted htakes hcount hfit hlen hlo hhi hpix
  · intro hlen hm hpix hparked
    exact ⟨_, laneModeSet_done htakes hcount hfit hlen hm hpix hparked, writeMode_run _ (by omega) _ hnodup s⟩
  · intro p hlen hparity hruns hkeys hamb hparked
    have hsent : sentRuns r = some p := hruns
    rw [hruns] at hkeys hamb
    exact ⟨_, laneRxSet_done htakes hcount hfit hlen hparity hsent hkeys hamb hparked,
      setReceiver_run r p (sentRuns_lt hsent) _ hnodup s⟩
  · intro hlen hparity hstall hcapt hparked
    exact ⟨_, laneTxSet_done htakes hcount hfit hlen hparity hstall hcapt hparked, setTransmitter_run r _ hnodup s⟩
  · intro hlen
    exact ⟨_, laneEvenSet_done htakes hcount hfit hlen, setEnables_run r _ hnodup s⟩
  · intro hlen
    exact ⟨_, laneCntClr_done htakes hcount hfit hlen, clearLane_run _ hnodup s⟩
  · intro hlen hparked
    exact ⟨_, laneRearm_done htakes hcount hfit hlen hparked, rearmLane_run _ hnodup s⟩
  · intro hlen hoff
    exact ⟨_, lanePaddockSet_done htakes hcount hfit hlen hoff, setPaddock_run r _ hnodup s⟩
  · intro old hlen hrole hnew hparked hup hpad hold hfree hmove
    exact laneRoleMove_waits htakes hlen hrole hnew hparked hup hpad hold hfree hmove
  · intro hlen hlane
    exact laneStatusGet_done htakes hlen hlane

end Sys2Proof.Machine
end

section
/-! PROOF. What every command keeps (O3, O4). `Kept z s` says of a state `s`, on the way from `z`, that no command was put into
the queue or taken out of it, that part and stepping stand, and that the memories are canonical if those of `z` were.
One lemma per function of the model, in the model's order: given that its input is kept, so is its output. Only the
functions that write a memory (`memWrite`, the yard's cells, the tack room, the flash) need an argument of their own; every
other one follows from the lemmas of the functions it calls, which its proof names. -/

namespace Sys2Proof.Machine

/-- What `z` asks of a later state. -/
structure Kept (z s : State) : Prop where
  pending : s.pending = z.pending
  part : s.part = z.part
  stepping : s.stepping = z.stepping
  mem : z.memWf = true → s.memWf = true

/-- The state a mailbox command leaves keeps what `z` asks. -/
def OutKept (z : State) : CmdOut → Prop
  | .done s _ _ _ _ => Kept z s
  | .wait s _ => Kept z s

/-- The state a staged change leaves, where it was applied, keeps what `z` asks. -/
def AppliedKept (z : State) : Applied → Prop
  | .done s => Kept z s
  | _ => True

/-- A command ends in a next state, which keeps what `z` asks. -/
def Runs (z : State) (o : Host.Outcome State Fault Refusal) : Prop := ∃ t, o = .next t ∧ Kept z t

theorem kept_foldl {z : State} {α : Type} (f : State → α → State) (hf : ∀ t x, Kept z t → Kept z (f t x)) (l : List α)
    {s : State} (h : Kept z s) : Kept z (l.foldl f s) := by
  induction l generalizing s with
  | nil => exact h
  | cons x r ih => exact ih (hf _ _ h)

theorem kept_foldl_fst {z : State} {α β : Type} (f : State × β → α → State × β)
    (hf : ∀ x a, Kept z x.1 → Kept z (f x a).1) (l : List α) {x : State × β} (h : Kept z x.1) : Kept z (l.foldl f x).1 := by
  induction l generalizing x with
  | nil => exact h
  | cons a r ih => exact ih (hf _ _ h)

theorem memWf_iff {s : State} : s.memWf = true ↔
    yardWfFrom s.tablesReady 0 s.yard = true ∧ Memory.wf 0xFF s.flash = true ∧
    Memory.wf 0 s.tack = true ∧ Memory.wf 0 s.mbi = true ∧ Memory.wf 0 s.mbo = true := by
  simp only [State.memWf, Bool.and_eq_true, and_assoc]

theorem Kept.trans {z s t : State} (h : Kept z s) (k : Kept s t) : Kept z t :=
  ⟨k.pending.trans h.pending, k.part.trans h.part, k.stepping.trans h.stepping, fun w => k.mem (h.mem w)⟩

section

-- One theorem at a time: each waits for the kernel, and a thread that waits keeps its stack.
set_option Elab.async false

variable {z s : State} (h : Kept z s)
include h

/-- What the invariant speaks of apart, every field of the state may take any value. There is a binder for each such field, so
that the statement matches any record update that leaves the others; proofs below cite it for every such update. -/
theorem kept_update
    {regs persistMap curves : Tbl Word} {tod drawn groomNext voidRun trackAge calSeq ackNo ringNo evtSeq spillSeq fwStarted
    restartCause fuseMask : Nat} {stepped : Int} {refclk commitAsked sweepDue routerStaged pixTicked runNow srcNow
    restarting imageTouched fellBack switched caughtUp recoveryDue bypassPin bypassCmd fuseSealed fuseRetired service
    retireDue : Bool} {yardOut : List (Nat × Nat × List Byte)} {yardErr tackErr hits agreeRun logSeq stagedGroup rungBy
    spillCount : Tbl Nat} {poison eligible pixDue curveDue seedLeft syncOff erased sealed brownRails tamperOn
    pairs : List Nat} {rx : Tbl LaneRx} {tx : Tbl LaneTx} {enc : Tbl EncLane} {srcs : Tbl Source} {lastElig lastOther
    stagedDelay mode emerg : Option Nat} {entries actions groups bindings stagedEnc : Tbl (List Word)}
    {unbound : Tbl (List Nat)} {acts : Tbl ActState} {routerQ voterQ : List Enqueue} {ballots : List Ballot}
    {latches : List Latch} {stalls : Tbl Stall} {groomPass : Option GroomPass} {trackers : Tbl (List Track)}
    {pulses : Tbl Pulse} {caps : Tbl Capture} {frame : FrameGen} {servo : Servo} {zones : Tbl Zone} {readings : Tbl Reading}
    {seedHeld modePost : List (Nat × List Byte)} {univs : Tbl Univ} {channels : Tbl Channel} {spares : Tbl Spare}
    {calHeld : List (List Byte)} {calSaved : Tbl (Int × Nat)} {calUnsaved : List (Nat × Int × Nat)} {twin : Twin}
    {stream : Stream} {eth : Tbl EthPort} {spiOut : List (Option Word)} {mbFrom : Tbl Transport}
    {mbWait : List (Nat × Transport × List Byte)} {cmds : List Entry} {waits : List Wait} {spill : List Spilled}
    {fired : List Firing} {evts : Tbl EvtRec} {gen : Word} {sessions : List Session} {image : Image}
    {modeReqs : List ModeReq} {modeWait : Option (ModeReq × Nat)} {keys : Tbl Key} {panelEncs : Tbl PanelEnc}
    {leds : Tbl (Nat × Nat)} {sched : List Sched} {boot : Boot} {shedPlan : Option ShedPlan} {railDown
    fuseKeys : List (Nat × Nat)} {fuseArmed : BitVec 3} {enrolled : Option (Nat × Nat)} :
    Kept z { s with
      regs := regs, tod := tod, stepped := stepped, refclk := refclk, drawn := drawn, yardOut := yardOut,
      yardErr := yardErr, poison := poison, tackErr := tackErr, rx := rx, tx := tx, enc := enc, srcs := srcs,
      eligible := eligible, lastElig := lastElig, lastOther := lastOther, entries := entries, actions := actions,
      groups := groups, bindings := bindings, unbound := unbound, hits := hits, acts := acts, commitAsked := commitAsked,
      sweepDue := sweepDue, routerStaged := routerStaged, routerQ := routerQ, voterQ := voterQ, ballots := ballots,
      agreeRun := agreeRun, latches := latches, stalls := stalls, logSeq := logSeq, groomPass := groomPass,
      groomNext := groomNext, voidRun := voidRun, trackers := trackers, trackAge := trackAge, persistMap := persistMap,
      pulses := pulses, caps := caps, frame := frame, servo := servo, zones := zones, readings := readings,
      pixDue := pixDue, pixTicked := pixTicked, stagedEnc := stagedEnc, stagedGroup := stagedGroup,
      stagedDelay := stagedDelay, runNow := runNow, srcNow := srcNow, curves := curves, curveDue := curveDue,
      seedLeft := seedLeft, seedHeld := seedHeld, univs := univs, syncOff := syncOff, channels := channels,
      spares := spares, calSeq := calSeq, calHeld := calHeld, calSaved := calSaved, calUnsaved := calUnsaved, twin := twin,
      stream := stream, eth := eth, spiOut := spiOut, ackNo := ackNo, rungBy := rungBy, ringNo := ringNo, mbFrom := mbFrom,
      mbWait := mbWait, cmds := cmds, waits := waits, spill := spill, spillCount := spillCount, fired := fired,
      evts := evts, evtSeq := evtSeq, spillSeq := spillSeq, gen := gen, fwStarted := fwStarted,
      restartCause := restartCause, restarting := restarting, sessions := sessions, image := image,
      imageTouched := imageTouched, erased := erased, fellBack := fellBack, sealed := sealed, mode := mode, emerg := emerg,
      modeReqs := modeReqs, modeWait := modeWait, modePost := modePost, switched := switched, caughtUp := caughtUp,
      keys := keys, panelEncs := panelEncs, leds := leds, sched := sched, boot := boot, shedPlan := shedPlan,
      railDown := railDown, brownRails := brownRails, tamperOn := tamperOn, recoveryDue := recoveryDue,
      bypassPin := bypassPin, bypassCmd := bypassCmd, pairs := pairs, fuseSealed := fuseSealed, fuseRetired := fuseRetired,
      fuseKeys := fuseKeys, fuseArmed := fuseArmed, fuseMask := fuseMask, service := service, retireDue := retireDue,
      enrolled := enrolled } :=
  ⟨h.pending, h.part, h.stepping, h.mem⟩

theorem runs_next : Runs z (.next s) := ⟨s, rfl, h⟩

theorem out_done (st d : Nat) (l : List Byte) (b : Bool) : OutKept z (.done s st d l b) := h

theorem out_wait (w : WaitFor) : OutKept z (.wait s w) := h

/-! ### Counters, records and the operations every unit shares -/

theorem kept_setReg (r : RegAddr) (w : Word) : Kept z (State.setReg s r w) := by
  grind only [State.setReg, kept_update]

theorem kept_set (f : Field) (i v : Nat) : Kept z (State.set s f i v) := by
  grind only [State.set, kept_setReg]

theorem kept_setB (f : Field) (i : Nat) (b : Bool) : Kept z (State.setB s f i b) := by
  grind only [State.setB, kept_set]

theorem kept_addTo (f : Field) (i n : Nat) : Kept z (State.addTo s f i n) := by
  grind only [State.addTo, kept_set]

theorem kept_inc (f : Field) (i : Nat) : Kept z (State.inc s f i) := by
  grind only [State.inc, kept_addTo]

theorem kept_incWrap (f : Field) (i : Nat) : Kept z (State.incWrap s f i) := by
  grind only [State.incWrap, kept_set]

theorem kept_clear (fs : List Field) (i : Nat) : Kept z (State.clear s fs i) := by
  grind only [State.clear, kept_set, kept_foldl]

theorem kept_setI (f : Field) (i : Nat) (v : Int) : Kept z (State.setI s f i v) := by
  grind only [State.setI, kept_set]

theorem kept_putRw (r : RegAddr) (w : Word) : Kept z (State.putRw s r w) := by
  grind only [State.putRw, kept_setReg]

theorem kept_resetBlks (p : Nat → Nat → Nat → Bool) : Kept z (State.resetBlks s p) := by
  grind only [State.resetBlks, kept_update]

/-! ### Event flags -/

theorem kept_fire (e : Nat) : Kept z (fire s e) := by
  grind only [fire, kept_update]

theorem kept_fireDetail (e : Nat) (d : Nat) : Kept z (fireDetail s e d) := by
  grind only [fireDetail, kept_update]

theorem kept_raise (fl ev : Field) (i bit e : Nat) : Kept z (raise s fl ev i bit e) := by
  grind only [raise, kept_set, kept_fire]

theorem kept_raiseRx (lane bit : Nat) : Kept z (raiseRx s lane bit) := by
  grind only [raiseRx, kept_raise]

theorem kept_raiseTx (lane bit : Nat) : Kept z (raiseTx s lane bit) := by
  grind only [raiseTx, kept_raise]

theorem kept_raiseStall (q bit : Nat) : Kept z (raiseStall s q bit) := by
  grind only [raiseStall, kept_raise]

theorem kept_raiseYard (bit : Nat) : Kept z (raiseYard s bit) := by
  grind only [raiseYard, kept_raise]

theorem kept_raiseGroom (bit : Nat) : Kept z (raiseGroom s bit) := by
  grind only [raiseGroom, kept_raise]

theorem kept_raiseRouter (bit : Nat) : Kept z (raiseRouter s bit) := by
  grind only [raiseRouter, kept_raise]

theorem kept_raiseVote (bit : Nat) : Kept z (raiseVote s bit) := by
  grind only [raiseVote, kept_raise]

theorem kept_raiseTime (bit : Nat) : Kept z (raiseTime s bit) := by
  grind only [raiseTime, kept_raise]

theorem kept_raisePin (n bit : Nat) : Kept z (raisePin s n bit) := by
  grind only [raisePin, kept_raise]

theorem kept_raisePixel (bit : Nat) : Kept z (raisePixel s bit) := by
  grind only [raisePixel, kept_raise]

theorem kept_raiseEnc (bit : Nat) : Kept z (raiseEnc s bit) := by
  grind only [raiseEnc, kept_raise]

theorem kept_raiseMeas (bit : Nat) : Kept z (raiseMeas s bit) := by
  grind only [raiseMeas, kept_raise]

theorem kept_raiseTwin (bit : Nat) : Kept z (raiseTwin s bit) := by
  grind only [raiseTwin, kept_raise]

theorem kept_raiseStr (bit : Nat) : Kept z (raiseStr s bit) := by
  grind only [raiseStr, kept_raise]

theorem kept_raiseEth (port bit : Nat) : Kept z (raiseEth s port bit) := by
  grind only [raiseEth, kept_raise]

theorem kept_raisePower (bit : Nat) : Kept z (raisePower s bit) := by
  grind only [raisePower, kept_raise]

theorem kept_raiseSec (bit : Nat) : Kept z (raiseSec s bit) := by
  grind only [raiseSec, kept_raise]

theorem kept_hostErr (bit : Nat) : Kept z (hostErr s bit) := by
  grind only [hostErr, kept_fire, kept_set]

theorem kept_raiseOf (f : Field) (n n' : Nat) : Kept z (raiseOf f s n n') := by
  cases hb : f.blk <;> simp only [raiseOf, hb]
  case yard =>
    split
    · exact kept_raiseYard h _
    · exact kept_raiseGroom h _
  all_goals grind only [kept_raiseRx, kept_raiseTx, kept_raiseStall, kept_raiseRouter, kept_raiseVote, kept_raiseTime,
      kept_raisePin, kept_raisePixel, kept_raiseEnc, kept_raiseMeas, kept_raiseTwin, kept_raiseStr, kept_raiseEth, kept_raisePower,
      kept_raiseSec, kept_hostErr]

theorem kept_latchFlags (r : RegAddr) (w : Word) : Kept z (latchFlags s r w) := by
  grind only [latchFlags, kept_set, kept_raiseOf, kept_foldl]

theorem kept_routerInc (f : Field) : Kept z (routerInc s f) := by
  grind only [routerInc, kept_inc, kept_raiseRouter]

theorem kept_eventTake (e : Nat) : Kept z (eventTake s e) := by
  grind only [eventTake, kept_set, kept_foldl]

/-! ### The yard and its code words -/

theorem kept_yardPut (a : Nat) (b : Byte) : Kept z (State.yardPut s a b) := by
  refine Kept.trans h ?_
  unfold State.yardPut
  rw [State.markWritten_rest]
  refine ⟨rfl, rfl, rfl, fun w => ?_⟩
  obtain ⟨hy, hm⟩ := memWf_iff.1 w
  exact memWf_iff.2 ⟨yard_tput_wf _ _ _ (Nat.zero_le _) hy, hm⟩

theorem kept_yardStore (a : Nat) (l : List Byte) : Kept z (State.yardStore s a l) := by
  induction l generalizing s a with
  | nil => exact h
  | cons b r ih => exact ih (kept_yardPut h _ _) _

theorem kept_freshen (ws : List Nat) : Kept z (State.freshen s ws) := by
  grind only [State.freshen, kept_update]

theorem kept_poke (a : Nat) (bs : List Byte) : Kept z (State.poke s a bs) := by
  grind only [State.poke, kept_yardStore, kept_freshen]

theorem kept_blankSpan (lo hi : Nat) : Kept z (State.blankSpan s lo hi) := by
  unfold State.blankSpan
  refine kept_foldl _ (fun _ _ ht => kept_poke ht _ _) _ (Kept.trans h ⟨rfl, rfl, rfl, fun w => ?_⟩)
  obtain ⟨hy, hm⟩ := memWf_iff.1 w
  exact memWf_iff.2 ⟨yard_filter_wf _ _ hy, hm⟩

/-! ### Stalls -/

theorem kept_putStall (q : Nat) (x : Stall) : Kept z (State.putStall s q x) := by
  grind only [State.putStall, kept_update]

theorem kept_corruptPtrs (q : Nat) (mis : BitVec 4) : Kept z (corruptPtrs s q mis) := by
  grind only [corruptPtrs, kept_putStall]

theorem kept_setPtrs (q : Nat) (p : Ptrs) : Kept z (setPtrs s q p) := by
  grind only [setPtrs, kept_putStall]

theorem kept_ringWrite (q p : Nat) (bs : List Byte) : Kept z (ringWrite s q p bs) := by
  grind only [ringWrite, kept_poke]

theorem kept_fillHead (q : Nat) : Kept z (fillHead s q) := by
  grind only [fillHead, kept_putStall]

theorem kept_wmCheck (q before : Nat) : Kept z (wmCheck s q before) := by
  grind only [wmCheck, kept_raiseStall, kept_incWrap]

theorem kept_stallPut (q : Nat) (rec : List Byte) : Kept z (stallPut s q rec) := by
  grind only [stallPut, kept_ringWrite, kept_putStall, kept_wmCheck, kept_raiseStall, kept_incWrap]

theorem kept_markGone (q : Nat) : Kept z (markGone s q) := by
  grind only [markGone, kept_update]

theorem kept_discardOldest (q : Nat) : Kept z (discardOldest s q) := by
  grind only [discardOldest, kept_putStall, kept_wmCheck, kept_raiseStall, kept_inc]

theorem kept_discardFor (q n : Nat) (n' : Nat) : Kept z (discardFor s q n n') := by
  induction n' generalizing s with
  | zero => grind only [discardFor, kept_discardOldest]
  | succ n ih => grind only [discardFor, kept_discardOldest]

theorem kept_makeRoom (q n : Nat) : Kept z (makeRoom s q n) := by
  have h1 := kept_discardFor h q n (s.stall q).lens.length
  grind only [makeRoom, kept_fillHead, kept_incWrap, kept_set, kept_raiseStall, kept_markGone]

theorem kept_startReset (q cause : Nat) (mis : BitVec 4) (newCfg : Option (Nat × Nat × Nat)) : Kept z
    (startReset s q cause mis newCfg) := by
  grind only [startReset, kept_putStall, kept_inc]

theorem kept_comparePtrs (q : Nat) (f : State → State) (hf : Kept z (f s)) : Kept z (comparePtrs s q f) := by
  grind only [comparePtrs, kept_startReset]

theorem kept_stallOffer (q : Nat) (rec : List Byte) : Kept z (stallOffer s q rec) := by
  grind only [stallOffer, kept_raiseStall, kept_inc, kept_comparePtrs, kept_stallPut, kept_set, kept_makeRoom]

theorem kept_askCredit (q n : Nat) : Kept z (askCredit s q n) := by
  grind only [askCredit, kept_set, kept_putStall]

theorem kept_reofferCredit (q : Nat) : Kept z (reofferCredit s q) := by
  grind only [reofferCredit, kept_askCredit, kept_putStall, kept_foldl]

theorem kept_handBack (q n : Nat) : Kept z (handBack s q n) := by
  grind only [handBack, kept_set]

theorem kept_ownWrite (q : Nat) (rec : List Byte) : ∀ u, ownWrite s q rec = some u → Kept z u := by
  grind only [ownWrite, kept_stallOffer, kept_set]

theorem kept_moveNext (q : Nat) : Kept z (moveNext s q) := by
  grind only [moveNext, kept_putStall, kept_set]

theorem kept_moveMark (q : Nat) : Kept z (moveMark s q) := by
  grind only [moveMark, kept_setPtrs]

theorem kept_moveRewind (q : Nat) : Kept z (moveRewind s q) := by
  grind only [moveRewind, kept_putStall, kept_set]

theorem kept_moveRel (q p : Nat) : Kept z (moveRel s q p) := by
  grind only [moveRel, kept_putStall, kept_reofferCredit, kept_wmCheck]

theorem kept_spillLeft (rec : List Byte) : Kept z (spillLeft s rec) := by
  grind only [spillLeft, kept_update]

theorem kept_spillRelease (q : Nat) : Kept z (spillRelease s q) := by
  have h1 := kept_foldl_fst (fun (t, p) l => (spillLeft t (ringRead s q p l), p + l)) (fun x l hx => kept_spillLeft hx _)
    ((s.stall q).lens.take ((s.stall q).lens.length - (unreadLens s q).length)) (x := (s, (s.stall q).a.rel)) h
  grind only [spillRelease]

theorem kept_endSpilling : Kept z (endSpilling s) := by
  grind only [endSpilling, kept_set]

theorem kept_flushCal (n : Nat) : Kept z (flushCal s n) := by
  induction n generalizing s with
  | zero => grind only [flushCal, kept_ownWrite, kept_update]
  | succ n ih => grind only [flushCal, kept_ownWrite, kept_update]

theorem kept_moveRelease (q : Nat) : Kept z (moveRelease s q) := by
  grind only [moveRelease, kept_moveRel, kept_spillRelease, kept_endSpilling, kept_flushCal]

theorem kept_moveDrop (q : Nat) : Kept z (moveDrop s q) := by
  grind only [moveDrop, kept_comparePtrs, kept_fillHead, kept_moveRelease, kept_moveNext]

theorem kept_refuseCmd (q : Nat) : Kept z (refuseCmd s q) := by
  grind only [refuseCmd, kept_raiseStall]

theorem kept_finishReset (q : Nat) : Kept z (finishReset s q) := by
  unfold finishReset
  dsimp only
  split
  · exact h
  · rename_i r _
    refine kept_comparePtrs h _ _ ?_
    have h3 := fun x => kept_set (kept_putStall (kept_markGone h q) q x) F.stall_GRANTED q 0
    have h4 := fun x a b => kept_set (kept_set (kept_set (h3 x) F.stall_SIZE_LOG2 q a) F.stall_MODE q b) F.stall_RECORDS q 0
    cases r.newCfg <;> grind only [kept_inc, kept_addTo, kept_set, kept_raiseStall, kept_stallPut, kept_flushCal]

theorem kept_readerMove (q code : Nat) : Kept z (readerMove s q code) := by
  unfold readerMove
  split
  · exact kept_comparePtrs h _ _ (kept_moveNext h _)
  · exact kept_comparePtrs h _ _ (kept_moveMark h _)
  · exact kept_comparePtrs h _ _ (kept_moveRewind h _)
  · exact kept_comparePtrs h _ _ (kept_moveRelease h _)
  · exact kept_moveDrop h _
  · exact kept_set h _ _ _
  · exact kept_set h _ _ _
  · exact kept_set (kept_set h _ _ _) _ _ _
  · exact kept_moveDrop h _

theorem kept_readerCmd (q code : Nat) (mis : BitVec 4) : Kept z (readerCmd s q code mis) := by
  grind only [readerCmd, kept_refuseCmd, kept_corruptPtrs, kept_startReset, kept_readerMove]

theorem kept_stallAllocate (q k mode reader wm base : Nat) : Kept z (stallAllocate s q k mode reader wm base) :=
  kept_set (kept_set (kept_set (kept_setReg (kept_putStall h _ _) _ _) _ _ _) _ _ _) _ _ _

theorem kept_stallFreeUp (q mode wm : Nat) : Kept z (stallFreeUp s q mode wm) :=
  kept_set (kept_set (kept_setReg (kept_putStall (kept_markGone h _) _ _) _ _) _ _ _) _ _ _

theorem kept_runStall (q : Nat) : Kept z (runStall s q) := by
  grind only [runStall, kept_set]

theorem kept_setReader (q r : Nat) : Kept z (setReader s q r) := by
  grind only [setReader, kept_fillHead, kept_set]

theorem kept_hubTake (q : Nat) : Kept z (hubTake s q) := by
  grind only [hubTake, kept_moveDrop, kept_runStall]

/-! ### The interlock -/

theorem kept_flushStall (q : Nat) : Kept z (flushStall s q) := by
  grind only [flushStall, kept_reofferCredit, kept_markGone, kept_putStall]

theorem kept_takeoverFlush : Kept z (takeoverFlush s) := by
  grind only [takeoverFlush, kept_flushStall, kept_update, kept_foldl]

theorem kept_noteJournal : Kept z (noteJournal s) := by
  grind only [noteJournal, kept_update]

theorem kept_showUnit : Kept z (showUnit s) := by
  grind only [showUnit, kept_noteJournal, kept_set, kept_setB, kept_update]

theorem kept_noteItem (lane item source key value : Nat) : Kept z (noteItem s lane item source key value) := by
  grind only [noteItem, kept_update]

theorem kept_clearPath : Kept z (clearPath s) := by
  grind only [clearPath, kept_update]

theorem kept_beginReplay : Kept z (beginReplay s) := by
  grind only [beginReplay, kept_takeoverFlush, kept_clearPath, kept_update]

theorem kept_becomeOwner : Kept z (becomeOwner s) := by
  have h1 := kept_set (kept_set (kept_set h F.twin_OWN 0 1) F.twin_HOLD_OUT 0 1) F.twin_ILK_STATE 0 2
  grind only [becomeOwner, kept_inc, kept_raiseTwin, kept_beginReplay, kept_update]

theorem kept_claimFail : Kept z (claimFail s) := by
  grind only [claimFail, kept_set, kept_raiseTwin, kept_inc, kept_update]

theorem kept_claimIlk : Kept z (claimIlk s) := by
  grind only [claimIlk, kept_claimFail, kept_set, kept_becomeOwner, kept_update]

theorem kept_releaseIlk : Kept z (releaseIlk s) := by
  grind only [releaseIlk, kept_set, kept_raiseTwin, kept_update]

theorem kept_bypassClaim : Kept z (bypassClaim s) := by
  grind only [bypassClaim, kept_claimIlk]

/-! ### Resets -/

theorem kept_tackWrite (a : Nat) (bs : List Byte) : Kept z (State.tackWrite s a bs) := by
  refine Kept.trans h ⟨rfl, rfl, rfl, fun w => ?_⟩
  obtain ⟨hy, hf, ht, hm⟩ := memWf_iff.1 w
  exact memWf_iff.2 ⟨hy, hf, memWrite_wf _ _ _ ht, hm⟩

theorem kept_tackWhole (a : Nat) (bs : List Byte) : Kept z (State.tackWhole s a bs) := by
  grind only [State.tackWhole, kept_tackWrite, kept_update]

theorem kept_tackWord (w : Nat) : Kept z (tackWord s w).1 := by
  grind only [tackWord, kept_raiseYard, kept_inc, kept_update]

theorem kept_tackGet (a n : Nat) : Kept z (tackGet s a n).1 := by
  induction n generalizing s a with
  | zero => exact h
  | succ n ih => exact ih (kept_tackWord h _) _

theorem kept_newNonce : Kept z (newNonce s) := by
  grind only [newNonce, kept_tackWhole, kept_update]

theorem kept_afterSoftReset : Kept z (afterSoftReset s) := by
  refine Kept.trans h ⟨rfl, rfl, rfl, fun w => ?_⟩
  obtain ⟨-, hf, ht, -⟩ := memWf_iff.1 w
  exact memWf_iff.2 ⟨rfl, hf, ht, rfl, rfl⟩

theorem kept_afterPorst (vaonRose : Bool) : Kept z (afterPorst s vaonRose) := by
  refine Kept.trans h ⟨rfl, rfl, rfl, fun w => ?_⟩
  obtain ⟨-, hf, ht, -⟩ := memWf_iff.1 w
  cases vaonRose
  · exact memWf_iff.2 ⟨rfl, hf, ht, rfl, rfl⟩
  · exact memWf_iff.2 ⟨rfl, hf, (by decide : Memory.wf 0 State.reset.tack = true), rfl, rfl⟩

theorem kept_setCause (f : Field) : Kept z (setCause s f) := by
  grind only [setCause, kept_setReg, kept_set]

theorem kept_hubReset (k : ResetKind) : Kept z (hubReset s k) := by
  unfold hubReset
  extract_lets s1 s2 s3 s4 s5
  have h3 : Kept z s3 := kept_setCause (kept_afterSoftReset (kept_releaseIlk h)) _
  have h4 : Kept z s4 := by grind only [kept_raisePower]
  exact kept_bypassClaim (kept_newNonce (kept_set (kept_set (kept_set h4 _ _ _) _ _ _) _ _ _))

theorem kept_wipeTack : Kept z (wipeTack s) := by
  refine Kept.trans h ⟨rfl, rfl, rfl, fun w => ?_⟩
  obtain ⟨hy, hf, ht, hm⟩ := memWf_iff.1 w
  exact memWf_iff.2 ⟨hy, hf, filter_wfFrom _ _ ht, hm⟩

theorem kept_logTamper (cause frm : Nat) : Kept z (logTamper s cause frm) := by
  grind only [logTamper, kept_tackGet, kept_tackWhole]

/-! ### Yard ports -/

theorem kept_logNext (q : Nat) : Kept z (logNext s q).2 := by
  grind only [logNext, kept_update]

theorem kept_yardLog (q code bank row spare region : Nat) (fails : List Nat) : Kept z
    (yardLog s q code bank row spare region fails) := by
  grind only [yardLog, kept_logNext, kept_stallOffer]

theorem kept_farrierCount : Kept z (farrierCount s) := by
  grind only [farrierCount, kept_set, kept_setB]

theorem kept_farrierShow (b before : Nat) : Kept z (farrierShow s b before) := by
  grind only [farrierShow, kept_farrierCount, kept_set, kept_raiseYard]

theorem kept_retireSpare (e : Nat) : Kept z (retireSpare s e) :=
  kept_yardLog (kept_farrierShow (kept_update (kept_set (kept_set h _ _ _) _ _ _)) _ _) _ _ _ _ _ _ _

theorem kept_putPlace (p : Nat) (bs : List Byte) (e : Nat) : Kept z (putPlace s p bs e) := by
  refine Kept.trans h ⟨rfl, rfl, rfl, fun w => ?_⟩
  obtain ⟨hy, hm⟩ := memWf_iff.1 w
  refine memWf_iff.2 ⟨?_, hm⟩
  have hl : ∀ (l : List Nat) (t : List Host.Cell), yardWfFrom s.tablesReady 0 t = true → yardWfFrom s.tablesReady 0
      (l.foldl (fun t i => tput t (8 * p + i) (byteAt bs i) (yardInit s.tablesReady (8 * p + i))) t) = true := fun l => by
    induction l with
    | nil => exact fun _ ht => ht
    | cons i r ih => exact fun t ht => ih _ (yard_tput_wf _ _ _ (Nat.zero_le _) ht)
  exact hl _ _ hy

theorem kept_copyPlace (p d : Nat) : Kept z (copyPlace s p d) := by
  grind only [copyPlace, kept_putPlace]

theorem kept_remapRow (b row cause : Nat) : Kept z (remapRow s b row cause) := by
  unfold remapRow
  split
  · exact kept_yardLog (kept_raiseGroom h _) _ _ _ _ _ _ _
  · extract_lets frm due old s0 s1 before s2 s3
    have h1 : Kept z s1 := by
      have h0 : Kept z s0 := kept_copyPlace h _ _
      grind only [kept_retireSpare]
    have h3 : Kept z s3 := kept_update (kept_set (kept_set (kept_set h1 _ _ _) _ _ _) _ _ _)
    exact kept_yardLog (kept_raiseGroom (kept_farrierShow h3 _ _) _) _ _ _ _ _ _ _

theorem kept_track (w : Nat) : Kept z (track s w) := by
  grind only [track, kept_yardLog, kept_update]

theorem kept_flipWord (w i : Nat) (m : Byte) : Kept z (flipWord s w i m) := by
  grind only [flipWord, kept_update]

theorem kept_yardDue (w port : Nat) : Kept z (yardDue s w port) := by
  unfold yardDue
  extract_lets s1 s2
  have h1 : Kept z s1 := kept_raiseYard (kept_inc h _ _) _
  have h2 : Kept z s2 := by grind only [kept_set]
  grind only [kept_yardLog]

theorem kept_readWord (port w : Nat) : Kept z (readWord s port w).1 := by
  unfold readWord
  extract_lets p hm
  split
  · exact h
  · exact kept_track (kept_set (kept_set (kept_set (kept_raiseYard (kept_inc (kept_putPlace h _ _ _) _ _) _) _ _ _) _ _ _) _ _ _) _
  · exact kept_yardDue h _ _

theorem kept_writeWord (port w : Nat) (bs : List (Nat × Byte)) : Kept z (writeWord s port w bs).1 := by
  grind only [writeWord, kept_yardPut, kept_freshen, kept_readWord, kept_foldl]

theorem kept_touch (port a n : Nat) : Kept z (touch s port a n) := by
  grind only [touch, kept_readWord, kept_foldl]

theorem kept_pokePort (port a : Nat) (bs : List Byte) : Kept z (pokePort s port a bs) := by
  grind only [pokePort, kept_poke, kept_writeWord, kept_foldl]

theorem kept_readHead (port q : Nat) : Kept z (readHead s port q) := by
  grind only [readHead, kept_fillHead, kept_touch]

theorem kept_touchAperture (q o : Nat) : Kept z (touchAperture s q o) := by
  grind only [touchAperture, kept_touch]

/-! ### The host port and its mailboxes -/

theorem kept_setMbState (i v : Nat) : Kept z (setMbState s i v) := by
  grind only [setMbState, kept_set]

theorem kept_completeEntry (e : Option Nat) : Kept z (completeEntry s e) := by
  cases e with
  | none => exact h
  | some id => exact kept_update h

theorem kept_mbi (a : Nat) (bs : List Byte) : Kept z { s with mbi := memWrite s.mbi 0 a bs } := by
  refine Kept.trans h ⟨rfl, rfl, rfl, fun w => ?_⟩
  obtain ⟨hy, hf, ht, hi, ho⟩ := memWf_iff.1 w
  exact memWf_iff.2 ⟨hy, hf, ht, memWrite_wf _ _ _ hi, ho⟩

theorem kept_mbo (a : Nat) (bs : List Byte) : Kept z { s with mbo := memWrite s.mbo 0 a bs } := by
  refine Kept.trans h ⟨rfl, rfl, rfl, fun w => ?_⟩
  obtain ⟨hy, hf, ht, hi, ho⟩ := memWf_iff.1 w
  exact memWf_iff.2 ⟨hy, hf, ht, hi, memWrite_wf _ _ _ ho⟩

theorem kept_postSpi (i : Nat) (msg : List Byte) (e : Option Nat) : Kept z (postSpi s i msg e) := by
  unfold postSpi
  split
  · exact kept_update (kept_set h _ _ _)
  · exact kept_completeEntry (kept_set (kept_mbo h _ _) _ _ _) _

theorem kept_putEth (port : Nat) (p : EthPort) : Kept z (State.putEth s port p) := by
  grind only [State.putEth, kept_update]

theorem kept_sendUdp (port : Nat) (d : Dgram) : Kept z (sendUdp s port d) := by
  grind only [sendUdp, kept_putEth]

theorem kept_postSession (n mbox : Nat) (msg : List Byte) : Kept z (postSession s n mbox msg) := by
  grind only [postSession, kept_sendUdp, kept_update]

theorem kept_post (via : Transport) (mbox : Nat) (msg : List Byte) (e : Option Nat) : Kept z (post s via mbox msg e) := by
  cases via with
  | spi => exact kept_postSpi h _ _ _
  | session n => exact kept_completeEntry (kept_postSession h _ _ _) _
  | sideband => exact kept_completeEntry (kept_update h) _

theorem kept_respond (via : Transport) (mbox op : Nat) (tag : BitVec 16) (quiet replayed : Bool) (status detail : Nat)
    (data : List Byte) (e : Option Nat) : Kept z (respond s via mbox op tag quiet replayed status detail data e) := by
  grind only [respond, kept_completeEntry, kept_post]

theorem kept_postNotice (op status detail : Nat) (data : List Byte) : Kept z (postNotice s op status detail data) := by
  grind only [postNotice, kept_postSpi, kept_postSession, kept_update]

theorem kept_ringMailboxes (ring : Nat) : Kept z (ringMailboxes s ring) := by
  grind only [ringMailboxes, kept_setMbState, kept_hostErr, kept_update, kept_foldl]

theorem kept_releaseMbo (rel : Nat) : Kept z (releaseMbo s rel) := by
  grind only [releaseMbo, kept_endSpilling, kept_set]

theorem kept_beginRestart (cause : Nat) : Kept z (beginRestart s cause) := by
  grind only [beginRestart, kept_set, kept_setB, kept_update]

theorem kept_writeReset (w : Nat) : Kept z (writeReset s w) := by
  grind only [writeReset, kept_hostErr, kept_hubReset, kept_beginRestart]

theorem kept_writeW1c (r : RegAddr) (v latched : Word) : Kept z (writeW1c s r v latched) := by
  grind only [writeW1c, kept_setReg]

theorem kept_writeHost (o : Nat) (w : Word) : Kept z (writeHost s o w) := by
  grind only [writeHost, kept_writeReset, kept_ringMailboxes, kept_releaseMbo, kept_writeW1c, kept_putRw]

theorem kept_writeWindow (q o : Nat) (w : Word) : Kept z (writeWindow s q o w) := by
  grind only [writeWindow, kept_readerCmd, kept_writeW1c, kept_putRw]

theorem kept_hostStore (a : Nat) (w : Word) : Kept z (hostStore s a w) := by
  unfold hostStore
  split
  · exact kept_writeHost h _ _
  · split
    · exact h
    · split
      · exact kept_hostErr h _
      · exact kept_mbi h _ _
  · exact h
  · exact kept_writeWindow h _ _ _
  · exact kept_hostErr h _

theorem kept_spiStore (blk a k : Nat) (l : List Word) (ovf : List Nat) : Kept z (spiStore s blk a k l ovf) := by
  induction l generalizing s a k with
  | nil => exact h
  | cons w r ih => grind only [spiStore, kept_hostErr, kept_hostStore]

theorem kept_spiWriteTxn (addr : BitVec 24) (words : List Word) (commit : Nat) (ovf : List Nat) : Kept z
    (spiWriteTxn s addr words commit ovf) := by
  grind only [spiWriteTxn, kept_spiStore, kept_hostErr]

theorem kept_readEffect (a : Nat) : Kept z (readEffect s a) := by
  grind only [readEffect, kept_hostErr, kept_touchAperture]

theorem kept_spiLoad (blk : Nat) (late : List Nat) (n : Nat) (n' : Nat) (n'' : Nat) : Kept z (spiLoad s blk late n n' n'').1 := by
  induction n generalizing s n' n'' with
  | zero => grind only [spiLoad, kept_hostErr, kept_readEffect]
  | succ n ih => grind only [spiLoad, kept_hostErr, kept_readEffect]

theorem kept_spiReadTxn (addr : BitVec 24) (count : Nat) (late : List Nat) : Kept z (spiReadTxn s addr count late) := by
  grind only [spiReadTxn, kept_spiLoad, kept_update]

/-! ### A mailbox request and its answer -/

theorem out_ok (data : List Byte) : OutKept z (ok s data) := by
  grind only [ok, out_done]

theorem out_okSame (data : List Byte) : OutKept z (okSame s data) := by
  grind only [okSame, out_done]

theorem out_no (st : Nat) : OutKept z (no s st) := by
  grind only [no, out_done]

theorem out_firstFail (checks : List (Bool × Nat)) (f : State → CmdOut) (hf : OutKept z (f s)) : OutKept z (firstFail s checks f)
    := by
  induction checks with
  | nil => exact hf
  | cons c r ih => grind only [firstFail, out_no]

theorem out_withRange (b : List Byte) (total fitted : Nat) (f : List Nat → State → CmdOut) (hf : OutKept z (f (rangeOf b) s)) :
    OutKept z (withRange s b total fitted f) := by
  grind only [withRange, out_okSame, out_no]

theorem out_wrongLength (out : CmdOut) : OutKept z (wrongLength s out) := by
  cases out <;> grind only [wrongLength, out_no]

theorem out_lengthCheck (bad : Bool) {out : CmdOut} (ho : OutKept z out) : OutKept z (lengthCheck bad s out) := by
  grind only [lengthCheck, out_wrongLength]

theorem out_sized (r : Req) (n : Nat) (f : State → CmdOut) (hf : OutKept z (f s)) : OutKept z (sized r n s f) :=
  out_lengthCheck h _ hf

theorem out_unfitted (absent : Bool) {out : CmdOut} (ho : OutKept z out) : OutKept z (unfitted absent s out) := by
  grind only [unfitted, out_no]

theorem kept_putReg (blk : Blk) (i off : Nat) (w : Word) : Kept z (putReg s blk i off w) := by
  grind only [putReg, kept_putRw]

theorem kept_putRegs (blk : Blk) (i off : Nat) (l : List Word) : Kept z (putRegs s blk i off l) := by
  induction l generalizing s off with
  | nil => exact h
  | cons w r ih => exact ih (kept_putReg h _ _ _ _) _

theorem kept_stepGen : Kept z (stepGen s) := by
  grind only [stepGen, kept_update]

theorem kept_genAfter (g step : Bool) (status : Nat) : Kept z (genAfter s g step status) := by
  grind only [genAfter, kept_stepGen]

omit h in
theorem kept_finish (op : Nat) (g : Bool) (r : Req) (e : Option Nat) (replayed : Bool) {out : CmdOut} (ho : OutKept z out) :
    Kept z (finish op g r e replayed out) := by
  cases out with
  | done s1 st d data step => exact kept_respond (kept_genAfter ho _ _ _) _ _ _ _ _ _ _ _ _ _
  | wait s1 on => exact kept_update (z := z) ho

theorem kept_runReq (op : Nat) (g fitted : Bool) (f : Req → State → CmdOut) (r : Req) (e : Option Nat) (replayed : Bool)
    (hf : OutKept z (f r s)) : Kept z (runReq op g fitted f r e replayed s) := by
  grind only [runReq, kept_finish, out_no, out_done]

theorem kept_cmdRow (op : Nat) (g fitted : Bool) (f : Req → State → CmdOut) (r : Req) (hf : OutKept z (f r s)) :
    Kept z (cmdRow op g fitted f r s) := by
  grind only [cmdRow, kept_runReq]

theorem kept_saveResponse (id : Nat) (g : Bool) (status detail : Nat) (data : List Byte) : Kept z
    (saveResponse s id g status detail data) := by
  grind only [saveResponse, kept_update]

theorem kept_answerWait (w : Wait) (g : Bool) (status detail : Nat) (data : List Byte) : Kept z
    (answerWait s w g status detail data) := by
  grind only [answerWait, kept_saveResponse, kept_respond, kept_genAfter]

theorem kept_answerWaits (p : WaitFor → Bool) (g : Bool) (out : State → Wait → Nat × List Byte) :
    Kept z (answerWaits s p g out) := by
  grind only [answerWaits, kept_answerWait, kept_foldl, kept_update]

/-! ### The parser -/

theorem kept_putRx (n : Nat) (x : LaneRx) : Kept z (State.putRx s n x) := by
  grind only [State.putRx, kept_update]

theorem kept_putTx (n : Nat) (x : LaneTx) : Kept z (State.putTx s n x) := by
  grind only [State.putTx, kept_update]

theorem kept_putSource (src : Nat) (x : Source) : Kept z (State.putSource s src x) := by
  grind only [State.putSource, kept_update]

theorem kept_ringShow (src : Nat) : Kept z (ringShow s src) := by
  grind only [ringShow, kept_set]

theorem kept_freeSentence (x : Sentence) : Kept z (freeSentence s x) := by
  grind only [freeSentence, kept_ringShow, kept_setMbState]

theorem kept_countDiscard (x : Sentence) (restart : Bool) : Kept z (countDiscard s x restart) := by
  grind only [countDiscard, kept_inc]

theorem kept_discardOpen (src : Nat) (restart : Bool) : Kept z (discardOpen s src restart) := by
  grind only [discardOpen, kept_freeSentence, kept_countDiscard, kept_putSource]

theorem kept_laneCause (src c : Nat) : Kept z (laneCause s src c) := by
  grind only [laneCause, kept_putSource, kept_discardOpen]

theorem kept_roleCause (lane c : Nat) : Kept z (roleCause s lane c) := by
  grind only [roleCause, kept_laneCause]

theorem kept_openSentence (src : Nat) (i : InByte) : Kept z (openSentence s src i) := by
  grind only [openSentence, kept_ringShow, kept_putSource]

theorem kept_stageLane (src n : Nat) (x : Sentence) (b : Byte) : Kept z (stageLane s src n x b) := by
  grind only [stageLane, kept_writeWord, kept_putRx, kept_freeSentence, kept_inc, kept_putSource]

theorem kept_stageLast (src before : Nat) (i : InByte) : Kept z (stageLast s src before i) := by
  grind only [stageLast, kept_putSource, kept_stageLane]

theorem kept_endOpen (src : Nat) : Kept z (endOpen s src) := by
  grind only [endOpen, kept_putSource]

theorem kept_flagOpen (src : Nat) (dmg fe : Bool) : Kept z (flagOpen s src dmg fe) := by
  grind only [flagOpen, kept_laneCause, kept_putSource]

theorem kept_endPayload (src : Nat) : Kept z (endPayload s src) := by
  grind only [endPayload, kept_putSource]

theorem kept_parserTake (src : Nat) (i : InByte) (dmg fe : Bool) : Kept z (parserTake s src i dmg fe) := by
  grind only [parserTake, kept_flagOpen, kept_stageLast, kept_openSentence, kept_discardOpen, kept_inc, kept_ringShow,
      kept_putSource, kept_endOpen, kept_endPayload]

theorem kept_countRerun (x : Sentence) : Kept z (countRerun s x).1 := by
  grind only [countRerun, kept_inc]

theorem kept_journalWrite (x : Sentence) : Kept z (journalWrite s x) := by
  grind only [journalWrite, kept_stallOffer, kept_raiseTwin, kept_set]

theorem kept_dropWait (w : Wait) : Kept z (dropWait s w) := by
  grind only [dropWait, kept_update]

theorem kept_freeMailbox (w : Wait) : Kept z (freeMailbox s w) := by
  grind only [freeMailbox, kept_setMbState]

theorem kept_startHostSentence (n : Nat) : Kept z (startHostSentence s n) := by
  induction n generalizing s with
  | zero => grind only [startHostSentence, kept_answerWait, kept_freeMailbox, kept_dropWait, kept_parserTake, kept_putSource,
      kept_update]
  | succ n ih => grind only [startHostSentence, kept_answerWait, kept_freeMailbox, kept_dropWait, kept_parserTake, kept_putSource,
      kept_update]

theorem kept_answerHost (src outcome seqn : Nat) : Kept z (answerHost s src outcome seqn) := by
  grind only [answerHost, kept_answerWait, kept_dropWait, kept_startHostSentence]

theorem kept_ppsLabel (x : Sentence) : Kept z (ppsLabel s x) := by
  grind only [ppsLabel, kept_update]

theorem kept_offerSentence (x : Sentence) : Kept z (offerSentence s x) := by
  unfold offerSentence
  extract_lets src s1 s2 y fromLine s3 so
  have h1 : Kept z s1 := by grind only [kept_ppsLabel, kept_inc]
  have h2 : Kept z s2 := by grind only [kept_answerHost]
  have h3 : Kept z s3 := by grind only [kept_journalWrite]
  split
  · exact kept_freeSentence (kept_update h3) _
  · exact kept_putSource h3 _ _

theorem kept_numberSentence (x : Sentence) : Kept z (numberSentence s x).1 := by
  grind only [numberSentence, kept_set, kept_putSource]

theorem kept_failSentence (x : Sentence) : Kept z (failSentence s x) := by
  grind only [failSentence, kept_answerHost, kept_freeSentence]

theorem kept_touchBytes (port : Nat) (l : List Nat) : Kept z (touchBytes s port l).1 := by
  grind only [touchBytes, kept_readWord, kept_foldl]

theorem kept_readStaging (port : Nat) (x : Sentence) : Kept z (readStaging s port x).1 := by
  grind only [readStaging, kept_touchBytes]

theorem kept_frameLost (src frame : Nat) (lost : List Sentence) : Kept z (frameLost s src frame lost) := by
  grind only [frameLost, kept_putSource, kept_failSentence, kept_inc, kept_foldl]

theorem kept_stagingLost (x : Sentence) : Kept z (stagingLost s x) := by
  grind only [stagingLost, kept_frameLost, kept_failSentence, kept_inc]

theorem kept_closeSentence (src : Nat) (f : Transient) : Kept z (closeSentence s src f) := by
  unfold closeSentence
  dsimp only
  split
  · exact h
  · rename_i x rest _
    have h0 : Kept z (s.putSource src { s.source src with closing := rest }) := kept_putSource h _ _
    split
    · exact kept_answerHost (kept_freeSentence (kept_countDiscard h0 _ _) _) _ _ _
    · have h1 := kept_numberSentence h0 x
      have h2 := fun p y => kept_readStaging h1 p y
      grind only [kept_stagingLost, kept_countRerun, kept_putSource, kept_failSentence, kept_offerSentence]

/-! ### Time of day and the frame grid -/

theorem kept_timeTick : Kept z (timeTick s) := by
  grind only [timeTick, kept_update]

/-! ### Pixels -/

theorem kept_writePixel (b p : Nat) (px : List Byte) : Kept z (writePixel s b p px) := by
  grind only [writePixel, kept_poke]

theorem kept_srcIgnored : Kept z (srcIgnored s) := by
  grind only [srcIgnored, kept_raisePixel, kept_inc]

theorem kept_putSourcePixel (r : SrcRec) (p : Nat) (px : List Byte) : Kept z (putSourcePixel s r p px) := by
  grind only [putSourcePixel, kept_yardDue, kept_writePixel]

theorem kept_writeSource (r : SrcRec) (slots : List Byte) : Kept z (writeSource s r slots) := by
  grind only [writeSource, kept_putSourcePixel, kept_foldl]

theorem kept_offerSource (i : Nat) (slots : List Byte) : Kept z (offerSource s i slots) := by
  grind only [offerSource, kept_inc, kept_writeSource, kept_update]

theorem kept_offerDmx (role : Nat) (slots : List Byte) : Kept z (offerDmx s role slots) := by
  grind only [offerDmx, kept_srcIgnored, kept_offerSource, kept_foldl]

theorem kept_commitFrame : Kept z (commitFrame s) := by
  grind only [commitFrame, kept_set, kept_raisePixel, kept_inc]

theorem kept_seedFill : Kept z (seedFill s) := by
  grind only [seedFill, kept_writePixel, kept_touch, kept_foldl]

theorem kept_seedsLeft (l : List Nat) : Kept z (seedsLeft s l) := by
  grind only [seedsLeft, kept_setB, kept_update]

theorem kept_releaseSeeded : Kept z (releaseSeeded s) := by
  grind only [releaseSeeded, kept_writeSource, kept_update, kept_foldl]

theorem kept_beginSeeding : Kept z (beginSeeding s) := by
  grind only [beginSeeding, kept_releaseSeeded, kept_seedsLeft]

theorem kept_swapBuffers : Kept z (swapBuffers s) := by
  grind only [swapBuffers, kept_set, kept_inc, kept_raisePixel, kept_beginSeeding, kept_seedFill]

theorem kept_takeRunSrc : Kept z (takeRunSrc s) := by
  have h1 : Kept z { s with runNow := s.on F.pixel_RUN 0, pixTicked := true } := kept_update h
  have h2 := kept_foldl (fun t (_ : Nat × List Byte) => srcIgnored t) (fun t _ ht => kept_srcIgnored ht) s.seedHeld h1
  grind only [takeRunSrc, kept_set, kept_update]

theorem kept_putZone (z' : Nat) (x : Zone) : Kept z (State.putZone s z' x) := by
  grind only [State.putZone, kept_update]

theorem kept_offerSample (ch : Nat) (v : Int) (c : Nat) : Kept z (offerSample s ch v c) := by
  grind only [offerSample, kept_update]

theorem kept_offerGate (role period high : Nat) : Kept z (offerGate s role period high) := by
  grind only [offerGate, kept_update]

theorem kept_senseLost (role : Nat) : Kept z (senseLost s role) := by
  grind only [senseLost, kept_update]

theorem kept_zoneUpdate (z' : Nat) : Kept z (zoneUpdate s z') := by
  grind only [zoneUpdate, kept_raisePixel, kept_putZone]

theorem kept_zonesTick : Kept z (zonesTick s) := by
  grind only [zonesTick, kept_zoneUpdate, kept_update, kept_foldl]

theorem kept_latchValue (l : Latch) : Kept z (latchValue s l) := by
  grind only [latchValue, kept_update]

theorem kept_applyLatch (l : Latch) : Kept z (applyLatch s l) := by
  grind only [applyLatch, kept_set, kept_putZone]

theorem kept_applyLatches : Kept z (applyLatches s) := by
  grind only [applyLatches, kept_applyLatch, kept_update, kept_foldl]

theorem kept_countDues (role : Nat) (pwm : Bool) : Kept z (countDues s role pwm) := by
  grind only [countDues, kept_addTo, kept_raisePixel, kept_update]

theorem kept_healTables : Kept z (healTables s) := by
  grind only [healTables, kept_poke, kept_update, kept_foldl]

theorem kept_readTables (role : Nat) (pwm : Bool) : Kept z (readTables s role pwm) := by
  grind only [readTables, kept_touch, kept_foldl]

theorem kept_putEnc (n : Nat) (x : EncLane) : Kept z (State.putEnc s n x) := by
  grind only [State.putEnc, kept_update]

theorem kept_pipeLane (n : Nat) : Kept z (pipeLane s n) := by
  grind only [pipeLane, kept_countDues, kept_readTables, kept_putEnc]

theorem kept_loadEntries (a b : Nat) : Kept z (loadEntries s a b) := by
  grind only [loadEntries, kept_readWord, kept_update, kept_foldl]

theorem kept_loadCurves : Kept z (loadCurves s) := by
  grind only [loadCurves, kept_loadEntries]

theorem kept_reloadMet : Kept z (reloadMet s) := by
  grind only [reloadMet, kept_loadEntries, kept_foldl]

theorem kept_pipeStart : Kept z (pipeStart s) := by
  grind only [pipeStart, kept_healTables, kept_reloadMet, kept_pipeLane, kept_foldl]

theorem kept_applyStaged : Kept z (applyStaged s) := by
  grind only [applyStaged, kept_putRegs, kept_putEnc, kept_set, kept_update, kept_foldl]

theorem kept_commitZone (old new : Nat) (z' : Nat) : Kept z (commitZone s old new z') := by
  grind only [commitZone, kept_putZone]

theorem kept_applyCommit : Kept z (applyCommit s) := by
  have h1 := kept_foldl (fun t (e : Nat × Zone) => commitZone t s.pixActive s.pixInactive e.1)
      (fun _ _ ht => kept_commitZone ht _ _ _) s.zones h
  exact kept_raisePixel (kept_inc (kept_set (kept_set (kept_set (kept_applyStaged h1) _ _ _) _ _ _) _ _ _) _ _) _

theorem kept_pixelCopyback : Kept z (pixelCopyback s) := by
  grind only [pixelCopyback, kept_poke, kept_blankSpan, kept_set, kept_foldl]

omit h in
theorem yard_filter_wf_of_init {r r' : Bool} {p : Host.Cell → Bool} (hp : ∀ e, p e = true → yardInit r' e.1 = yardInit r e.1)
    {t : List Host.Cell} {b : Nat} (w : yardWfFrom r b t = true) : yardWfFrom r' b (t.filter p) = true := by
  induction t generalizing b with
  | nil => rfl
  | cons e l ih =>
    simp only [yardWfFrom, Bool.and_eq_true, decide_eq_true_eq] at w
    obtain ⟨⟨hb, hv⟩, hl⟩ := w
    rw [List.filter_cons]
    split
    · rename_i he
      simp only [yardWfFrom, Bool.and_eq_true, decide_eq_true_eq, hp e he]
      exact ⟨⟨hb, hv⟩, ih hl⟩
    · exact yardWfFrom_mono r' (by omega) (ih hl)

omit h in
theorem yardInit_outside (r : Bool) {a : Nat} (ha : a < 0x1AA8000 ∨ curveEnd ≤ a) : yardInit r a = 0 := by
  unfold yardInit
  rw [if_pos (by simp [or_assoc, ha])]

theorem kept_initPixelTables : Kept z (initPixelTables s) := by
  unfold initPixelTables State.blankSpan
  refine kept_loadCurves (kept_foldl _ (fun _ _ ht => kept_poke ht _ _) _ (Kept.trans h ⟨rfl, rfl, rfl, fun w => ?_⟩))
  obtain ⟨hy, hm⟩ := memWf_iff.1 w
  refine memWf_iff.2 ⟨yard_filter_wf_of_init (fun e he => ?_) hy, hm⟩
  have ho : e.1 < 0x1AA8000 ∨ curveEnd ≤ e.1 := by simpa using he
  rw [yardInit_outside _ ho, yardInit_outside _ ho]

theorem kept_pixelTick : Kept z (pixelTick s) := by
  grind only [pixelTick, kept_applyLatches, kept_takeRunSrc, kept_applyCommit, kept_swapBuffers, kept_pipeStart, kept_update]

theorem kept_pixelZones : Kept z (pixelZones s) := by
  grind only [pixelZones, kept_zonesTick]

/-! ### Lane receivers -/

theorem kept_rxEvent (n : Nat) (f : Field) (bit : Nat) : Kept z (rxEvent s n f bit) := by
  grind only [rxEvent, kept_raiseRx, kept_inc]

theorem kept_dropLock (n : Nat) : Kept z (dropLock s n) := by
  grind only [dropLock, kept_set]

theorem kept_abSearch (n : Nat) : Kept z (abSearch s n) := by
  grind only [abSearch, kept_dropLock, kept_set, kept_putRx]

theorem kept_armLane (n : Nat) : Kept z (armLane s n) := by
  grind only [armLane, kept_abSearch, kept_set]

theorem kept_raiseSilent (n : Nat) : Kept z (raiseSilent s n) := by
  grind only [raiseSilent, kept_raiseRx, kept_set, kept_inc, kept_putRx, kept_dropLock, kept_abSearch]

theorem kept_takeBaud (n : Nat) : Kept z (takeBaud s n) := by
  grind only [takeBaud, kept_putRx]

theorem kept_toHold (n : Nat) (c : HoldChar) : Kept z (toHold s n c) := by
  grind only [toHold, kept_inc, kept_raiseRx, kept_set, kept_roleCause, kept_rxEvent, kept_putRx]

theorem kept_dropPacket (n : Nat) : Kept z (dropPacket s n) := by
  grind only [dropPacket, kept_putRx]

theorem kept_dmxShort (n : Nat) : Kept z (dmxShort s n) := by
  grind only [dmxShort, kept_raiseTx, kept_dropPacket, kept_inc]

theorem kept_charDone (n st : Nat) (level : Bool) : Kept z (charDone s n st level) := by
  grind only [charDone, kept_takeBaud, kept_set, kept_setB, kept_putRx]

theorem kept_sentenceChar (n : Nat) (c : CharSample) : Kept z (sentenceChar s n c) := by
  grind only [sentenceChar, kept_roleCause, kept_rxEvent, kept_charDone, kept_raiseSilent, kept_toHold, kept_putRx]

theorem kept_takeSlot (n : Nat) : Kept z (takeSlot s n) := by
  grind only [takeSlot, kept_inc, kept_raiseRx, kept_set, kept_putRx]

theorem kept_dmxChar (n : Nat) (c : CharSample) : Kept z (dmxChar s n c) := by
  grind only [dmxChar, kept_charDone, kept_raiseSilent, kept_rxEvent, kept_takeSlot, kept_dropPacket, kept_putRx]

theorem kept_abMeasure (n : Nat) (c : CharSample) (wave : List Nat) : Kept z (abMeasure s n c wave) := by
  have h1 := fun p k => kept_set (kept_set (kept_setReg h (F.rx_DIV_INT.addr n) p) F.rx_LOCKED n 1) F.rx_LOCKED_KEY n k
  grind only [abMeasure, kept_rxEvent, kept_raiseRx, kept_charDone, kept_toHold]

theorem runs_execStartBit (lane : Nat) (level : Bool) (edge : EdgeAt) : Runs z (execStartBit lane level edge s) := by
  grind only [execStartBit, kept_set, kept_rxEvent, kept_charDone, kept_putRx, runs_next]

theorem runs_execLaneCharacter (lane : Nat) (smp : CharSample) (wave : List Nat) : Runs z (execLaneCharacter lane smp wave s) := by
  grind only [execLaneCharacter, kept_abMeasure, kept_dmxChar, kept_sentenceChar, runs_next]

theorem runs_execBreakEnd (lane : Nat) : Runs z (execBreakEnd lane s) := by
  grind only [execBreakEnd, kept_armLane, kept_set, runs_next]

theorem runs_execLineStuckLow (lane : Nat) : Runs z (execLineStuckLow lane s) := by
  have h1 := kept_set (kept_set (kept_set h F.rx_STUCK lane 1) F.rx_LINE lane 0) F.rx_STATE lane 6
  have h2 := kept_raiseRx (kept_inc h1 F.rx_STUCK_CNT lane) lane Bit.rxStuckSet
  grind only [execLineStuckLow, runs_next, kept_dropPacket, kept_putRx, kept_roleCause, kept_raiseSilent]

theorem runs_execLaneArm (lane : Nat) : Runs z (execLaneArm lane s) := by
  grind only [execLaneArm, kept_raiseRx, kept_set, kept_abSearch, kept_armLane, runs_next]

theorem runs_execTalkerSilent (lane : Nat) : Runs z (execTalkerSilent lane s) := by
  grind only [execTalkerSilent, kept_putRx, kept_raiseSilent, runs_next]

theorem runs_execFragment (lane : Nat) : Runs z (execFragment lane s) := by
  grind only [execFragment, kept_roleCause, kept_rxEvent, runs_next]

theorem kept_rearmLane (n : Nat) : Kept z (rearmLane s n) := by
  grind only [rearmLane, kept_dropLock, kept_abSearch, kept_raiseSilent, kept_set]

theorem runs_execRearm (lane : Nat) : Runs z (execRearm lane s) := by
  grind only [execRearm, kept_rearmLane, runs_next]

theorem kept_clearRxCounters (n : Nat) : Kept z (clearRxCounters s n) := by
  grind only [clearRxCounters, kept_clear, kept_set]

theorem runs_execLaneRxCntClr (lane : Nat) : Runs z (execLaneRxCntClr lane s) := by
  grind only [execLaneRxCntClr, kept_clearRxCounters, runs_next]

theorem kept_writeRxBaud (n : Nat) (v : Word) : Kept z (writeRxBaud s n v) := by
  grind only [writeRxBaud, kept_putRw, kept_takeBaud]

theorem runs_execLaneRxBaudWrite (lane : Nat) (v : Word) : Runs z (execLaneRxBaudWrite lane v s) := by
  grind only [execLaneRxBaudWrite, kept_writeRxBaud, runs_next]

theorem kept_feedSource (src : Nat) (bytes : List Byte) (stamp ts : Nat) : Kept z (feedSource s src bytes stamp ts) := by
  grind only [feedSource, kept_putSource]

theorem kept_emitDmxr (role num stamp ts : Nat) (slots : List Byte) : Kept z (emitDmxr s role num stamp ts slots) := by
  grind only [emitDmxr, kept_feedSource]

theorem kept_endPacket (n : Nat) : Kept z (endPacket s n) := by
  grind only [endPacket, kept_dropPacket, kept_inc, kept_putRx, kept_emitDmxr, kept_offerDmx]

theorem runs_execDmxRxBreak (lane : Nat) (low mab : Nat) (edge : EdgeAt) : Runs z (execDmxRxBreak lane low mab edge s) := by
  grind only [execDmxRxBreak, kept_set, kept_putRx, kept_raiseSilent, kept_dmxShort, kept_rxEvent, kept_endPacket, runs_next]

theorem runs_execDmxRxPacketEnd (lane : Nat) : Runs z (execDmxRxPacketEnd lane s) := by
  grind only [execDmxRxPacketEnd, kept_endPacket, runs_next]

theorem kept_gateEnd (n period high : Nat) : Kept z (gateEnd s n period high) := by
  grind only [gateEnd, kept_set, kept_incWrap, kept_offerGate]

theorem kept_senseMeasure (n : Nat) (rising : Bool) (cycles : Nat) : Kept z (senseMeasure s n rising cycles) := by
  grind only [senseMeasure, kept_putRx, kept_gateEnd]

theorem kept_senseCapture (n : Nat) (rising : Bool) (stamp : Nat) : Kept z (senseCapture s n rising stamp) := by
  grind only [senseCapture, kept_putRx, kept_stallOffer, kept_update]

theorem runs_execSenseEdge (lane : Nat) (rising : Bool) (cycles : Nat) (edge : EdgeAt) : Runs z
    (execSenseEdge lane rising cycles edge s) := by
  grind only [execSenseEdge, kept_inc, kept_setB, kept_raiseTx, kept_putRx, kept_senseCapture, kept_senseMeasure, runs_next]

theorem runs_execSenseOvf (lane : Nat) : Runs z (execSenseOvf lane s) := by
  grind only [execSenseOvf, kept_raiseTx, kept_putRx, kept_set, runs_next]

theorem runs_execNoSignal (lane : Nat) : Runs z (execNoSignal lane s) := by
  grind only [execNoSignal, kept_raiseTx, kept_putRx, kept_senseLost, runs_next]

/-! ### Lane transmitters -/

theorem kept_setSlotG (l g : Nat) : Kept z (setSlotG s l g) := by
  grind only [setSlotG, kept_update]

theorem kept_dropUnbound (l : Nat) : Kept z (dropUnbound s l) := by
  grind only [dropUnbound, kept_setReader, kept_update, kept_foldl]

theorem kept_chooseRecord (l : Nat) : Kept z (chooseRecord s l).1 := by
  grind only [chooseRecord, kept_dropUnbound, kept_setSlotG]

theorem kept_noteRelease (l : Nat) (g : Granted) : Kept z (noteRelease s l g) := by
  grind only [noteRelease, kept_update]

theorem kept_releaseGranted (l : Nat) (g : Granted) : Kept z (releaseGranted s l g) := by
  grind only [releaseGranted, kept_noteRelease, kept_readHead, kept_moveDrop]

theorem kept_runAfterMarker (g : Granted) : Kept z (runAfterMarker s g) := by
  grind only [runAfterMarker, kept_runStall]

theorem kept_releaseMarker (l : Nat) (g : Granted) : Kept z (releaseMarker s l g) := by
  grind only [releaseMarker, kept_raiseStall, kept_runAfterMarker, kept_releaseGranted]

theorem kept_dmxUpdErr (n : Nat) : Kept z (dmxUpdErr s n) := by
  grind only [dmxUpdErr, kept_raiseTx, kept_inc]

theorem kept_dmxsUpdate (n : Nat) (b : List Byte) (seqn : Nat) : Kept z (dmxsUpdate s n b seqn) := by
  grind only [dmxsUpdate, kept_dmxUpdErr, kept_putTx]

theorem kept_takeTxBaud (n : Nat) : Kept z (takeTxBaud s n) := by
  grind only [takeTxBaud, kept_putTx]

theorem kept_guardRx (n : Nat) : Kept z (guardRx s n) := by
  grind only [guardRx, kept_putRx, kept_raiseSilent, kept_set]

theorem kept_raiseDe (n : Nat) : Kept z (raiseDe s n) := by
  grind only [raiseDe, kept_guardRx, kept_takeTxBaud, kept_putTx]

theorem kept_startRecord (n : Nat) (g : Granted) : Kept z (startRecord s n g) := by
  grind only [startRecord, kept_putTx, kept_raiseDe]

theorem kept_dropRecord (n : Nat) : Kept z (dropRecord s n) := by
  grind only [dropRecord, kept_releaseGranted, kept_putTx]

theorem kept_ungrant (n : Nat) : Kept z (ungrant s n) := by
  grind only [ungrant, kept_putTx]

theorem kept_collide (n : Nat) : Kept z (collide s n) := by
  grind only [collide, kept_raiseTx, kept_inc, kept_dropRecord, kept_putTx]

theorem kept_dropRest (n : Nat) : Kept z (dropRest s n) := by
  grind only [dropRest, kept_putSource]

theorem kept_leaveMode (n : Nat) : Kept z (leaveMode s n) := by
  have h1 := kept_dropRest (kept_roleCause (kept_rxEvent h n F.rx_N_FRAGMENT Bit.rxFragment) n 6) n
  have h2 : ∀ {t}, Kept z t → ∀ x y, Kept z (((t.putRx n x).set F.rx_STATE n 0).set F.rx_STUCK n 0 |>.putTx n y) :=
    fun ht x y => kept_putTx (kept_set (kept_set (kept_putRx ht n x) _ _ _) _ _ _) n y
  grind only [leaveMode, kept_putEnc, kept_set]

theorem kept_enterMode (n mode : Nat) : Kept z (enterMode s n mode) := by
  grind only [enterMode, kept_leaveMode, kept_set, kept_dropLock, kept_putTx, kept_raiseTx]

theorem kept_copyRegs (a b : Nat) (e : Blk × Nat × Nat) : Kept z (copyRegs s a b e) := by
  grind only [copyRegs, kept_setReg, kept_foldl]

theorem kept_completeMove (old new : Nat) : Kept z (completeMove s old new) := by
  unfold completeMove
  extract_lets role mode pend want s1 x s2 s3 y s4 s5 s6 s7 s8 s9 w s10 s11
  have h1 : Kept z s1 := kept_foldl _ (fun t e ht => kept_copyRegs ht old new e) roleRegs h
  have h3 : Kept z s3 := kept_update (kept_putTx h1 _ _)
  have h4 : Kept z s4 := kept_putTx (kept_leaveMode h3 _) _ _
  have h5 : Kept z s5 := kept_set (kept_set (kept_set (kept_set h4 _ _ _) _ _ _) _ _ _) _ _ _
  have h6 : Kept z s6 := kept_set (kept_set (kept_set h5 _ _ _) _ _ _) _ _ _
  have h8 : Kept z s8 := kept_takeBaud (kept_takeTxBaud (kept_setB (kept_set h6 _ _ _) _ _ _) _) _
  have h9 : Kept z s9 := by grind only [kept_dropLock, kept_set]
  have h10 : Kept z s10 := by grind only [kept_putTx]
  exact kept_raiseTx (kept_raiseTx (kept_ringShow h10 _) _ _) _ _

theorem kept_atBoundary (n : Nat) : Kept z (atBoundary s n) := by
  grind only [atBoundary, kept_completeMove, kept_answerWaits, kept_enterMode]

theorem kept_cutSentence (n : Nat) : Kept z (cutSentence s n) := by
  grind only [cutSentence, kept_ungrant, kept_raiseTx, kept_dropRecord, kept_inc, kept_putTx]

theorem kept_reachBoundary (n : Nat) : Kept z (reachBoundary s n) := by
  grind only [reachBoundary, kept_cutSentence, kept_ungrant, kept_putTx, kept_atBoundary]

theorem kept_writeMode (n mode : Nat) : Kept z (writeMode s n mode) := by
  grind only [writeMode, kept_raiseTx, kept_set]

theorem kept_laneGrant (l n : Nat) : Kept z (laneGrant s l n) := by
  grind only [laneGrant, kept_chooseRecord, kept_releaseMarker, kept_releaseGranted, kept_dmxsUpdate, kept_startRecord]

theorem kept_portGrant (l p : Nat) : Kept z (portGrant s l p) := by
  grind only [portGrant, kept_chooseRecord, kept_putEth]

theorem runs_execListenerGrant (listener : Nat) : Runs z (execListenerGrant listener s) := by
  grind only [execListenerGrant, kept_laneGrant, kept_portGrant, runs_next]

theorem runs_execHdxTurnReady (lane : Nat) : Runs z (execHdxTurnReady lane s) := by
  grind only [execHdxTurnReady, kept_raiseDe, runs_next]

theorem runs_execTxLeadEnd (lane : Nat) : Runs z (execTxLeadEnd lane s) := by
  grind only [execTxLeadEnd, kept_putTx, kept_takeTxBaud, runs_next]

theorem kept_dmxSlotEnd (n : Nat) : Kept z (dmxSlotEnd s n) := by
  grind only [dmxSlotEnd, kept_putTx, kept_noteItem, kept_inc]

theorem kept_sentenceCharEnd (n : Nat) (e : Echo) : Kept z (sentenceCharEnd s n e) := by
  grind only [sentenceCharEnd, kept_putTx, kept_collide, kept_noteItem, kept_dropRecord, kept_inc]

theorem runs_execTxCharacterEnd (lane : Nat) (echo : Echo) : Runs z (execTxCharacterEnd lane echo s) := by
  grind only [execTxCharacterEnd, kept_dmxSlotEnd, kept_sentenceCharEnd, runs_next]

theorem kept_deFall (n : Nat) : Kept z (deFall s n) := by
  grind only [deFall, kept_putTx, kept_atBoundary, kept_ungrant]

theorem runs_execDeTailEnd (lane : Nat) : Runs z (execDeTailEnd lane s) := by
  grind only [execDeTailEnd, kept_deFall, runs_next]

theorem runs_execLeadCollision (lane : Nat) : Runs z (execLeadCollision lane s) := by
  grind only [execLeadCollision, kept_deFall, kept_collide, runs_next]

theorem runs_execBackoffEnd (lane : Nat) : Runs z (execBackoffEnd lane s) := by
  grind only [execBackoffEnd, kept_putTx, runs_next]

theorem runs_execEchoGuardEnd (lane : Nat) : Runs z (execEchoGuardEnd lane s) := by
  grind only [execEchoGuardEnd, kept_putRx, kept_set, runs_next]

theorem kept_syncDmx : Kept z (syncDmx s) := by
  grind only [syncDmx, kept_putTx, kept_foldl]

theorem runs_execDmxBreak (lane : Nat) : Runs z (execDmxBreak lane s) := by
  grind only [execDmxBreak, kept_putTx, runs_next]

theorem runs_execLaneModeBoundary (lane : Nat) : Runs z (execLaneModeBoundary lane s) := by
  grind only [execLaneModeBoundary, kept_reachBoundary, runs_next]

theorem runs_execLaneModeWrite (lane mode : Nat) : Runs z (execLaneModeWrite lane mode s) := by
  grind only [execLaneModeWrite, kept_writeMode, runs_next]

theorem runs_execLaneTxBaudWrite (lane : Nat) (v : Word) : Runs z (execLaneTxBaudWrite lane v s) := by
  grind only [execLaneTxBaudWrite, kept_putRw, runs_next]

theorem kept_clearTxCounters (n : Nat) : Kept z (clearTxCounters s n) := by
  grind only [clearTxCounters, kept_clear]

theorem runs_execLaneTxCntClr (lane : Nat) : Runs z (execLaneTxCntClr lane s) := by
  grind only [execLaneTxCntClr, kept_clearTxCounters, runs_next]

/-! ### The rows of lanes and parser -/

theorem kept_takeHold (role : Nat) : Kept z (takeHold s role) := by
  grind only [takeHold, kept_putRx, kept_parserTake]

theorem kept_sourceByte (src : Nat) : Kept z (sourceByte s src) := by
  grind only [sourceByte, kept_takeHold, kept_touchBytes, kept_frameLost, kept_parserTake, kept_putSource]

theorem runs_execParserByte (src : Nat) : Runs z (execParserByte src s) := by
  grind only [execParserByte, kept_sourceByte, runs_next]

theorem kept_clearParseCounters (src : Nat) : Kept z (clearParseCounters s src) := by
  grind only [clearParseCounters, kept_clear]

theorem runs_execParseCntClr (src : Nat) : Runs z (execParseCntClr src s) := by
  grind only [execParseCntClr, kept_clearParseCounters, runs_next]

theorem kept_clearSeq (src : Nat) : Kept z (clearSeq s src) := by
  grind only [clearSeq, kept_set, kept_putSource]

theorem runs_execSeqClr (src : Nat) : Runs z (execSeqClr src s) := by
  grind only [execSeqClr, kept_clearSeq, runs_next]

/-! ### The router -/

theorem kept_putEntry (c n : Nat) (w : List Word) : Kept z (State.putEntry s c n w) := by
  grind only [State.putEntry, kept_update]

theorem kept_putAction (c n : Nat) (w : List Word) : Kept z (State.putAction s c n w) := by
  grind only [State.putAction, kept_update]

theorem kept_putGroup (c n : Nat) (w : List Word) : Kept z (State.putGroup s c n w) := by
  grind only [State.putGroup, kept_update]

theorem kept_decimate (num n : Nat) : Kept z (decimate s num n).1 := by
  grind only [decimate, kept_update]

theorem kept_bucket (num rate burst t : Nat) : Kept z (bucket s num rate burst t).1 := by
  grind only [bucket, kept_update]

theorem kept_runHook (x : Sentence) (kind target : Nat) : Kept z (runHook s x kind target) := by
  grind only [runHook, kept_routerInc, kept_raiseRouter, kept_latchValue, kept_update]

theorem kept_countHit (n : Nat) : Kept z (countHit s n) := by
  grind only [countHit, kept_raiseRouter, kept_update]

theorem kept_dropStep (x : Sentence) (c : Captured) : Kept z (dropStep s x c).1 := by
  grind only [dropStep, kept_decimate, kept_bucket]

theorem kept_toJudges (x : Sentence) (dropped : Bool) : Kept z (toJudges s x dropped) := by
  grind only [toJudges, kept_update]

theorem kept_enqueueCopies (x : Sentence) (c : Captured) : Kept z (enqueueCopies s x c) := by
  grind only [enqueueCopies, kept_freeSentence, kept_raiseRouter, kept_routerInc, kept_update]

theorem kept_applyAction (x0 : Sentence) (c : Captured) : Kept z (applyAction s x0 c) := by
  have h1 := kept_routerInc h F.router_CLASSIFIED
  have h2 := kept_countHit h1 c.verdict.entry
  have h3 := fun x a b => kept_runHook h2 x a b
  grind only [applyAction, kept_routerInc, kept_raiseRouter, kept_toJudges, kept_freeSentence, kept_dropStep, kept_enqueueCopies]

theorem kept_tableRead (w : Nat) : Kept z (tableRead s w).1 := by
  grind only [tableRead, kept_readWord]

theorem kept_rerunClose (x : Sentence) : Kept z (rerunClose s x) := by
  grind only [rerunClose, kept_countRerun, kept_putSource, kept_failSentence]

theorem kept_logJudge (outcome j : Nat) : Kept z (logJudge s outcome j) := by
  grind only [logJudge, kept_stallOffer]

theorem kept_judgeOut (j : Nat) : Kept z (judgeOut s j) := by
  grind only [judgeOut, kept_set, kept_logJudge, kept_raiseVote, kept_update]

theorem kept_judgeJoined : Kept z (judgeJoined s) := by
  have h1 := fun a b c d => kept_set (kept_set (kept_set (kept_set h F.vote_IN 0 a) F.vote_OUT_JUDGE 0 b) F.vote_DEGRADED 0 c)
      F.vote_PENDING_IN 0 d
  grind only [judgeJoined, kept_set, kept_update, kept_raiseVote, kept_logJudge]

theorem kept_judgeIn : Kept z (judgeIn s) := by
  grind only [judgeIn, kept_set, kept_judgeJoined, kept_update]

theorem kept_autoOutN (n : Nat) : Kept z (autoOutN n s) := by
  induction n generalizing s with
  | zero => grind only [autoOutN, kept_judgeOut, kept_judgeIn, kept_update]
  | succ n ih => grind only [autoOutN, kept_judgeOut, kept_judgeIn, kept_update]

theorem kept_autoOut : Kept z (autoOut s) := by
  grind only [autoOut, kept_autoOutN]

theorem kept_suspectCheck (j : Nat) : Kept z (suspectCheck s j) := by
  grind only [suspectCheck, kept_autoOut, kept_logJudge, kept_raiseVote, kept_set]

theorem kept_scoreUp (j : Nat) : Kept z (scoreUp s j) := by
  grind only [scoreUp, kept_set]

theorem kept_judgeFault (j : Nat) : Kept z (judgeFault s j) := by
  grind only [judgeFault, kept_suspectCheck, kept_scoreUp]

theorem kept_classifySentence (x : Sentence) (f : Transient) : Kept z (classifySentence s x f) := by
  cases f with
  | none => exact kept_applyAction h _ _
  | check => exact kept_rerunClose h _
  | table w =>
    have h1 := kept_tableRead h w
    have h2 := kept_countRerun h1 x
    grind only [classifySentence, kept_applyAction, kept_putSource, kept_failSentence]
  | judge j => grind only [classifySentence, kept_rerunClose, kept_judgeFault, kept_applyAction]

theorem kept_classifyNext (f : Transient) : Kept z (classifyNext s f) := by
  grind only [classifyNext, kept_putSource, kept_classifySentence, kept_update]

theorem kept_closeFault (src : Nat) (f : Transient) : Kept z (closeFault s src f).1 := by
  unfold closeFault
  split
  · split
    · exact kept_judgeFault h _
    · exact h
  · exact h

theorem runs_execSentenceClose (src : Nat) (fault : Transient) : Runs z (execSentenceClose src fault s) := by
  grind only [execSentenceClose, kept_closeFault, kept_closeSentence, runs_next]

theorem runs_execClassify (fault : Transient) : Runs z (execClassify fault s) := by
  grind only [execClassify, kept_classifyNext, runs_next]

theorem kept_abandonCopy : Kept z (abandonCopy s) := by
  grind only [abandonCopy, kept_raiseRouter, kept_routerInc]

theorem kept_writeCopy (e : Enqueue) (voter : Bool) (q : Nat) : Kept z (writeCopy s e voter q) := by
  grind only [writeCopy, kept_abandonCopy, kept_stallOffer, kept_inc, kept_routerInc]

theorem kept_rerunCopy (e : Enqueue) : Kept z (rerunCopy s e).1 := by
  grind only [rerunCopy, kept_countRerun]

theorem kept_copyFrom (e : Enqueue) (voter : Bool) (f : CopyFault) : Kept z (copyFrom s e voter f).1 := by
  grind only [copyFrom, kept_writeCopy, kept_corruptPtrs, kept_rerunCopy]

theorem kept_copyStep (e : Enqueue) (voter : Bool) (f : CopyFault) : Kept z (copyStep s e voter f).1 := by
  grind only [copyStep, kept_readStaging, kept_stagingLost, kept_copyFrom]

theorem kept_copyEnd (e : Enqueue) (rest : Option Enqueue) : Kept z (copyEnd s e rest) := by
  grind only [copyEnd, kept_freeSentence]

theorem kept_enqueueCopy (src : Nat) (f : CopyFault) : Kept z (enqueueCopy s src f) := by
  grind only [enqueueCopy, kept_copyStep, kept_copyEnd, kept_update]

theorem runs_execEnqueueCopy (src : Nat) (fault : CopyFault) : Runs z (execEnqueueCopy src fault s) := by
  grind only [execEnqueueCopy, kept_enqueueCopy, runs_next]

theorem kept_protectTables : Kept z (protectTables s) := by
  grind only [protectTables, kept_set, kept_update]

theorem kept_swapTables : Kept z (swapTables s) := by
  have h1 : Kept z { s with acts := freshActs s, commitAsked := false, sweepDue := false, routerStaged := false } := kept_update h
  have h2 := fun n => kept_set (kept_set h1 F.router_ACTIVE 0 n) F.router_COPYBACK 0 1
  grind only [swapTables, kept_routerInc, kept_raiseRouter, kept_protectTables]

theorem kept_levelTables : Kept z (levelTables s) := by
  grind only [levelTables, kept_set, kept_update]

theorem kept_clearRouterCounters : Kept z (clearRouterCounters s) := by
  grind only [clearRouterCounters, kept_clear, kept_update]

theorem runs_execRouterCntClr : Runs z (execRouterCntClr s) := by
  grind only [execRouterCntClr, kept_clearRouterCounters, runs_next]

/-! ### The voter -/

theorem kept_majorityVote (j : Nat) : Kept z (majorityVote s j) := by
  grind only [majorityVote, kept_set, kept_update]

theorem kept_logVote (x : Sentence) (prim : Verdict) (ws : List (Nat × VoteWord)) (outcome : Nat) : Kept z
    (logVote s x prim ws outcome) := by
  grind only [logVote, kept_stallOffer]

theorem kept_dispatchOverride (word scope : Nat) : Kept z (dispatchOverride s word scope) := by
  grind only [dispatchOverride, kept_raiseVote, kept_inc, kept_putEnc, kept_foldl]

theorem kept_runOverride (x : Sentence) : Kept z (runOverride s x) := by
  grind only [runOverride, kept_raiseVote, kept_inc, kept_dispatchOverride]

theorem kept_acceptVote (x : Sentence) (c : Captured) (w : VoteWord) (agree : Nat) (degraded : Bool) : Kept z
    (acceptVote s x c w agree degraded) := by
  grind only [acceptVote, kept_inc, kept_runHook, kept_runOverride, kept_freeSentence, kept_raiseRouter, kept_routerInc,
      kept_update]

theorem kept_countVote (ws : List (Nat × VoteWord)) (outcome : Nat) : Kept z (countVote s ws outcome) := by
  have h2 : ∀ {t}, Kept z t → Kept z ((majority ws).foldl (fun t w => majorityVote t w.1) t) :=
    fun ht => kept_foldl _ (fun t w ht => kept_majorityVote ht _) _ ht
  have h3 : ∀ {t} (l : List (Nat × VoteWord)), Kept z t →
      Kept z (l.foldl (fun (t : State) w => { t with agreeRun := tput t.agreeRun w.1 0 0 }) t) :=
    fun l ht => kept_foldl _ (fun t w ht => kept_update ht) _ ht
  grind only [countVote, kept_inc, kept_raiseVote, kept_scoreUp]

theorem kept_takeVote (upset : List (Nat × VoteWord)) : Kept z (takeVote s upset) := by
  unfold takeVote
  dsimp only
  split
  · exact h
  · rename_i b r _
    have h0 : Kept z { s with ballots := r } := kept_update h
    have h1 := fun ws o => kept_countVote h0 ws o
    have h2 := fun ws o x c => kept_logVote (h1 ws o) x c ws o
    split <;> split <;> grind only [kept_suspectCheck, kept_acceptVote, kept_freeSentence]

theorem runs_execVote (upset : List (Nat × VoteWord)) : Runs z (execVote upset s) := by
  grind only [execVote, kept_takeVote, runs_next]

theorem runs_execJudgeInComplete : Runs z (execJudgeInComplete s) := by
  grind only [execJudgeInComplete, kept_autoOut, kept_judgeJoined, runs_next]

theorem kept_clearVoteCounters : Kept z (clearVoteCounters s) := by
  grind only [clearVoteCounters, kept_clear]

theorem runs_execVoteCntClr : Runs z (execVoteCntClr s) := by
  grind only [execVoteCntClr, kept_clearVoteCounters, runs_next]

/-! ### The encoders -/

theorem kept_encEvent (n : Nat) (f : Field) (bit : Nat) : Kept z (encEvent s n f bit) := by
  grind only [encEvent, kept_raiseEnc, kept_inc]

theorem kept_beginFrame (n : Nat) (fr : List SegOut) : Kept z (beginFrame s n fr) := by
  grind only [beginFrame, kept_putEnc, kept_set]

theorem kept_skipFrame (n : Nat) : Kept z (skipFrame s n) := by
  grind only [skipFrame, kept_encEvent, kept_putEnc]

theorem kept_frameStart (n : Nat) (ready : Bool) : Kept z (frameStart s n ready) := by
  grind only [frameStart, kept_skipFrame, kept_beginFrame, kept_encEvent, kept_putEnc]

theorem runs_execLaneFrameStart (lane : Nat) (ready : Bool) : Runs z (execLaneFrameStart lane ready s) := by
  grind only [execLaneFrameStart, kept_frameStart, runs_next]

theorem kept_holdFrame (n : Nat) : Kept z (holdFrame s n) := by
  grind only [holdFrame, kept_putEnc, kept_set]

theorem kept_nextSegment (n : Nat) : Kept z (nextSegment s n) := by
  grind only [nextSegment, kept_holdFrame, kept_putEnc]

theorem runs_execSegmentBoundary (lane : Nat) : Runs z (execSegmentBoundary lane s) := by
  grind only [execSegmentBoundary, kept_nextSegment, runs_next]

theorem kept_fifoEmpty (n : Nat) : Kept z (fifoEmpty s n) := by
  grind only [fifoEmpty, kept_encEvent, kept_putEnc]

theorem runs_execUnderrun (lane : Nat) : Runs z (execUnderrun lane s) := by
  grind only [execUnderrun, kept_fifoEmpty, runs_next]

theorem kept_bitsEnd (n : Nat) (late : Bool) : Kept z (bitsEnd s n late) := by
  grind only [bitsEnd, kept_encEvent, kept_putEnc]

theorem runs_execLampBitsEnd (lane : Nat) (late : Bool) : Runs z (execLampBitsEnd lane late s) := by
  grind only [execLampBitsEnd, kept_bitsEnd, runs_next]

theorem runs_execLatchWordStart (lane : Nat) : Runs z (execLatchWordStart lane s) := by
  grind only [execLatchWordStart, kept_putEnc, runs_next]

theorem kept_frameValue (n : Nat) : Kept z (frameValue s n).1 := by
  grind only [frameValue, kept_update]

theorem kept_latchFrame (n : Nat) : Kept z (latchFrame s n) := by
  grind only [latchFrame, kept_frameValue, kept_inc, kept_set, kept_putEnc, kept_noteItem]

theorem runs_execFrameLatched (lane : Nat) : Runs z (execFrameLatched lane s) := by
  grind only [execFrameLatched, kept_latchFrame, runs_next]

theorem kept_startPeriod (n : Nat) : Kept z (startPeriod s n) := by
  grind only [startPeriod, kept_putEnc, kept_noteItem]

theorem runs_execPwmPeriodStart (lane : Nat) : Runs z (execPwmPeriodStart lane s) := by
  grind only [execPwmPeriodStart, kept_startPeriod, runs_next]

theorem runs_execPwmActiveEnd (lane : Nat) : Runs z (execPwmActiveEnd lane s) := by
  grind only [execPwmActiveEnd, kept_putEnc, runs_next]

theorem kept_egressPwm (n : Nat) : Kept z (egressPwm s n) := by
  grind only [egressPwm, kept_putEnc]

theorem kept_keepPipeline (n : Nat) : Kept z (keepPipeline s n) := by
  grind only [keepPipeline, kept_putEnc]

theorem kept_applyOverride (n : Nat) (atBoundary : Bool) : Kept z (applyOverride s n atBoundary) := by
  grind only [applyOverride, kept_putEnc, kept_set, kept_keepPipeline, kept_egressPwm]

theorem runs_execOverrideApply (lane : Nat) (atBoundary : Bool) : Runs z (execOverrideApply lane atBoundary s) := by
  grind only [execOverrideApply, kept_applyOverride, runs_next]

theorem runs_execSeedDone : Runs z (execSeedDone s) := by
  grind only [execSeedDone, kept_releaseSeeded, kept_seedsLeft, runs_next]

theorem kept_clearPixelCounters : Kept z (clearPixelCounters s) := by
  grind only [clearPixelCounters, kept_clear]

theorem runs_execPixelCntClr : Runs z (execPixelCntClr s) := by
  grind only [execPixelCntClr, kept_clearPixelCounters, runs_next]

theorem kept_clearEncCounters (n : Nat) : Kept z (clearEncCounters s n) := by
  grind only [clearEncCounters, kept_clear]

theorem runs_execEncCntClr (lane : Nat) : Runs z (execEncCntClr lane s) := by
  grind only [execEncCntClr, kept_clearEncCounters, runs_next]

/-! ### The rows of the stalls -/

theorem runs_execStallNext (q : Nat) (mis : BitVec 4) : Runs z (execStallNext q mis s) := by
  grind only [execStallNext, kept_readerCmd, runs_next]

theorem runs_execStallMark (c : StallAt) : Runs z (execStallMark c s) := by
  grind only [execStallMark, kept_readerCmd, runs_next]

theorem runs_execStallRewind (c : StallAt) : Runs z (execStallRewind c s) := by
  grind only [execStallRewind, kept_readerCmd, runs_next]

theorem runs_execStallRelease (q : Nat) (mis : BitVec 4) : Runs z (execStallRelease q mis s) := by
  grind only [execStallRelease, kept_readerCmd, runs_next]

theorem runs_execStallDrop (c : StallAt) : Runs z (execStallDrop c s) := by
  grind only [execStallDrop, kept_readerCmd, runs_next]

theorem runs_execStallRun (c : StallAt) : Runs z (execStallRun c s) := by
  grind only [execStallRun, kept_readerCmd, runs_next]

theorem runs_execStallTest (c : StallAt) : Runs z (execStallTest c s) := by
  grind only [execStallTest, kept_readerCmd, runs_next]

theorem runs_execStallCntClr (c : StallAt) : Runs z (execStallCntClr c s) := by
  grind only [execStallCntClr, kept_readerCmd, runs_next]

theorem runs_execStallNextRelease (c : StallAt) : Runs z (execStallNextRelease c s) := by
  grind only [execStallNextRelease, kept_readerCmd, runs_next]

theorem runs_execStallRecordWrite (q kind src seqn : Nat) (body : List Byte) (mis : BitVec 4) : Runs z
    (execStallRecordWrite q kind src seqn body mis s) := by
  grind only [execStallRecordWrite, kept_stallOffer, kept_corruptPtrs, runs_next]

theorem runs_execCreditRequest (q n : Nat) : Runs z (execCreditRequest q n s) := by
  grind only [execCreditRequest, kept_askCredit, runs_next]

theorem runs_execCreditHandback (q n : Nat) : Runs z (execCreditHandback q n s) := by
  grind only [execCreditHandback, kept_handBack, runs_next]

theorem runs_execStallResetRun (q : Nat) : Runs z (execStallResetRun q s) := by
  grind only [execStallResetRun, kept_finishReset, kept_answerWaits, runs_next]

/-! ### The rows of the yard -/

theorem kept_writeTurn (a : Answers) (ps : List Piece) (w port : Nat) : Kept z (writeTurn s a ps w port).1 := by
  refine kept_foldl_fst _ (fun x p hx => ?_) ps (kept_writeWord h _ _ _)
  grind only [kept_raiseYard, kept_inc]

theorem kept_readTurn (a : Answers) (p : Piece) : Kept z (readTurn s a p).1 := by
  grind only [readTurn, kept_readWord]

omit h in
theorem kept_bankServe {a : Access} (h : Kept z a.st) (turn bank : Nat) : Kept z (bankServe a turn bank).st := by
  unfold bankServe
  extract_lets hre
  split
  · exact h
  · rename_i b _
    cases hp : b.piece.bytes with
    | none => simpa only [hp] using kept_readTurn h _ _
    | some l => simpa only [hp] using kept_writeTurn h _ _ _ _

omit h in
theorem kept_bankTurns {a : Access} (h : Kept z a.st) (turn n : Nat) : Kept z (bankTurns a turn n).st := by
  induction n generalizing a turn with
  | zero => exact h
  | succ n ih =>
    have hl : ∀ (l : List Nat) (x : Access), Kept z x.st → Kept z (l.foldl (fun x b => bankServe x turn b) x).st := fun l => by
      induction l with
      | nil => exact fun _ hx => hx
      | cons b r ih => exact fun x hx => ih _ (kept_bankServe hx _ _)
    unfold bankTurns
    split
    · exact h
    · exact ih (hl _ _ h) _

theorem kept_accessStep (rs : List YardReq) : Kept z (accessStep s rs) := by
  unfold accessStep
  extract_lets l s1 w y
  have h1 : Kept z s1 := kept_foldl _ (fun _ _ ht => kept_raiseYard (kept_inc ht _ _) _) _ h
  have hy : Kept z y.st := kept_bankTurns h1 _ _
  exact kept_update hy

theorem kept_passFound (i : Nat) : Kept z (passFound s i) := by
  grind only [passFound, kept_update]

theorem kept_passDiffers (i : Nat) : Kept z (passDiffers s i) := by
  grind only [passDiffers, kept_update]

theorem kept_marchFound (g : GroomPass) (march : List Nat) : Kept z (marchFound s g march) := by
  grind only [marchFound, kept_retireSpare, kept_passFound, kept_remapRow, kept_foldl]

theorem kept_groomWork (g : GroomPass) (march : List Nat) : Kept z (groomWork s g march) := by
  grind only [groomWork, kept_readWord, kept_copyPlace, kept_marchFound, kept_passDiffers]

theorem kept_groomTurns (march : List Nat) (n : Nat) : Kept z (groomTurns s march n) := by
  induction n generalizing s with
  | zero => grind only [groomTurns, kept_groomWork, kept_update]
  | succ n ih => grind only [groomTurns, kept_groomWork, kept_update]

theorem runs_execYardAccess (reqs : List YardReq) (since : YardSince) : Runs z (execYardAccess reqs since s) := by
  grind only [execYardAccess, kept_accessStep, kept_groomTurns, kept_flipWord, kept_foldl, runs_next]

theorem kept_clearYardCounters : Kept z (clearYardCounters s) := by
  grind only [clearYardCounters, kept_clear]

theorem runs_execYardCntClr : Runs z (execYardCntClr s) := by
  grind only [execYardCntClr, kept_clearYardCounters, runs_next]

theorem runs_execFarrierRemap (bank row cause : Nat) : Runs z (execFarrierRemap bank row cause s) := by
  grind only [execFarrierRemap, kept_remapRow, runs_next]

theorem runs_execFarrierPersist : Runs z (execFarrierPersist s) := by
  grind only [execFarrierPersist, kept_set, kept_update, runs_next]

theorem runs_execGroomPassStart : Runs z (execGroomPassStart s) := by
  grind only [execGroomPassStart, kept_set, kept_update, runs_next]

theorem kept_sweepCommit : Kept z (sweepCommit s) := by
  grind only [sweepCommit, kept_update]

theorem kept_nextRegion (r : Nat) : Kept z (nextRegion s r) := by
  grind only [nextRegion, kept_raiseGroom, kept_incWrap, kept_yardLog, kept_sweepCommit, kept_update]

theorem kept_verifyFail (g : GroomPass) (i : Nat) : Kept z (verifyFail s g i) := by
  grind only [verifyFail, kept_remapRow, kept_copyPlace]

theorem kept_marchFail (r : Nat) (fails : List Nat) : Kept z (marchFail s r fails) := by
  grind only [marchFail, kept_raiseGroom, kept_yardLog, kept_inc]

theorem kept_marchEnd (g : GroomPass) (verify : List Nat) : Kept z (marchEnd s g verify) := by
  grind only [marchEnd, kept_inc, kept_verifyFail, kept_nextRegion, kept_marchFail, kept_update, kept_foldl]

theorem kept_scrubEnd (r : Nat) : Kept z (scrubEnd s r) := by
  grind only [scrubEnd, kept_nextRegion, kept_yardLog]

theorem runs_execGroomPassEnd (march verify : List Nat) : Runs z (execGroomPassEnd march verify s) := by
  grind only [execGroomPassEnd, kept_groomTurns, kept_marchEnd, kept_scrubEnd, kept_update, runs_next]

theorem runs_execGroomEnWrite (en : Bool) : Runs z (execGroomEnWrite en s) := by
  grind only [execGroomEnWrite, kept_setB, runs_next]

theorem kept_tackFold (l : List Nat) :
    Kept z (l.foldl (fun (x : State × Bool) w => let y := tackWord x.1 w; (y.1, x.2 && y.2)) (s, true)).1 :=
  kept_foldl_fst (fun (x : State × Bool) w => let y := tackWord x.1 w; (y.1, x.2 && y.2)) (fun _ w hx => kept_tackWord hx w) l h

theorem kept_tackStep (addr : Nat) (op : YardOp) : Kept z (tackStep s addr op) := by
  cases op with
  | read n => exact kept_update (kept_tackFold h _)
  | write bs =>
    have hr := kept_tackFold h (tackWords addr bs.length)
    grind only [tackStep, kept_tackWrite, kept_update]

theorem runs_execTackAccess (secure : Bool) (addr : Nat) (op : YardOp) (flips : List (Nat × Byte)) :
    Runs z (execTackAccess secure addr op flips s) := by
  refine runs_next ?_
  split
  · exact kept_update (kept_raiseSec h _)
  · split
    · exact kept_tackStep (kept_foldl _ (fun _ _ ht => kept_update ht) _ h) _ _
    · exact h

/-! ### The rows of the time unit -/

theorem kept_writeAdj (v : Int) : Kept z (writeAdj s v) := by
  grind only [writeAdj, kept_setI, kept_setB, kept_raiseTime]

theorem kept_noteTs (v : Nat) : Kept z (noteTs s v) := by
  grind only [noteTs, kept_update]

theorem kept_setServo (v : Nat) : Kept z (setServo s v) := by
  grind only [setServo, kept_noteTs, kept_set]

theorem kept_meanAdj : Kept z (meanAdj s).1 := by
  grind only [meanAdj, kept_update]

theorem kept_holdOver : Kept z (holdOver s) := by
  grind only [holdOver, kept_meanAdj, kept_setServo, kept_writeAdj, kept_update]

theorem kept_loseReference : Kept z (loseReference s) := by
  have h1 : Kept z { s with servo := { s.servo with ppsEdge := none, ppsLabel := none } } := kept_update h
  grind only [loseReference, kept_holdOver, kept_raiseTime, kept_setServo, kept_update]

theorem kept_alignAt (t : Nat) : Kept z (alignAt s t) := by
  grind only [alignAt, kept_update]

theorem kept_advanceTick : Kept z (advanceTick s) := by
  grind only [advanceTick, kept_update]

theorem kept_markFramePulses : Kept z (markFramePulses s) := by
  grind only [markFramePulses, kept_update, kept_foldl]

theorem kept_fireTick : Kept z (fireTick s) := by
  unfold fireTick
  extract_lets s1 x y s2
  have h2 : Kept z s2 := kept_update (kept_advanceTick (kept_markFramePulses (kept_set h _ _ _)))
  split
  · exact h2
  · exact kept_alignAt (kept_update (kept_set (kept_set (kept_set h2 _ _ _) _ _ _) _ _ _)) _

theorem kept_suppressTick : Kept z (suppressTick s) := by
  grind only [suppressTick, kept_raiseTime, kept_advanceTick]

theorem kept_stepOffPulse (n : Nat) : Kept z (stepOffPulse s n) := by
  grind only [stepOffPulse, kept_raisePin, kept_set, kept_update]

theorem kept_stepCounter (d : Int) : Kept z (stepCounter s d) := by
  grind only [stepCounter, kept_raiseTime, kept_inc, kept_stepOffPulse, kept_alignAt, kept_update, kept_foldl]

theorem kept_countRuns (a : Nat) : Kept z (countRuns s a) := by
  grind only [countRuns, kept_raiseTime, kept_setServo, kept_set, kept_update]

theorem kept_measure (off rate : Int) : Kept z (measure s off rate) := by
  grind only [measure, kept_stepCounter, kept_countRuns, kept_writeAdj, kept_setServo, kept_raiseTime, kept_update]

theorem kept_servoMeasure (off rate : Int) : Kept z (servoMeasure s off rate) := by
  have h1 : ∀ v n, Kept z (setServo { s with servo := v } n) := fun v n => kept_setServo (kept_update h) n
  grind only [servoMeasure, kept_update, kept_measure, kept_writeAdj]

theorem runs_execLockLost : Runs z (execLockLost s) := by
  grind only [execLockLost, kept_loseReference, runs_next]

theorem runs_execRefclkReturn : Runs z (execRefclkReturn s) := by
  grind only [execRefclkReturn, kept_holdOver, kept_update, runs_next]

theorem runs_execAddendWrite (v : Word) : Runs z (execAddendWrite v s) := by
  grind only [execAddendWrite, kept_writeAdj, runs_next]

theorem kept_snapshotTime : Kept z (snapshotTime s) := by
  grind only [snapshotTime, kept_set]

theorem runs_execSnap : Runs z (execSnap s) := by
  grind only [execSnap, kept_snapshotTime, runs_next]

theorem kept_takeMaster (m : Option (Nat × Nat)) : Kept z (takeMaster s m) := by
  grind only [takeMaster, kept_raiseTime, kept_update]

theorem kept_announce (m : PtpMsg) : Kept z (announce s m) := by
  grind only [announce, kept_takeMaster, kept_update]

theorem kept_ptpTake (m : PtpMsg) : Kept z (ptpTake s m) := by
  grind only [ptpTake, kept_announce, kept_update]

theorem runs_execPtpMessage (port : Nat) (msg : PtpMsg) : Runs z (execPtpMessage port msg s) := by
  grind only [execPtpMessage, kept_raiseTime, kept_ptpTake, kept_update, runs_next]

theorem runs_execPtpTransmit (kind : Nat) : Runs z (execPtpTransmit kind s) := by
  grind only [execPtpTransmit, kept_inc, kept_takeMaster, kept_update, runs_next]

theorem kept_armNow (n : Nat) (ws : List Word) : Kept z (armNow s n ws) := by
  unfold armNow
  extract_lets s1 st per p k
  have h1 : Kept z s1 := kept_set (kept_putRegs h _ _ _ _) _ _ _
  split
  · exact kept_update h1
  · split
    · split
      · exact kept_raisePin (kept_update (kept_set h1 _ _ _)) _ _
      · exact kept_raisePin (kept_update h1) _ _
    · exact kept_update h1

theorem kept_armPulse (n : Nat) (ws : List Word) : Kept z (armPulse s n ws) := by
  grind only [armPulse, kept_armNow, kept_update]

theorem kept_disarmPulse (n : Nat) : Kept z (disarmPulse s n) := by
  grind only [disarmPulse, kept_set, kept_update]

theorem kept_pulseFall (n : Nat) : Kept z (pulseFall s n) := by
  unfold pulseFall
  extract_lets p s1 s2 s3
  have h1 : Kept z s1 := kept_update h
  have h2 : Kept z s2 := by grind only [kept_set, kept_raisePin]
  have h3 : Kept z s3 := by grind only [kept_set, kept_raisePin]
  grind only [kept_armNow]

theorem kept_pulseRise (n at' : Nat) : Kept z (pulseRise s n at') := by
  grind only [pulseRise, kept_set, kept_update]

theorem kept_disarmAnswers : Kept z (disarmAnswers s) := by
  grind only [disarmAnswers, kept_answerWaits]

theorem runs_execPulseEdge (n : Nat) : Runs z (execPulseEdge n s) := by
  refine runs_next ?_
  split
  · split
    · exact kept_disarmAnswers (kept_pulseFall h _)
    · exact h
  · split
    · exact h
    · split
      · split
        · exact kept_pulseRise h _ _
        · exact h
      · split
        · exact kept_pulseRise h _ _
        · exact h

theorem kept_captureLast (n stamp : Nat) (rising : Bool) : Kept z (captureLast s n stamp rising) := by
  grind only [captureLast, kept_set, kept_setB]

theorem kept_captureEdge (n stamp : Nat) (rising : Bool) : Kept z (captureEdge s n stamp rising) := by
  grind only [captureEdge, kept_captureLast, kept_raisePin, kept_stallOffer, kept_update]

theorem kept_ppsEdge (n stamp : Nat) (rising : Bool) : Kept z (ppsEdge s n stamp rising) := by
  grind only [ppsEdge, kept_update]

theorem runs_execTimeCapEdge (n : Nat) (rising : Bool) (edge : EdgeAt) : Runs z (execTimeCapEdge n rising edge s) := by
  grind only [execTimeCapEdge, kept_ppsEdge, kept_captureEdge, runs_next]

/-! ### The twin -/

theorem kept_sendFrame (key : Nat) (payload : List Byte) : Kept z (sendFrame s key payload) := by
  grind only [sendFrame, kept_update]

theorem kept_tetherServe (n : Nat) : Kept z (tetherServe s n) := by
  induction n generalizing s with
  | zero => grind only [tetherServe, kept_readHead, kept_hubTake, kept_sendFrame]
  | succ n ih => grind only [tetherServe, kept_readHead, kept_hubTake, kept_sendFrame]

theorem kept_tetherSend (ch : Nat) (body : List Byte) : Kept z (tetherSend s ch body) := by
  grind only [tetherSend, kept_ownWrite, kept_tetherServe, kept_update]

theorem kept_pairMismatch : Kept z (pairMismatch s) := by
  grind only [pairMismatch, kept_raiseTwin]

theorem kept_heartbeatIn (h' : Heartbeat) : Kept z (heartbeatIn s h') := by
  grind only [heartbeatIn, kept_pairMismatch, kept_showUnit, kept_update]

theorem kept_tetherErr (n : Nat) : Kept z (tetherErr s n) := by
  grind only [tetherErr, kept_addTo]

theorem kept_channelIn (ch : Nat) (payload : List Byte) : Kept z (channelIn s ch payload) := by
  have h1 := kept_ownWrite h (248 + ch) (payload.take 24 ++ pad8 (payload.drop 24))
  unfold channelIn
  cases ho : ownWrite s (248 + ch) (payload.take 24 ++ pad8 (payload.drop 24)) <;> grind only
      [kept_tetherErr, = Option.getD_none, = Option.getD_some]

theorem kept_frameIn (header : Word) (payload : List Word) (crc : Word) (clean : Bool) : Kept z
    (frameIn s header payload crc clean) := by
  grind only [frameIn, kept_tetherErr, kept_heartbeatIn, kept_channelIn, kept_update]

theorem runs_execTetherFrameReceived (header : Word) (payload : List Word) (crc : Word) (clean : Bool) : Runs z
    (execTetherFrameReceived header payload crc clean s) := by
  grind only [execTetherFrameReceived, kept_frameIn, runs_next]

theorem runs_execTetherAlignment (aligned : Bool) : Runs z (execTetherAlignment aligned s) := by
  grind only [execTetherAlignment, kept_showUnit, kept_update, runs_next]

theorem kept_takeChannel (ch : Nat) : Kept z (takeChannel s ch) := by
  grind only [takeChannel, kept_moveDrop, kept_hubTake]

theorem runs_execHeartbeatSend : Runs z (execHeartbeatSend s) := by
  grind only [execHeartbeatSend, kept_sendFrame, kept_tetherServe, kept_update, runs_next]

theorem runs_execHeartbeatReceived (hb : Heartbeat) : Runs z (execHeartbeatReceived hb s) := by
  grind only [execHeartbeatReceived, kept_heartbeatIn, runs_next]

theorem kept_peerFails : Kept z (peerFails s) := by
  grind only [peerFails, kept_raiseTwin, kept_showUnit, kept_claimIlk, kept_update]

theorem runs_execPeerLost : Runs z (execPeerLost s) := by
  grind only [execPeerLost, kept_peerFails, runs_next]

theorem runs_execKeep : Runs z (execKeep s) := by
  grind only [execKeep, kept_showUnit, kept_bypassClaim, kept_update, runs_next]

theorem runs_execKeepAliveLapse : Runs z (execKeepAliveLapse s) := by
  grind only [execKeepAliveLapse, kept_showUnit, kept_releaseIlk, kept_update, runs_next]

theorem runs_execClaim : Runs z (execClaim s) := by
  grind only [execClaim, kept_showUnit, kept_claimIlk, runs_next]

theorem runs_execRelease : Runs z (execRelease s) := by
  grind only [execRelease, kept_showUnit, kept_releaseIlk, runs_next]

theorem runs_execClaimWindowEnd : Runs z (execClaimWindowEnd s) := by
  grind only [execClaimWindowEnd, kept_showUnit, kept_becomeOwner, runs_next]

theorem kept_answerSwap (status : Nat) (data : List Byte) : Kept z (answerSwap s status data) := by
  grind only [answerSwap, kept_answerWaits]

theorem kept_takeOver (h' : Handover) : Kept z (takeOver s h') := by
  grind only [takeOver, kept_becomeOwner, kept_answerSwap, kept_update]

theorem kept_holdFell : Kept z (holdFell s) := by
  grind only [holdFell, kept_takeOver, kept_claimIlk]

theorem runs_execHoldInChange (level : Bool) : Runs z (execHoldInChange level s) := by
  grind only [execHoldInChange, kept_setB, kept_showUnit, kept_claimFail, kept_holdFell, kept_update, runs_next]

theorem runs_execSecondaryStartupClaim : Runs z (execSecondaryStartupClaim s) := by
  grind only [execSecondaryStartupClaim, kept_showUnit, kept_claimIlk, runs_next]

theorem kept_sendIntent (win part : Nat) (items : List IntentEntry) (n : Nat) : Kept z (sendIntent s win part items n) := by
  induction n generalizing s part items with
  | zero => exact h
  | succ k ih => grind only [sendIntent, kept_tetherSend]

theorem runs_execIntentWindowEnd : Runs z (execIntentWindowEnd s) := by
  grind only [execIntentWindowEnd, kept_sendIntent, kept_update, runs_next]

theorem kept_sendTxc (final : Bool) (tickN : Nat) (items : List TxcEntry) (n : Nat) : Kept z (sendTxc s final tickN items n) := by
  induction n generalizing s items with
  | zero => exact h
  | succ k ih => grind only [sendTxc, kept_tetherSend]

theorem kept_reportTxc (final : Bool) (tickN : Nat) : Kept z (reportTxc s final tickN) := by
  grind only [reportTxc, kept_sendTxc, kept_update]

theorem runs_execTxcReport : Runs z (execTxcReport s) := by
  grind only [execTxcReport, kept_reportTxc, runs_next]

theorem kept_txcIn (final more : Bool) (tickN : Nat) (items : List TxcEntry) : Kept z (txcIn s final more tickN items) := by
  grind only [txcIn, kept_update]

theorem runs_execTxcReceived (final more : Bool) (tickN : Nat) (items : List TxcEntry) : Runs z
    (execTxcReceived final more tickN items s) := by
  grind only [execTxcReceived, kept_showUnit, kept_txcIn, kept_takeChannel, runs_next]

theorem kept_addIntent (last : Bool) (part win : Nat) (items : List IntentEntry) : Kept z (addIntent s last part win items) := by
  grind only [addIntent, kept_update]

theorem runs_execIntentReceived (last : Bool) (part window : Nat) (items : List IntentEntry) : Runs z
    (execIntentReceived last part window items s) := by
  grind only [execIntentReceived, kept_takeChannel, kept_addIntent, runs_next]

theorem kept_sendYield (v role : Nat) : Kept z (sendYield s v role) := by
  grind only [sendYield, kept_tetherSend]

theorem kept_sendFault (code role windows : Nat) : Kept z (sendFault s code role windows) := by
  unfold sendFault
  split
  · exact kept_update (kept_tetherSend h _ _)
  · exact h

theorem kept_enterFaulted (role : Option Nat) : Kept z (enterFaulted s role) := by
  grind only [enterFaulted, kept_sendFault, kept_update]

theorem kept_resync : Kept z (resync s) := by
  grind only [resync, kept_beginReplay, kept_sendFault, kept_tetherSend, kept_update]

theorem kept_lineFault (role : Nat) : Kept z (lineFault s role) := by
  grind only [lineFault, kept_sendFault]

theorem kept_dropRun (role : Nat) : Kept z (dropRun s role) := by
  grind only [dropRun, kept_update]

theorem kept_confirmVerdict (v role : Nat) : Kept z (confirmVerdict s v role) := by
  grind only [confirmVerdict, kept_dropRun, kept_lineFault, kept_sendYield, kept_enterFaulted, kept_resync]

theorem kept_laneWindow (role v : Nat) : Kept z (laneWindow s role v) := by
  grind only [laneWindow, kept_dropRun, kept_raiseTwin, kept_inc, kept_confirmVerdict, kept_update]

theorem kept_judgeWindow (w : IntentWindow) (line : List (Option Nat)) : Kept z (judgeWindow s w line) := by
  grind only [judgeWindow, kept_laneWindow, kept_update, kept_foldl]

theorem runs_execCompareWaitExpiry (window : Nat) (line : List (Option Nat)) : Runs z (execCompareWaitExpiry window line s) := by
  grind only [execCompareWaitExpiry, kept_showUnit, kept_judgeWindow, kept_update, runs_next]

theorem runs_execYieldReceived (verdict role : Nat) : Runs z (execYieldReceived verdict role s) := by
  grind only [execYieldReceived, kept_takeChannel, kept_showUnit, kept_enterFaulted, kept_releaseIlk, runs_next]

theorem runs_execFaultReceived (code role windows : Nat) : Runs z (execFaultReceived code role windows s) := by
  grind only [execFaultReceived, kept_takeChannel, kept_update, runs_next]

theorem runs_execCfgCheckSend : Runs z (execCfgCheckSend s) := by
  grind only [execCfgCheckSend, kept_tetherSend, runs_next]

theorem runs_execCfgCheckReceived (issue : Nat) (cfgGen imageId : Word) (modeState : Nat) : Runs z
    (execCfgCheckReceived issue cfgGen imageId modeState s) := by
  grind only [execCfgCheckReceived, kept_takeChannel, kept_pairMismatch, kept_update, runs_next]

theorem runs_execModeReqReceived (slot req : Nat) : Runs z (execModeReqReceived slot req s) := by
  grind only [execModeReqReceived, kept_takeChannel, kept_update, runs_next]

theorem runs_execResyncReceived : Runs z (execResyncReceived s) := by
  grind only [execResyncReceived, kept_takeChannel, kept_update, runs_next]

theorem kept_clearBuffer (b : Nat) : Kept z (clearBuffer s b) := by
  grind only [clearBuffer, kept_blankSpan]

theorem kept_snapshotMark : Kept z (snapshotMark s) := by
  grind only [snapshotMark, kept_poke, kept_clearBuffer, kept_update, kept_foldl]

theorem kept_sendChunk (gen i : Nat) : Kept z (sendChunk s gen i) := by
  grind only [sendChunk, kept_touch, kept_tetherSend]

theorem kept_sendSnapshot (mark : Nat) : Kept z (sendSnapshot s mark) := by
  grind only [sendSnapshot, kept_sendChunk, kept_tetherSend, kept_set, kept_update, kept_foldl]

theorem runs_execSnapshotCopy : Runs z (execSnapshotCopy s) := by
  grind only [execSnapshotCopy, kept_sendSnapshot, runs_next]

theorem kept_snapBad : Kept z (snapBad s) := by
  grind only [snapBad, kept_raiseTwin, kept_inc, kept_update]

theorem kept_chunkIn (gen i : Nat) (data : List Byte) : Kept z (chunkIn s gen i data) := by
  grind only [chunkIn, kept_snapBad, kept_pokePort, kept_update]

theorem runs_execSnapshotChunkReceived (gen index : Nat) (data : List Byte) : Runs z (execSnapshotChunkReceived gen index data s)
    := by
  grind only [execSnapshotChunkReceived, kept_takeChannel, kept_chunkIn, runs_next]

theorem kept_journalSwitch (mark : Nat) : Kept z (journalSwitch s mark) := by
  unfold journalSwitch
  dsimp only
  split
  · exact h
  · split
    · refine kept_update (kept_set ?_ _ _ _)
      grind only [kept_moveRel]
    · exact h

theorem kept_commitIn (gen count crc mark len : Nat) : Kept z (commitIn s gen count crc mark len) := by
  grind only [commitIn, kept_touch, kept_journalSwitch, kept_set, kept_snapBad, kept_update]

theorem runs_execSnapshotCommitReceived (gen count : Nat) (crc : Word) (markN len : Nat) : Runs z
    (execSnapshotCommitReceived gen count crc markN len s) := by
  grind only [execSnapshotCommitReceived, kept_takeChannel, kept_showUnit, kept_commitIn, runs_next]

theorem kept_adoptPixel : Kept z (adoptPixel s) := by
  grind only [adoptPixel, kept_set, kept_putZone, kept_update, kept_foldl]

theorem kept_restoreRouter : Kept z (restoreRouter s) := by
  grind only [restoreRouter, kept_set, kept_putTx, kept_update, kept_foldl]

theorem kept_replayCopy (e : Enqueue) (late voted : Bool) (q : Nat) : Kept z (replayCopy s e late voted q) := by
  grind only [replayCopy, kept_writeCopy, kept_inc]

theorem kept_replayVote (x : Sentence) (c : Captured) (late : Bool) : Kept z (replayVote s x c late) := by
  grind only [replayVote, kept_countVote, kept_logVote, kept_replayCopy, kept_inc, kept_foldl]

theorem kept_replaySentence (y : Sentence) (late : Bool) : Kept z (replaySentence s y late) := by
  unfold replaySentence
  extract_lets n so s0 x c s1 d e
  have h1 : Kept z s1 := kept_routerInc (kept_putSource (kept_set h _ _ _) _ _) _
  have hd : Kept z d.1 := kept_dropStep (kept_countHit h1 _) _ _
  split
  · exact kept_raiseRouter (kept_routerInc h1 _) _
  · split
    · rename_i f fl _
      cases fl with
      | none => exact kept_routerInc hd _
      | some b => exact kept_raiseRouter (kept_routerInc hd _) _
    · split
      · split
        · exact kept_replayVote hd _ _ _
        · exact hd
      · exact kept_foldl _ (fun t q ht => kept_replayCopy ht _ _ _ _) _ hd

theorem kept_replayAll : Kept z (replayAll s) := by
  grind only [replayAll, kept_restoreRouter, kept_touch, kept_replaySentence, kept_ringShow, kept_update, kept_foldl]

theorem runs_execReplayEnd : Runs z (execReplayEnd s) := by
  grind only [execReplayEnd, kept_showUnit, kept_replayAll, runs_next]

theorem kept_sendHandover (stp : Nat) (revert : Bool) (reason : Nat) : Kept z (sendHandover s stp revert reason) := by
  grind only [sendHandover, kept_tetherSend]

theorem kept_beginHandover (giving revert : Bool) (stage : Nat) : Kept z (beginHandover s giving revert stage) := by
  grind only [beginHandover, kept_update]

theorem kept_askHandover (revert : Bool) : Kept z (askHandover s revert) := by
  grind only [askHandover, kept_sendHandover, kept_beginHandover]

theorem kept_endHandover (status : Nat) : Kept z (endHandover s status) := by
  grind only [endHandover, kept_answerSwap, kept_update]

theorem kept_handoverIn (stepNo : Nat) (revert : Bool) (cfgGen : Word) : Kept z (handoverIn s stepNo revert cfgGen) := by
  unfold handoverIn
  split <;> grind only [kept_askHandover, kept_sendHandover, kept_beginHandover, kept_endHandover]

theorem runs_execHandoverMessageReceived (stepNo : Nat) (revert : Bool) (reason : Nat) (cfgGen : Word) : Runs z
    (execHandoverMessageReceived stepNo revert reason cfgGen s) := by
  grind only [execHandoverMessageReceived, kept_takeChannel, kept_showUnit, kept_handoverIn, kept_update, runs_next]

theorem runs_execHandoverDrained : Runs z (execHandoverDrained s) := by
  grind only [execHandoverDrained, kept_reportTxc, kept_showUnit, kept_update, runs_next]

theorem kept_handoverOver (n : Nat) : Kept z (handoverOver s n) := by
  grind only [handoverOver, kept_answerSwap, kept_set, kept_update]

theorem kept_handoverRelease : Kept z (handoverRelease s) := by
  grind only [handoverRelease, kept_releaseIlk, kept_handoverOver, kept_set, kept_update]

theorem runs_execHandoverLane (lane : Nat) : Runs z (execHandoverLane lane s) := by
  grind only [execHandoverLane, kept_showUnit, kept_handoverOver, kept_update, runs_next]

theorem runs_execTwinSwapTimeout : Runs z (execTwinSwapTimeout s) := by
  grind only [execTwinSwapTimeout, kept_showUnit, kept_endHandover, runs_next]

theorem runs_execAutoRevert : Runs z (execAutoRevert s) := by
  grind only [execAutoRevert, kept_showUnit, kept_askHandover, runs_next]

theorem kept_twinBeforeTick : Kept z (twinBeforeTick s) := by
  grind only [twinBeforeTick, kept_adoptPixel]

theorem kept_twinAfterTick : Kept z (twinAfterTick s) := by
  grind only [twinAfterTick, kept_showUnit, kept_handoverRelease, kept_snapshotMark]

/-! ### Lane commands -/

theorem out_cmdNop (r : Req) : OutKept z (cmdNop r s) := by
  grind only [cmdNop, out_sized, out_ok]

theorem out_cmdIdentGet (r : Req) : OutKept z (cmdIdentGet r s) := by
  grind only [cmdIdentGet, out_sized, out_ok]

theorem out_cmdEcho (r : Req) : OutKept z (cmdEcho r s) := by
  grind only [cmdEcho, out_no, out_ok]

theorem kept_onRoles (f : State → Nat → State) (hf : ∀ t n, Kept z t → Kept z (f t n)) (roles : List Nat) :
    Kept z (onRoles f roles s) := by
  grind only [onRoles, kept_foldl]

theorem kept_onLanes (f : State → Nat → State) (hf : ∀ t n, Kept z t → Kept z (f t n)) (lanes : List Nat) :
    Kept z (onLanes f lanes s) := by
  grind only [onLanes, kept_foldl]

theorem out_roleRange (r : Req) (checks : List (Bool × Nat)) (f : State → Nat → State) (hf : ∀ t n, Kept z t → Kept z (f t n)) :
    OutKept z (roleRange r s checks f) := by
  grind only [roleRange, out_withRange, out_firstFail, out_ok, kept_onRoles]

theorem out_laneRange (r : Req) (checks : State → List Nat → List (Bool × Nat)) (f : State → Nat → State)
    (hf : ∀ t n, Kept z t → Kept z (f t n)) : OutKept z (laneRange r s checks f) := by
  grind only [laneRange, out_withRange, out_firstFail, out_ok, kept_onLanes]

theorem out_cmdLaneModeSet (r : Req) : OutKept z (cmdLaneModeSet r s) := by
  grind only [cmdLaneModeSet, out_sized, out_roleRange, kept_writeMode]

theorem kept_setReceiver (r : Req) (prog : Nat × Nat) (n : Nat) : Kept z (setReceiver r prog s n) := by
  grind only [setReceiver, kept_putReg, kept_set, kept_writeRxBaud]

theorem out_cmdLaneRxSet (r : Req) : OutKept z (cmdLaneRxSet r s) := by
  grind only [cmdLaneRxSet, out_sized, out_roleRange, kept_setReceiver]

theorem out_cmdLaneTxSet (r : Req) : OutKept z (cmdLaneTxSet r s) := by
  grind only [cmdLaneTxSet, out_sized, out_roleRange, kept_putRegs]

theorem out_cmdLaneStatusGet (r : Req) : OutKept z (cmdLaneStatusGet r s) := by
  grind only [cmdLaneStatusGet, out_sized, out_no, out_ok]

theorem out_cmdLaneCntClr (r : Req) : OutKept z (cmdLaneCntClr r s) := by
  grind only [cmdLaneCntClr, out_sized, out_laneRange, kept_clearTxCounters, kept_clearRxCounters]

theorem out_cmdLaneEvenSet (r : Req) : OutKept z (cmdLaneEvenSet r s) := by
  grind only [cmdLaneEvenSet, out_sized, out_laneRange, kept_putReg]

theorem out_cmdLaneRearm (r : Req) : OutKept z (cmdLaneRearm r s) := by
  grind only [cmdLaneRearm, out_sized, out_roleRange, kept_rearmLane]

theorem kept_enterPaddock (n : Nat) : Kept z (enterPaddock s n) := by
  grind only [enterPaddock, kept_set, kept_putTx]

theorem kept_leavePaddock (n : Nat) : Kept z (leavePaddock s n) := by
  grind only [leavePaddock, kept_set, kept_putTx]

theorem out_cmdLanePaddockSet (r : Req) : OutKept z (cmdLanePaddockSet r s) := by
  grind only [cmdLanePaddockSet, out_sized, out_laneRange, kept_enterPaddock, kept_leavePaddock]

theorem out_cmdLaneRoleMove (r : Req) : OutKept z (cmdLaneRoleMove r s) := by
  grind only [cmdLaneRoleMove, out_sized, out_firstFail, out_no, kept_putTx, out_wait]

/-! ### Router commands -/

theorem out_cmdSentenceSend (r : Req) : OutKept z (cmdSentenceSend r s) := by
  grind only [cmdSentenceSend, out_no, out_wait]

theorem kept_startSentences : Kept z (startSentences s) := by
  grind only [startSentences, kept_startHostSentence]

theorem out_tableWrite (r : Req) (size most total : Nat) (absent : List (List Word) → Bool)
    (checks : List (List Word) → List (Bool × Nat)) (put : State → Nat → List Word → State)
    (hp : ∀ t n w, Kept z t → Kept z (put t n w)) : OutKept z (tableWrite r s size most total absent checks put) := by
  refine out_unfitted h _ (out_lengthCheck h _ (out_withRange h _ _ _ _ (out_firstFail h _ _ ?_)))
  split
  · exact out_wait h _
  · exact out_ok (kept_update (kept_foldl _ (fun t _ ht => hp t _ _ ht) _ h)) _

theorem out_cmdEntryWrite (r : Req) : OutKept z (cmdEntryWrite r s) := by
  grind only [cmdEntryWrite, out_tableWrite, kept_putEntry]

theorem out_cmdActionWrite (r : Req) : OutKept z (cmdActionWrite r s) := by
  grind only [cmdActionWrite, out_tableWrite, kept_putAction]

theorem out_cmdGroupWrite (r : Req) : OutKept z (cmdGroupWrite r s) := by
  grind only [cmdGroupWrite, out_tableWrite, kept_putGroup]

theorem out_cmdRouterCommit (r : Req) : OutKept z (cmdRouterCommit r s) := by
  grind only [cmdRouterCommit, out_sized, kept_update, out_wait]

theorem out_cmdEligibleSet (r : Req) : OutKept z (cmdEligibleSet r s) := by
  grind only [cmdEligibleSet, out_lengthCheck, out_firstFail, out_ok, kept_update]

theorem kept_bindListener (l : Nat) (w0 w1 : Word) : Kept z (bindListener s l w0 w1) := by
  grind only [bindListener, kept_runStall, kept_setReader, kept_update, kept_foldl]

theorem out_cmdBind (r : Req) : OutKept z (cmdBind r s) := by
  grind only [cmdBind, out_sized, out_firstFail, out_ok, kept_bindListener]

theorem out_cmdRouterRead (r : Req) : OutKept z (cmdRouterRead r s) := by
  grind only [cmdRouterRead, out_unfitted, out_sized, out_withRange, out_firstFail, out_ok]

theorem out_cmdRouterStatusGet (r : Req) : OutKept z (cmdRouterStatusGet r s) := by
  grind only [cmdRouterStatusGet, out_sized, out_ok]

theorem out_cmdHitsGet (r : Req) : OutKept z (cmdHitsGet r s) := by
  grind only [cmdHitsGet, out_sized, out_withRange, out_no, out_ok]

theorem kept_writeParseCfg (src : Nat) (w : Word) : Kept z (writeParseCfg s src w) := by
  grind only [writeParseCfg, kept_putReg, kept_clearParseCounters, kept_clearSeq]

theorem out_cmdParseSet (r : Req) : OutKept z (cmdParseSet r s) := by
  grind only [cmdParseSet, out_sized, out_okSame, out_firstFail, out_ok, kept_writeParseCfg, kept_foldl]

theorem out_cmdParseStatusGet (r : Req) : OutKept z (cmdParseStatusGet r s) := by
  grind only [cmdParseStatusGet, out_sized, out_firstFail, out_ok]

theorem out_cmdJudgeOut (r : Req) : OutKept z (cmdJudgeOut r s) := by
  grind only [cmdJudgeOut, out_sized, out_firstFail, out_ok, kept_judgeOut]

theorem out_cmdJudgeIn (r : Req) : OutKept z (cmdJudgeIn r s) :=
  out_sized h _ _ _ (out_firstFail h _ _ (out_ok (kept_autoOut (kept_judgeIn h)) _))

theorem out_cmdVoteCfgSet (r : Req) : OutKept z (cmdVoteCfgSet r s) := by
  grind only [cmdVoteCfgSet, out_sized, out_firstFail, out_ok, kept_autoOut, kept_putRegs, kept_putReg]

theorem out_cmdVoteStatusGet (r : Req) : OutKept z (cmdVoteStatusGet r s) := by
  grind only [cmdVoteStatusGet, out_sized, out_ok]

theorem runs_execRouterSentenceSend (r : Req) : Runs z (execRouterSentenceSend r s) := by
  grind only [execRouterSentenceSend, kept_startSentences, kept_cmdRow, out_cmdSentenceSend, runs_next]

/-! ### Stall commands -/

theorem kept_setReaderWm (q reader wm : Nat) : Kept z (setReaderWm s q reader wm) := by
  grind only [setReaderWm, kept_setReader, kept_set, kept_runStall]

theorem kept_answerStallReset (q : Nat) : Kept z (answerStallReset s q) := by
  grind only [answerStallReset, kept_answerWaits]

theorem kept_configStall (q k mode reader wm base : Nat) : Kept z (configStall s q k mode reader wm base) := by
  grind only [configStall, kept_setReaderWm, kept_set, kept_answerStallReset, kept_stallFreeUp, kept_stallAllocate, kept_runStall,
      kept_startReset]

theorem out_cmdStallConfig (r : Req) : OutKept z (cmdStallConfig r s) := by
  grind only [cmdStallConfig, out_sized, out_firstFail, out_ok, kept_configStall, out_done]

theorem out_cmdStallReset (r : Req) : OutKept z (cmdStallReset r s) := by
  grind only [cmdStallReset, out_sized, out_firstFail, kept_startReset, out_wait]

theorem out_cmdStallStatusGet (r : Req) : OutKept z (cmdStallStatusGet r s) := by
  grind only [cmdStallStatusGet, out_sized, out_withRange, out_no, out_ok]

/-! ### Time commands -/

theorem kept_setPtp (r : Req) : Kept z (setPtp s r) := by
  grind only [setPtp, kept_set, kept_loseReference, kept_update]

theorem out_cmdTimePtpCfg (r : Req) : OutKept z (cmdTimePtpCfg r s) := by
  grind only [cmdTimePtpCfg, out_sized, out_firstFail, out_ok, kept_setPtp]

theorem kept_lastOffset : Kept z (lastOffset s).1 := by
  grind only [lastOffset, kept_update]

theorem out_cmdTimeStatusGet (r : Req) : OutKept z (cmdTimeStatusGet r s) := by
  grind only [cmdTimeStatusGet, out_sized, kept_snapshotTime, kept_lastOffset, out_ok]

theorem kept_setRef (ref : Nat) : Kept z (setRef s ref) := by
  grind only [setRef, kept_set, kept_loseReference, kept_setServo, kept_update]

theorem out_cmdTimeRefSet (r : Req) : OutKept z (cmdTimeRefSet r s) :=
  out_sized h _ _ _ (out_firstFail h _ _ (out_ok (kept_update (kept_putRegs (kept_set (kept_set (kept_setRef h _) _ _ _) _ _ _) _ _
      _ _)) _))

theorem out_cmdTimeStep (r : Req) : OutKept z (cmdTimeStep r s) := by
  grind only [cmdTimeStep, out_sized, out_firstFail, out_ok, kept_setServo, kept_stepCounter, kept_update]

theorem out_frameSetNow (r : Req) : OutKept z (frameSetNow r s) := by
  grind only [frameSetNow, out_firstFail, kept_update, out_wait]

theorem out_cmdTimeFrameSet (r : Req) : OutKept z (cmdTimeFrameSet r s) := by
  grind only [cmdTimeFrameSet, out_sized, out_frameSetNow, out_wait]

theorem out_cmdTimePulseArm (r : Req) : OutKept z (cmdTimePulseArm r s) := by
  grind only [cmdTimePulseArm, out_sized, out_firstFail, out_ok, kept_armPulse]

theorem out_cmdTimePulseDisarm (r : Req) : OutKept z (cmdTimePulseDisarm r s) := by
  grind only [cmdTimePulseDisarm, out_sized, kept_disarmPulse, out_ok, kept_foldl, out_wait]

theorem out_cmdTimeCapCfg (r : Req) : OutKept z (cmdTimeCapCfg r s) :=
  out_sized h _ _ _ (out_firstFail h _ _ (out_ok (kept_update (kept_set (kept_putReg h _ _ _ _) _ _ _)) _))

/-! ### Pixel commands -/

theorem kept_putRecord (a : Nat) (ws : List Word) : Kept z (putRecord s a ws) := by
  grind only [putRecord, kept_poke]

theorem out_afterCopyback (f : State → CmdOut) (hf : OutKept z (f s)) : OutKept z (afterCopyback s f) := by
  grind only [afterCopyback, out_wait]

theorem out_cmdSegmentWrite (r : Req) : OutKept z (cmdSegmentWrite r s) := by
  grind only [cmdSegmentWrite, kept_putRecord, out_lengthCheck, out_firstFail, out_afterCopyback, out_no, out_ok, kept_foldl]

theorem out_pixelWrite (r : Req) (words most total : Nat) (addr : Nat → Nat → Nat) (clean : List Word → List Word)
    (absent bad : List Word → Bool) (after : State → List (Bool × Nat)) :
    OutKept z (pixelWrite r s words most total addr clean absent bad after) := by
  unfold pixelWrite
  exact out_unfitted h _ (out_lengthCheck h _ (out_withRange h _ _ _ _ (out_firstFail h _ _ (out_afterCopyback h _
    (out_firstFail h _ _ (out_ok (kept_foldl _ (fun t e ht => kept_putRecord ht _ _) _ h) _))))))

theorem out_cmdProfileWrite (r : Req) : OutKept z (cmdProfileWrite r s) := by
  grind only [cmdProfileWrite, out_pixelWrite]

theorem out_cmdZoneWrite (r : Req) : OutKept z (cmdZoneWrite r s) := by
  grind only [cmdZoneWrite, out_pixelWrite]

theorem out_cmdSourceWrite (r : Req) : OutKept z (cmdSourceWrite r s) := by
  grind only [cmdSourceWrite, out_pixelWrite]

theorem out_cmdPixelCfgSet (r : Req) : OutKept z (cmdPixelCfgSet r s) :=
  out_sized h _ _ _ (out_firstFail h _ _ (out_ok (kept_update (kept_set (kept_set h _ _ _) _ _ _)) _))

theorem out_cmdCurveWrite (r : Req) : OutKept z (cmdCurveWrite r s) := by
  grind only [cmdCurveWrite, out_no, out_firstFail, kept_pokePort, out_ok, kept_loadCurves]

theorem out_cmdPixelCommit (r : Req) : OutKept z (cmdPixelCommit r s) := by
  grind only [cmdPixelCommit, out_sized, out_afterCopyback, kept_set, out_no, out_wait]

theorem out_cmdLevelSet (r : Req) : OutKept z (cmdLevelSet r s) := by
  grind only [cmdLevelSet, out_no, out_ok, kept_latchValue, kept_foldl]

theorem kept_zoneInput (b : List Byte) (o : Nat) : Kept z (zoneInput s b o) := by
  grind only [zoneInput, kept_putZone]

theorem out_cmdZoneInput (r : Req) : OutKept z (cmdZoneInput r s) := by
  grind only [cmdZoneInput, out_no, out_firstFail, out_ok, kept_zoneInput, kept_foldl]

theorem out_cmdEncSet (r : Req) : OutKept z (cmdEncSet r s) := by
  grind only [cmdEncSet, out_sized, out_roleRange, kept_update]

theorem out_cmdGroupSet (r : Req) : OutKept z (cmdGroupSet r s) := by
  grind only [cmdGroupSet, out_no, out_withRange, out_firstFail, out_ok, kept_update, kept_foldl]

theorem out_cmdPixelStatusGet (r : Req) : OutKept z (cmdPixelStatusGet r s) := by
  grind only [cmdPixelStatusGet, out_sized, out_firstFail, out_ok]

/-! ### Measurement -/

theorem kept_putChannel (n : Nat) (x : Channel) : Kept z (State.putChannel s n x) := by
  grind only [State.putChannel, kept_update]

theorem kept_limitRise (n : Nat) : Kept z (limitRise s n) := by
  grind only [limitRise, kept_raiseMeas, kept_set, kept_inc, kept_raisePower]

theorem kept_limitCheck (n : Nat) (v : Int) : Kept z (limitCheck s n v) := by
  grind only [limitCheck, kept_putChannel, kept_limitRise, kept_set]

theorem kept_deliver (n : Nat) (raw off : Int) (gain : Nat) (fromSpare : Bool) : Kept z (deliver s n raw off gain fromSpare) := by
  unfold deliver
  extract_lets c beyond v w s1 s2 x s3
  have h1 : Kept z s1 := kept_incWrap (kept_setB (kept_setB (kept_set h _ _ _) _ _ _) _ _ _) _ _
  have h2 : Kept z s2 := by grind only [kept_raiseMeas, kept_inc]
  have h3 : Kept z s3 := kept_limitCheck (kept_putChannel h2 _ _) _ _
  grind only [kept_offerSample]

theorem kept_slewStep (n : Nat) : Kept z (slewStep s n) := by
  grind only [slewStep, kept_setI, kept_set, kept_putChannel]

theorem kept_ownSample (n : Nat) (raw : Int) : Kept z (ownSample s n raw) := by
  grind only [ownSample, kept_putChannel, kept_set, kept_slewStep, kept_deliver]

theorem kept_releaseSpare (m : Nat) : Kept z (releaseSpare s m) := by
  grind only [releaseSpare, kept_set]

theorem kept_holdCal (r : List Byte) : Kept z (holdCal s r) := by
  grind only [holdCal, kept_inc, kept_update]

theorem kept_logCal (n : Nat) (c : Cal) : Kept z (logCal s n c) := by
  grind only [logCal, kept_flushCal, kept_holdCal, kept_update]

theorem kept_meanOf (l : List Int) : Kept z (meanOf s l).1 := by
  grind only [meanOf, kept_update]

theorem kept_internalPass (kind : Nat) (p : CalPass) : Kept z (internalPass s kind p).1 := by
  grind only [internalPass, kept_meanOf, kept_update]

theorem kept_systemPass (gain expect : Nat) (p : CalPass) : Kept z (systemPass s gain expect p).1 := by
  grind only [systemPass, kept_meanOf, kept_update]

theorem kept_putCal (n : Nat) (c : Option Cal) : Kept z (putCal s n c) := by
  grind only [putCal, kept_putChannel]

theorem kept_idleState (n : Nat) : Kept z (idleState s n) := by
  grind only [idleState, kept_set]

theorem kept_endCal (n m : Nat) : Kept z (endCal s n m) := by
  grind only [endCal, kept_idleState, kept_releaseSpare, kept_putCal]

theorem kept_connectSpare (n : Nat) (c : Cal) : Kept z (connectSpare s n c) := by
  grind only [connectSpare, kept_putCal, kept_set]

theorem kept_startCal (n m : Nat) (system : Bool) (expect : Nat) : Kept z (startCal s n m system expect) := by
  grind only [startCal, kept_set, kept_connectSpare, kept_putCal]

theorem kept_beginReturn (n : Nat) (c : Cal) : Kept z (beginReturn s n c) := by
  grind only [beginReturn, kept_putCal, kept_set]

theorem kept_abortCal (n : Nat) : Kept z (abortCal s n) := by
  grind only [abortCal, kept_logCal, kept_raiseMeas, kept_endCal, kept_putCal, kept_beginReturn]

theorem kept_overlapStep (n : Nat) (raw spare : Int) (c : Cal) : Kept z (overlapStep s n raw spare c) := by
  grind only [overlapStep, kept_putCal, kept_set]

theorem kept_sampleStep (n : Nat) (raw spare : Int) : Kept z (sampleStep s n raw spare) := by
  grind only [sampleStep, kept_ownSample, kept_deliver, kept_overlapStep]

theorem runs_execMeasSample (ch : Nat) (raw spare : Int) : Runs z (execMeasSample ch raw spare s) := by
  grind only [execMeasSample, kept_sampleStep, runs_next]

theorem kept_handoverDiff (n d : Nat) : Kept z (handoverDiff s n d) := by
  grind only [handoverDiff, kept_raiseMeas, kept_putCal]

theorem kept_spareChecked (n : Nat) (c : Cal) (p1 p2 : CalPass) : Kept z (spareChecked s n c p1 p2) := by
  unfold spareChecked
  extract_lets k a b bad o r s1 s2
  have hb : Kept z b.1 := kept_internalPass (kept_internalPass h _ _) _ _
  split
  · exact kept_connectSpare (kept_setB (kept_update hb) _ _ _) _ _
  · exact kept_endCal (kept_logCal (kept_raiseMeas (kept_raiseMeas (kept_set (kept_set hb _ _ _) _ _ _) _) _) _ _) _ _

theorem runs_execCalSpareCheckDone (ch : Nat) (p1 p2 : CalPass) : Runs z (execCalSpareCheckDone ch p1 p2 s) := by
  grind only [execCalSpareCheckDone, kept_spareChecked, runs_next]

theorem runs_execCalSwitch (ch : Nat) : Runs z (execCalSwitch ch s) := by
  grind only [execCalSwitch, kept_handoverDiff, kept_putCal, kept_set, runs_next]

theorem kept_passResult (n : Nat) (c : Cal) (p : CalPass) : Kept z (passResult s n c p).1 := by
  grind only [passResult, kept_systemPass, kept_internalPass]

theorem kept_judgeCal (n : Nat) (c : Cal) (p q : Int × Int) : Kept z (judgeCal s n c p q) := by
  grind only [judgeCal, kept_beginReturn, kept_logCal, kept_raiseMeas]

theorem runs_execCalPassEnd (ch : Nat) (p : CalPass) : Runs z (execCalPassEnd ch p s) := by
  grind only [execCalPassEnd, kept_passResult, kept_putCal, kept_judgeCal, runs_next]

theorem runs_execCalGapEnd (ch : Nat) : Runs z (execCalGapEnd ch s) := by
  grind only [execCalGapEnd, kept_putCal, runs_next]

theorem kept_fit16 (signed : Bool) (v : Int) : Kept z (fit16 s signed v).1 := by
  grind only [fit16, kept_update]

theorem kept_applyCoefs (n : Nat) (off gain : Int) : Kept z (applyCoefs s n off gain) := by
  unfold applyCoefs
  extract_lets a b s1 k s2
  have h1 : Kept z s1 := kept_set (kept_setI (kept_fit16 (kept_fit16 h _ _) _ _) _ _ _) _ _ _
  have h2 : Kept z s2 := kept_update h1
  split
  · exact kept_putChannel (kept_set (kept_setI h2 _ _ _) _ _ _) _ _
  · exact kept_putChannel h2 _ _

theorem kept_stepCoefs (n : Nat) (w : Word) : Kept z (stepCoefs s n w) := by
  grind only [stepCoefs, kept_putReg, kept_set, kept_putChannel]

theorem kept_returnCal (n : Nat) (c : Cal) : Kept z (returnCal s n c) := by
  grind only [returnCal, kept_handoverDiff, kept_set, kept_applyCoefs, kept_raiseMeas, kept_logCal, kept_endCal]

theorem runs_execCalReturn (ch : Nat) : Runs z (execCalReturn ch s) := by
  grind only [execCalReturn, kept_returnCal, runs_next]

theorem runs_execMeasCoefPersist : Runs z (execMeasCoefPersist s) := by
  grind only [execMeasCoefPersist, kept_update, runs_next]

theorem runs_execSpareValidExpiry (spare : Nat) : Runs z (execSpareValidExpiry spare s) := by
  grind only [execSpareValidExpiry, kept_set, runs_next]

theorem kept_spareValidity : Kept z (spareValidity s) := by
  grind only [spareValidity, kept_set]

theorem kept_settleChannel (s0 : State) (n : Nat) : Kept z (settleChannel s0 s n) := by
  grind only [settleChannel, kept_idleState, kept_putChannel]

theorem kept_afterChannelWrite (s0 : State) (n off : Nat) : Kept z (afterChannelWrite s0 s n off) := by
  grind only [afterChannelWrite, kept_set, kept_settleChannel, kept_stepCoefs, kept_foldl]

theorem kept_clearMeasCounters : Kept z (clearMeasCounters s) := by
  grind only [clearMeasCounters, kept_clear, kept_set, kept_foldl]

theorem runs_execMeasCntClr : Runs z (execMeasCntClr s) := by
  grind only [execMeasCntClr, kept_clearMeasCounters, runs_next]

/-! ### Measurement commands -/

theorem out_oneChannel (r : Req) (size : Nat) (f : Nat → State → CmdOut) (hf : ∀ n, OutKept z (f n s)) :
    OutKept z (oneChannel r size s f) := by
  grind only [oneChannel, out_sized, out_no]

theorem kept_setChannel (w lim : Word) (n : Nat) : Kept z (setChannel w lim s n) := by
  grind only [setChannel, kept_settleChannel, kept_putReg]

theorem out_cmdMeasChSet (r : Req) : OutKept z (cmdMeasChSet r s) :=
  out_sized h _ _ _ (out_withRange h _ _ _ _ (out_firstFail h _ _ (out_ok (kept_foldl _ (fun _ n ht => kept_setChannel ht _ _ n) _
      h) _)))

theorem out_cmdMeasRead (r : Req) : OutKept z (cmdMeasRead r s) := by
  grind only [cmdMeasRead, out_sized, out_withRange, out_ok]

theorem out_cmdMeasTableSet (r : Req) : OutKept z (cmdMeasTableSet r s) := by
  grind only [cmdMeasTableSet, out_oneChannel, out_firstFail, out_ok, kept_putRegs]

theorem kept_expectC (n : Nat) (temp : Bool) (v : Nat) : Kept z (expectC s n temp v).1 := by
  grind only [expectC, kept_update]

theorem out_cmdMeasCalStart (r : Req) : OutKept z (cmdMeasCalStart r s) := by
  grind only [cmdMeasCalStart, out_oneChannel, out_firstFail, kept_expectC, out_ok, kept_startCal]

theorem out_cmdMeasCalAbort (r : Req) : OutKept z (cmdMeasCalAbort r s) := by
  grind only [cmdMeasCalAbort, out_oneChannel, out_firstFail, out_ok, kept_abortCal]

theorem out_cmdMeasCoefSet (r : Req) : OutKept z (cmdMeasCoefSet r s) := by
  grind only [cmdMeasCoefSet, out_oneChannel, out_firstFail, out_ok, kept_stepCoefs]

theorem out_cmdMeasParamSet (r : Req) : OutKept z (cmdMeasParamSet r s) := by
  grind only [cmdMeasParamSet, out_sized, out_firstFail, kept_spareValidity, kept_putRegs, kept_putReg, out_ok,
      kept_clearMeasCounters]

/-! ### Twin commands -/

theorem out_cmdTwinStatusGet (r : Req) : OutKept z (cmdTwinStatusGet r s) := by
  grind only [cmdTwinStatusGet, out_sized, kept_showUnit, out_ok]

theorem out_cmdTwinCfgSet (r : Req) : OutKept z (cmdTwinCfgSet r s) :=
  out_sized h _ _ _ (out_ok (kept_showUnit (kept_putReg (kept_putRegs h _ _ _ _) _ _ _ _)) _)

theorem out_cmdTwinSwap (r : Req) : OutKept z (cmdTwinSwap r s) := by
  grind only [cmdTwinSwap, out_sized, out_no, kept_showUnit, kept_sendHandover, kept_beginHandover, kept_askHandover, out_wait]

theorem kept_clearTwinCounters : Kept z (clearTwinCounters s) := by
  grind only [clearTwinCounters, kept_clear]

theorem out_cmdTwinClearFault (r : Req) : OutKept z (cmdTwinClearFault r s) := by
  grind only [cmdTwinClearFault, out_sized, out_firstFail, out_ok, kept_showUnit, kept_clearTwinCounters, kept_update]

/-! ### Bypass -/

theorem kept_cutPair (k : Nat) : Kept z (cutPair s k) := by
  grind only [cutPair, kept_ungrant, kept_putTx, kept_raiseTx, kept_dropRecord, kept_inc]

theorem kept_engagePairs : Kept z (engagePairs s) := by
  grind only [engagePairs, kept_cutPair, kept_update, kept_foldl]

theorem kept_followBypass : Kept z (followBypass s) := by
  grind only [followBypass, kept_bypassClaim, kept_engagePairs]

theorem kept_putMask (m : Nat) : Kept z (putMask s m) := by
  grind only [putMask, kept_set]

theorem kept_setMask : Kept z (setMask s) := by
  grind only [setMask, kept_putMask]

theorem runs_execBypassPin (level : Bool) : Runs z (execBypassPin level s) := by
  grind only [execBypassPin, kept_followBypass, kept_update, runs_next]

theorem kept_handPair (k : Nat) : Kept z (handPair s k) := by
  have h1 : Kept z { s with pairs := s.pairs.filter (fun j => j != k) } := kept_update h
  grind only [handPair, handPair.abortRx, kept_putRx, kept_set]

theorem runs_execBypassHandback (pair : Nat) : Runs z (execBypassHandback pair s) := by
  grind only [execBypassHandback, kept_handPair, runs_next]

/-! ### Security commands -/

theorem out_sigFail : OutKept z (sigFail s) := by
  grind only [sigFail, out_no, kept_raiseSec]

theorem kept_burnKeys (l : List (Nat × Nat)) : Kept z (burnKeys s l) := by
  grind only [burnKeys, kept_set, kept_update]

theorem kept_reloadKey : Kept z (reloadKey s) := by
  grind only [reloadKey, kept_update]

theorem out_openSession (r : Req) (k : Nat × Nat) : OutKept z (openSession s r k) := by
  grind only [openSession, out_ok, kept_update]

theorem out_cmdSessionOpen (r : Req) : OutKept z (cmdSessionOpen r s) := by
  grind only [cmdSessionOpen, out_sized, out_firstFail, out_no, out_sigFail, out_openSession]

theorem out_cmdSessionClose (r : Req) : OutKept z (cmdSessionClose r s) := by
  grind only [cmdSessionClose, out_sized, out_ok, out_no, kept_update]

theorem out_cmdKeyEnroll (r : Req) : OutKept z (cmdKeyEnroll r s) := by
  grind only [cmdKeyEnroll, out_no, out_firstFail, out_ok, out_sigFail, kept_burnKeys, kept_update]

theorem kept_lifeEffect (target : Nat) : Kept z (lifeEffect s target) := by
  grind only [lifeEffect, kept_set, kept_burnKeys, kept_update]

theorem kept_lifeMove (target : Nat) : Kept z (lifeMove s target) :=
  kept_followBypass (kept_reloadKey (kept_raiseSec (kept_logTamper (kept_newNonce (kept_wipeTack (kept_lifeEffect h _))) _ _) _))

theorem out_cmdLifeSet (r : Req) : OutKept z (cmdLifeSet r s) := by
  grind only [cmdLifeSet, out_sized, out_firstFail, out_ok, kept_lifeMove, out_sigFail]

theorem out_cmdTamperLogGet (r : Req) : OutKept z (cmdTamperLogGet r s) := by
  grind only [cmdTamperLogGet, out_sized, out_withRange, out_no, kept_tackGet, out_ok]

theorem runs_execRetireReset : Runs z (execRetireReset s) := by
  grind only [execRetireReset, kept_hubReset, runs_next]

theorem runs_execServiceExpiry : Runs z (execServiceExpiry s) := by
  grind only [execServiceExpiry, kept_set, kept_update, runs_next]

/-! ### Power and sheds -/

theorem kept_isolate (n : Nat) : Kept z (isolate s n) := by
  grind only [isolate, kept_set]

theorem kept_resetKinds (bs : List Blk) : Kept z (resetKinds s bs) := by
  grind only [resetKinds, kept_resetBlks]

theorem kept_cutLane (n : Nat) : Kept z (cutLane s n) := by
  grind only [cutLane, kept_dropRecord, kept_ungrant]

theorem kept_dropMove (n : Nat) : Kept z (dropMove s n) := by
  grind only [dropMove, kept_answerWaits, kept_putTx]

theorem kept_lowerLane (n : Nat) : Kept z (lowerLane s n) := by
  grind only [lowerLane, kept_leaveMode, kept_cutLane, kept_dropMove, kept_resetBlks, kept_update, kept_foldl]

theorem kept_lowerBank (n : Nat) : Kept z (lowerBank s n) := by
  grind only [lowerBank, kept_isolate, kept_lowerLane, kept_foldl]

theorem kept_idleLane (n : Nat) : Kept z (idleLane s n) := by
  grind only [idleLane, kept_cutLane, kept_putTx, kept_set, kept_putRx]

theorem kept_levelCopies : Kept z (levelCopies s) := by
  grind only [levelCopies, kept_update]

theorem kept_lowerRouter : Kept z (lowerRouter s) := by
  unfold lowerRouter
  extract_lets s1 held s2 s3 s4
  have h1 : Kept z s1 := kept_foldl _ (fun _ _ ht => kept_idleLane ht _) _ h
  have h3 : Kept z s3 := kept_answerHost (kept_update (kept_isolate (kept_levelCopies h1) _)) _ _ _
  have h4 : Kept z s4 := kept_foldl _ (fun _ _ ht => kept_freeSentence ht _) _ h3
  exact kept_update (kept_resetKinds h4 _)

theorem kept_lowerVoter : Kept z (lowerVoter s) := by
  grind only [lowerVoter, kept_freeSentence, kept_isolate, kept_resetKinds, kept_update, kept_foldl]

theorem kept_lowerPixel : Kept z (lowerPixel s) :=
  kept_update (kept_resetKinds (kept_answerWaits (kept_isolate (kept_pixelCopyback h) _) _ _ _) _)

theorem kept_lowerMeas : Kept z (lowerMeas s) := by
  grind only [lowerMeas, kept_abortCal, kept_resetKinds, kept_isolate, kept_update, kept_foldl]

theorem kept_cutPort (p : Nat) : Kept z (cutPort s p) := by
  grind only [cutPort, kept_releaseGranted, kept_endPayload, kept_putSource]

theorem kept_lowerPorts : Kept z (lowerPorts s) := by
  grind only [lowerPorts, kept_cutPort, kept_endHandover, kept_resetKinds, kept_isolate, kept_resetBlks, kept_update, kept_foldl]

theorem kept_lowerShed (n : Nat) : Kept z (lowerShed s n) := by
  unfold lowerShed
  split
  · exact h
  · split <;> grind only [kept_lowerRouter, kept_lowerVoter, kept_lowerPixel, kept_lowerMeas, kept_lowerPorts, kept_lowerBank]

theorem kept_clearYard : Kept z (clearYard s) := by
  refine Kept.trans h ⟨rfl, rfl, rfl, fun w => ?_⟩
  obtain ⟨hy, hm⟩ := memWf_iff.1 w
  refine memWf_iff.2 ⟨yard_filter_wf_of_init (fun e he => ?_) hy, hm⟩
  have hk : e.1 < 0x1200000 ∨ 8 * spareWord 0 ≤ e.1 := by simpa [keptByClear] using he
  have ho : e.1 < 0x1AA8000 ∨ curveEnd ≤ e.1 := by
    simp only [curveEnd, spareWord] at hk ⊢
    omega
  rw [yardInit_outside _ ho, yardInit_outside _ ho]

theorem kept_resetShed (n : Nat) : Kept z (resetShed s n) := by
  unfold resetShed
  split <;> grind only [kept_resetKinds, kept_resetBlks, kept_update]

theorem kept_clearSlots (n : Nat) : Kept z (clearSlots s n) := by
  grind only [clearSlots, kept_setSlotG, kept_foldl]

theorem kept_raiseShed (n : Nat) : Kept z (raiseShed s n) := by
  unfold raiseShed
  extract_lets s0 s1
  have h1 : Kept z s1 := kept_set (kept_clearSlots (kept_resetShed h _) _) _ _ _
  split <;> grind only [kept_clearYard, kept_protectTables, kept_loadCurves]

theorem kept_startPlan (raise : List Nat) (cmd : Bool) : Kept z (startPlan s raise cmd) := by
  grind only [startPlan, kept_set, kept_update]

theorem kept_beginSheds (up down : Nat) : Kept z (beginSheds s up down) := by
  grind only [beginSheds, kept_lowerShed, kept_startPlan, kept_foldl]

theorem kept_nextSheds (n : Nat) : Kept z (nextSheds s n) := by
  induction n generalizing s with
  | zero => grind only [nextSheds, kept_answerWait, kept_dropWait, kept_beginSheds]
  | succ n ih => grind only [nextSheds, kept_answerWait, kept_dropWait, kept_beginSheds]

theorem out_cmdShedSet (r : Req) : OutKept z (cmdShedSet r s) := by
  grind only [cmdShedSet, out_sized, out_firstFail, out_no, kept_beginSheds, out_ok, out_wait]

theorem kept_endPlan (status : Nat) : Kept z (endPlan s status) := by
  grind only [endPlan, kept_set, kept_answerWait, kept_dropWait, kept_nextSheds, kept_update]

theorem kept_planUp (n : Nat) : Kept z (planUp s n) := by
  grind only [planUp, kept_raiseShed, kept_endPlan, kept_update]

theorem kept_planFault (n : Nat) : Kept z (planFault s n) := by
  grind only [planFault, kept_raisePower, kept_endPlan, kept_update]

theorem kept_setRail (rail : Nat) (good : Bool) : Kept z (setRail s rail good) := by
  grind only [setRail, kept_setB, kept_set]

theorem runs_execRailFault (rail : Nat) : Runs z (execRailFault rail s) := by
  grind only [execRailFault, kept_raisePower, kept_lowerShed, kept_setRail, kept_update, kept_foldl, runs_next]

theorem runs_execRailRestored (rail : Nat) : Runs z (execRailRestored rail s) := by
  grind only [execRailRestored, kept_setRail, kept_startPlan, kept_update, runs_next]

theorem runs_execEconomy (millivolts : Nat) : Runs z (execEconomy millivolts s) := by
  grind only [execEconomy, kept_set, kept_raisePower, kept_setB, runs_next]

theorem runs_execBrownout (rail : Nat) : Runs z (execBrownout rail s) := by
  grind only [execBrownout, kept_setRail, kept_hubReset, kept_update, runs_next]

theorem runs_execBrownoutEnd : Runs z (execBrownoutEnd s) := by
  grind only [execBrownoutEnd, kept_setRail, kept_update, kept_foldl, runs_next]

/-! ### Service commands -/

theorem out_cmdYardStatusGet (r : Req) : OutKept z (cmdYardStatusGet r s) := by
  grind only [cmdYardStatusGet, out_sized, out_ok]

theorem out_cmdGroomSet (r : Req) : OutKept z (cmdGroomSet r s) := by
  grind only [cmdGroomSet, out_sized, kept_putReg, out_ok, kept_set]

theorem out_cmdFarrierMapGet (r : Req) : OutKept z (cmdFarrierMapGet r s) := by
  grind only [cmdFarrierMapGet, out_sized, out_ok]

theorem out_cmdJudgeTest (failStep : Nat) (r : Req) : OutKept z (cmdJudgeTest failStep r s) := by
  grind only [cmdJudgeTest, out_sized, out_firstFail, out_no, out_ok]

theorem out_cmdBypassSet (r : Req) : OutKept z (cmdBypassSet r s) :=
  out_sized h _ _ _ (out_firstFail h _ _ (out_ok (kept_followBypass (kept_update h)) _))

theorem kept_clearStreamCounters : Kept z (clearStreamCounters s) := by
  grind only [clearStreamCounters, kept_clear]

theorem kept_clearEthCounters (p : Nat) : Kept z (clearEthCounters s p) := by
  grind only [clearEthCounters, kept_clear]

theorem runs_execStrCntClr : Runs z (execStrCntClr s) := by
  grind only [execStrCntClr, kept_clearStreamCounters, runs_next]

theorem runs_execEthCntClr (port : Nat) : Runs z (execEthCntClr port s) := by
  grind only [execEthCntClr, kept_clearEthCounters, runs_next]

theorem kept_clearUnit (k : Nat) : Kept z (clearUnit s k) := by
  unfold clearUnit
  split <;> split <;> grind only [kept_clearRouterCounters, kept_clearVoteCounters, kept_clearYardCounters,
      kept_clearPixelCounters, kept_clearEncCounters, kept_clearStreamCounters, kept_clearEthCounters, kept_clearParseCounters,
      kept_foldl, kept_update]

theorem out_cmdCountersClear (r : Req) : OutKept z (cmdCountersClear r s) := by
  grind only [cmdCountersClear, out_sized, out_firstFail, out_ok, kept_clearUnit, kept_foldl]

theorem out_cmdPowerStatusGet (r : Req) : OutKept z (cmdPowerStatusGet r s) := by
  grind only [cmdPowerStatusGet, out_sized, out_ok, kept_update]

/-! ### The stream port -/

theorem kept_putStream (x : Stream) : Kept z (State.putStream s x) := by
  grind only [State.putStream, kept_update]

theorem kept_showCredits : Kept z (showCredits s) := by
  grind only [showCredits, kept_set]

theorem kept_badFrame : Kept z (badFrame s) := by
  grind only [badFrame, kept_inc, kept_set, kept_raiseStr, kept_putStream]

theorem kept_linkDown : Kept z (linkDown s) := by
  unfold linkDown
  split
  · exact h
  · exact kept_showCredits (kept_putStream (kept_raiseStr (kept_set (kept_inc (kept_badFrame h) _ _) _ _ _) _) _)

theorem runs_execStreamLinkUp : Runs z (execStreamLinkUp s) := by
  grind only [execStreamLinkUp, kept_raiseStr, kept_set, kept_showCredits, kept_putStream, runs_next]

theorem runs_execStreamLinkDown (errors : Nat) : Runs z (execStreamLinkDown errors s) := by
  grind only [execStreamLinkDown, kept_linkDown, kept_addTo, runs_next]

theorem runs_execCreditReturn : Runs z (execCreditReturn s) := by
  grind only [execCreditReturn, kept_showCredits, kept_putStream, runs_next]

theorem kept_enterFifo : Kept z (enterFifo s).1 := by
  grind only [enterFifo, kept_badFrame, kept_raiseStr, kept_inc, kept_showCredits, kept_putStream]

theorem kept_takeBeat (b : Beat) (sof : Bool) (f : State → State) (hf : ∀ t, Kept z t → Kept z (f t)) :
    Kept z (takeBeat s b sof f) := by
  have h1 := kept_enterFifo h
  grind only [takeBeat, kept_badFrame, kept_inc]

theorem kept_inFrame (f : StreamFrame → State) (hf : ∀ x, Kept z (f x)) : Kept z (inFrame s f) := by
  grind only [inFrame, kept_inc]

theorem kept_putFrame (x : StreamFrame) : Kept z (putFrame s x) := by
  grind only [putFrame, kept_putStream]

theorem kept_openFrame (b : Beat) : Kept z (openFrame s b) := by
  grind only [openFrame, kept_badFrame, kept_set, kept_putStream]

theorem runs_execStreamSof (b : Beat) : Runs z (execStreamSof b s) := by
  grind only [execStreamSof, kept_takeBeat, kept_openFrame, runs_next]

theorem kept_openLine (b : Beat) : Kept z (openLine s b) := by
  grind only [openLine, kept_inFrame, kept_badFrame, kept_putFrame]

theorem runs_execStreamSol (b : Beat) : Runs z (execStreamSol b s) := by
  grind only [execStreamSol, kept_takeBeat, kept_openLine, runs_next]

theorem kept_writeBeat (x : StreamFrame) (b : Beat) : Kept z (writeBeat s x b) := by
  grind only [writeBeat, kept_srcIgnored, kept_writePixel]

theorem kept_takeData (b : Beat) : Kept z (takeData s b) := by
  grind only [takeData, kept_inFrame, kept_badFrame, kept_writeBeat, kept_putFrame]

theorem runs_execStreamDataBeat (b : Beat) : Runs z (execStreamDataBeat b s) := by
  grind only [execStreamDataBeat, kept_takeBeat, kept_takeData, runs_next]

theorem kept_endLine (b : Beat) : Kept z (endLine s b) := by
  grind only [endLine, kept_inFrame, kept_badFrame, kept_putFrame]

theorem runs_execStreamEol (b : Beat) : Runs z (execStreamEol b s) := by
  grind only [execStreamEol, kept_takeBeat, kept_endLine, runs_next]

theorem kept_endFrame (b : Beat) : Kept z (endFrame s b) := by
  grind only [endFrame, kept_inFrame, kept_badFrame, kept_set, kept_putStream]

theorem runs_execStreamEof (b : Beat) : Runs z (execStreamEof b s) := by
  grind only [execStreamEof, kept_takeBeat, kept_endFrame, runs_next]

theorem runs_execStreamCommit : Runs z (execStreamCommit s) := by
  grind only [execStreamCommit, kept_putStream, kept_srcIgnored, kept_commitFrame, kept_inc, kept_setReg, runs_next]

theorem kept_placeMessage (i : Nat) (via : Transport) (msg : List Byte) : Kept z (placeMessage s i via msg) :=
  have h1 := kept_mbi (kept_setMbState h i 1) (512 * i) (msg.take 512)
  ⟨h1.pending, h1.part, h1.stepping, h1.mem⟩

theorem kept_fillMailbox (i : Nat) : Kept z (fillMailbox s i) := by
  grind only [fillMailbox, kept_placeMessage, kept_update]

theorem kept_deliverMessage (i : Nat) (via : Transport) (msg : List Byte) : Kept z (deliverMessage s i via msg) := by
  grind only [deliverMessage, kept_respond, kept_fillMailbox, kept_update]

theorem kept_enterBeats (n : Nat) : Kept z (enterBeats n s).1 := by
  induction n generalizing s with
  | zero => grind only [enterBeats, kept_enterFifo]
  | succ n ih => grind only [enterBeats, kept_enterFifo]

theorem kept_sidebandError : Kept z (sidebandError s) := by
  grind only [sidebandError, kept_raiseStr, kept_inc]

theorem kept_takePacket (mbox beats : Nat) (msg : List Byte) (whole : Bool) : Kept z (takePacket s mbox beats msg whole) := by
  grind only [takePacket, kept_sidebandError, kept_deliverMessage, kept_inc]

theorem runs_execSidebandPacket (mbox beats : Nat) (msg : List Byte) (whole : Bool) : Runs z
    (execSidebandPacket mbox beats msg whole s) := by
  grind only [execSidebandPacket, kept_enterBeats, kept_badFrame, kept_sidebandError, kept_takePacket, runs_next]

/-! ### Ethernet -/

theorem kept_setLink (p : Nat) (up badSpeed : Bool) : Kept z (setLink s p up badSpeed) := by
  grind only [setLink, kept_setB, kept_raiseEth]

theorem runs_execEthLinkChange (port : Nat) (up speedOk : Bool) : Runs z (execEthLinkChange port up speedOk s) := by
  grind only [execEthLinkChange, kept_setLink, runs_next]

theorem kept_releaseSent (p : Nat) : Kept z (releaseSent s p) := by
  grind only [releaseSent, kept_putEth, kept_runAfterMarker, kept_releaseGranted]

theorem runs_execEthTxFrameEnd (port : Nat) (otherWaits : Bool) : Runs z (execEthTxFrameEnd port otherWaits s) := by
  grind only [execEthTxFrameEnd, kept_releaseSent, kept_inc, kept_putEth, runs_next]

theorem kept_e131Drop (p : Nat) : Kept z (e131Drop s p) := by
  grind only [e131Drop, kept_raiseEth, kept_inc]

theorem kept_putUniv (u : Nat) (x : Univ) : Kept z (State.putUniv s u x) := by
  grind only [State.putUniv, kept_update]

theorem kept_writeUniverse (i : Nat) (slots : List Byte) : Kept z (writeUniverse s i slots) := by
  grind only [writeUniverse, kept_srcIgnored, kept_offerSource]

theorem kept_takePacketData (u sync : Nat) (slots : List Byte) (x : Univ) : Kept z (takePacketData s u sync slots x) := by
  grind only [takePacketData, kept_putUniv, kept_writeUniverse, kept_foldl]

theorem kept_universePacket (p u : Nat) (b : List Byte) : Kept z (universePacket s p u b) := by
  grind only [universePacket, kept_putUniv, kept_takePacketData]

theorem kept_e131Data (p : Nat) (b : List Byte) : Kept z (e131Data s p b) := by
  grind only [e131Data, kept_e131Drop, kept_universePacket]

theorem kept_e131Sync (b : List Byte) : Kept z (e131Sync s b) := by
  grind only [e131Sync, kept_putUniv, kept_writeUniverse, kept_update, kept_foldl]

theorem kept_toFirmware (p : Nat) (b : List Byte) : Kept z (toFirmware s p b) := by
  grind only [toFirmware, kept_putEth]

theorem kept_e131Packet (p : Nat) (b : List Byte) : Kept z (e131Packet s p b) := by
  grind only [e131Packet, kept_e131Drop, kept_e131Data, kept_e131Sync, kept_toFirmware]

theorem runs_execE131SourceTimeout (univ : Nat) : Runs z (execE131SourceTimeout univ s) := by
  grind only [execE131SourceTimeout, kept_putUniv, runs_next]

theorem runs_execE131SyncTimeout (sync : Nat) : Runs z (execE131SyncTimeout sync s) := by
  grind only [execE131SyncTimeout, kept_update, runs_next]

theorem kept_rxOther (p : Nat) : Kept z (rxOther s p) := by
  grind only [rxOther, kept_inc]

theorem kept_takeSentences (p id stamp off : Nat) (payload : List Byte) : Kept z (takeSentences s p id stamp off payload) := by
  grind only [takeSentences, kept_putSource]

theorem kept_udpDatagram (p id stamp off : Nat) (u : List Byte) : Kept z (udpDatagram s p id stamp off u) := by
  grind only [udpDatagram, kept_e131Packet, kept_takeSentences, kept_putEth, kept_rxOther]

theorem kept_ipPacket (p id stamp off : Nat) (frame ip : List Byte) : Kept z (ipPacket s p id stamp off frame ip) := by
  grind only [ipPacket, kept_rxOther, kept_toFirmware, kept_udpDatagram]

theorem kept_classifyFrame (p id stamp : Nat) (b : List Byte) : Kept z (classifyFrame s p id stamp b) := by
  grind only [classifyFrame, kept_rxOther, kept_inc, kept_toFirmware, kept_ipPacket]

theorem kept_bufferFrame (p : Nat) (b : List Byte) : Kept z (bufferFrame s p b).1 := by
  grind only [bufferFrame, kept_putEth, kept_poke, kept_foldl]

theorem runs_execEthFrameReceived (port : Nat) (bytes : List Byte) (ago : Nat) : Runs z (execEthFrameReceived port bytes ago s) := by
  grind only [execEthFrameReceived, kept_raiseEth, kept_inc, kept_bufferFrame, kept_classifyFrame, runs_next]

theorem kept_authFail (p : Nat) : Kept z (authFail s p) := by
  grind only [authFail, kept_raiseEth, kept_inc]

theorem kept_takeSession (p : Nat) (b : List Byte) : Kept z (takeSession s p b) := by
  grind only [takeSession, kept_authFail, kept_deliverMessage, kept_update]

theorem runs_execSessionDatagram (port : Nat) (bytes : List Byte) : Runs z (execSessionDatagram port bytes s) := by
  grind only [execSessionDatagram, kept_takeSession, kept_touchBytes, kept_putEth, kept_raiseEth, kept_inc, runs_next]

/-! ### Command entries -/

theorem out_cmdStreamSet (r : Req) : OutKept z (cmdStreamSet r s) := by
  grind only [cmdStreamSet, out_sized, out_ok, kept_putReg, kept_linkDown]

theorem out_cmdStreamStatusGet (r : Req) : OutKept z (cmdStreamStatusGet r s) := by
  grind only [cmdStreamStatusGet, out_sized, out_ok]

theorem out_cmdEthSet (r : Req) : OutKept z (cmdEthSet r s) := by
  grind only [cmdEthSet, out_sized, out_firstFail, out_ok, kept_putRegs, kept_setLink]

theorem out_cmdEthStatusGet (r : Req) : OutKept z (cmdEthStatusGet r s) := by
  grind only [cmdEthStatusGet, out_sized, out_firstFail, out_ok]

theorem applied_keyEntry (b : List Byte) : AppliedKept z (keyEntry s b) := by
  have h1 : ∀ t, AppliedKept z (.done { s with keys := t }) := fun t => kept_update (z := z) h
  grind only [keyEntry, AppliedKept]

theorem applied_encEntry (b : List Byte) : AppliedKept z (encEntry s b) := by
  have h1 : ∀ t, AppliedKept z (.done { s with panelEncs := t }) := fun t => kept_update (z := z) h
  grind only [encEntry, AppliedKept]

theorem kept_showLeds : Kept z (showLeds s) := by
  grind only [showLeds, kept_set]

theorem applied_ledEntry (b : List Byte) : AppliedKept z (ledEntry s b) := by
  have h1 : ∀ t, AppliedKept z (.done (showLeds { s with leds := t })) := fun t => kept_showLeds (kept_update h)
  grind only [ledEntry, AppliedKept]

theorem applied_overlayEntry (b : List Byte) : AppliedKept z (overlayEntry s b) := by
  grind only [overlayEntry, AppliedKept, kept_poke, kept_update]

theorem applied_schedEntry (b : List Byte) : AppliedKept z (schedEntry s b) := by
  have h1 : ∀ t, AppliedKept z (.done { s with sched := t }) := fun t => kept_update (z := z) h
  grind only [schedEntry, AppliedKept]

theorem kept_resizeReserved (q k a : Nat) : Kept z (resizeReserved s q k a) := by
  grind only [resizeReserved, kept_stallAllocate, kept_runStall]

theorem applied_stallSizeEntry (b : List Byte) : AppliedKept z (stallSizeEntry s b) := by
  grind only [stallSizeEntry, AppliedKept, kept_resizeReserved]

theorem applied_twinEntry (b : List Byte) : AppliedKept z (twinEntry s b) := by
  have h1 := out_cmdTwinCfgSet h (ownReq (b.drop 4))
  grind only [twinEntry, AppliedKept, OutKept]

theorem applied_imageEntry (op : Nat) (b : List Byte) : AppliedKept z (imageEntry s op b) := by
  grind only [imageEntry, AppliedKept, kept_set, kept_putRw, applied_keyEntry, applied_encEntry, applied_ledEntry,
      applied_overlayEntry, applied_schedEntry, applied_stallSizeEntry, applied_twinEntry]

omit h in
theorem applied_entryResult (op : Nat) (r : Req) {out : CmdOut} (ho : OutKept z out) : AppliedKept z (entryResult op r out) := by
  cases out with
  | done t st d l b => grind only [entryResult, AppliedKept, OutKept]
  | wait t w =>
    cases w with
    | frameSet b => exact kept_update (z := z) ho
    | _ => exact ho

/-- Whatever the request, a port command keeps what is asked. -/
def CmdKept (c : Cmd) : Prop := ∀ {z s : State}, Kept z s → ∀ r : Req, OutKept z (c.run r s)

omit h in
theorem findCommand_kept {l : List (Nat × Cmd)} (hl : ∀ e ∈ l, CmdKept e.2) {op : Nat} {c : Cmd} (hc : findCommand l op = some c) :
    CmdKept c := by
  simp only [findCommand, Option.map_eq_some_iff] at hc
  obtain ⟨e, he, rfl⟩ := hc
  exact hl e (List.mem_of_find?_eq_some he)

omit h in
theorem entryCommands_kept : ∀ e ∈ entryCommands, CmdKept e.2 := by
  simp only [entryCommands, List.forall_mem_append, List.forall_mem_cons, List.not_mem_nil, false_imp_iff, implies_true, and_true]
  exact ⟨⟨@out_cmdStreamSet, @out_cmdEthSet, @out_cmdLaneModeSet, @out_cmdLaneRxSet, @out_cmdLaneTxSet, @out_cmdLaneEvenSet,
      @out_cmdLanePaddockSet, @out_cmdLaneRoleMove, @out_cmdEntryWrite, @out_cmdActionWrite, @out_cmdGroupWrite,
      @out_cmdEligibleSet, @out_cmdBind, @out_cmdParseSet, @out_cmdVoteCfgSet, @out_cmdStallConfig, @out_cmdTimePtpCfg,
      @out_cmdTimeRefSet, @out_cmdTimeFrameSet, @out_cmdTimeCapCfg⟩, @out_cmdSegmentWrite, @out_cmdProfileWrite, @out_cmdZoneWrite,
      @out_cmdSourceWrite, @out_cmdPixelCfgSet, @out_cmdCurveWrite, @out_cmdEncSet, @out_cmdGroupSet, @out_cmdMeasChSet,
      @out_cmdMeasTableSet, @out_cmdMeasParamSet, @out_cmdGroomSet⟩

theorem applied_applyEntry (op : Nat) (body : List Byte) : AppliedKept z (applyEntry s op body) := by
  unfold applyEntry
  split
  · rename_i c hc
    split
    · trivial
    · exact applied_entryResult _ _ (findCommand_kept entryCommands_kept hc h _)
  · exact applied_imageEntry h _ _

/-! ### Port commands -/

theorem kept_program (a : Nat) (bs : List Byte) : Kept z (State.program s a bs) := by
  refine Kept.trans h ⟨rfl, rfl, rfl, fun w => ?_⟩
  obtain ⟨hy, hf, hm⟩ := memWf_iff.1 w
  exact memWf_iff.2 ⟨hy, memWrite_wf _ _ _ hf, hm⟩

theorem kept_eraseSector (n : Nat) : Kept z (State.eraseSector s n) := by
  refine Kept.trans h ⟨rfl, rfl, rfl, fun w => ?_⟩
  obtain ⟨hy, hf, hm⟩ := memWf_iff.1 w
  exact memWf_iff.2 ⟨hy, filter_wfFrom _ _ hf, hm⟩

theorem kept_eraseOnce (n : Nat) : Kept z (eraseOnce s n) := by
  grind only [eraseOnce, kept_eraseSector, kept_update]

theorem kept_touchCopy (c : Nat) : Kept z (touchCopy s c) := by
  grind only [touchCopy, kept_eraseOnce, kept_update]

theorem kept_storeCopy (c off : Nat) (bs : List Byte) : Kept z (storeCopy s c off bs) := by
  grind only [storeCopy, kept_eraseOnce, kept_touchCopy, kept_program, kept_foldl]

theorem out_cmdImageWrite (r : Req) : OutKept z (cmdImageWrite r s) := by
  grind only [cmdImageWrite, out_no, out_firstFail, out_ok, kept_storeCopy]

theorem kept_commitCopy (c : Nat) : Kept z (commitCopy s c) := by
  grind only [commitCopy, kept_program]

theorem out_cmdImageCommit (r : Req) : OutKept z (cmdImageCommit r s) := by
  grind only [cmdImageCommit, out_sized, out_firstFail, out_no, out_ok, kept_commitCopy, kept_update]

theorem out_cmdOverlayWrite (r : Req) : OutKept z (cmdOverlayWrite r s) := by
  grind only [cmdOverlayWrite, out_no, out_firstFail, out_ok, kept_pokePort, kept_update]

theorem out_cmdOverlaySeal (r : Req) : OutKept z (cmdOverlaySeal r s) := by
  grind only [cmdOverlaySeal, out_sized, out_firstFail, out_ok, kept_update]

/-! ### Modes and schedules -/

theorem kept_clearInactive : Kept z (clearInactive s) := by
  grind only [clearInactive, kept_blankSpan, kept_update]

theorem kept_buildTables (l : List CEntry) : Kept z (buildTables s l).1 := by
  induction l generalizing s with
  | nil => exact h
  | cons e r ih =>
    have he := applied_applyEntry h e.op e.body
    grind only [buildTables, AppliedKept]

theorem kept_unbindEnc (i : Nat) : Kept z (unbindEnc s i) := by
  grind only [unbindEnc, kept_update]

theorem kept_applyWork (w : Nat × List Byte) : Kept z (applyWork s w) := by
  have he := applied_applyEntry h w.1 w.2
  grind only [applyWork, AppliedKept, kept_unbindEnc]

theorem kept_answerReq (q : ModeReq) (status detail : Nat) (switched : Bool) : Kept z (answerReq s q status detail switched) := by
  grind only [answerReq, kept_answerWait, kept_dropWait, kept_postNotice]

theorem kept_planSwitch (mode emerg : Option Nat) {t : State} {post : List (Nat × List Byte)}
    (hp : planSwitch s mode emerg = .go t post) : Kept z t := by
  have hb := kept_buildTables (kept_clearInactive h) (configOf s mode emerg)
  have hw := fun (l : List (Nat × List Byte)) => kept_foldl applyWork (fun _ w ht => kept_applyWork ht w) l hb
  grind only [planSwitch]

theorem kept_beginSwitch : Kept z (beginSwitch s) := by
  unfold beginSwitch
  split
  · exact h
  · rename_i q0 r _
    extract_lets s1 q
    have h1 : Kept z s1 := kept_update h
    split
    · exact kept_answerReq h1 _ _ _ _
    · exact kept_answerReq h1 _ _ _ _
    · split
      · exact kept_answerReq h1 _ _ _ _
      · exact kept_answerReq (kept_update h1) _ _ _ _
      · rename_i t post hp
        exact kept_showLeds (kept_update (kept_planSwitch h1 _ _ hp))

theorem runs_execModeSwitch : Runs z (execModeSwitch s) := by
  grind only [execModeSwitch, kept_beginSwitch, runs_next]

theorem kept_switchRouter : Kept z (switchRouter s) := by
  grind only [switchRouter, kept_set, kept_update]

theorem kept_finishSwitch : Kept z (finishSwitch s) := by
  unfold finishSwitch
  split
  · exact kept_answerReq (kept_showLeds (kept_setMask (kept_stepGen (kept_update
      (kept_foldl applyWork (fun _ w ht => kept_applyWork ht w) _ (kept_update h)))))) _ _ _ _
  · exact h

theorem out_cmdModeReq (q : ModeReq) : OutKept z (cmdModeReq s q) := by
  grind only [cmdModeReq, out_okSame, out_no, kept_update, out_wait]

theorem out_cmdModeSet (r : Req) : OutKept z (cmdModeSet r s) := by
  grind only [cmdModeSet, out_sized, out_cmdModeReq]

theorem out_cmdEmergencySet (r : Req) : OutKept z (cmdEmergencySet r s) := by
  grind only [cmdEmergencySet, out_sized, out_cmdModeReq]

theorem kept_markSeen : Kept z (markSeen s) := by
  grind only [markSeen, kept_update]

theorem kept_fireEntry (e : Sched) (u : Nat) : Kept z (fireEntry s e u) := by
  grind only [fireEntry, kept_update]

theorem runs_execScheduleFire (n : Nat) : Runs z (execScheduleFire n s) := by
  grind only [execScheduleFire, kept_fireEntry, runs_next]

theorem kept_catchUp : Kept z (catchUp s) := by
  grind only [catchUp, kept_markSeen, kept_update]

theorem kept_panelReq (what slot : Nat) : Kept z (panelReq s what slot) := by
  grind only [panelReq, kept_tetherSend, kept_update]

theorem kept_actKey (k : Nat) : Kept z (actKey s k) := by
  grind only [actKey, kept_panelReq, kept_latchValue, kept_update]

theorem kept_sendOwn (body : List Byte) : Kept z (sendOwn s body) := by
  grind only [sendOwn, kept_putSource]

theorem kept_setLevel (i : Nat) (level : Bool) : Kept z (setLevel s i level) := by
  grind only [setLevel, kept_set]

theorem runs_execKeyDebounce (key : Nat) (level : Bool) : Runs z (execKeyDebounce key level s) := by
  grind only [execKeyDebounce, kept_setLevel, kept_set, kept_sendOwn, kept_actKey, kept_update, runs_next]

theorem runs_execKeyAction (key : Nat) : Runs z (execKeyAction key s) := by
  grind only [execKeyAction, kept_actKey, runs_next]

theorem runs_execKeyStuck (key : Nat) : Runs z (execKeyStuck key s) := by
  grind only [execKeyStuck, kept_set, kept_update, runs_next]

theorem kept_detent (i : Nat) (x : PanelEnc) (d : Int) : Kept z (detent s i x d) := by
  grind only [detent, kept_latchValue, kept_sendOwn]

theorem kept_countDetent (i : Nat) (d : Int) : Kept z (countDetent s i d) := by
  grind only [countDetent, kept_detent, kept_update]

theorem runs_execEncoderTransition (enc : Nat) (ab : BitVec 2) : Runs z (execEncoderTransition enc ab s) := by
  grind only [execEncoderTransition, kept_setLevel, kept_inc, kept_countDetent, kept_setI, kept_update, runs_next]

/-! ### Commands run again -/

theorem out_cmdJudgeFree (r : Req) : OutKept z (cmdJudgeFree r s) := by
  grind only [cmdJudgeFree, out_cmdJudgeTest, kept_update]

omit h in
theorem commandsLow_kept : ∀ e ∈ commandsLow, CmdKept e.2 := by
  simp only [commandsLow, List.forall_mem_append, List.forall_mem_cons, List.not_mem_nil, false_imp_iff, implies_true, and_true]
  exact ⟨⟨@out_cmdNop, @out_cmdIdentGet, @out_cmdEcho, @out_cmdImageWrite, @out_cmdImageCommit, @out_cmdOverlayWrite,
      @out_cmdOverlaySeal, @out_cmdModeSet, @out_cmdEmergencySet, @out_cmdStreamStatusGet, @out_cmdEthStatusGet,
      @out_cmdLaneStatusGet, @out_cmdLaneCntClr, @out_cmdLaneRearm⟩, @out_cmdSentenceSend, @out_cmdRouterCommit,
      @out_cmdRouterRead, @out_cmdRouterStatusGet, @out_cmdHitsGet, @out_cmdParseStatusGet, @out_cmdJudgeOut, @out_cmdJudgeIn,
      @out_cmdVoteStatusGet, @out_cmdStallReset, @out_cmdStallStatusGet⟩

omit h in
theorem commandsHigh_kept : ∀ e ∈ commandsHigh, CmdKept e.2 := by
  simp only [commandsHigh, List.forall_mem_append, List.forall_mem_cons, List.not_mem_nil, false_imp_iff, implies_true, and_true]
  exact ⟨⟨@out_cmdTimeStatusGet, @out_cmdTimeStep, @out_cmdTimePulseArm, @out_cmdTimePulseDisarm, @out_cmdPixelCommit,
      @out_cmdLevelSet, @out_cmdZoneInput, @out_cmdPixelStatusGet, @out_cmdMeasRead, @out_cmdMeasCalStart, @out_cmdMeasCalAbort,
      @out_cmdMeasCoefSet, @out_cmdTwinStatusGet, @out_cmdTwinCfgSet, @out_cmdTwinSwap,
      @out_cmdTwinClearFault⟩, @out_cmdSessionOpen, @out_cmdSessionClose, @out_cmdKeyEnroll, @out_cmdLifeSet, @out_cmdTamperLogGet,
      @out_cmdYardStatusGet, @out_cmdFarrierMapGet, @out_cmdJudgeFree, @out_cmdBypassSet, @out_cmdCountersClear, @out_cmdShedSet,
      @out_cmdPowerStatusGet⟩

omit h in
theorem allCommands_kept : ∀ e ∈ allCommands, CmdKept e.2 := by
  simp only [allCommands, List.forall_mem_append]
  exact ⟨⟨commandsLow_kept, entryCommands_kept⟩, commandsHigh_kept⟩

theorem kept_runCommand (op : Nat) (r : Req) (e : Option Nat) (replayed : Bool) : Kept z (runCommand op r e replayed s) := by
  unfold runCommand
  extract_lets t
  have ht : Kept z t := by
    simp only [t]
    split
    · split <;> exact kept_finish _ _ _ _ _ (out_no h _)
    · rename_i c hc
      exact kept_runReq h _ _ _ _ _ _ _ (findCommand_kept allCommands_kept hc h _)
  split
  · exact kept_startSentences ht
  · exact ht

theorem kept_rerunHeld : Kept z (rerunHeld s) := by
  grind only [rerunHeld, kept_runCommand, kept_update, kept_foldl]

/-! ### Frames -/

theorem kept_nextFrameSet (n : Nat) : Kept z (nextFrameSet s n) := by
  induction n generalizing s with
  | zero => exact h
  | succ n ih =>
    unfold nextFrameSet
    split
    · exact h
    · rename_i w _
      have hf := out_frameSetNow (kept_dropWait h w) w.req
      split
      · rename_i t st d data _ hc
        rw [hc] at hf
        exact ih (kept_answerWait hf _ _ _ _ _)
      · rename_i t on hc
        rw [hc] at hf
        exact kept_update hf

theorem kept_answerFrameSets : Kept z (answerFrameSets s) := by
  grind only [answerFrameSets, kept_answerWaits, kept_nextFrameSet]

theorem kept_answerPixelCommits : Kept z (answerPixelCommits s) := by
  grind only [answerPixelCommits, kept_answerWaits]

theorem kept_fireFrame : Kept z (fireFrame s) := by
  unfold fireFrame
  extract_lets own commit s1 s2 s3
  have h1 : Kept z s1 := kept_pixelZones (kept_twinAfterTick (kept_syncDmx (kept_pixelTick (kept_twinBeforeTick (kept_fireTick
      h)))))
  have h2 : Kept z s2 := by grind only [kept_answerFrameSets]
  have h3 : Kept z s3 := by grind only [kept_answerPixelCommits]
  exact kept_finishSwitch h3

theorem runs_execFrameTick : Runs z (execFrameTick s) := by
  refine runs_next ?_
  split
  · exact h
  · split
    · exact kept_suppressTick h
    · exact kept_fireFrame h

theorem runs_execServoMeasurement (offset rate : Int) : Runs z (execServoMeasurement offset rate s) := by
  grind only [execServoMeasurement, kept_servoMeasure, kept_catchUp, runs_next]

theorem runs_execRouterSwap : Runs z (execRouterSwap s) := by
  grind only [execRouterSwap, kept_swapTables, kept_switchRouter, kept_answerWaits, runs_next]

theorem runs_execRouterCopybackDone : Runs z (execRouterCopybackDone s) := by
  grind only [execRouterCopybackDone, kept_rerunHeld, kept_levelTables, kept_nextSheds, runs_next]

theorem runs_execPixelCopybackDone : Runs z (execPixelCopybackDone s) := by
  grind only [execPixelCopybackDone, kept_rerunHeld, kept_healTables, kept_pixelCopyback, runs_next]

/-! ### The rows of the host port -/

theorem runs_execSpiWrite (addr : BitVec 24) (words : List Word) (commit : Nat) (ovf : List Nat) : Runs z
    (execSpiWrite addr words commit ovf s) := by
  grind only [execSpiWrite, kept_spiWriteTxn, runs_next]

theorem runs_execSpiQwrite (addr : BitVec 24) (words : List Word) (commit : Nat) (ovf : List Nat) : Runs z
    (execSpiQwrite addr words commit ovf s) := by
  grind only [execSpiQwrite, kept_spiWriteTxn, runs_next]

theorem runs_execSpiRead (addr : BitVec 24) (count : Nat) (late : List Nat) : Runs z (execSpiRead addr count late s) := by
  grind only [execSpiRead, kept_spiReadTxn, runs_next]

theorem runs_execSpiQread (addr : BitVec 24) (count : Nat) (late : List Nat) : Runs z (execSpiQread addr count late s) := by
  grind only [execSpiQread, kept_spiReadTxn, runs_next]

theorem runs_execBadInstr (code : Byte) : Runs z (execBadInstr code s) := by
  grind only [execBadInstr, kept_hostErr, runs_next]

theorem kept_writeTimeCfg (s0 : State) : Kept z (writeTimeCfg s0 s) := by
  grind only [writeTimeCfg, kept_setRef, kept_set, kept_loseReference]

omit h in
theorem kept_stageGrid {s0 : State} (h0 : Kept z s0) (s : State) (off : Nat) : Kept z (stageGrid s0 s off) := kept_update h0

theorem kept_restartCapture (n : Nat) : Kept z (restartCapture s n) := by
  grind only [restartCapture, kept_set, kept_update]

theorem kept_afterWrite {s0 : State} (h0 : Kept z s0) (r : RegAddr) : Kept z (afterWrite s0 s r) := by
  unfold afterWrite
  split
  · exact kept_writeTimeCfg h _
  · exact kept_setServo (kept_set h _ _ _) _
  · exact kept_stageGrid h0 _ _
  · exact kept_stageGrid h0 _ _
  · exact kept_stageGrid h0 _ _
  · exact kept_restartCapture h _
  · exact kept_autoOut h
  · exact kept_farrierCount h
  · exact kept_spareValidity h
  · exact kept_afterChannelWrite h _ _ _
  · split
    · exact h
    · exact kept_linkDown h
  · split
    · exact h
    · exact kept_setLink h _ _ _
  · exact kept_showUnit h
  · exact h

theorem runs_execRegisterWrite (r : RegAddr) (v : Word) : Runs z (execRegisterWrite r v s) := by
  grind only [execRegisterWrite, kept_afterWrite, kept_putRw, runs_next]

theorem runs_execW1cWrite (r : RegAddr) (v latched : Word) : Runs z (execW1cWrite r v latched s) := by
  grind only [execW1cWrite, kept_latchFlags, kept_writeW1c, runs_next]

theorem runs_execDoorbell (ring : Byte) : Runs z (execDoorbell ring s) := by
  grind only [execDoorbell, kept_ringMailboxes, runs_next]

theorem runs_execMboRel (rel : Byte) : Runs z (execMboRel rel s) := by
  grind only [execMboRel, kept_releaseMbo, runs_next]

theorem runs_execSwReset (key : Byte) : Runs z (execSwReset key s) := by
  grind only [execSwReset, kept_writeReset, runs_next]

theorem runs_execFwRestart (key : Byte) : Runs z (execFwRestart key s) := by
  grind only [execFwRestart, kept_writeReset, runs_next]

theorem kept_ackMailbox (i : Nat) : Kept z (ackMailbox s i) := by
  grind only [ackMailbox, kept_setMbState, kept_incWrap, kept_update]

theorem runs_execMailboxAck (i : Nat) : Runs z (execMailboxAck i s) := by
  grind only [execMailboxAck, kept_fillMailbox, kept_ackMailbox, runs_next]

theorem kept_beginEntry (e : Entry) : Kept z (beginEntry s e) := by
  grind only [beginEntry, kept_respond, kept_fireDetail, kept_runCommand, kept_update]

theorem kept_freeUnsent (e : Entry) : Kept z (freeUnsent s e) := by
  grind only [freeUnsent, kept_setMbState]

theorem runs_execCommandBegin (i : Nat) : Runs z (execCommandBegin i s) := by
  grind only [execCommandBegin, kept_startSentences, kept_freeUnsent, kept_beginEntry, runs_next]

theorem runs_execSpillRecordWrite : Runs z (execSpillRecordWrite s) := by
  unfold execSpillRecordWrite
  split
  · exact runs_next h
  · rename_i m r _
    split
    · exact runs_next h
    · have hw := kept_ownWrite h 243 (spillRecord s m.mbo m.bytes)
      split
      · exact runs_next h
      · rename_i t ht
        exact runs_next (kept_fireDetail (kept_completeEntry (kept_update (hw t ht)) _) _ _)

theorem kept_mergeEvent (fi : Firing) (detail : Nat) : Kept z (mergeEvent s fi detail) := by
  grind only [mergeEvent, kept_update]

theorem runs_execEventFire (e : Nat) : Runs z (execEventFire e s) := by
  grind only [execEventFire, kept_eventTake, kept_mergeEvent, kept_update, runs_next]

theorem runs_execEventRecordWrite (e : Nat) : Runs z (execEventRecordWrite e s) := by
  grind only [execEventRecordWrite, kept_ownWrite, kept_update, runs_next]

theorem runs_execWarmRestart (cause : Nat) : Runs z (execWarmRestart cause s) := by
  grind only [execWarmRestart, kept_beginRestart, runs_next]

theorem kept_dueEntry (n : Nat) : Kept z (dueEntry s n) := by
  grind only [dueEntry, kept_freeUnsent, kept_respond, kept_update]

theorem kept_postSaved (e : Entry) : Kept z (postSaved s e) := by
  grind only [postSaved, kept_respond, kept_genAfter]

theorem kept_answerFull (i : Nat) : Kept z (answerFull s i) := by
  grind only [answerFull, kept_respond, kept_setMbState]

theorem kept_refireStanding : Kept z (refireStanding s) := by
  grind only [refireStanding, kept_update]

theorem kept_markReplayed : Kept z (markReplayed s) := by
  grind only [markReplayed, kept_update]

theorem kept_dropOwnSentence : Kept z (dropOwnSentence s) := by
  grind only [dropOwnSentence, kept_putSource, kept_inc]

theorem kept_reclaim : Kept z (reclaim s) := by
  grind only [reclaim, kept_claimIlk, kept_update]

theorem kept_endRestart (due : List Nat) : Kept z (endRestart s due) := by
  unfold endRestart
  extract_lets x s1 s2 s3 s4 s5 s6 n s7
  have h2 : Kept z s2 := kept_set (kept_inc (kept_update (kept_set h _ _ _)) _ _) _ _ _
  have h3 : Kept z s3 := kept_foldl _ (fun _ _ ht => kept_dueEntry ht _) _ h2
  have h4 : Kept z s4 := kept_foldl _ (fun _ _ ht => kept_postSaved ht _) _ h3
  have h5 : Kept z s5 := kept_foldl _ (fun _ _ ht => kept_answerFull ht _) _ h4
  have h6 : Kept z s6 := kept_markReplayed (kept_dropOwnSentence (kept_foldl _ (fun _ _ ht => kept_abortCal ht _) _ h5))
  have h7 : Kept z s7 := kept_fireDetail (kept_refireStanding h6) _ _
  exact kept_startSentences (kept_autoOut (kept_reclaim h7))

theorem runs_execWarmRestartEnd (due : List Nat) : Runs z (execWarmRestartEnd due s) := by
  grind only [execWarmRestartEnd, kept_endRestart, runs_next]

theorem runs_execWatchdogExpiry : Runs z (execWatchdogExpiry s) := by
  grind only [execWatchdogExpiry, kept_hubReset, runs_next]

/-! ### Boot -/

theorem kept_tamperHit (cause : Nat) : Kept z (tamperHit s cause) := by
  grind only [tamperHit, kept_set, kept_setRail, kept_hubReset, kept_raiseSec, kept_logTamper, kept_wipeTack, kept_update]

theorem runs_execTamperDetect (cause : Nat) : Runs z (execTamperDetect cause s) := by
  grind only [execTamperDetect, kept_tamperHit, runs_next]

theorem runs_execTamperClear (cause : Nat) : Runs z (execTamperClear cause s) := by
  grind only [execTamperClear, kept_set, kept_setRail, kept_update, runs_next]

theorem kept_railsAtRelease : Kept z (railsAtRelease s) :=
  kept_update (kept_setB (kept_set (kept_set (kept_set h _ _ _) _ _ _) _ _ _) _ _ _)

theorem kept_porst (straps : Straps) : Kept z (porst straps s) := by
  unfold porst
  extract_lets s1 armed s2 s3 hit
  have h1 : Kept z s1 := kept_railsAtRelease (kept_afterPorst h _)
  have h3 : Kept z s3 := kept_newNonce (kept_update (kept_setB (kept_set (kept_set h1 _ _ _) _ _ _) _ _ _))
  have h4 := kept_foldl (fun t i => tamperHit t i) (fun _ i ht => kept_tamperHit ht i) hit h3
  refine kept_bypassClaim ?_
  split
  · exact h3
  · exact kept_setCause h4 _

theorem runs_execPorstN (straps : Straps) : Runs z (execPorstN straps s) := by
  grind only [execPorstN, kept_porst, runs_next]

theorem kept_romRuns : Kept z (romRuns s) := by
  grind only [romRuns, kept_followBypass, kept_putMask, kept_reloadKey, kept_set, kept_update]

theorem runs_execShedRaiseDone (shed : Nat) : Runs z (execShedRaiseDone shed s) := by
  grind only [execShedRaiseDone, kept_raiseShed, kept_romRuns, kept_planUp, kept_update, runs_next]

theorem runs_execShedFault (shed : Nat) : Runs z (execShedFault shed s) := by
  grind only [execShedFault, kept_raisePower, kept_planFault, kept_update, runs_next]

theorem kept_romTakes : Kept z (romTakes s) := by
  grind only [romTakes, kept_setMbState, kept_incWrap]

theorem out_cmdRomCommit (r : Req) : OutKept z (cmdRomCommit r s) := by
  have hc := out_cmdImageCommit h r
  unfold cmdRomCommit
  split
  · rename_i t d data b ho
    rw [ho] at hc
    exact out_done (kept_update hc) _ _ _ _
  · exact hc

theorem runs_execRomRecovery (r : Req) (opcode : Nat) : Runs z (execRomRecovery r opcode s) := by
  grind only [execRomRecovery, kept_romTakes, kept_runReq, out_cmdIdentGet, out_cmdImageWrite, out_cmdRomCommit, kept_finish,
      out_no, runs_next]

theorem runs_execRecoveryReset : Runs z (execRecoveryReset s) := by
  grind only [execRecoveryReset, kept_hubReset, runs_next]

theorem kept_allocReserved (e : Nat × Nat × Nat × Nat) : Kept z (allocReserved s e) := by
  grind only [allocReserved, kept_stallAllocate, kept_runStall]

theorem kept_restoreEntry (e : Nat × Word) : Kept z (restoreEntry s e) := by
  grind only [restoreEntry, kept_setReg, kept_set, kept_poke]

theorem kept_restoreMap : Kept z (restoreMap s) := by
  grind only [restoreMap, kept_restoreEntry, kept_set, kept_setB, kept_raiseYard, kept_foldl]

theorem kept_fireStanding : Kept z (fireStanding s) := by
  grind only [fireStanding, kept_update]

theorem kept_startFirmware : Kept z (startFirmware s) := by
  unfold startFirmware
  extract_lets x s1 s2 s3 s4
  have h2 : Kept z s2 := kept_set (kept_restoreMap (kept_update (kept_set (kept_set h _ _ _) _ _ _))) _ _ _
  have h3 : Kept z s3 := kept_foldl _ (fun _ _ ht => kept_allocReserved ht _) _ h2
  have h4 : Kept z s4 := by grind only [kept_initPixelTables]
  exact kept_startPlan (kept_fireStanding h4) _ _

theorem runs_execFirmwareStart : Runs z (execFirmwareStart s) := by
  grind only [execFirmwareStart, kept_startFirmware, runs_next]

theorem kept_moveStall (e : Nat × Nat) : Kept z (moveStall s e) := by
  grind only [moveStall, kept_putStall]

theorem kept_relayout (q k : Nat) : Kept z (relayout s q k) := by
  grind only [relayout, kept_poke, kept_moveStall, kept_foldl]

theorem applied_applySized (e : Nat × List Byte) : AppliedKept z (applySized s e) := by
  grind only [applySized, applied_applyEntry, kept_relayout]

theorem kept_takeHeader : Kept z (takeHeader s) := by
  grind only [takeHeader, kept_update]

theorem kept_restoreCoefs : Kept z (restoreCoefs s) := by
  grind only [restoreCoefs, kept_setI, kept_set, kept_foldl]

theorem kept_loadCommits : Kept z (loadCommits s) := by
  grind only [loadCommits, kept_levelTables, kept_swapTables, kept_pixelCopyback, kept_applyCommit]

theorem kept_loadMode : Kept z (loadMode s).1 := by
  unfold loadMode
  split
  · exact kept_loadCommits h
  · rename_i n _
    split
    · exact kept_loadCommits h
    · split
      · rename_i t post hp
        exact kept_foldl applyWork (fun _ w ht => kept_applyWork ht w) _ (kept_update (kept_loadCommits (kept_planSwitch h _ _ hp)))
      · exact kept_loadCommits h

theorem kept_joinPair : Kept z (joinPair s) := by
  grind only [joinPair, kept_showUnit, kept_claimIlk, kept_update]

theorem kept_bootDone (unfitted failed : Nat) : Kept z (bootDone s unfitted failed) := by
  grind only [bootDone, kept_set, kept_postNotice, kept_update]

omit h in
theorem kept_loadEntry {l : Load} (h : Kept z l.st) (e : Nat × List Byte) : Kept z (loadEntry l e).st := by
  have he := applied_applySized h e
  grind only [loadEntry, AppliedKept]

theorem kept_loadImage : Kept z (loadImage s) := by
  unfold loadImage
  extract_lets c s1 l lost m x s2 s3
  have h1 : Kept z s1 := kept_restoreCoefs (kept_takeHeader h)
  have hl : ∀ (es : List (Nat × List Byte)) (l : Load), Kept z l.st → Kept z (es.foldl loadEntry l).st := fun es => by
    induction es with
    | nil => exact fun _ h => h
    | cons e r ih => exact fun l h => ih _ (kept_loadEntry h e)
  have hm : Kept z m.1 := kept_loadMode (kept_relayout (hl _ _ h1) _ _)
  have h3 : Kept z s3 := kept_bootDone (kept_joinPair (kept_setMask (kept_showLeds (kept_update hm)))) _ _
  grind only [kept_catchUp, kept_markSeen]

theorem runs_execBaseImageLoad : Runs z (execBaseImageLoad s) := by
  grind only [execBaseImageLoad, kept_loadImage, runs_next]

end

/-! ### A step -/

/-- Whatever the command, the step ends in a next state that keeps what `z` asks. -/
theorem runs_exec (h : Kept z s) (i : Instr) : Runs z (exec i s) := by
  cases i with
  | spiWrite addr words commit ovf => exact runs_execSpiWrite h _ _ _ _
  | spiQwrite addr words commit ovf => exact runs_execSpiQwrite h _ _ _ _
  | spiRead addr count late => exact runs_execSpiRead h _ _ _
  | spiQread addr count late => exact runs_execSpiQread h _ _ _
  | badInstr code => exact runs_execBadInstr h _
  | registerWrite r v => exact runs_execRegisterWrite h _ _
  | w1cWrite r v latched => exact runs_execW1cWrite h _ _ _
  | doorbell ring => exact runs_execDoorbell h _
  | mboRel rel => exact runs_execMboRel h _
  | swReset key => exact runs_execSwReset h _
  | fwRestart key => exact runs_execFwRestart h _
  | mailboxAck k => exact runs_execMailboxAck h _
  | commandBegin k => exact runs_execCommandBegin h _
  | spillRecordWrite => exact runs_execSpillRecordWrite h
  | sessionDatagram port bytes => exact runs_execSessionDatagram h _ _
  | sidebandPacket mbox beats msg whole => exact runs_execSidebandPacket h _ _ _ _
  | eventFire e => exact runs_execEventFire h _
  | eventRecordWrite e => exact runs_execEventRecordWrite h _
  | warmRestart cause => exact runs_execWarmRestart h _
  | warmRestartEnd due => exact runs_execWarmRestartEnd h _
  | watchdogExpiry => exact runs_execWatchdogExpiry h
  | nop r => exact runs_next (kept_cmdRow h _ _ _ _ _ (out_cmdNop h r))
  | identGet r => exact runs_next (kept_cmdRow h _ _ _ _ _ (out_cmdIdentGet h r))
  | echo r => exact runs_next (kept_cmdRow h _ _ _ _ _ (out_cmdEcho h r))
  | imageWrite r => exact runs_next (kept_cmdRow h _ _ _ _ _ (out_cmdImageWrite h r))
  | imageCommit r => exact runs_next (kept_cmdRow h _ _ _ _ _ (out_cmdImageCommit h r))
  | overlayWrite r => exact runs_next (kept_cmdRow h _ _ _ _ _ (out_cmdOverlayWrite h r))
  | overlaySeal r => exact runs_next (kept_cmdRow h _ _ _ _ _ (out_cmdOverlaySeal h r))
  | modeSet r => exact runs_next (kept_cmdRow h _ _ _ _ _ (out_cmdModeSet h r))
  | emergencySet r => exact runs_next (kept_cmdRow h _ _ _ _ _ (out_cmdEmergencySet h r))
  | streamSet r => exact runs_next (kept_cmdRow h _ _ _ _ _ (out_cmdStreamSet h r))
  | streamStatusGet r => exact runs_next (kept_cmdRow h _ _ _ _ _ (out_cmdStreamStatusGet h r))
  | ethSet r => exact runs_next (kept_cmdRow h _ _ _ _ _ (out_cmdEthSet h r))
  | ethStatusGet r => exact runs_next (kept_cmdRow h _ _ _ _ _ (out_cmdEthStatusGet h r))
  | laneModeSet r => exact runs_next (kept_cmdRow h _ _ _ _ _ (out_cmdLaneModeSet h r))
  | laneRxSet r => exact runs_next (kept_cmdRow h _ _ _ _ _ (out_cmdLaneRxSet h r))
  | laneTxSet r => exact runs_next (kept_cmdRow h _ _ _ _ _ (out_cmdLaneTxSet h r))
  | laneStatusGet r => exact runs_next (kept_cmdRow h _ _ _ _ _ (out_cmdLaneStatusGet h r))
  | laneCntClr r => exact runs_next (kept_cmdRow h _ _ _ _ _ (out_cmdLaneCntClr h r))
  | laneEvenSet r => exact runs_next (kept_cmdRow h _ _ _ _ _ (out_cmdLaneEvenSet h r))
  | laneRearm r => exact runs_next (kept_cmdRow h _ _ _ _ _ (out_cmdLaneRearm h r))
  | lanePaddockSet r => exact runs_next (kept_cmdRow h _ _ _ _ _ (out_cmdLanePaddockSet h r))
  | laneRoleMove r => exact runs_next (kept_cmdRow h _ _ _ _ _ (out_cmdLaneRoleMove h r))
  | routerSentenceSend r => exact runs_execRouterSentenceSend h _
  | routerEntryWrite r => exact runs_next (kept_cmdRow h _ _ _ _ _ (out_cmdEntryWrite h r))
  | routerActionWrite r => exact runs_next (kept_cmdRow h _ _ _ _ _ (out_cmdActionWrite h r))
  | routerGroupWrite r => exact runs_next (kept_cmdRow h _ _ _ _ _ (out_cmdGroupWrite h r))
  | routerCommit r => exact runs_next (kept_cmdRow h _ _ _ _ _ (out_cmdRouterCommit h r))
  | routerEligibleSet r => exact runs_next (kept_cmdRow h _ _ _ _ _ (out_cmdEligibleSet h r))
  | routerBind r => exact runs_next (kept_cmdRow h _ _ _ _ _ (out_cmdBind h r))
  | routerRead r => exact runs_next (kept_cmdRow h _ _ _ _ _ (out_cmdRouterRead h r))
  | routerStatusGet r => exact runs_next (kept_cmdRow h _ _ _ _ _ (out_cmdRouterStatusGet h r))
  | routerHitsGet r => exact runs_next (kept_cmdRow h _ _ _ _ _ (out_cmdHitsGet h r))
  | parseSet r => exact runs_next (kept_cmdRow h _ _ _ _ _ (out_cmdParseSet h r))
  | parseStatusGet r => exact runs_next (kept_cmdRow h _ _ _ _ _ (out_cmdParseStatusGet h r))
  | voteJudgeOut r => exact runs_next (kept_cmdRow h _ _ _ _ _ (out_cmdJudgeOut h r))
  | voteJudgeIn r => exact runs_next (kept_cmdRow h _ _ _ _ _ (out_cmdJudgeIn h r))
  | voteCfgSet r => exact runs_next (kept_cmdRow h _ _ _ _ _ (out_cmdVoteCfgSet h r))
  | voteStatusGet r => exact runs_next (kept_cmdRow h _ _ _ _ _ (out_cmdVoteStatusGet h r))
  | stallConfig r => exact runs_next (kept_cmdRow h _ _ _ _ _ (out_cmdStallConfig h r))
  | stallReset r => exact runs_next (kept_cmdRow h _ _ _ _ _ (out_cmdStallReset h r))
  | stallStatusGet r => exact runs_next (kept_cmdRow h _ _ _ _ _ (out_cmdStallStatusGet h r))
  | timePtpCfg r => exact runs_next (kept_cmdRow h _ _ _ _ _ (out_cmdTimePtpCfg h r))
  | timeStatusGet r => exact runs_next (kept_cmdRow h _ _ _ _ _ (out_cmdTimeStatusGet h r))
  | timeRefSet r => exact runs_next (kept_cmdRow h _ _ _ _ _ (out_cmdTimeRefSet h r))
  | timeStep r => exact runs_next (kept_cmdRow h _ _ _ _ _ (out_cmdTimeStep h r))
  | timeFrameSet r => exact runs_next (kept_cmdRow h _ _ _ _ _ (out_cmdTimeFrameSet h r))
  | timePulseArm r => exact runs_next (kept_cmdRow h _ _ _ _ _ (out_cmdTimePulseArm h r))
  | timePulseDisarm r => exact runs_next (kept_cmdRow h _ _ _ _ _ (out_cmdTimePulseDisarm h r))
  | timeCapCfg r => exact runs_next (kept_cmdRow h _ _ _ _ _ (out_cmdTimeCapCfg h r))
  | pixelSegmentWrite r => exact runs_next (kept_cmdRow h _ _ _ _ _ (out_cmdSegmentWrite h r))
  | pixelProfileWrite r => exact runs_next (kept_cmdRow h _ _ _ _ _ (out_cmdProfileWrite h r))
  | pixelZoneWrite r => exact runs_next (kept_cmdRow h _ _ _ _ _ (out_cmdZoneWrite h r))
  | pixelSourceWrite r => exact runs_next (kept_cmdRow h _ _ _ _ _ (out_cmdSourceWrite h r))
  | pixelCfgSet r => exact runs_next (kept_cmdRow h _ _ _ _ _ (out_cmdPixelCfgSet h r))
  | pixelCurveWrite r => exact runs_next (kept_cmdRow h _ _ _ _ _ (out_cmdCurveWrite h r))
  | pixelCommit r => exact runs_next (kept_cmdRow h _ _ _ _ _ (out_cmdPixelCommit h r))
  | pixelLevelSet r => exact runs_next (kept_cmdRow h _ _ _ _ _ (out_cmdLevelSet h r))
  | pixelZoneInput r => exact runs_next (kept_cmdRow h _ _ _ _ _ (out_cmdZoneInput h r))
  | pixelEncSet r => exact runs_next (kept_cmdRow h _ _ _ _ _ (out_cmdEncSet h r))
  | pixelGroupSet r => exact runs_next (kept_cmdRow h _ _ _ _ _ (out_cmdGroupSet h r))
  | pixelStatusGet r => exact runs_next (kept_cmdRow h _ _ _ _ _ (out_cmdPixelStatusGet h r))
  | measChSet r => exact runs_next (kept_cmdRow h _ _ _ _ _ (out_cmdMeasChSet h r))
  | measRead r => exact runs_next (kept_cmdRow h _ _ _ _ _ (out_cmdMeasRead h r))
  | measTableSet r => exact runs_next (kept_cmdRow h _ _ _ _ _ (out_cmdMeasTableSet h r))
  | measCalStart r => exact runs_next (kept_cmdRow h _ _ _ _ _ (out_cmdMeasCalStart h r))
  | measCalAbort r => exact runs_next (kept_cmdRow h _ _ _ _ _ (out_cmdMeasCalAbort h r))
  | measCoefSet r => exact runs_next (kept_cmdRow h _ _ _ _ _ (out_cmdMeasCoefSet h r))
  | measParamSet r => exact runs_next (kept_cmdRow h _ _ _ _ _ (out_cmdMeasParamSet h r))
  | twinStatusGet r => exact runs_next (kept_cmdRow h _ _ _ _ _ (out_cmdTwinStatusGet h r))
  | twinCfgSet r => exact runs_next (kept_cmdRow h _ _ _ _ _ (out_cmdTwinCfgSet h r))
  | twinSwap r => exact runs_next (kept_cmdRow h _ _ _ _ _ (out_cmdTwinSwap h r))
  | twinClearFault r => exact runs_next (kept_cmdRow h _ _ _ _ _ (out_cmdTwinClearFault h r))
  | sessionOpen r => exact runs_next (kept_cmdRow h _ _ _ _ _ (out_cmdSessionOpen h r))
  | sessionClose r => exact runs_next (kept_cmdRow h _ _ _ _ _ (out_cmdSessionClose h r))
  | keyEnroll r => exact runs_next (kept_cmdRow h _ _ _ _ _ (out_cmdKeyEnroll h r))
  | lifeSet r => exact runs_next (kept_cmdRow h _ _ _ _ _ (out_cmdLifeSet h r))
  | tamperLogGet r => exact runs_next (kept_cmdRow h _ _ _ _ _ (out_cmdTamperLogGet h r))
  | yardStatusGet r => exact runs_next (kept_cmdRow h _ _ _ _ _ (out_cmdYardStatusGet h r))
  | groomSet r => exact runs_next (kept_cmdRow h _ _ _ _ _ (out_cmdGroomSet h r))
  | farrierMapGet r => exact runs_next (kept_cmdRow h _ _ _ _ _ (out_cmdFarrierMapGet h r))
  | judgeTest r failStep => exact runs_next (kept_cmdRow h _ _ _ _ _ (out_cmdJudgeTest h failStep r))
  | bypassSet r => exact runs_next (kept_cmdRow h _ _ _ _ _ (out_cmdBypassSet h r))
  | countersClear r => exact runs_next (kept_cmdRow h _ _ _ _ _ (out_cmdCountersClear h r))
  | shedSet r => exact runs_next (kept_cmdRow h _ _ _ _ _ (out_cmdShedSet h r))
  | powerStatusGet r => exact runs_next (kept_cmdRow h _ _ _ _ _ (out_cmdPowerStatusGet h r))
  | laneRxCntClr lane => exact runs_execLaneRxCntClr h _
  | rearm lane => exact runs_execRearm h _
  | laneTxCntClr lane => exact runs_execLaneTxCntClr h _
  | parseCntClr src => exact runs_execParseCntClr h _
  | seqClr src => exact runs_execSeqClr h _
  | routerCntClr => exact runs_execRouterCntClr h
  | voteCntClr => exact runs_execVoteCntClr h
  | yardCntClr => exact runs_execYardCntClr h
  | snap => exact runs_execSnap h
  | pixelCntClr => exact runs_execPixelCntClr h
  | encCntClr lane => exact runs_execEncCntClr h _
  | measCntClr => exact runs_execMeasCntClr h
  | strCntClr => exact runs_execStrCntClr h
  | ethCntClr port => exact runs_execEthCntClr h _
  | keep => exact runs_execKeep h
  | claim => exact runs_execClaim h
  | release => exact runs_execRelease h
  | laneModeWrite lane mode => exact runs_execLaneModeWrite h _ _
  | laneRxBaudWrite lane v => exact runs_execLaneRxBaudWrite h _ _
  | laneTxBaudWrite lane v => exact runs_execLaneTxBaudWrite h _ _
  | addendWrite v => exact runs_execAddendWrite h _
  | groomEnWrite en => exact runs_execGroomEnWrite h _
  | stallNext q mis => exact runs_execStallNext h _ _
  | stallMark c => exact runs_execStallMark h _
  | stallRewind c => exact runs_execStallRewind h _
  | stallRelease q mis => exact runs_execStallRelease h _ _
  | stallDrop c => exact runs_execStallDrop h _
  | stallRun c => exact runs_execStallRun h _
  | stallTest c => exact runs_execStallTest h _
  | stallCntClr c => exact runs_execStallCntClr h _
  | stallNextRelease c => exact runs_execStallNextRelease h _
  | startBit lane level edge => exact runs_execStartBit h _ _ _
  | laneCharacter lane smp wave => exact runs_execLaneCharacter h _ _ _
  | breakEnd lane => exact runs_execBreakEnd h _
  | lineStuckLow lane => exact runs_execLineStuckLow h _
  | laneArm lane => exact runs_execLaneArm h _
  | talkerSilent lane => exact runs_execTalkerSilent h _
  | fragment lane => exact runs_execFragment h _
  | laneModeBoundary lane => exact runs_execLaneModeBoundary h _
  | listenerGrant listener => exact runs_execListenerGrant h _
  | hdxTurnReady lane => exact runs_execHdxTurnReady h _
  | txLeadEnd lane => exact runs_execTxLeadEnd h _
  | txCharacterEnd lane echo => exact runs_execTxCharacterEnd h _ _
  | deTailEnd lane => exact runs_execDeTailEnd h _
  | backoffEnd lane => exact runs_execBackoffEnd h _
  | echoGuardEnd lane => exact runs_execEchoGuardEnd h _
  | dmxBreak lane => exact runs_execDmxBreak h _
  | dmxRxBreak lane low mab edge => exact runs_execDmxRxBreak h _ _ _ _
  | dmxRxPacketEnd lane => exact runs_execDmxRxPacketEnd h _
  | senseEdge lane rising cycles edge => exact runs_execSenseEdge h _ _ _ _
  | senseOvf lane => exact runs_execSenseOvf h _
  | noSignal lane => exact runs_execNoSignal h _
  | parserByte src => exact runs_execParserByte h _
  | sentenceClose src fault => exact runs_execSentenceClose h _ _
  | classify fault => exact runs_execClassify h _
  | enqueueCopy src fault => exact runs_execEnqueueCopy h _ _
  | stallRecordWrite q kind src seqn body mis => exact runs_execStallRecordWrite h _ _ _ _ _ _
  | creditRequest q n => exact runs_execCreditRequest h _ _
  | creditHandback q n => exact runs_execCreditHandback h _ _
  | stallResetRun q => exact runs_execStallResetRun h _
  | routerSwap => exact runs_execRouterSwap h
  | routerCopybackDone => exact runs_execRouterCopybackDone h
  | vote upset => exact runs_execVote h _
  | judgeInComplete => exact runs_execJudgeInComplete h
  | overrideApply lane atBoundary => exact runs_execOverrideApply h _ _
  | yardAccess reqs since => exact runs_execYardAccess h _ _
  | groomPassStart => exact runs_execGroomPassStart h
  | groomPassEnd march verify => exact runs_execGroomPassEnd h _ _
  | farrierRemap bank row cause => exact runs_execFarrierRemap h _ _ _
  | farrierPersist => exact runs_execFarrierPersist h
  | tackAccess secure addr op flips => exact runs_execTackAccess h _ _ _ _
  | frameTick => exact runs_execFrameTick h
  | pulseEdge n => exact runs_execPulseEdge h _
  | timeCapEdge n rising edge => exact runs_execTimeCapEdge h _ _ _
  | ptpMessage port msg => exact runs_execPtpMessage h _ _
  | ptpTransmit kind => exact runs_execPtpTransmit h _
  | servoMeasurement offset rate => exact runs_execServoMeasurement h _ _
  | lockLost => exact runs_execLockLost h
  | refclkReturn => exact runs_execRefclkReturn h
  | streamCommit => exact runs_execStreamCommit h
  | seedDone => exact runs_execSeedDone h
  | laneFrameStart lane ready => exact runs_execLaneFrameStart h _ _
  | segmentBoundary lane => exact runs_execSegmentBoundary h _
  | underrun lane => exact runs_execUnderrun h _
  | lampBitsEnd lane late => exact runs_execLampBitsEnd h _ _
  | latchWordStart lane => exact runs_execLatchWordStart h _
  | frameLatched lane => exact runs_execFrameLatched h _
  | pwmPeriodStart lane => exact runs_execPwmPeriodStart h _
  | pwmActiveEnd lane => exact runs_execPwmActiveEnd h _
  | measSample ch raw spare => exact runs_execMeasSample h _ _ _
  | calSpareCheckDone ch p1 p2 => exact runs_execCalSpareCheckDone h _ _ _
  | calSwitch ch => exact runs_execCalSwitch h _
  | calPassEnd ch p => exact runs_execCalPassEnd h _ _
  | calGapEnd ch => exact runs_execCalGapEnd h _
  | calReturn ch => exact runs_execCalReturn h _
  | measCoefPersist => exact runs_execMeasCoefPersist h
  | streamLinkUp => exact runs_execStreamLinkUp h
  | streamLinkDown errors => exact runs_execStreamLinkDown h _
  | streamSof b => exact runs_execStreamSof h _
  | streamSol b => exact runs_execStreamSol h _
  | streamDataBeat b => exact runs_execStreamDataBeat h _
  | streamEol b => exact runs_execStreamEol h _
  | streamEof b => exact runs_execStreamEof h _
  | creditReturn => exact runs_execCreditReturn h
  | ethLinkChange port up speedOk => exact runs_execEthLinkChange h _ _ _
  | ethFrameReceived port bytes ago => exact runs_execEthFrameReceived h _ _ _
  | e131SourceTimeout univ => exact runs_execE131SourceTimeout h _
  | e131SyncTimeout sync => exact runs_execE131SyncTimeout h _
  | ethTxFrameEnd port otherWaits => exact runs_execEthTxFrameEnd h _ _
  | heartbeatSend => exact runs_execHeartbeatSend h
  | tetherFrameReceived header payload crc clean => exact runs_execTetherFrameReceived h _ _ _ _
  | heartbeatReceived hb => exact runs_execHeartbeatReceived h _
  | peerLost => exact runs_execPeerLost h
  | keepAliveLapse => exact runs_execKeepAliveLapse h
  | holdInChange level => exact runs_execHoldInChange h _
  | claimWindowEnd => exact runs_execClaimWindowEnd h
  | replayEnd => exact runs_execReplayEnd h
  | intentWindowEnd => exact runs_execIntentWindowEnd h
  | intentReceived last part window items => exact runs_execIntentReceived h _ _ _ _
  | compareWaitExpiry window line => exact runs_execCompareWaitExpiry h _ _
  | yieldReceived verdict role => exact runs_execYieldReceived h _ _
  | txcReport => exact runs_execTxcReport h
  | txcReceived final more tickN items => exact runs_execTxcReceived h _ _ _ _
  | snapshotCopy => exact runs_execSnapshotCopy h
  | snapshotChunkReceived gen index data => exact runs_execSnapshotChunkReceived h _ _ _
  | snapshotCommitReceived gen count crc markN len => exact runs_execSnapshotCommitReceived h _ _ _ _ _
  | handoverMessageReceived stepNo revert reason cfgGen => exact runs_execHandoverMessageReceived h _ _ _ _
  | handoverDrained => exact runs_execHandoverDrained h
  | handoverLane lane => exact runs_execHandoverLane h _
  | twinSwapTimeout => exact runs_execTwinSwapTimeout h
  | autoRevert => exact runs_execAutoRevert h
  | cfgCheckSend => exact runs_execCfgCheckSend h
  | cfgCheckReceived issue cfgGen imageId modeState => exact runs_execCfgCheckReceived h _ _ _ _
  | faultReceived code role windows => exact runs_execFaultReceived h _ _ _
  | modeReqReceived slot req => exact runs_execModeReqReceived h _ _
  | resyncReceived => exact runs_execResyncReceived h
  | porstN straps => exact runs_execPorstN h _
  | firmwareStart => exact runs_execFirmwareStart h
  | baseImageLoad => exact runs_execBaseImageLoad h
  | romRecovery r opcode => exact runs_execRomRecovery h _ _
  | recoveryReset => exact runs_execRecoveryReset h
  | brownout rail => exact runs_execBrownout h _
  | railFault rail => exact runs_execRailFault h _
  | railRestored rail => exact runs_execRailRestored h _
  | economy millivolts => exact runs_execEconomy h _
  | shedRaiseDone shed => exact runs_execShedRaiseDone h _
  | shedFault shed => exact runs_execShedFault h _
  | tamperDetect cause => exact runs_execTamperDetect h _
  | tamperClear cause => exact runs_execTamperClear h _
  | serviceExpiry => exact runs_execServiceExpiry h
  | retireReset => exact runs_execRetireReset h
  | bypassPin level => exact runs_execBypassPin h _
  | bypassHandback pair => exact runs_execBypassHandback h _
  | modeSwitch => exact runs_execModeSwitch h
  | scheduleFire n => exact runs_execScheduleFire h _
  | keyDebounce key level => exact runs_execKeyDebounce h _ _
  | keyAction key => exact runs_execKeyAction h _
  | keyStuck key => exact runs_execKeyStuck h _
  | encoderTransition enc ab => exact runs_execEncoderTransition h _ _
  | pixelCopybackDone => exact runs_execPixelCopybackDone h
  | leadCollision lane => exact runs_execLeadCollision h _
  | brownoutEnd => exact runs_execBrownoutEnd h
  | tetherAlignment aligned => exact runs_execTetherAlignment h _
  | spareValidExpiry spare => exact runs_execSpareValidExpiry h _
  | secondaryStartupClaim => exact runs_execSecondaryStartupClaim h

/-- One step takes the command at the front and keeps part, stepping and the memories' form. -/
theorem step_kept (s : State) : Runs { s with pending := s.pending.tail } (step s) := by
  have hz : Kept { s with pending := s.pending.tail } { s with pending := s.pending.tail } := ⟨rfl, rfl, rfl, id⟩
  cases hq : s.pending with
  | nil =>
    have hs : Kept { s with pending := s.pending.tail } s := ⟨by rw [hq]; rfl, rfl, rfl, id⟩
    simpa only [step, hq, List.tail_nil] using runs_next (kept_timeTick hs)
  | cons c rest => simpa only [step, hq, List.tail_cons] using runs_exec hz c

/-- Settles O3: the form of the memories is part of what every step keeps. -/
theorem everyStepKeepsMemoriesCanonical : Obligations.EveryStepKeepsMemoriesCanonical := by
  intro s t hwf ht
  obtain ⟨u, hu, hk⟩ := step_kept s
  cases hu.symm.trans ht
  exact hk.mem hwf

/-- Settles O4: the queue, the part and the stepping are part of what every step keeps. -/
theorem everyStepTakesOneCommand : Obligations.EveryStepTakesOneCommand := by
  intro s
  obtain ⟨t, ht, hk⟩ := step_kept s
  exact ⟨t, ht, hk.pending, hk.part, hk.stepping⟩

end Sys2Proof.Machine

end

section
/-! PROOF. What the machinery under sheds, rails and bypass leaves alone: the power block's registers, the shed plan, the commands
that wait, and the bypass with its pin. -/

namespace Sys2Proof.Machine

/-! ### Registers of other blocks -/

theorem keyBlk_regKey (r : RegAddr) : keyBlk (regKey r) = blkCode r.blk := by
  simp only [keyBlk, regKey]
  omega

theorem reg_setReg_blk (s : State) {r q : RegAddr} (h : r.blk ≠ q.blk) (w : Word) : (s.setReg r w).reg q = s.reg q :=
  s.reg_setReg_key (fun e => h (blkCode_inj (by rw [← keyBlk_regKey, ← keyBlk_regKey, e]))) w

/-- A reset that picks no register of a block leaves that block. -/
theorem reg_resetBlks (s : State) {p : Nat → Nat → Nat → Bool} (q : RegAddr) (h : ∀ i o, p (blkCode q.blk) i o = false) :
    (s.resetBlks p).reg q = s.reg q := by
  have hk : (!p (keyBlk (regKey q)) (keyInst (regKey q)) (regKey q % 65536)) = true := by rw [keyBlk_regKey, h]; rfl
  exact (tget_filter s.regs (fun k => !p (keyBlk k) (keyInst k) (k % 65536)) _ _).trans (if_pos hk)

/-! ### The power block -/

/-- The power block's registers read in `s` as in `z`. -/
def KeepsPower (z s : State) : Prop := ∀ q : RegAddr, q.blk = .power → s.reg q = z.reg q

theorem KeepsPower.trans {z s t : State} (h : KeepsPower z s) (k : KeepsPower s t) : KeepsPower z t :=
  fun q hq => (k q hq).trans (h q hq)

theorem KeepsPower.get {z s : State} (h : KeepsPower z s) (f : Field) (hf : f.blk = .power) (i : Nat) : s.get f i = z.get f i := by
  rw [State.get, State.get, h (f.addr i) hf]

theorem KeepsPower.shedUp {z s : State} (h : KeepsPower z s) (n : Nat) : s.shedUp n = z.shedUp n := by
  rw [State.shedUp, State.shedUp, h.get F.pwr_UP rfl]

theorem keepsPower_foldl {α : Type} (f : State → α → State) (hf : ∀ t x, KeepsPower t (f t x)) (l : List α) (s : State) :
    KeepsPower s (l.foldl f s) := by
  induction l generalizing s with
  | nil => exact fun _ _ => rfl
  | cons x r ih => exact (hf s x).trans (ih _)

theorem keepsPower_resetBlks (s : State) {p : Nat → Nat → Nat → Bool} (h : ∀ i o, p (blkCode .power) i o = false) :
    KeepsPower s (s.resetBlks p) := fun q hq => reg_resetBlks s q (by rw [hq]; exact h)

theorem keepsPower_resetKinds (s : State) (bs : List Blk) (hb : bs.any (fun k => blkCode k == 24) = false) :
    KeepsPower s (resetKinds s bs) := keepsPower_resetBlks s fun _ _ => hb

/-- A step that leaves the register file. -/
theorem KeepsPower.of_regs {z s t : State} (h : KeepsPower z s) (hr : t.regs = s.regs) : KeepsPower z t := fun q hq => by
  rw [State.reg, hr]
  exact h q hq

theorem refusalField_blk (x : Sentence) (restart : Bool) : (refusalField x restart).blk ≠ .power := by
  unfold refusalField
  split_ifs <;> decide

theorem causeField_blk (c : Nat) : (causeField c).blk ≠ .power := by
  unfold causeField
  split <;> decide

/-! ### What stands beside it -/

/-- On the way from `z` to `s` the power block, the shed plan, the waiting commands, the engaged pairs and the bypass pin stand. -/
structure Steady (z s : State) : Prop where
  power : KeepsPower z s
  plan : s.shedPlan = z.shedPlan
  waits : s.waits = z.waits
  pairs : s.pairs = z.pairs
  pin : s.bypassPin = z.bypassPin

theorem Steady.refl (s : State) : Steady s s := ⟨fun _ _ => rfl, rfl, rfl, rfl, rfl⟩

theorem steady_foldl {z : State} {α : Type} (f : State → α → State) (hf : ∀ t x, Steady z t → Steady z (f t x)) (l : List α)
    {s : State} (h : Steady z s) : Steady z (l.foldl f s) := by
  induction l generalizing s with
  | nil => exact h
  | cons x r ih => exact ih (hf _ _ h)

theorem steady_foldl_fst {z : State} {α β : Type} (f : State × β → α → State × β)
    (hf : ∀ x a, Steady z x.1 → Steady z (f x a).1) (l : List α) {x : State × β} (h : Steady z x.1) :
    Steady z (l.foldl f x).1 := by
  induction l generalizing x with
  | nil => exact h
  | cons a r ih => exact ih (hf _ _ h)

section

variable {z s : State} (h : Steady z s)
include h

/-- The other fields of the state may take any value: a binder for each that the functions below write, so that the statement
matches their record updates. -/
theorem steady_update {yard : List Host.Cell} {tablesReady runNow srcNow pixTicked : Bool}
    {yardErr logSeq spillCount : Tbl Nat} {poison curveDue : List Nat} {trackAge drawn calSeq : Nat} {mbo : List Host.Cell}
    {rx : Tbl LaneRx} {tx : Tbl LaneTx} {enc : Tbl EncLane} {srcs : Tbl Source} {bindings : Tbl (List Word)}
    {routerQ voterQ : List Enqueue} {ballots : List Ballot} {stalls : Tbl Stall} {groomPass : Option GroomPass}
    {trackers : Tbl (List Track)} {readings : Tbl Reading} {curves : Tbl Word} {channels : Tbl Channel}
    {calHeld : List (List Byte)} {twin : Twin} {stream : Stream} {eth : Tbl EthPort} {cmds : List Entry} {spill : List Spilled}
    {fired : List Firing} {gen : Word} {sessions : List Session} :
    Steady z { s with
      yard := yard, tablesReady := tablesReady, runNow := runNow, srcNow := srcNow, pixTicked := pixTicked, yardErr := yardErr,
      logSeq := logSeq, spillCount := spillCount, poison := poison, curveDue := curveDue, trackAge := trackAge, drawn := drawn,
      calSeq := calSeq, mbo := mbo, rx := rx, tx := tx, enc := enc, srcs := srcs, bindings := bindings, routerQ := routerQ,
      voterQ := voterQ, ballots := ballots, stalls := stalls, groomPass := groomPass, trackers := trackers,
      readings := readings, curves := curves, channels := channels, calHeld := calHeld, twin := twin, stream := stream,
      eth := eth, cmds := cmds, spill := spill, fired := fired, gen := gen, sessions := sessions } :=
  ⟨h.power, h.plan, h.waits, h.pairs, h.pin⟩

theorem steady_setReg (r : RegAddr) (w : Word) (hr : r.blk ≠ .power) : Steady z (s.setReg r w) :=
  ⟨fun q hq => (reg_setReg_blk s (by rw [hq]; exact hr) w).trans (h.power q hq), h.plan, h.waits, h.pairs, h.pin⟩

theorem steady_set (f : Field) (i v : Nat) (hf : f.blk ≠ .power) : Steady z (s.set f i v) := steady_setReg h _ _ hf

theorem steady_inc (f : Field) (i : Nat) (hf : f.blk ≠ .power) : Steady z (s.inc f i) := steady_set h _ _ _ hf

theorem steady_incWrap (f : Field) (i : Nat) (hf : f.blk ≠ .power) : Steady z (s.incWrap f i) := steady_set h _ _ _ hf

theorem steady_resetBlks {p : Nat → Nat → Nat → Bool} (hp : ∀ i o, p (blkCode .power) i o = false) :
    Steady z (s.resetBlks p) := ⟨h.power.trans (keepsPower_resetBlks s hp), h.plan, h.waits, h.pairs, h.pin⟩

theorem steady_resetKinds (bs : List Blk) (hb : bs.any (fun k => blkCode k == 24) = false) : Steady z (resetKinds s bs) :=
  ⟨h.power.trans (keepsPower_resetKinds s bs hb), h.plan, h.waits, h.pairs, h.pin⟩

theorem steady_raise (fl ev : Field) (i bit e : Nat) (hf : fl.blk ≠ .power) : Steady z (raise s fl ev i bit e) := by
  grind only [raise, fire, steady_set, steady_update]

theorem steady_raiseYard (bit : Nat) : Steady z (raiseYard s bit) := by
  grind only [raiseYard, steady_raise, F.yard_FLAGS]

theorem steady_raiseStall (q bit : Nat) : Steady z (raiseStall s q bit) := by
  grind only [raiseStall, steady_raise, F.stall_FLAGS]

theorem steady_raiseTwin (bit : Nat) : Steady z (raiseTwin s bit) := by
  grind only [raiseTwin, steady_raise, F.twin_FLAGS]

theorem steady_putTx (n : Nat) (x : LaneTx) : Steady z (s.putTx n x) := steady_update h

theorem steady_putStall (q : Nat) (x : Stall) : Steady z (s.putStall q x) := steady_update h

theorem steady_putSource (src : Nat) (x : Source) : Steady z (s.putSource src x) := steady_update h

/-! ### Stalls -/

theorem steady_poke (a : Nat) (bs : List Byte) : Steady z (s.poke a bs) := by
  rw [State.poke_rest]
  exact steady_update h

theorem steady_wmCheck (q before : Nat) : Steady z (wmCheck s q before) := by
  grind only [wmCheck, steady_raiseStall, steady_incWrap, F.stall_WM_CROSS]

theorem steady_stallPut (q : Nat) (rec : List Byte) : Steady z (stallPut s q rec) := by
  grind only [stallPut, ringWrite, steady_poke, steady_putStall, steady_wmCheck, steady_raiseStall, steady_incWrap, F.stall_RECORDS]

theorem steady_fillHead (q : Nat) : Steady z (fillHead s q) := steady_putStall h _ _

theorem steady_markGone (q : Nat) : Steady z (markGone s q) := steady_update h

theorem steady_discardFor (q n k : Nat) : Steady z (discardFor s q n k) := by
  induction k generalizing s with
  | zero => exact h
  | succ k ih =>
    have hold : Steady z (discardOldest s q) := by
      grind only [discardOldest, steady_putStall, steady_wmCheck, steady_raiseStall, steady_inc, F.stall_LOST]
    grind only [discardFor]

theorem steady_makeRoom (q n : Nat) : Steady z (makeRoom s q n) := by
  have h1 := steady_discardFor h q n (s.stall q).lens.length
  grind only [makeRoom, steady_fillHead, steady_incWrap, steady_set, steady_raiseStall, steady_markGone, F.stall_OFFS, F.stall_OVTK]

theorem steady_comparePtrs (q : Nat) (f : State → State) (hf : Steady z (f s)) : Steady z (comparePtrs s q f) := by
  grind only [comparePtrs, startReset, steady_putStall, steady_inc, F.stall_RESETS]

theorem steady_stallOffer (q : Nat) (rec : List Byte) : Steady z (stallOffer s q rec) := by
  grind only [stallOffer, steady_raiseStall, steady_inc, steady_comparePtrs, steady_stallPut, steady_set, steady_makeRoom,
    F.stall_GRANTED, F.stall_LOST]

theorem steady_ownWrite (q : Nat) (rec : List Byte) : ∀ u, ownWrite s q rec = some u → Steady z u := by
  grind only [ownWrite, steady_stallOffer, steady_set, F.stall_GRANTED]

theorem steady_reofferCredit (q : Nat) : Steady z (reofferCredit s q) := by
  have hask : ∀ t n, Steady z t → Steady z (askCredit t q n) := by
    grind only [askCredit, steady_set, steady_putStall, F.stall_GRANTED]
  exact steady_foldl _ hask _ (steady_putStall h _ _)

theorem steady_spillRelease (q : Nat) : Steady z (spillRelease s q) := by
  have h1 := steady_foldl_fst (fun (t, p) l => (spillLeft t (ringRead s q p l), p + l)) (fun x l hx => steady_update hx)
    ((s.stall q).lens.take ((s.stall q).lens.length - (unreadLens s q).length)) (x := (s, (s.stall q).a.rel)) h
  grind only [spillRelease]

theorem steady_flushCal (n : Nat) : Steady z (flushCal s n) := by
  induction n generalizing s with
  | zero => exact h
  | succ n ih => grind only [flushCal, steady_ownWrite, steady_update]

theorem steady_moveRel (q p : Nat) : Steady z (moveRel s q p) := by
  grind only [moveRel, steady_putStall, steady_reofferCredit, steady_wmCheck]

theorem steady_moveRelease (q : Nat) : Steady z (moveRelease s q) := by
  grind only [moveRelease, endSpilling, steady_moveRel, steady_spillRelease, steady_flushCal, steady_set, F.host_SPILLING]

theorem steady_moveDrop (q : Nat) : Steady z (moveDrop s q) := by
  grind only [moveDrop, moveNext, steady_comparePtrs, steady_fillHead, steady_moveRelease, steady_putStall, steady_set, F.stall_OFFS]

/-! ### Words read from the yard -/

theorem steady_yardLog (q code bank row spare region : Nat) (fails : List Nat) :
    Steady z (yardLog s q code bank row spare region fails) := by
  grind only [yardLog, logNext, steady_update, steady_stallOffer]

theorem steady_track (w : Nat) : Steady z (track s w) := by
  grind only [track, steady_yardLog, steady_update]

theorem steady_yardDue (w port : Nat) : Steady z (yardDue s w port) := by
  have h1 := steady_raiseYard (steady_inc h F.yard_N_DUE 0 (by decide)) Bit.ydDue
  grind only [yardDue, steady_yardLog, steady_set, F.yard_DUE_ADDR, F.yard_DUE_PORT, F.yard_DUE_VALID]

theorem steady_readWord (port w : Nat) : Steady z (readWord s port w).1 := by
  have hput : Steady z (putPlace s (s.loc w) (placeRead s (s.loc w)) 0) := steady_update h
  have hflag := steady_raiseYard (steady_inc hput F.yard_N_CE 0 (by decide)) Bit.ydCe
  grind only [readWord, steady_set, steady_track, steady_yardDue, F.yard_CE_ADDR, F.yard_CE_PORT, F.yard_CE_VALID]

theorem steady_touch (port a n : Nat) : Steady z (touch s port a n) := by
  grind only [touch, steady_readWord, steady_foldl]

theorem steady_loadCurves : Steady z (loadCurves s) := by
  grind only [loadCurves, loadEntries, steady_readWord, steady_update, steady_foldl]

/-! ### Listeners' records -/

theorem steady_readHead (port q : Nat) : Steady z (readHead s port q) := by
  grind only [readHead, steady_fillHead, steady_touch]

theorem steady_releaseGranted (l : Nat) (g : Granted) : Steady z (releaseGranted s l g) := by
  have hnote : Steady z (noteRelease s l g) := by grind only [noteRelease, steady_update]
  grind only [releaseGranted, steady_readHead, steady_moveDrop]

theorem steady_ungrant (n : Nat) : Steady z (ungrant s n) := steady_putTx h _ _

theorem steady_dropRecord (n : Nat) : Steady z (dropRecord s n) := by
  grind only [dropRecord, steady_releaseGranted, steady_putTx]

theorem steady_cutPair (k : Nat) : Steady z (cutPair s k) := by
  grind only [cutPair, raiseTx, steady_ungrant, steady_putTx, steady_raise, steady_dropRecord, steady_inc, F.tx_N_TX_ABORT, F.tx_FLAGS]

/-! ### Claiming the interlock -/

theorem steady_beginReplay : Steady z (beginReplay s) := by
  have hflush : ∀ t q, Steady z t → Steady z (flushStall t q) := by
    grind only [flushStall, steady_reofferCredit, steady_markGone, steady_putStall]
  grind only [beginReplay, takeoverFlush, clearPath, steady_update, steady_foldl]

theorem steady_becomeOwner : Steady z (becomeOwner s) := by
  have hown := steady_set (steady_set h F.twin_OWN 0 1 (by decide)) F.twin_HOLD_OUT 0 1 (by decide)
  have hcount := steady_inc (steady_set hown F.twin_ILK_STATE 0 2 (by decide)) F.twin_TAKEOVERS 0 (by decide)
  grind only [becomeOwner, steady_raiseTwin, steady_beginReplay, steady_update]

theorem steady_claimFail : Steady z (claimFail s) := by
  grind only [claimFail, steady_set, steady_raiseTwin, steady_inc, steady_update, F.twin_HOLD_OUT, F.twin_ILK_STATE,
    F.twin_CLAIM_FAILS]

theorem steady_bypassClaim : Steady z (bypassClaim s) := by
  grind only [bypassClaim, claimIlk, steady_claimFail, steady_set, steady_becomeOwner, steady_update, F.twin_HOLD_OUT,
    F.twin_ILK_STATE]

/-! ### Answers -/

theorem steady_completeEntry (e : Option Nat) : Steady z (completeEntry s e) := by
  cases e with
  | none => exact h
  | some id => exact steady_update h

theorem steady_post (via : Transport) (mbox : Nat) (msg : List Byte) (e : Option Nat) : Steady z (post s via mbox msg e) := by
  cases via with
  | spi => grind only [post, postSpi, steady_update, steady_set, steady_completeEntry, F.host_SPILLING, F.host_FULL]
  | session n => grind only [post, postSession, sendUdp, State.putEth, steady_update, steady_completeEntry]
  | sideband => exact steady_completeEntry (steady_update h) _

theorem steady_answerWait (w : Wait) (g : Bool) (status detail : Nat) (data : List Byte) :
    Steady z (answerWait s w g status detail data) := by
  grind only [answerWait, saveResponse, respond, genAfter, stepGen, steady_update, steady_completeEntry, steady_post]

/-! ### Parser and lanes -/

theorem steady_freeSentence (x : Sentence) : Steady z (freeSentence s x) := by
  grind only [freeSentence, ringShow, setMbState, steady_set, F.rx_LEVEL, F.rx_PEAK, F.host_STATE]

theorem steady_discardOpen (src : Nat) (restart : Bool) : Steady z (discardOpen s src restart) := by
  grind only [discardOpen, countDiscard, steady_inc, steady_freeSentence, steady_putSource, refusalField_blk, causeField_blk,
    F.parse_DAMAGED]

theorem steady_roleCause (lane c : Nat) : Steady z (roleCause s lane c) := by
  grind only [roleCause, laneCause, steady_discardOpen, steady_putSource]

theorem steady_leaveMode (n : Nat) : Steady z (leaveMode s n) := by
  have h1 : Steady z (dropRest (roleCause (rxEvent s n F.rx_N_FRAGMENT Bit.rxFragment) n 6) n) :=
    steady_putSource (steady_roleCause (steady_raise (steady_inc h _ _ (by decide)) _ _ _ _ _ (by decide)) _ _) _ _
  grind only [leaveMode, State.putRx, State.putEnc, steady_update, steady_putTx, steady_set, F.enc_SENDING, F.rx_STATE, F.rx_STUCK]

theorem steady_cutLane (n : Nat) : Steady z (cutLane s n) := by
  grind only [cutLane, steady_dropRecord, steady_ungrant]

theorem steady_cutPort (p : Nat) : Steady z (cutPort s p) := by
  grind only [cutPort, endPayload, steady_releaseGranted, steady_putSource]

/-! ### Calibrations -/

theorem steady_logCal (n : Nat) (c : Cal) : Steady z (logCal s n c) := by
  grind only [logCal, holdCal, steady_inc, steady_flushCal, steady_update, F.meas_CAL_LOG_LOST]

theorem steady_abortCal (n : Nat) : Steady z (abortCal s n) := by
  have hput : ∀ t c, Steady z t → Steady z (putCal t n c) := fun _ _ ht => steady_update ht
  grind only [abortCal, raiseMeas, endCal, releaseSpare, idleState, beginReturn, steady_logCal, steady_raise, steady_set, stMs, chMs,
    F.meas_FLAGS, F.meas_ST_MS0, F.meas_ST_MS1, F.meas_CH_MS0, F.meas_CH_MS1, F.ch_STATE]

/-! ### Raising a shed -/

theorem steady_resetShed (n : Nat) : Steady z (resetShed s n) := by
  unfold resetShed
  split
  · exact steady_resetKinds h _ (by decide)
  · exact steady_resetKinds h _ (by decide)
  · exact steady_update (steady_resetKinds h _ (by decide))
  · exact steady_update (steady_resetKinds h _ (by decide))
  · exact steady_resetKinds h _ (by decide)
  · exact steady_resetBlks (steady_resetKinds h _ (by decide)) fun _ _ => rfl
  · split
    · exact h
    · exact steady_resetBlks h fun _ _ => rfl

theorem steady_clearSlots (n : Nat) : Steady z (clearSlots s n) := steady_foldl _ (fun _ _ ht => steady_update ht) _ h

theorem steady_protectTables : Steady z (protectTables s) :=
  steady_update (steady_set (steady_set (steady_set (steady_set h _ _ _ (by decide)) _ _ _ (by decide)) _ _ _ (by decide)) _ _ _
    (by decide))

end

end Sys2Proof.Machine
end

section
/-! PROOF. Lowering sheds (R544): the three lowerings that a rail's fault can call for, by what each leaves of the power block. -/

namespace Sys2Proof.Machine

/-! ### On the way to the isolation -/

theorem keepsPower_answerWaits (s : State) (p : WaitFor → Bool) (g : Bool) (out : State → Wait → Nat × List Byte) :
    KeepsPower s (answerWaits s p g out) :=
  keepsPower_foldl _ (fun t w => (steady_answerWait (Steady.refl t) w g _ 0 _).power) _
    { s with waits := s.waits.filter (fun w => !p w.on) }

theorem keepsPower_dropMove (s : State) (n : Nat) : KeepsPower s (dropMove s n) :=
  keepsPower_answerWaits (s.putTx n { s.txLane n with moveTo := none }) _ _ _

theorem keepsPower_lowerLane (s : State) (n : Nat) : KeepsPower s (lowerLane s n) := by
  unfold lowerLane
  extract_lets s1 s2 s3
  have h1 : KeepsPower s s1 := (steady_leaveMode (steady_cutLane (Steady.refl s) n) n).power
  have h2 : KeepsPower s s2 := h1.trans (keepsPower_foldl dropMove keepsPower_dropMove _ s1)
  have h3 : KeepsPower s s3 := h2.trans (keepsPower_resetBlks s2 fun _ _ => rfl)
  exact h3.of_regs rfl

theorem keepsPower_endHandover (s : State) (status : Nat) : KeepsPower s (endHandover s status) :=
  keepsPower_answerWaits { s with twin := { s.twin with handover := none } } _ _ _

/-! ### The isolation -/

theorem testBit_get_set_maskOf (s : State) (f : Field) (hf : f.fits) (i : Nat) (l : List Nat) (k : Nat) :
    ((s.set f i (maskOf l)).get f i).testBit k = (decide (k < f.width) && l.contains k) := by
  rw [State.get_set_self _ _ hf, Nat.testBit_mod_two_pow, testBit_maskOf]

theorem shedUp_lt {s : State} {n : Nat} (h : s.shedUp n = true) : n < 12 :=
  Nat.lt_of_not_le fun hn => Bool.false_ne_true ((testBit_ge (get_lt s F.pwr_UP 0) hn).symm.trans h)

theorem isolate_shedUp (s : State) (n m : Nat) : (isolate s n).shedUp m = (m != n && s.shedUp m) := by
  refine (testBit_get_set_maskOf s F.pwr_UP (by decide) 0 _ m).trans ?_
  rw [Bool.eq_iff_iff]
  simp only [Bool.and_eq_true, decide_eq_true_eq, List.contains_iff_mem, List.mem_filter, mem_setBits]
  exact ⟨fun ⟨_, ⟨_, hup⟩, hne⟩ => ⟨hne, hup⟩,
    fun ⟨hne, hup⟩ => ⟨shedUp_lt hup, ⟨shedUp_lt hup, hup⟩, hne⟩⟩

/-- From `s` to `t` the sheds of a list went down; the other sheds and the power block's other registers stand. -/
structure Lowers (l : List Nat) (s t : State) : Prop where
  sheds : ∀ m, t.shedUp m = (!l.contains m && s.shedUp m)
  fields : ∀ f : Field, f.blk = .power → f.off % 65536 ≠ 0 → ∀ i, t.get f i = s.get f i

theorem Lowers.nil (s : State) : Lowers [] s s := ⟨fun _ => rfl, fun _ _ _ _ => rfl⟩

theorem Lowers.cons {n : Nat} {l : List Nat} {s t u : State} (h : Lowers [n] s t) (k : Lowers l t u) : Lowers (n :: l) s u := by
  refine ⟨fun m => ?_, fun f hf ho i => (k.fields f hf ho i).trans (h.fields f hf ho i)⟩
  rw [k.sheds, h.sheds, List.contains_cons, List.contains_cons, List.contains_nil, Bool.or_false, Bool.not_or, ← Bool.and_assoc,
    Bool.and_comm (!l.contains m)]

/-- An isolation, with what leaves the power block before it and after it. -/
theorem lowers_of_isolate {n : Nat} {s u t : State} (hu : KeepsPower s u) (ht : KeepsPower (isolate u n) t) : Lowers [n] s t := by
  refine ⟨fun m => ?_, fun f hf ho i => ?_⟩
  · rw [ht.shedUp, isolate_shedUp, hu.shedUp, List.contains_cons, List.contains_nil, Bool.or_false]
    rfl
  · rw [ht.get f hf, ← hu.get f hf i]
    exact State.get_set_off _ _ _ _ _ _ (Ne.symm ho)

theorem lowers_lowerBank (s : State) (n : Nat) : Lowers [n] s (lowerBank s n) :=
  lowers_of_isolate (keepsPower_foldl lowerLane keepsPower_lowerLane _ s) (fun _ _ => rfl)

theorem lowers_lowerMeas (s : State) : Lowers [6] s (lowerMeas s) := by
  unfold lowerMeas
  extract_lets s1
  have h1 : KeepsPower s s1 := keepsPower_foldl abortCal (fun t n => (steady_abortCal (Steady.refl t) n).power) _ s
  have h2 : KeepsPower (isolate s1 6) (resetKinds (isolate s1 6) [.meas, .measCh, .measLin]) :=
    keepsPower_resetKinds (isolate s1 6) _ (by decide)
  exact lowers_of_isolate h1 (h2.of_regs rfl)

theorem lowers_lowerPorts (s : State) : Lowers [7] s (lowerPorts s) := by
  unfold lowerPorts
  extract_lets s1 s2 s3
  have h1 : KeepsPower s s1 := keepsPower_foldl cutPort (fun t p => (steady_cutPort (Steady.refl t) p).power) _ s
  have h2 : KeepsPower s s2 := by
    unfold s2
    split
    · exact h1.trans (keepsPower_endHandover s1 _)
    · exact h1
  have h3 : KeepsPower (isolate s2 7) s3 :=
    (keepsPower_resetKinds (isolate s2 7) _ (by decide)).trans (keepsPower_resetBlks _ fun _ _ => rfl)
  exact lowers_of_isolate h2 (h3.of_regs rfl)

/-- The sheds that a rail can take down: measurement, ports and the lane banks. -/
theorem lowers_lowerShed (s : State) {n : Nat} (hn : n ∈ [6, 7, 8, 9, 10, 11]) : Lowers [n] s (lowerShed s n) := by
  unfold lowerShed
  split
  · next hdown =>
    refine ⟨fun m => ?_, fun _ _ _ _ => rfl⟩
    by_cases hm : m = n
    · subst hm
      simpa using hdown
    · simp [hm]
  · simp only [List.mem_cons, List.not_mem_nil, or_false] at hn
    obtain rfl | rfl | rfl | rfl | rfl | rfl := hn
    · exact lowers_lowerMeas s
    · exact lowers_lowerPorts s
    all_goals exact lowers_lowerBank s _

theorem lowers_lowerSheds {l : List Nat} (hl : ∀ n ∈ l, n ∈ [6, 7, 8, 9, 10, 11]) (s : State) :
    Lowers l s (l.foldl lowerShed s) := by
  induction l generalizing s with
  | nil => exact Lowers.nil s
  | cons n l ih =>
    exact (lowers_lowerShed s (hl n (List.mem_cons_self ..))).cons (ih (fun m hm => hl m (List.mem_cons_of_mem n hm)) _)

end Sys2Proof.Machine
end

section
/-! PROOF. Rails and the core voltage (R537, R539, R555): what each of their events writes. -/

namespace Sys2Proof.Machine

/-! ### A rail's bit -/

theorem setRail_rest (s : State) (rail : Nat) (good : Bool) : setRail s rail good = { s with regs := (setRail s rail good).regs } := by
  unfold setRail
  split <;> rfl

theorem setRail_off (s : State) (rail : Nat) (good : Bool) (f : Field) (i : Nat) (h : 16 ≠ f.off % 65536) :
    (setRail s rail good).get f i = s.get f i := by
  unfold setRail
  split <;> exact State.get_set_off _ _ _ _ _ _ h

theorem setRail_inRange (s : State) (rail : Nat) (good : Bool) (j : Nat) :
    ((setRail s rail good).get F.pwr_IN_RANGE 0).testBit j =
      if j = rail then good && decide (rail < 7) else (s.get F.pwr_IN_RANGE 0).testBit j := by
  have hlt : 7 ≤ j → (s.get F.pwr_IN_RANGE 0).testBit j = false := testBit_ge (get_lt s F.pwr_IN_RANGE 0)
  unfold setRail
  split
  · next h7 =>
    obtain rfl : rail = 7 := by simpa using h7
    have hkeep : (s.setB F.pwr_VANA_OK 0 good).get F.pwr_IN_RANGE 0 = s.get F.pwr_IN_RANGE 0 :=
      State.get_set_beside _ _ _ _ _ rfl rfl (by decide) (by decide)
    rw [hkeep]
    split
    · next hj => rw [hlt (Nat.le_of_eq hj.symm), decide_eq_false (Nat.lt_irrefl 7), Bool.and_false]
    · rfl
  · rw [testBit_get_set_maskOf _ _ (by decide), show F.pwr_IN_RANGE.width = 7 from rfl]
    by_cases hj : j = rail
    · subst hj
      cases good <;> simp
    · rw [if_neg hj]
      by_cases hb : (s.get F.pwr_IN_RANGE 0).testBit j = true
      · have h7 : j < 7 := Nat.lt_of_not_le fun h => by simp [hlt h] at hb
        cases good <;> simp [hj, hb, h7]
      · cases good <;> simp [hj, hb]

theorem setRail_vana (s : State) (good : Bool) : (setRail s 7 good).on F.pwr_VANA_OK 0 = good :=
  State.on_setB s F.pwr_VANA_OK (by decide) (by decide) 0 good

theorem setRail_keeps {l : List (Field × Nat)} (s : State) (rail : Nat) (good : Bool) (hr : (F.pwr_IN_RANGE, 0) ∈ l)
    (hv : rail = 7 → (F.pwr_VANA_OK, 0) ∈ l) : keepsRegsBut l s (setRail s rail good) := by
  unfold setRail
  split
  · next h7 => exact keepsRegsBut_set s F.pwr_VANA_OK 0 _ (hv (by simpa using h7)) (by decide) (by decide)
  · exact keepsRegsBut_set s F.pwr_IN_RANGE 0 _ hr (by decide) (by decide)

/-- Rails set in range one after another. -/
theorem setRails_inRange (l : List Nat) (s : State) {j : Nat} (hj : j < 7) :
    ((l.foldl (fun t r => setRail t r true) s).get F.pwr_IN_RANGE 0).testBit j =
      (l.contains j || (s.get F.pwr_IN_RANGE 0).testBit j) := by
  induction l generalizing s with
  | nil => rfl
  | cons r l ih =>
    rw [List.foldl_cons, ih, setRail_inRange, List.contains_cons]
    by_cases h : j = r
    · simp [← h, hj]
    · rw [if_neg h, beq_eq_false_iff_ne.2 h, Bool.false_or]

theorem setRails_rest (l : List Nat) (s : State) : l.foldl (fun t r => setRail t r true) s =
    { s with regs := (l.foldl (fun t r => setRail t r true) s).regs } := by
  induction l generalizing s with
  | nil => rfl
  | cons r l ih => rw [List.foldl_cons, ih, setRail_rest s r]

theorem setRails_keeps (l : List Nat) (s : State) :
    keepsRegsBut [(F.pwr_IN_RANGE, 0), (F.pwr_VANA_OK, 0)] s (l.foldl (fun t r => setRail t r true) s) := by
  induction l generalizing s with
  | nil => exact keepsRegsBut_refl _ s
  | cons r l ih => exact keepsRegsBut_trans (setRail_keeps s r true (by simp) (by simp)) (ih _)

/-! ### The power flags -/

theorem or_land_self (v m : Nat) : (v ||| m) &&& m = m :=
  Nat.eq_of_testBit_eq fun k => by
    rw [Nat.testBit_and, Nat.testBit_or]
    cases m.testBit k <;> simp

theorem raisePower_flags (s : State) {bit : Nat} (hb : bit < 4) :
    (raisePower s bit).get F.pwr_FLAGS 0 = s.get F.pwr_FLAGS 0 ||| 2 ^ bit :=
  raise_get_self s F.pwr_FLAGS F.pwr_EVEN (by decide) 0 bit _ hb

theorem raisePower_off (s : State) (bit : Nat) (f : Field) (i : Nat) (h : 8 ≠ f.off % 65536) :
    (raisePower s bit).get f i = s.get f i := raise_get_off s F.pwr_FLAGS F.pwr_EVEN 0 bit _ f i h

theorem raisePower_rest (s : State) (bit : Nat) :
    raisePower s bit = { s with regs := (raisePower s bit).regs, fired := (raisePower s bit).fired } := raise_rest _ _ _ _ _ _

theorem raisePower_keeps {l : List (Field × Nat)} (s : State) (bit : Nat) (h : (F.pwr_FLAGS, 0) ∈ l) :
    keepsRegsBut l s (raisePower s bit) := raise_keeps s _ _ _ _ _ h (by decide) (by decide)

/-! ### The events -/

theorem economy_sets (s : State) (mv : Nat) :
    ∃ t, exec (.economy mv) s = .next t ∧ t = { s with regs := t.regs, fired := t.fired } ∧
      t.get F.pwr_VCORE 0 = mv % 65536 ∧ t.on F.pwr_ECON 0 = decide (mv < 800) ∧
      (s.on F.pwr_ECON 0 = decide (mv < 800) → t.fired = s.fired ∧ t.get F.pwr_FLAGS 0 = s.get F.pwr_FLAGS 0) ∧
      (s.on F.pwr_ECON 0 ≠ decide (mv < 800) → t.get F.pwr_FLAGS 0 = s.get F.pwr_FLAGS 0 ||| 2) ∧
      keepsRegsBut [(F.pwr_VCORE, 0), (F.pwr_ECON, 0), (F.pwr_FLAGS, 0)] s t := by
  have hvcore : (s.set F.pwr_VCORE 0 mv).get F.pwr_VCORE 0 = mv % 65536 := s.get_set_self _ (by decide) _ _
  have hecon : (s.set F.pwr_VCORE 0 mv).on F.pwr_ECON 0 = s.on F.pwr_ECON 0 :=
    congrArg (· == 1) (s.get_set_off F.pwr_VCORE F.pwr_ECON 0 0 mv (by decide))
  have hflags : (s.set F.pwr_VCORE 0 mv).get F.pwr_FLAGS 0 = s.get F.pwr_FLAGS 0 := s.get_set_off _ _ _ _ _ (by decide)
  have hkeep : keepsRegsBut [(F.pwr_VCORE, 0), (F.pwr_ECON, 0), (F.pwr_FLAGS, 0)] s (s.set F.pwr_VCORE 0 mv) :=
    keepsRegsBut_set s _ _ _ (by simp) (by decide) (by decide)
  rw [exec, execEconomy, hecon]
  by_cases h : decide (mv < 800) = s.on F.pwr_ECON 0
  · rw [if_pos (beq_iff_eq.2 h)]
    exact ⟨_, rfl, rfl, hvcore, hecon.trans h.symm, fun _ => ⟨rfl, hflags⟩, fun hne => absurd h.symm hne, hkeep⟩
  · rw [if_neg (fun e => h (beq_iff_eq.1 e))]
    refine ⟨_, rfl, raisePower_rest _ _, ?_, ?_, fun he => absurd he.symm h, fun _ => ?_, ?_⟩
    · rw [raisePower_off _ _ _ _ (by decide), ← hvcore]
      exact State.get_set_off _ _ _ _ _ _ (by decide)
    · rw [State.on, raisePower_off _ _ _ _ (by decide)]
      exact State.on_setB _ _ (by decide) (by decide) _ _
    · rw [raisePower_flags _ (by decide), ← hflags]
      exact congrArg (· ||| 2) (State.get_set_off _ F.pwr_ECON F.pwr_FLAGS 0 0 _ (by decide))
    · exact keepsRegsBut_trans hkeep (keepsRegsBut_trans (keepsRegsBut_set _ F.pwr_ECON 0 _ (by simp) (by decide) (by decide))
        (raisePower_keeps _ _ (by simp)))

/-- What the fault of a rail writes before it is remembered. -/
def railFallen (s : State) (rail : Nat) : State :=
  raisePower ((railSheds rail).foldl lowerShed (setRail s rail false)) Bit.pwShedFault

theorem exec_railFault (s : State) {rail : Nat} (h4 : 4 ≤ rail) (hr : s.railDown.any (fun e => e.1 == rail) = false) :
    exec (.railFault rail) s = .next { railFallen s rail with
      railDown := (railFallen s rail).railDown ++ [(rail, maskOf ((railSheds rail).filter (fun n => s.shedUp n)))] } :=
  if_neg (by simp [hr, h4])

theorem railFallen_io18_rest (s : State) :
    railFallen s 5 = { s with regs := (railFallen s 5).regs, fired := (railFallen s 5).fired } :=
  (raisePower_rest (setRail s 5 false) 2).trans (by rw [setRail_rest]; rfl)

theorem railFault_io18 (s : State) (hr : s.railDown.any (fun e => e.1 == 5) = false) :
    ∃ t, exec (.railFault 5) s = .next t ∧
      t = { s with regs := t.regs, fired := t.fired, railDown := s.railDown ++ [(5, 0)] } ∧
      (∀ j, (t.get F.pwr_IN_RANGE 0).testBit j = (decide (j ≠ 5) && (s.get F.pwr_IN_RANGE 0).testBit j)) ∧
      t.get F.pwr_FLAGS 0 = s.get F.pwr_FLAGS 0 ||| 4 ∧ keepsRegsBut [(F.pwr_IN_RANGE, 0), (F.pwr_FLAGS, 0)] s t := by
  have hrange : (railFallen s 5).get F.pwr_IN_RANGE 0 = (setRail s 5 false).get F.pwr_IN_RANGE 0 :=
    raisePower_off _ _ _ _ (by decide)
  have hflags : (railFallen s 5).get F.pwr_FLAGS 0 = s.get F.pwr_FLAGS 0 ||| 4 :=
    (raisePower_flags _ (by decide)).trans (congrArg (· ||| 4) (setRail_off s 5 false F.pwr_FLAGS 0 (by decide)))
  have hkeep : keepsRegsBut [(F.pwr_IN_RANGE, 0), (F.pwr_FLAGS, 0)] s (railFallen s 5) :=
    keepsRegsBut_trans (setRail_keeps s 5 false (by simp) (by simp)) (raisePower_keeps _ _ (by simp))
  refine ⟨_, exec_railFault s (by decide) hr, ?_, fun j => ?_, hflags, hkeep⟩
  · rw [railFallen_io18_rest]
    rfl
  · refine (congrArg (fun v => Nat.testBit v j) hrange).trans ((setRail_inRange s 5 false j).trans ?_)
    by_cases h : j = 5 <;> simp [h]

theorem railSheds_lowered {rail : Nat} (h4 : 4 ≤ rail) (h7 : rail ≤ 7) : ∀ n ∈ railSheds rail, n ∈ [6, 7, 8, 9, 10, 11] := by
  obtain rfl | rfl | rfl | rfl : rail = 4 ∨ rail = 5 ∨ rail = 6 ∨ rail = 7 := by omega
  all_goals decide

theorem railFault_lowers (s : State) (rail : Nat) (h4 : 4 ≤ rail) (h7 : rail ≤ 7)
    (hr : s.railDown.any (fun e => e.1 == rail) = false) :
    ∃ t, exec (.railFault rail) s = .next t ∧ t.get F.pwr_FLAGS 0 &&& 4 = 4 ∧
      (rail < 7 → (t.get F.pwr_IN_RANGE 0).testBit rail = false) ∧ (rail = 7 → t.on F.pwr_VANA_OK 0 = false) ∧
      (∀ n ∈ railSheds rail, t.shedUp n = false) ∧
      (rail, maskOf ((railSheds rail).filter (fun n => s.shedUp n))) ∈ t.railDown := by
  have hlow := lowers_lowerSheds (railSheds_lowered h4 h7) (setRail s rail false)
  have hoff : ∀ f : Field, f.blk = .power → f.off = 16 → (railFallen s rail).get f 0 = (setRail s rail false).get f 0 :=
    fun f hf ho => (raisePower_off _ _ f 0 (by rw [ho]; decide)).trans (hlow.fields f hf (by rw [ho]; decide) 0)
  have hflag : (railFallen s rail).get F.pwr_FLAGS 0 &&& 4 = 4 := by
    rw [railFallen, raisePower_flags _ (by decide)]
    exact or_land_self _ _
  have hrange : ((railFallen s rail).get F.pwr_IN_RANGE 0).testBit rail = false := by
    rw [hoff _ rfl rfl, setRail_inRange, if_pos rfl, Bool.false_and]
  have hvana : rail = 7 → (railFallen s rail).on F.pwr_VANA_OK 0 = false := by
    rintro rfl
    exact (congrArg (· == 1) (hoff _ rfl rfl)).trans (setRail_vana s false)
  have hdark : ∀ n ∈ railSheds rail, (railFallen s rail).shedUp n = false := fun n hn => by
    rw [railFallen, State.shedUp, raisePower_off _ _ _ _ (by decide)]
    refine (hlow.sheds n).trans ?_
    rw [List.contains_iff_mem.2 hn]
    rfl
  exact ⟨_, exec_railFault s h4 hr, hflag, fun _ => hrange, hvana, hdark, List.mem_append_right _ (List.mem_singleton_self _)⟩

theorem startPlan_nil (s : State) (cmd : Bool) : startPlan s [] cmd = s := rfl

theorem startPlan_ne (s : State) {l : List Nat} (h : l ≠ []) (cmd : Bool) :
    startPlan s l cmd = { s.set F.pwr_SWITCHING 0 1 with shedPlan := some { raise := l, fromCommand := cmd } } :=
  if_neg (by simpa using h)

/-- What the return of a rail writes before a plan begins. -/
def railBack (s : State) (rail : Nat) : State :=
  { setRail s rail true with railDown := s.railDown.filter (fun x => x.1 != rail) }

theorem exec_railRestored (s : State) {rail : Nat} {e : Nat × Nat} (hfind : s.railDown.find? (fun e => e.1 == rail) = some e)
    (hplan : s.shedPlan = none) : exec (.railRestored rail) s =
      .next (if s.running then startPlan (railBack s rail) (raiseList e.2) false else railBack s rail) := by
  have hrun : (railBack s rail).running = s.running := congrArg (· == 1) (setRail_off s rail true F.host_RUNNING 0 (by decide))
  have hno : (railBack s rail).shedPlan = none := (congrArg State.shedPlan (setRail_rest s rail true)).trans hplan
  have hunfold : exec (.railRestored rail) s = if !(railBack s rail).running then .next (railBack s rail) else
      .next (match (railBack s rail).shedPlan with
        | none => startPlan (railBack s rail) (raiseList e.2) false
        | some p => { railBack s rail with shedPlan := some { p with raise := p.raise ++ raiseList e.2 } }) := by
    rw [exec, execRailRestored, hfind]
    rfl
  rw [hunfold, hrun, hno]
  cases s.running <;> rfl

theorem railBack_keeps (s : State) (rail : Nat) :
    keepsRegsBut [(F.pwr_IN_RANGE, 0), (F.pwr_VANA_OK, 0), (F.pwr_SWITCHING, 0)] s (railBack s rail) :=
  setRail_keeps s rail true (by simp) (by simp)

theorem railBack_inRange (s : State) {rail : Nat} (h : rail < 7) (j : Nat) :
    ((railBack s rail).get F.pwr_IN_RANGE 0).testBit j = (decide (j = rail) || (s.get F.pwr_IN_RANGE 0).testBit j) := by
  refine (setRail_inRange s rail true j).trans ?_
  by_cases hj : j = rail <;> simp [hj, h]

theorem railRestored_raises (s : State) (rail : Nat) (e : Nat × Nat)
    (hfind : s.railDown.find? (fun e => e.1 == rail) = some e) (hplan : s.shedPlan = none) :
    ∃ t, exec (.railRestored rail) s = .next t ∧ t.railDown = s.railDown.filter (fun x => x.1 != rail) ∧
      t = { s with regs := t.regs, railDown := t.railDown, shedPlan := t.shedPlan } ∧
      (rail < 7 → ∀ j, (t.get F.pwr_IN_RANGE 0).testBit j = (decide (j = rail) || (s.get F.pwr_IN_RANGE 0).testBit j)) ∧
      (rail = 7 → t.on F.pwr_VANA_OK 0 = true) ∧
      (s.running = false ∨ raiseList e.2 = [] → t.shedPlan = none) ∧
      (s.running = true → raiseList e.2 ≠ [] → t.on F.pwr_SWITCHING 0 = true ∧
        t.shedPlan = some { raise := raiseList e.2, fromCommand := false }) ∧
      keepsRegsBut [(F.pwr_IN_RANGE, 0), (F.pwr_VANA_OK, 0), (F.pwr_SWITCHING, 0)] s t := by
  have hrest : railBack s rail = { s with regs := (railBack s rail).regs, railDown := (railBack s rail).railDown } := by
    rw [railBack, setRail_rest]
  have hno : (railBack s rail).shedPlan = none := (congrArg State.shedPlan hrest).trans hplan
  have hvana : rail = 7 → (railBack s rail).on F.pwr_VANA_OK 0 = true := by
    rintro rfl
    exact setRail_vana s true
  refine ⟨_, exec_railRestored s hfind hplan, ?_⟩
  by_cases hplans : s.running = true ∧ raiseList e.2 ≠ []
  · obtain ⟨hrun, hne⟩ := hplans
    have hset : ∀ f : Field, f.off = 16 → ((railBack s rail).set F.pwr_SWITCHING 0 1).get f 0 = (railBack s rail).get f 0 :=
      fun f ho => State.get_set_off _ _ _ _ _ _ (by rw [ho]; decide)
    rw [if_pos hrun, startPlan_ne _ hne]
    refine ⟨rfl, ?_, fun h7 j => ?_, fun h7 => ?_, fun hor => ?_, fun _ _ => ⟨?_, rfl⟩, ?_⟩
    · rw [hrest]
      rfl
    · exact (congrArg (fun v => Nat.testBit v j) (hset F.pwr_IN_RANGE rfl)).trans (railBack_inRange s h7 j)
    · exact (congrArg (· == 1) (hset F.pwr_VANA_OK rfl)).trans (hvana h7)
    · exact hor.elim (fun h => absurd hrun (by simp [h])) (fun h => absurd h hne)
    · exact congrArg (· == 1) (State.get_set_self (railBack s rail) F.pwr_SWITCHING (by decide) 0 1)
    · exact keepsRegsBut_trans (railBack_keeps s rail) (keepsRegsBut_set _ F.pwr_SWITCHING 0 1 (by simp) (by decide) (by decide))
  · have hsame : (if s.running then startPlan (railBack s rail) (raiseList e.2) false else railBack s rail) = railBack s rail := by
      split
      · next hrun => rw [of_not_not fun hne => hplans ⟨hrun, hne⟩, startPlan_nil]
      · rfl
    rw [hsame]
    refine ⟨rfl, ?_, railBack_inRange s, hvana, fun _ => hno, fun hrun hne => absurd ⟨hrun, hne⟩ hplans, railBack_keeps s rail⟩
    rw [hno, ← hplan]
    exact hrest

theorem brownoutEnd_restores (s : State) :
    ∃ t, exec .brownoutEnd s = .next t ∧ t = { s with regs := t.regs, brownRails := [] } ∧
      (∀ j, j < 7 → (t.get F.pwr_IN_RANGE 0).testBit j = (s.brownRails.contains j || (s.get F.pwr_IN_RANGE 0).testBit j)) ∧
      keepsRegsBut [(F.pwr_IN_RANGE, 0), (F.pwr_VANA_OK, 0)] s t :=
  ⟨_, rfl, by rw [setRails_rest], fun _ hj => setRails_inRange s.brownRails s hj, setRails_keeps s.brownRails s⟩

/-- Settles O11, one lemma for each event. -/
theorem railsAndVoltageFollowTheirEvents : Obligations.RailsAndVoltageFollowTheirEvents := fun s =>
  ⟨economy_sets s, railFault_io18 s, railFault_lowers s, fun rail e _ => railRestored_raises s rail e, brownoutEnd_restores s⟩

end Sys2Proof.Machine
end

section
/-! PROOF. SHED_SET's plan (R513, R542), the bypass (R559 to R562) and a lane's pins (R93, R545). -/

namespace Sys2Proof.Machine

/-! ### A plan begins -/

theorem shed_lt {n : Nat} (hn : n ∈ [2, 3, 5, 6, 7, 8, 9, 10, 11]) : n < 12 := by
  revert n
  decide

theorem lowerList_zero : lowerList 0 = [] := by decide

theorem raiseList_twoPow {n : Nat} (hn : n ∈ [2, 3, 5, 6, 7, 8, 9, 10, 11]) : raiseList (2 ^ n) = [n] := by
  revert n
  decide

/-- Nothing is to be lowered and one shed to be raised: its need is all that R38 asks. -/
theorem shedState_raise (s : State) {n : Nat} (hn : n ∈ [2, 3, 5, 6, 7, 8, 9, 10, 11]) (hdown : s.shedUp n = false)
    (hneed : needMet (s.get F.pwr_UP 0) n = true) : shedState s (2 ^ n) 0 = false := by
  have hbit : (upMask s).testBit n = false := hdown
  have hneed : needMet (upMask s) n = true := hneed
  simp [shedState, shedsOk, lowerList_zero, lowerChecks, raiseList_twoPow hn, raiseChecks, hbit, hneed]

theorem beginSheds_raise (s : State) {n : Nat} (hn : n ∈ [2, 3, 5, 6, 7, 8, 9, 10, 11]) (hdown : s.shedUp n = false) :
    beginSheds s (2 ^ n) 0 = { s.set F.pwr_SWITCHING 0 1 with shedPlan := some { raise := [n], fromCommand := true } } := by
  have hlist : (raiseList (2 ^ n)).filter (fun k => !s.shedUp k) = [n] := by simp [raiseList_twoPow hn, hdown]
  rw [beginSheds, lowerList_zero, List.foldl_nil, hlist]
  exact startPlan_ne s (List.cons_ne_nil n []) true

theorem cmdShedSet_waits {s : State} {r : Req} {n : Nat} (hlen : r.body.length = 8) (hno : reqDown r = 0) (hup : reqUp r = 2 ^ n)
    (hn : n ∈ [2, 3, 5, 6, 7, 8, 9, 10, 11]) (hfit : s.part.sheds.testBit n = true) (hdown : s.shedUp n = false)
    (hneed : needMet (s.get F.pwr_UP 0) n = true) (hplan : s.shedPlan = none) (hwaits : ∀ w ∈ s.waits, w.on ≠ .sheds) :
    cmdShedSet r s =
      .wait { s.set F.pwr_SWITCHING 0 1 with shedPlan := some { raise := [n], fromCommand := true } } .sheds := by
  have hmask : 2 ^ n &&& s.part.sheds = 2 ^ n := by
    apply Nat.eq_of_testBit_eq
    intro k
    rw [Nat.testBit_and, Nat.testBit_two_pow]
    by_cases hk : n = k
    · simp [← hk, hfit]
    · simp [hk]
  have h0 : Nat.testBit (2 ^ n) 0 = false := by
    rw [Nat.testBit_two_pow]
    exact decide_eq_false fun h => by simp [h] at hn
  have hnone : shedWaits s = [] := List.filter_eq_nil_iff.2 fun w hw => by simpa using hwaits w hw
  rw [cmdShedSet, sized_of hlen]
  simp [hno, hup, hmask, h0, hplan, hnone, shedHeld, shedState_raise s hn hdown hneed, beginSheds_raise s hn hdown]

theorem shedSet_begins (s : State) (r : Req) (n : Nat) (htakes : takes s r = true) (hlen : r.body.length = 8)
    (hno : fld r.body 4 0 12 = 0) (hn : n ∈ [2, 3, 5, 6, 7, 8, 9, 10, 11]) (hup : fld r.body 0 0 12 = 2 ^ n)
    (hfit : s.part.sheds.testBit n = true) (hdown : s.shedUp n = false) (hneed : needMet (s.get F.pwr_UP 0) n = true)
    (hplan : s.shedPlan = none) (hwaits : ∀ w ∈ s.waits, w.on ≠ .sheds) : ∃ t, exec (.shedSet r) s = .next t ∧
      t.shedPlan = some { raise := [n], fromCommand := true } ∧ t.on F.pwr_SWITCHING 0 = true ∧
      t = { s with regs := t.regs, shedPlan := t.shedPlan, waits := t.waits } ∧ t.waits.length = s.waits.length + 1 ∧
      keepsRegsBut [(F.pwr_SWITCHING, 0)] s t := by
  have hcmd := cmdShedSet_waits hlen hno hup hn hfit hdown hneed hplan hwaits
  refine ⟨_, by rw [exec, execShedSet, cmdRow_taken htakes, hcmd, finish], rfl, ?_, rfl, List.length_append, ?_⟩
  · exact congrArg (· == 1) (State.get_set_self s F.pwr_SWITCHING (by decide) 0 1)
  · exact keepsRegsBut_set s F.pwr_SWITCHING 0 1 (by simp) (by decide) (by decide)

/-! ### A shed comes up -/

/-- What POWER_SHEDS.UP is set over when a shed's power-good arrives: its registers already hold their Reset values. -/
def beforeUp (s : State) (n : Nat) : State := clearSlots (resetShed s n) n

theorem steady_beforeUp (s : State) (n : Nat) : Steady s (beforeUp s n) := steady_clearSlots (steady_resetShed (Steady.refl s) n) n

theorem steady_raiseShed (s : State) (n : Nat) :
    Steady ((beforeUp s n).set F.pwr_UP 0 (upMask (beforeUp s n) ||| 2 ^ n)) (raiseShed s n) := by
  have h := Steady.refl ((beforeUp s n).set F.pwr_UP 0 (upMask (beforeUp s n) ||| 2 ^ n))
  unfold raiseShed
  extract_lets s0 s1
  split
  · exact steady_update h
  · split
    · exact steady_protectTables h
    · exact h
  · exact steady_loadCurves h
  · exact h

theorem raiseShed_waits (s : State) (n : Nat) : (raiseShed s n).waits = s.waits :=
  (steady_raiseShed s n).waits.trans (steady_beforeUp s n).waits

theorem raiseShed_up (s : State) {n : Nat} (hn : n < 12) : (raiseShed s n).shedUp n = true := by
  rw [(steady_raiseShed s n).power.shedUp, State.shedUp, State.get_set_self _ _ (by decide), Nat.testBit_mod_two_pow, Nat.testBit_or,
    Nat.testBit_two_pow_self, Bool.or_true, Bool.and_true]
  exact decide_eq_true hn

/-! ### A plan ends -/

/-- The plan is over, before its command is answered. -/
def planOver (s : State) : State := { s.set F.pwr_SWITCHING 0 0 with shedPlan := none }

theorem planOver_switching (s : State) : (planOver s).on F.pwr_SWITCHING 0 = false :=
  congrArg (· == 1) (State.get_set_self s F.pwr_SWITCHING (by decide) 0 0)

theorem planOver_shedUp (s : State) (n : Nat) : (planOver s).shedUp n = s.shedUp n :=
  congrArg (fun v => Nat.testBit v n) (State.get_set_beside s F.pwr_SWITCHING F.pwr_UP 0 0 rfl rfl (by decide) (by decide))

theorem endPlan_noWaits (s : State) (status : Nat) (hw : s.waits = []) : endPlan s status = planOver s := by
  have hwaits : (planOver s).waits = [] := hw
  have hnone : shedWaits (planOver s) = [] := by rw [shedWaits, hwaits]; rfl
  unfold endPlan
  extract_lets cmd src s1 s2
  have h2 : s2 = planOver s := by
    unfold s2
    split
    · next hcons => exact absurd (hcons.symm.trans hnone) (List.cons_ne_nil _ _)
    · rfl
  rw [h2, hwaits]
  rfl

theorem endPlan_oneWait (s : State) (status : Nat) {p : ShedPlan} (hplan : s.shedPlan = some p) (hcmd : p.fromCommand = true)
    {w : Wait} (hw : s.waits = [w]) (hon : w.on = .sheds) :
    endPlan s status = answerWait (dropWait (planOver s) w) w false status 0 (shedsData (planOver s)) := by
  have hwaits : (planOver s).waits = [w] := hw
  have hone : shedWaits (planOver s) = [w] := by simp [shedWaits, hwaits, hon]
  have hgone : (answerWait (dropWait (planOver s) w) w false status 0 (shedsData (planOver s))).waits = [] := by
    rw [(steady_answerWait (Steady.refl _) w false status 0 _).waits, dropWait, hwaits]
    exact List.erase_cons_head ..
  unfold endPlan
  extract_lets cmd src s1 s2
  have hc : cmd = true := by
    unfold cmd
    rw [hplan]
    exact hcmd
  have h2 : s2 = answerWait (dropWait (planOver s) w) w false status 0 (shedsData (planOver s)) := by
    unfold s2
    split
    · next hcons =>
      obtain ⟨rfl, -⟩ := List.cons.inj (hcons.symm.trans hone)
      rfl
    · next hno => exact absurd hone (hno w [] hc)
  rw [h2, hgone]
  rfl

/-! ### The events of a plan -/

section

variable {s : State} (htamper : s.tamperOn = []) (hbrown : s.brownRails = []) (h4 : s.boot ≠ .waitS4) (h1 : s.boot ≠ .waitS1)
include htamper hbrown h4 h1

theorem exec_shedRaiseDone (n : Nat) : exec (.shedRaiseDone n) s = .next (planUp s n) := by
  rw [exec, execShedRaiseDone, if_neg (by simp [mayBoot, htamper, hbrown]), if_neg h4, if_neg h1]

theorem exec_shedFault (n : Nat) : exec (.shedFault n) s = .next (planFault s n) := by
  rw [exec, execShedFault, if_neg (by simp [mayBoot, htamper, hbrown]), if_neg h4, if_neg h1]

end

section

variable {s : State} {p : ShedPlan} {n : Nat} {rest : List Nat} (hplan : s.shedPlan = some p) (hraise : p.raise = n :: rest)
include hplan hraise

theorem planUp_head : planUp s n =
    if rest.isEmpty then endPlan (raiseShed s n) St.ok else { raiseShed s n with shedPlan := some { p with raise := rest } } := by
  rw [planUp, hplan]
  dsimp only
  rw [hraise]
  simp

theorem planUp_other {m : Nat} (hm : m ≠ n) : planUp s m = s := by
  rw [planUp, hplan]
  dsimp only
  rw [hraise]
  simp [Ne.symm hm]

theorem planFault_other {m : Nat} (hm : m ≠ n) : planFault s m = s := by
  rw [planFault, hplan]
  dsimp only
  rw [hraise]
  simp [Ne.symm hm]

theorem planFault_command (hcmd : p.fromCommand = true) : planFault s n = endPlan (raisePower s Bit.pwShedFault) St.timeout := by
  rw [planFault, hplan]
  dsimp only
  rw [hraise]
  simp [hcmd]

theorem planUp_goesOn (hn : n < 12) (hrest : rest ≠ []) :
    (planUp s n).shedUp n = true ∧ (planUp s n).shedPlan = some { p with raise := rest } := by
  rw [planUp_head hplan hraise, if_neg (by simpa using hrest)]
  exact ⟨raiseShed_up s hn, rfl⟩

theorem planUp_last (hn : n < 12) (hrest : rest = []) (hw : s.waits = []) :
    (planUp s n).shedUp n = true ∧ (planUp s n).shedPlan = none ∧ (planUp s n).on F.pwr_SWITCHING 0 = false := by
  rw [planUp_head hplan hraise, if_pos (by simpa using hrest), endPlan_noWaits _ _ ((raiseShed_waits s n).trans hw)]
  exact ⟨(planOver_shedUp _ n).trans (raiseShed_up s hn), rfl, planOver_switching _⟩

theorem planFault_answers (hcmd : p.fromCommand = true) {w : Wait} (hw : s.waits = [w]) (hon : w.on = .sheds) :
    (planFault s n).shedPlan = none ∧ (planFault s n).on F.pwr_SWITCHING 0 = false ∧ (planFault s n).waits = [] ∧
      (planFault s n).shedUp n = s.shedUp n ∧ ((planFault s n).get F.pwr_FLAGS 0).testBit 2 = true := by
  have hrest := raisePower_rest s Bit.pwShedFault
  have hplan' : (raisePower s Bit.pwShedFault).shedPlan = some p := (congrArg State.shedPlan hrest).trans hplan
  have hw' : (raisePower s Bit.pwShedFault).waits = [w] := (congrArg State.waits hrest).trans hw
  rw [planFault_command hplan hraise hcmd, endPlan_oneWait _ _ hplan' hcmd hw' hon]
  have hst := steady_answerWait (Steady.refl (dropWait (planOver (raisePower s Bit.pwShedFault)) w)) w false St.timeout 0
    (shedsData (planOver (raisePower s Bit.pwShedFault)))
  refine ⟨hst.plan, ?_, ?_, ?_, ?_⟩
  · exact (congrArg (· == 1) (hst.power.get F.pwr_SWITCHING rfl 0)).trans (planOver_switching _)
  · exact hst.waits.trans ((congrArg (List.erase · w) hw').trans (List.erase_cons_head ..))
  · refine (hst.power.shedUp n).trans ((planOver_shedUp _ n).trans ?_)
    exact congrArg (fun v => Nat.testBit v n) (raisePower_off s Bit.pwShedFault F.pwr_UP 0 (by decide))
  · have hflags : (planOver (raisePower s Bit.pwShedFault)).get F.pwr_FLAGS 0 = s.get F.pwr_FLAGS 0 ||| 2 ^ 2 :=
      (State.get_set_off _ F.pwr_SWITCHING F.pwr_FLAGS 0 0 0 (by decide)).trans (raisePower_flags s (by decide))
    rw [hst.power.get F.pwr_FLAGS rfl 0]
    refine (congrArg (fun v => Nat.testBit v 2) hflags).trans ?_
    rw [Nat.testBit_or, Nat.testBit_two_pow_self, Bool.or_true]

end

theorem plan_follows (s : State) (p : ShedPlan) (n : Nat) (rest : List Nat) (htamper : s.tamperOn = []) (hbrown : s.brownRails = [])
    (h4 : s.boot ≠ .waitS4) (h1 : s.boot ≠ .waitS1) (hplan : s.shedPlan = some p) (hraise : p.raise = n :: rest)
    (hn : n ∈ [2, 3, 5, 6, 7, 8, 9, 10, 11]) :
    (∃ t, exec (.shedRaiseDone n) s = .next t ∧
      (rest ≠ [] → t.shedUp n = true ∧ t.shedPlan = some { p with raise := rest }) ∧
      (rest = [] → s.waits = [] → t.shedUp n = true ∧ t.shedPlan = none ∧ t.on F.pwr_SWITCHING 0 = false)) ∧
    (p.fromCommand = true → ∀ w, s.waits = [w] → w.on = .sheds → ∃ t, exec (.shedFault n) s = .next t ∧
      t.shedPlan = none ∧ t.on F.pwr_SWITCHING 0 = false ∧ t.waits = [] ∧ t.shedUp n = s.shedUp n ∧
      (t.get F.pwr_FLAGS 0).testBit 2 = true) ∧
    (∀ m, m ≠ n → exec (.shedRaiseDone m) s = .next s ∧ exec (.shedFault m) s = .next s) := by
  have hlt := shed_lt hn
  have hup := exec_shedRaiseDone htamper hbrown h4 h1
  have hfault := exec_shedFault htamper hbrown h4 h1
  refine ⟨⟨_, hup n, planUp_goesOn hplan hraise hlt, planUp_last hplan hraise hlt⟩,
    fun hcmd w hw hon => ⟨_, hfault n, planFault_answers hplan hraise hcmd hw hon⟩, fun m hm => ⟨?_, ?_⟩⟩
  · rw [hup, planUp_other hplan hraise hm]
  · rw [hfault, planFault_other hplan hraise hm]

/-! ### The bypass -/

theorem steady_cutPairs (s : State) (ks : List Nat) : Steady s (ks.foldl cutPair s) :=
  steady_foldl cutPair (fun _ k ht => steady_cutPair ht k) ks (Steady.refl s)

theorem engagePairs_pairs (s : State) : (engagePairs s).pairs =
    s.pairs ++ (setBits (pairCount s) (bypassMask s)).filter (fun k => !s.pairs.contains k) :=
  congrArg (· ++ _) (steady_cutPairs s _).pairs

theorem engagePairs_pin (s : State) : (engagePairs s).bypassPin = s.bypassPin := (steady_cutPairs s _).pin

/-- Every masked pair of the variant is engaged. -/
theorem engagePairs_masked (s : State) {k : Nat} (hk : k < s.part.lanes / 2) (hm : (bypassMask s).testBit k = true) :
    k ∈ (engagePairs s).pairs := by
  rw [engagePairs_pairs, List.mem_append, List.mem_filter, mem_setBits]
  by_cases hin : k ∈ s.pairs
  · exact Or.inl hin
  · exact Or.inr ⟨⟨hk, hm⟩, by simpa using hin⟩

theorem bypassCause_pin (s : State) (hlife : s.life ≠ 3) (level : Bool) :
    bypassCause { s with bypassPin := level } = if level then 1 else if s.bypassCmd then 3 else 0 :=
  if_neg fun h => hlife (beq_iff_eq.1 h)

theorem bypassPin_engages (s : State) (hlife : s.life ≠ 3) : ∃ t, exec (.bypassPin true) s = .next t ∧ t.bypassPin = true ∧
    ∀ k, k < s.part.lanes / 2 → (bypassMask s).testBit k = true → k ∈ t.pairs := by
  have hst := steady_bypassClaim (Steady.refl (engagePairs { s with bypassPin := true }))
  refine ⟨_, by rw [exec, execBypassPin, followBypass, bypassCause_pin s hlife]; rfl, hst.pin.trans (engagePairs_pin _),
    fun k hk hm => ?_⟩
  rw [hst.pairs]
  exact engagePairs_masked { s with bypassPin := true } hk hm

theorem bypassPin_released (s : State) (hlife : s.life ≠ 3) (hcmd : s.bypassCmd = false) :
    exec (.bypassPin false) s = .next { s with bypassPin := false } := by
  rw [exec, execBypassPin, followBypass, bypassCause_pin s hlife, hcmd]
  rfl

theorem bypassHandback_returns (s : State) (k : Nat) (hcause : bypassCause s = 0) (hk : k ∈ s.pairs) :
    ∃ t, exec (.bypassHandback k) s = .next t ∧ t.pairs = s.pairs.filter (fun j => j != k) ∧
      t = { s with regs := t.regs, rx := t.rx, pairs := t.pairs } ∧ keepsRegsBut [(F.rx_STATE, 2 * k)] s t := by
  refine ⟨handPair s k, by rw [exec, execBypassHandback, if_pos (by simp [hcause, hk])], ?_⟩
  unfold handPair
  extract_lets n s1
  split
  · next hup =>
    have hlane : s1.laneUp n = true := (Bool.and_eq_true .. ▸ hup).1
    exact ⟨rfl, rfl, keepsRegsBut_set _ F.rx_STATE n 1 (List.mem_singleton_self _) (laneUp_lt hlane) (by decide)⟩
  · exact ⟨rfl, rfl, keepsRegsBut_refl _ s⟩

/-! ### A lane's pins -/

theorem lanePins_without_interlock (s : State) (n j c : Nat) (b rx : Bool) (howns : s.owns = false)
    (hfin : s.twin.finishing.contains n = false) : lanePins s n j b c rx = LanePins.off := by
  simp only [lanePins, ilkDrives, howns, hfin, Bool.false_and, Bool.or_false, Bool.not_false, if_true]

/-- A lane of no engaged pair whose own unit is dark. -/
theorem lanePins_unpowered (s : State) (n j c : Nat) (b rx : Bool) (hpair : inBypassPair s n = false)
    (hdark : lanePowered s n = false) :
    lanePins s n j b c rx = LanePins.off := by
  simp [lanePins, hpair, hdark]

theorem lanePowered_of_dark_bank (s : State) (n : Nat) (h : s.shedUp (laneShed n) = false) : lanePowered s n = false := by
  simp [lanePowered, State.laneUp, h]

theorem lanePowered_of_dark_pixels (s : State) (n : Nat) (h5 : s.shedUp 5 = false) (hpix : pixelMode (s.get F.tx_ACTIVE n) = true) :
    lanePowered s n = false := by
  simp [lanePowered, h5, hpix]

theorem ilkDrives_of_owns {s : State} {n : Nat} (howns : s.owns = true) (htake : s.twin.taking.contains n = false) :
    ilkDrives s n = true := by
  rw [ilkDrives, howns, htake]
  rfl

theorem lanePins_odd_of_pair (s : State) (n j c : Nat) (b rx : Bool) (hilk : ilkDrives s n = true) (hpair : inBypassPair s n = true)
    (hodd : n % 2 = 1) : lanePins s n j b c rx = LanePins.driven rx true := by
  simp [lanePins, hilk, hpair, bypassPins, hodd]

theorem lanePins_receiving (s : State) (n j c : Nat) (b rx : Bool) (hilk : ilkDrives s n = true) (hpair : inBypassPair s n = false)
    (hup : s.laneUp n = true) (hpad : s.on F.tx_PADDOCK n = false) (hmode : s.get F.tx_ACTIVE n ∈ [1, 5]) :
    lanePins s n j b c rx = LanePins.driven true false := by
  have hfit : n < s.part.lanes := by
    simp only [State.laneUp, Bool.and_eq_true, decide_eq_true_eq] at hup
    exact hup.1
  have hmodes : s.get F.tx_ACTIVE n = 1 ∨ s.get F.tx_ACTIVE n = 5 := by simpa using hmode
  obtain h | h := hmodes <;> simp [lanePins, hilk, hpair, lanePowered, hfit, hup, hpad, h, pixelMode, modePins]

/-- Settles O35: the command, the events of its plan, the bypass, and the pins case by case. -/
theorem shedsAndBypassFollow : Obligations.ShedsAndBypassFollow := fun s =>
  ⟨fun r n htakes hlen hno hn hup hfit hdown hneed hplan hwaits =>
      shedSet_begins s r n htakes hlen hno hn hup hfit hdown hneed hplan hwaits,
    plan_follows s, bypassPin_engages s, bypassPin_released s, bypassHandback_returns s,
    fun n j c b rx => ⟨lanePins_without_interlock s n j c b rx,
      fun hpair hbank => lanePins_unpowered s n j c b rx hpair (lanePowered_of_dark_bank s n hbank),
      fun hpair h5 hpix => lanePins_unpowered s n j c b rx hpair (lanePowered_of_dark_pixels s n h5 hpix),
      fun howns htake hpair hodd => lanePins_odd_of_pair s n j c b rx (ilkDrives_of_owns howns htake) hpair hodd,
      fun howns htake hpair hup hpad hmode =>
        lanePins_receiving s n j c b rx (ilkDrives_of_owns howns htake) hpair hup hpad hmode⟩⟩

end Sys2Proof.Machine
end

section
/-! PROOF. Records in a ring: what reading a stall's bytes gives after a record was written there (R214, R217, R259). -/

namespace Sys2Proof.Machine

/-! ### Where a word is served -/

theorem filter_tdrop {α : Type} (t : Tbl α) (k : Nat) (p : Nat × α → Bool) (hp : ∀ v, p (k, v) = false) :
    (tdrop t k).filter p = t.filter p := by
  induction t with
  | nil => rfl
  | cons e r ih =>
    obtain ⟨a, w⟩ := e
    unfold tdrop
    split
    · next ha => rw [ih, ha, List.filter_cons_of_neg (by simp [hp])]
    · rw [List.filter_cons, List.filter_cons, ih]

theorem filter_tins {α : Type} (t : Tbl α) (k : Nat) (v : α) (p : Nat × α → Bool) (hp : ∀ v, p (k, v) = false) :
    (tins t k v).filter p = t.filter p := by
  induction t with
  | nil => simp [tins, hp]
  | cons e r ih =>
    obtain ⟨a, w⟩ := e
    unfold tins
    split
    · rw [List.filter_cons_of_neg (by simp [hp])]
    · split
      · next ha => rw [List.filter_cons_of_neg (by simp [hp]), List.filter_cons_of_neg (by simp [← ha, hp])]
      · rw [List.filter_cons, List.filter_cons, ih]

/-- A filter that picks no entry of a key does not see what is put there. -/
theorem filter_tput {α : Type} [DecidableEq α] (t : Tbl α) (k : Nat) (v d : α) (p : Nat × α → Bool)
    (hp : ∀ v, p (k, v) = false) :
    (tput t k v d).filter p = t.filter p := by
  unfold tput
  split
  · exact filter_tdrop t k p hp
  · exact filter_tins t k v p hp

/-- The farrier's map alone says where a row stands. -/
theorem loc_setReg (s : State) {r : RegAddr} (hr : r.blk ≠ .farrierMap) (w : Word) (v : Nat) : (s.setReg r w).loc v = s.loc v := by
  have hget : ∀ (f : Field) (e : Nat), f.blk = .farrierMap → (s.setReg r w).get f e = s.get f e := fun f e hf => by
    rw [State.get, State.get, reg_setReg_blk s (q := f.addr e) (by rw [show (f.addr e).blk = f.blk from rfl, hf]; exact hr)]
  have hhere : ∀ b row, mapsHere (s.setReg r w) b row = mapsHere s b row := fun b row => by
    funext e
    simp only [mapsHere, State.on, hget F.map_ROW e rfl, hget F.map_VALID e rfl]
  have hentry : ∀ b row, mapEntry (s.setReg r w) b row = mapEntry s b row := fun b row => by
    have hfilter : (s.setReg r w).regs.filter (mapsRow b row) = s.regs.filter (mapsRow b row) := by
      refine filter_tput _ _ _ _ _ fun x => ?_
      have hne : blkCode r.blk ≠ blkCode .farrierMap := fun h => hr (blkCode_inj h)
      simp [mapsRow, keyBlk_regKey, hne]
    rw [mapEntry, mapEntry, hhere, hfilter]
  simp only [State.loc, State.cells, hentry]
  rfl

/-- In `t` every yard byte reads as in `s`, and the ring of stall `q` lies where it lay. -/
structure SameRing (q : Nat) (s t : State) : Prop where
  loc : ∀ w, t.loc w = s.loc w
  yard : t.yard = s.yard
  err : t.yardErr = s.yardErr
  ready : t.tablesReady = s.tablesReady
  base : (t.stall q).base = (s.stall q).base
  size : stallSize t q = stallSize s q

theorem SameRing.trans {q : Nat} {s t u : State} (h : SameRing q s t) (k : SameRing q t u) : SameRing q s u :=
  ⟨fun w => (k.loc w).trans (h.loc w), k.yard.trans h.yard, k.err.trans h.err, k.ready.trans h.ready, k.base.trans h.base,
    k.size.trans h.size⟩

theorem SameRing.yardByte {q : Nat} {s t : State} (h : SameRing q s t) (a : Nat) : t.yardByte a = s.yardByte a := by
  have hplace : t.place a = s.place a := by rw [State.place, State.place, h.loc]
  simp only [State.yardByte, State.yardCell, State.yardPattern, hplace, h.loc, h.yard, h.err, h.ready]

theorem SameRing.ringRead {q : Nat} {s t : State} (h : SameRing q s t) (p n : Nat) : ringRead t q p n = ringRead s q p n := by
  induction n generalizing p with
  | zero => rfl
  | succ n ih => rw [Machine.ringRead, Machine.ringRead, ih, h.yardByte, h.base, h.size]

theorem sameRing_set (q : Nat) (s : State) (f : Field) (i v : Nat) (hf : f.blk = .stall) (ho : f.off % 65536 ≠ 0) :
    SameRing q s (s.set f i v) :=
  ⟨loc_setReg s (by rw [show (f.addr i).blk = f.blk from rfl, hf]; decide) _, rfl, rfl, rfl, rfl,
    congrArg (2 ^ ·) (State.get_set_off s f F.stall_SIZE_LOG2 i q v ho)⟩

theorem sameRing_raiseStall (q : Nat) (s : State) (i bit : Nat) : SameRing q s (raiseStall s i bit) := by
  have hset := sameRing_set q s F.stall_FLAGS i (s.get F.stall_FLAGS i ||| 2 ^ bit) rfl (by decide)
  unfold raiseStall raise
  dsimp only
  split
  · exact ⟨fun _ => rfl, rfl, rfl, rfl, rfl, rfl⟩
  · split
    · exact ⟨hset.loc, hset.yard, hset.err, hset.ready, hset.base, hset.size⟩
    · exact hset

theorem sameRing_putStall (s : State) (q : Nat) (x : Stall) (hb : x.base = (s.stall q).base) : SameRing q s (s.putStall q x) :=
  ⟨fun _ => rfl, rfl, rfl, rfl, by rw [State.stall, State.putStall, tget_tput_self]; exact hb, rfl⟩

/-! ### Bytes stored and read back -/

theorem yardStore_place (s : State) (a : Nat) (l : List Byte) (k : Nat) : (s.yardStore a l).place k = s.place k := by
  induction l generalizing s a with
  | nil => rfl
  | cons b l ih => exact (ih _ _).trans (State.yardPut_place s a b k)

theorem place_word (s : State) (w : Nat) : s.place (8 * w) = 8 * s.loc w := by
  rw [State.place, Nat.mul_div_cancel_left w (by decide), Nat.mul_mod_right, Nat.add_zero]

theorem yardStore_loc (s : State) (a : Nat) (l : List Byte) (w : Nat) : (s.yardStore a l).loc w = s.loc w := by
  have h := yardStore_place s a l (8 * w)
  rw [place_word, place_word] at h
  exact Nat.eq_of_mul_eq_mul_left (by decide) h

theorem loc_inj {s : State} {v w : Nat} (hv : v < 0x3FFF80) (hw : w < 0x3FFF80) (h : s.loc v = s.loc w) : v = w := by
  have hplace : s.place (8 * v) = s.place (8 * w) := by rw [place_word, place_word, h]
  exact Nat.eq_of_mul_eq_mul_left (by decide) (place_inj (by omega) (by omega) hplace)

theorem readByte_clean (v : Byte) (p : Nat) : readByte v 0 p = v := rfl

theorem yardByte_eq (s : State) (a : Nat) : s.yardByte a = readByte (s.yardCell a) (s.yardPattern a) a := by
  unfold State.yardByte
  split
  · next h =>
    have hnone : s.yardPattern a = 0 := by rw [State.yardPattern, List.isEmpty_iff.1 h]; rfl
    rw [hnone, readByte_clean]
  · rfl

/-- A store frees the words it covers whole of errors and leaves the errors of the others. -/
theorem poke_pattern (s : State) (a : Nat) (l : List Byte) (k : Nat) : (s.poke a l).yardPattern k =
    if (fullWords a l.length).any (fun w => s.loc w == s.loc (k / 8)) then 0 else s.yardPattern k := by
  have hloc : (s.poke a l).loc (k / 8) = s.loc (k / 8) := yardStore_loc s a l (k / 8)
  have herr : (s.poke a l).yardErr = s.yardErr.filter (fun e => !(fullWords a l.length).any (fun w => s.loc w == e.1)) := by
    have hrest : (s.yardStore a l).yardErr = s.yardErr := by rw [State.yardStore_rest]
    rw [State.poke, State.freshen, hrest]
    simp only [yardStore_loc]
  rw [State.yardPattern, hloc, herr, tget_filter s.yardErr (fun k => !(fullWords a l.length).any (fun w => s.loc w == k))]
  cases (fullWords a l.length).any (fun w => s.loc w == s.loc (k / 8)) <;> rfl

section

variable {s : State} {a : Nat} {l : List Byte} (ha : a % 8 = 0) (hl : l.length % 8 = 0) (htop : a + l.length ≤ 0x1FFFC00)
include ha hl

theorem mem_fullWords (w : Nat) : w ∈ fullWords a l.length ↔ a ≤ 8 * w ∧ 8 * w < a + l.length := by
  simp only [fullWords, List.mem_map, List.mem_range]
  constructor
  · rintro ⟨k, hk, rfl⟩
    omega
  · rintro ⟨hlo, hhi⟩
    exact ⟨w - (a + 7) / 8, by omega, by omega⟩

include htop

theorem poke_byte_within {k : Nat} (hlo : a ≤ k) (hhi : k < a + l.length) : (s.poke a l).yardByte k = l.getD (k - a) 0 := by
  have hword : (fullWords a l.length).any (fun w => s.loc w == s.loc (k / 8)) = true :=
    List.any_eq_true.2 ⟨k / 8, (mem_fullWords ha hl _).2 (by omega), beq_self_eq_true _⟩
  rw [yardByte_eq, poke_pattern, hword, if_pos rfl, readByte_clean, State.poke_cell _ _ _ _ htop (by omega), if_pos ⟨hlo, hhi⟩]

theorem poke_byte_outside {k : Nat} (hk : k < 0x1FFFC00) (hout : ¬ (a ≤ k ∧ k < a + l.length)) :
    (s.poke a l).yardByte k = s.yardByte k := by
  have hword : ¬ (fullWords a l.length).any (fun w => s.loc w == s.loc (k / 8)) = true := by
    rw [List.any_eq_true]
    rintro ⟨w, hw, heq⟩
    have hin := (mem_fullWords ha hl w).1 hw
    have := loc_inj (by omega) (by omega) (beq_iff_eq.1 heq)
    omega
  rw [yardByte_eq, poke_pattern, if_neg hword, State.poke_cell _ _ _ _ htop hk, if_neg hout, ← yardByte_eq]

end

/-! ### A record in its ring -/

theorem ringRead_eq {t : State} {q p : Nat} {l : List Byte}
    (h : ∀ i, i < l.length → t.yardByte ((t.stall q).base + (p + i) % stallSize t q) = l.getD i 0) :
    ringRead t q p l.length = l := by
  induction l generalizing p with
  | nil => rfl
  | cons b l ih =>
    have hrest := ih (p := p + 1) fun i hi => by
      have := h (i + 1) (by simpa using hi)
      rwa [Nat.add_assoc, Nat.add_comm 1 i]
    rw [List.length_cons, ringRead, hrest]
    exact congrArg (· :: l) (h 0 (by simp))

theorem poke_stall (s : State) (a : Nat) (l : List Byte) (q : Nat) : (s.poke a l).stall q = s.stall q := by
  rw [State.poke_rest]
  rfl

theorem poke_stallSize (s : State) (a : Nat) (l : List Byte) (q : Nat) : stallSize (s.poke a l) q = stallSize s q := by
  rw [stallSize, State.get, State.poke_reg]
  rfl

/-- Two stores, up to a ring's end and on from its base: byte `i` stands where the ring counts it. -/
theorem pokes_byte (s : State) {base size p : Nat} {rec : List Byte} (hb : base % 8 = 0) (hp : p % 8 = 0)
    (hrec : rec.length % 8 = 0) (hsize : size % 8 = 0) (hle : rec.length ≤ size) (htop : base + size ≤ 0x1FFFC00) {i : Nat}
    (hi : i < rec.length) :
    ((s.poke (base + p % size) (rec.take (size - p % size))).poke base (rec.drop (size - p % size))).yardByte
      (base + (p + i) % size) = rec.getD i 0 := by
  have ho8 : p % size % 8 = 0 :=
    Nat.mod_eq_zero_of_dvd ((Nat.dvd_mod_iff (Nat.dvd_of_mod_eq_zero hsize)).2 (Nat.dvd_of_mod_eq_zero hp))
  have ho : p % size < size := Nat.mod_lt p (by omega)
  have hplace : (p + i) % size = if p % size + i < size then p % size + i else p % size + i - size := by
    rw [Nat.add_mod, Nat.mod_eq_of_lt (show i < size by omega)]
    split
    · next h => exact Nat.mod_eq_of_lt h
    · next h => rw [Nat.mod_eq_sub_mod (by omega), Nat.mod_eq_of_lt (by omega)]
  rw [hplace]
  generalize p % size = o at *
  have htake : (rec.take (size - o)).length = min (size - o) rec.length := List.length_take
  have hdrop : (rec.drop (size - o)).length = rec.length - (size - o) := List.length_drop
  split
  · next h =>
    rw [poke_byte_outside hb (by omega) (by omega) (by omega) (by omega),
      poke_byte_within (by omega) (by omega) (by omega) (by omega) (by omega)]
    rw [List.getD_eq_getElem?_getD, List.getD_eq_getElem?_getD, List.getElem?_take_of_lt (by omega)]
    congr 2
    omega
  · next h =>
    rw [poke_byte_within hb (by omega) (by omega) (by omega) (by omega), List.getD_eq_getElem?_getD, List.getD_eq_getElem?_getD,
      List.getElem?_drop]
    congr 2
    omega

theorem ringWrite_stall (s : State) (q p : Nat) (rec : List Byte) : (ringWrite s q p rec).stall q = s.stall q := by
  simp only [ringWrite, poke_stall]

theorem ringWrite_size (s : State) (q p : Nat) (rec : List Byte) : stallSize (ringWrite s q p rec) q = stallSize s q := by
  simp only [ringWrite, poke_stallSize]

theorem ringWrite_reg (s : State) (q p : Nat) (rec : List Byte) (r : RegAddr) : (ringWrite s q p rec).reg r = s.reg r := by
  simp only [ringWrite, State.poke_reg]

theorem ringWrite_rest (s : State) (q p : Nat) (rec : List Byte) :
    ringWrite s q p rec = { s with
      yard := (ringWrite s q p rec).yard, yardErr := (ringWrite s q p rec).yardErr, poison := (ringWrite s q p rec).poison,
      groomPass := (ringWrite s q p rec).groomPass } := by
  unfold ringWrite
  dsimp only
  rw [State.poke_rest, State.poke_rest s]

/-- A record of whole words written into a ring of whole words below the save buffers reads back, around the ring's end too. -/
theorem ringRead_ringWrite (s : State) (q p : Nat) (rec : List Byte) (hb : (s.stall q).base % 8 = 0) (hp : p % 8 = 0)
    (hrec : rec.length % 8 = 0) (hsize : stallSize s q % 8 = 0) (hle : rec.length ≤ stallSize s q)
    (htop : (s.stall q).base + stallSize s q ≤ 0x1FFFC00) : ringRead (ringWrite s q p rec) q p rec.length = rec := by
  refine ringRead_eq fun i hi => ?_
  rw [ringWrite_stall, ringWrite_size]
  exact pokes_byte s hb hp hrec hsize hle htop hi

/-! ### A record completes -/

theorem wmCheck_sameRing (s : State) (q before : Nat) : SameRing q s (wmCheck s q before) := by
  unfold wmCheck
  dsimp only
  split
  · exact (sameRing_set q s F.stall_WM_CROSS q _ rfl (by decide)).trans (sameRing_raiseStall q _ q _)
  · exact ⟨fun _ => rfl, rfl, rfl, rfl, rfl, rfl⟩

/-- The engine state of the stall once a record has completed, in the words of the model. -/
def stallFilled (s : State) (q : Nat) (rec : List Byte) : Stall :=
  let x := s.stall q
  { x with
    a := { x.a with wr := stallWrap s q (x.a.wr + rec.length) }, b := { x.a with wr := stallWrap s q (x.a.wr + rec.length) }
    lens := x.lens ++ [rec.length], published := (x.published + 1) % 65536
    head := if (unreadLens s q).isEmpty && s.get F.stall_READER q == 3 then rec else x.head }

/-- A record's bytes and its pointer, before its notice and the watermark. -/
def stallWritten (s : State) (q : Nat) (rec : List Byte) : State :=
  (ringWrite s q (s.stall q).a.wr rec).putStall q (stallFilled s q rec)

theorem stallPut_eq (s : State) (q : Nat) (rec : List Byte) : stallPut s q rec =
    wmCheck (raiseStall ((stallWritten s q rec).incWrap F.stall_RECORDS q) q Bit.stNotice) q (stallLevel s q) := by
  unfold stallPut
  dsimp only
  rw [ringWrite_stall]
  rfl

theorem wmCheck_rest (s : State) (q before : Nat) :
    wmCheck s q before = { s with regs := (wmCheck s q before).regs, fired := (wmCheck s q before).fired } := by
  unfold wmCheck
  dsimp only
  split
  · exact raise_rest ..
  · rfl

theorem wmCheck_get (s : State) (q before : Nat) (f : Field) (i : Nat) (h : f.off % 65536 ≠ 0x24 ∧ f.off % 65536 ≠ 0x30) :
    (wmCheck s q before).get f i = s.get f i := by
  unfold wmCheck
  dsimp only
  split
  · exact (raise_get_off _ F.stall_FLAGS _ q _ _ f i (Ne.symm h.1)).trans (State.get_set_off _ _ _ _ _ _ (Ne.symm h.2))
  · rfl

/-- A record's completion touches the yard's bytes, its stall and the stall's registers, and events may fire. -/
theorem stallPut_rest (s : State) (q : Nat) (rec : List Byte) : stallPut s q rec = { s with
    regs := (stallPut s q rec).regs, fired := (stallPut s q rec).fired, yard := (stallPut s q rec).yard,
    yardErr := (stallPut s q rec).yardErr, poison := (stallPut s q rec).poison, groomPass := (stallPut s q rec).groomPass,
    stalls := (stallPut s q rec).stalls } := by
  rw [stallPut_eq, wmCheck_rest, raiseStall, raise_rest, stallWritten, ringWrite_rest]
  rfl

theorem stallPut_stall (s : State) (q : Nat) (rec : List Byte) : (stallPut s q rec).stall q = stallFilled s q rec := by
  have hstalls : (stallPut s q rec).stalls = (stallWritten s q rec).stalls := by
    rw [stallPut_eq, wmCheck_rest, raiseStall, raise_rest]
    rfl
  rw [State.stall, hstalls]
  exact tget_tput_self _ _ _ _

theorem stallPut_get (s : State) (q : Nat) (rec : List Byte) (f : Field) (i : Nat)
    (h : f.off % 65536 ≠ 0x24 ∧ f.off % 65536 ≠ 0x30 ∧ f.off % 65536 ≠ 0x38) : (stallPut s q rec).get f i = s.get f i := by
  obtain ⟨hflags, hcross, hrecords⟩ := h
  rw [stallPut_eq, wmCheck_get _ _ _ _ _ ⟨hflags, hcross⟩, raiseStall, raise_get_off _ _ _ _ _ _ _ _ (Ne.symm hflags)]
  refine (State.get_set_off _ _ _ _ _ _ (Ne.symm hrecords)).trans ?_
  exact congrArg (fun w : Word => bits w.toNat f.lo f.width) (ringWrite_reg s q _ rec (f.addr i))

theorem stallPut_sameRing (s : State) (q : Nat) (rec : List Byte) :
    SameRing q (ringWrite s q (s.stall q).a.wr rec) (stallPut s q rec) := by
  rw [stallPut_eq]
  have hput : SameRing q (ringWrite s q (s.stall q).a.wr rec) (stallWritten s q rec) :=
    sameRing_putStall _ q _ (show (stallFilled s q rec).base = _ by rw [ringWrite_stall]; rfl)
  exact ((hput.trans (sameRing_set q _ F.stall_RECORDS q _ rfl (by decide))).trans (sameRing_raiseStall q _ q _)).trans
    (wmCheck_sameRing _ q _)

/-- A record reads back from where its stall's WR stood. -/
theorem ringRead_stallPut (s : State) (q : Nat) (rec : List Byte) (hb : (s.stall q).base % 8 = 0) (hp : (s.stall q).a.wr % 8 = 0)
    (hrec : rec.length % 8 = 0) (hsize : stallSize s q % 8 = 0) (hle : rec.length ≤ stallSize s q)
    (htop : (s.stall q).base + stallSize s q ≤ 0x1FFFC00) :
    ringRead (stallPut s q rec) q (s.stall q).a.wr rec.length = rec :=
  ((stallPut_sameRing s q rec).ringRead _ _).trans (ringRead_ringWrite s q _ rec hb hp hrec hsize hle htop)

/-! ### A record written with credit (R224, R226) -/

/-- The credit for `n` bytes is used up. -/
def spendCredit (s : State) (q n : Nat) : State := s.set F.stall_GRANTED q (s.get F.stall_GRANTED q - n)

theorem spendCredit_size (s : State) (q n : Nat) : stallSize (spendCredit s q n) q = stallSize s q :=
  congrArg (2 ^ ·) (State.get_set_off s F.stall_GRANTED F.stall_SIZE_LOG2 q q _ (by decide))

theorem written_granted (s : State) (q : Nat) (rec : List Byte) : (stallPut (spendCredit s q rec.length) q rec).get F.stall_GRANTED q =
    s.get F.stall_GRANTED q - rec.length := by
  rw [stallPut_get _ _ _ _ _ (by decide), spendCredit, State.get_set_self _ _ (by decide)]
  exact Nat.mod_eq_of_lt (Nat.lt_of_le_of_lt (Nat.sub_le ..) (get_lt s F.stall_GRANTED q))

theorem written_lens (s : State) (q : Nat) (rec : List Byte) :
    ((stallPut (spendCredit s q rec.length) q rec).stall q).lens = (s.stall q).lens ++ [rec.length] := by
  rw [stallPut_stall]
  rfl

/-- The stall takes a record of `n` bytes of the hub's own: it is allocated and runs, and the credit is there. -/
structure TakesRecord (s : State) (q n : Nat) : Prop where
  on : stallOn s q = true
  running : (s.stall q).reset = none
  agree : mismatchOf (s.stall q) = 0
  size : n ≤ stallSize s q
  credit : s.on F.stall_MODE q = true
  granted : n ≤ s.get F.stall_GRANTED q

section

variable {s : State} {q : Nat} {rec : List Byte} (h : TakesRecord s q rec.length)
include h

theorem ownWrite_credit : ownWrite s q rec = some (stallPut (spendCredit s q rec.length) q rec) := by
  have hon := h.on
  simp only [stallOn, Bool.and_eq_true, bne_iff_ne] at hon
  obtain ⟨halloc, hup⟩ := hon
  have hsize := Nat.not_lt.2 h.size
  have hgranted := Nat.not_lt.2 h.granted
  have hoffer : stallOffer s q rec = stallPut (spendCredit s q rec.length) q rec := by
    simp [stallOffer, hup, halloc, h.running, hsize, h.credit, hgranted, comparePtrs, h.agree, spendCredit]
  simp [ownWrite, h.on, h.running, hsize, h.credit, h.granted, hoffer]

theorem written_ringRead (hb : (s.stall q).base % 8 = 0) (hp : (s.stall q).a.wr % 8 = 0) (hrec : rec.length % 8 = 0)
    (hmin : 8 ≤ rec.length) (htop : (s.stall q).base + stallSize s q ≤ 0x1FFFC00) :
    ringRead (stallPut (spendCredit s q rec.length) q rec) q (s.stall q).a.wr rec.length = rec := by
  have hsize := spendCredit_size s q rec.length
  have hle := h.size
  have h8 : stallSize s q % 8 = 0 := by
    have hlog : 3 ≤ s.get F.stall_SIZE_LOG2 q := (Nat.pow_le_pow_iff_right (show 1 < 2 by decide)).1 (hmin.trans hle)
    exact Nat.mod_eq_zero_of_dvd (pow_dvd_pow 2 hlog)
  exact ringRead_stallPut (spendCredit s q rec.length) q rec hb hp hrec (by rw [hsize]; exact h8) (by rw [hsize]; exact hle)
    (by rw [hsize]; exact htop)

end

end Sys2Proof.Machine
end

section
/-! PROOF. Events and held messages (R35, R474, R482 to R485): taking an event's flags, merging its record, the bytes of a record,
and the rows that write records into Q240 and Q243. -/

namespace Sys2Proof.Machine

/-! ### Taking an event -/

/-- The registers an event reads have numbers and offsets of 16 bits. -/
theorem eventFlags_small {e : Nat} (he : e < 256) :
    ∀ x ∈ eventFlags e, x.2.1 < 65536 ∧ x.1.off < 65536 ∧ x.1.lo + x.1.width ≤ 32 := by
  revert e
  decide +kernel

/-- Clearing one field leaves a field that reads 0 at 0. -/
theorem get_set_zero (s : State) (f g : Field) (i j : Nat) (hf : i < 65536 ∧ f.off < 65536 ∧ f.fits)
    (hg : j < 65536 ∧ g.off < 65536) (h0 : s.get f i = 0) : (s.set g j 0).get f i = 0 := by
  obtain ⟨hi, ho, hfit⟩ := hf
  by_cases haddr : f.addr i = g.addr j
  · apply Nat.eq_of_testBit_eq
    intro k
    have hk := congrArg (fun v => Nat.testBit v k) h0
    simp only [State.get, State.set, ← haddr, State.reg_setReg_self, testBit_bits, Nat.zero_testBit] at hk ⊢
    by_cases hw : k < f.width
    · rw [testBit_putField _ _ _ _ (by have : f.lo + f.width ≤ 32 := hfit; omega)]
      split
      · simp
      · exact hk
    · simp [hw]
  · rw [← h0]
    exact State.get_set_key _ _ _ _ _ (fun hkey => haddr (regKey_inj hi ho hg.1 hg.2 hkey)) _

/-- The fields of a list cleared one after another, as EVENT_FIRE clears the flags it read. -/
def clearFlags (l : List (Field × Nat × Nat)) (s : State) : State := l.foldl (fun t x => t.set x.1 x.2.1 0) s

theorem clearFlags_rest (l : List (Field × Nat × Nat)) (s : State) : clearFlags l s = { s with regs := (clearFlags l s).regs } := by
  induction l generalizing s with
  | nil => rfl
  | cons x l ih => exact ih (s.set x.1 x.2.1 0)

section

variable {l : List (Field × Nat × Nat)} (hl : ∀ x ∈ l, x.2.1 < 65536 ∧ x.1.off < 65536 ∧ x.1.lo + x.1.width ≤ 32)
include hl

theorem clearFlags_keeps_zero (s : State) (f : Field) (i : Nat) (hf : i < 65536 ∧ f.off < 65536 ∧ f.fits) (h0 : s.get f i = 0) :
    (clearFlags l s).get f i = 0 := by
  induction l generalizing s with
  | nil => exact h0
  | cons x l ih =>
    obtain ⟨hi, ho, -⟩ := hl x (List.mem_cons_self ..)
    exact ih (fun y hy => hl y (List.mem_cons_of_mem x hy)) _ (get_set_zero s f x.1 i x.2.1 hf ⟨hi, ho⟩ h0)

theorem clearFlags_zero (s : State) : ∀ x ∈ l, (clearFlags l s).get x.1 x.2.1 = 0 := by
  induction l generalizing s with
  | nil => simp
  | cons y l ih =>
    have hrest : ∀ z ∈ l, _ := fun z hz => hl z (List.mem_cons_of_mem y hz)
    intro x hx
    obtain rfl | hx := List.mem_cons.1 hx
    · have hy := hl x (List.mem_cons_self ..)
      exact clearFlags_keeps_zero hrest _ _ _ hy ((State.get_set_self s x.1 hy.2.2 _ 0).trans (Nat.zero_mod _))
    · exact ih hrest _ x hx

theorem clearFlags_keeps (s : State) : keepsRegsBut (l.map (fun x => (x.1, x.2.1))) s (clearFlags l s) := by
  suffices h : ∀ m : List (Field × Nat), (∀ x ∈ l, (x.1, x.2.1) ∈ m) → keepsRegsBut m s (clearFlags l s) from
    h _ fun x hx => List.mem_map.2 ⟨x, hx, rfl⟩
  intro m hm
  induction l generalizing s with
  | nil => exact keepsRegsBut_refl m s
  | cons x l ih =>
    obtain ⟨hi, ho, -⟩ := hl x (List.mem_cons_self ..)
    exact keepsRegsBut_trans (keepsRegsBut_set s x.1 x.2.1 0 (hm x (List.mem_cons_self ..)) hi ho)
      (ih (fun y hy => hl y (List.mem_cons_of_mem x hy)) _ fun y hy => hm y (List.mem_cons_of_mem x hy))

end

theorem eventTake_flags {e : Nat} (he : e ≠ 252) (s : State) : eventTake s e = clearFlags (eventFlags e) s :=
  if_neg (by simpa using he)

/-- E252 keeps its flags and E253 to E255 have none. -/
theorem eventTake_own {e : Nat} (h : 252 ≤ e) (he : e < 256) (s : State) : eventTake s e = s := by
  obtain rfl | rfl | rfl | rfl : e = 252 ∨ e = 253 ∨ e = 254 ∨ e = 255 := by omega
  all_goals rfl

theorem eventTake_rest (s : State) (e : Nat) : eventTake s e = { s with regs := (eventTake s e).regs } := by
  by_cases he : e = 252
  · rw [he]
    rfl
  · rw [eventTake_flags he]
    exact clearFlags_rest _ s

theorem eventTake_keeps (s : State) {e : Nat} (he : e < 256) :
    keepsRegsBut ((eventFlags e).map (fun x => (x.1, x.2.1))) s (eventTake s e) := by
  by_cases h : e = 252
  · rw [eventTake_own h.ge he]
    exact keepsRegsBut_refl _ s
  · rw [eventTake_flags h]
    exact clearFlags_keeps (eventFlags_small he) s

/-! ### Merging a firing -/

/-- The pending record of an event with one firing more. -/
def merged (x : EvtRec) (fi : Firing) (detail : Nat) : EvtRec :=
  if x.count == 0 then { count := 1, detail := BitVec.ofNat 32 detail, stamp := fi.stamp, tsState := fi.tsState, late := fi.late }
  else { x with count := min 65535 (x.count + 1), detail := x.detail ||| BitVec.ofNat 32 detail, late := x.late || fi.late }

theorem mergeEvent_eq (s : State) (fi : Firing) (detail : Nat) : mergeEvent s fi detail =
    { s with evts := tput s.evts fi.event (merged (tget s.evts fi.event {}) fi detail) {} } := rfl

theorem merged_count (x : EvtRec) (fi : Firing) (detail : Nat) : (merged x fi detail).count = min 65535 (x.count + 1) := by
  unfold merged
  split
  · next h => rw [beq_iff_eq.1 h]; rfl
  · rfl

theorem merged_detail (x : EvtRec) (fi : Firing) (detail : Nat) :
    (merged x fi detail).detail = (if x.count = 0 then 0 else x.detail) ||| BitVec.ofNat 32 detail := by
  unfold merged
  split
  · next h => rw [if_pos (beq_iff_eq.1 h)]; exact (BitVec.zero_or).symm
  · next h => rw [if_neg (fun h0 => h (beq_iff_eq.2 h0))]

theorem exec_eventFire (s : State) {e : Nat} {fi : Firing} (hrun : s.running = true)
    (hfind : s.fired.find? (fun x => x.event == e) = some fi) : exec (.eventFire e) s =
      .next (if eventEnabled s e then mergeEvent { eventTake s e with fired := s.fired.erase fi } fi (eventDetail s fi)
        else { eventTake s e with fired := s.fired.erase fi }) := by
  rw [exec, execEventFire, hfind]
  exact if_neg (by simp [hrun])

theorem eventFire_takes (s : State) (e : Nat) (fi : Firing) (hrun : s.running = true) (he : e < 256)
    (hfind : s.fired.find? (fun x => x.event == e) = some fi) :
    ∃ t, exec (.eventFire e) s = .next t ∧ t = { s with regs := t.regs, fired := s.fired.erase fi, evts := t.evts } ∧
      (e < 252 → ∀ x ∈ eventFlags e, t.get x.1 x.2.1 = 0) ∧ (252 ≤ e → t.regs = s.regs) ∧
      keepsRegsBut ((eventFlags e).map (fun x => (x.1, x.2.1))) s t ∧
      (∀ k, k ≠ e → tget t.evts k {} = tget s.evts k {}) ∧
      (eventEnabled s e = false → t.evts = s.evts) ∧
      (eventEnabled s e = true → (tget t.evts e {}).count = min 65535 ((tget s.evts e {}).count + 1) ∧
        (tget t.evts e {}).detail = (if (tget s.evts e {}).count = 0 then 0 else (tget s.evts e {}).detail) |||
          BitVec.ofNat 32 (eventDetail s fi)) := by
  have hevent : fi.event = e := by simpa using List.find?_some hfind
  have hrest := eventTake_rest s e
  have hevts : (eventTake s e).evts = s.evts := by rw [eventTake_rest]
  have hzero : e < 252 → ∀ x ∈ eventFlags e, (eventTake s e).get x.1 x.2.1 = 0 := fun h => by
    rw [eventTake_flags (Nat.ne_of_lt h)]
    exact clearFlags_zero (eventFlags_small he) s
  have hown : 252 ≤ e → (eventTake s e).regs = s.regs := fun h => by rw [eventTake_own h he]
  refine ⟨_, exec_eventFire s hrun hfind, ?_⟩
  cases henabled : eventEnabled s e with
  | false =>
    refine ⟨?_, hzero, hown, eventTake_keeps s he, fun k _ => by rw [← hevts]; rfl, fun _ => hevts,
      fun h => absurd h Bool.false_ne_true⟩
    rw [hrest]
    rfl
  | true =>
    have hmerge : (mergeEvent { eventTake s e with fired := s.fired.erase fi } fi (eventDetail s fi)).evts =
        tput s.evts e (merged (tget s.evts e {}) fi (eventDetail s fi)) {} := by
      rw [mergeEvent_eq, hevent, ← hevts]
    refine ⟨?_, hzero, hown, eventTake_keeps s he, fun k hk => ?_, fun h => absurd h.symm Bool.false_ne_true,
      fun _ => ?_⟩
    · rw [mergeEvent_eq, hrest]
      rfl
    · rw [if_pos rfl, hmerge]
      exact tget_tput_ne _ hk _ _ _
    · rw [if_pos rfl, hmerge, tget_tput_self]
      exact ⟨merged_count _ _ _, merged_detail _ _ _⟩

/-! ### The bytes of a record -/

theorem ofLe_le4 (v : Nat) : ofLe (le 4 v) = v % 4294967296 := by
  simp only [le, ofLe, BitVec.toNat_ofNat]
  omega

/-- The second word of a record's header. -/
def kindWord (h : Hdr) : Nat :=
  h.source % 65536 + h.cls % 4 * 65536 + h.kind % 16 * 1048576 + h.agree % 8 * 16777216 + b2n h.degraded * 134217728

theorem mkRecord_kindWord (h : Hdr) (body : List Byte) : u32 (mkRecord h body) 4 = kindWord h % 4294967296 := ofLe_le4 _

theorem mkRecord_seq (h : Hdr) (body : List Byte) : u32 (mkRecord h body) 8 = h.seqn % 4294967296 := ofLe_le4 _

theorem pad8_length (b : List Byte) : (pad8 b).length % 8 = 0 := by
  simp only [pad8, List.length_append, List.length_replicate]
  omega

theorem mkRecord_length (h : Hdr) (body : List Byte) : (mkRecord h body).length = 24 + (pad8 body).length := by
  simp only [mkRecord, List.length_append]
  rfl

theorem mkRecord_words (h : Hdr) (body : List Byte) : (mkRecord h body).length % 8 = 0 ∧ 8 ≤ (mkRecord h body).length := by
  have := pad8_length body
  rw [mkRecord_length]
  omega

/-- The first body word of an event's record. -/
def countWord (e : Nat) (x : EvtRec) : Nat := e % 256 + b2n x.late * 256 + x.count % 65536 * 65536

theorem eventRecord_length (s : State) (e : Nat) (x : EvtRec) : (eventRecord s e x).length = 32 := by
  rw [eventRecord, mkRecord_length]
  simp [pad8, le]

theorem eventRecord_countWord (s : State) (e : Nat) (x : EvtRec) :
    u32 (eventRecord s e x) 24 = countWord e x % 4294967296 := ofLe_le4 _

theorem eventRecord_kindWord (s : State) (e : Nat) (x : EvtRec) : u32 (eventRecord s e x) 4 = 4206592 := by
  refine (mkRecord_kindWord _ _).trans ?_
  generalize hh : ({ s.ownHdr 4 s.evtSeq with stamp := x.stamp, tsState := x.tsState } : Hdr) = h
  have hsource : h.source = 0x3000 := by rw [← hh]; rfl
  have hkind : h.kind = 4 := by rw [← hh]; rfl
  have hcls : h.cls = 0 := by rw [← hh]; rfl
  have hagree : h.agree = 0 := by rw [← hh]; rfl
  have hdegraded : b2n h.degraded = 0 := by rw [← hh]; rfl
  rw [kindWord, hsource, hkind, hcls, hagree, hdegraded]

theorem eventRecord_detail (s : State) (e : Nat) (x : EvtRec) : u32 (eventRecord s e x) 28 = x.detail.toNat :=
  (ofLe_le4 _).trans (Nat.mod_eq_of_lt x.detail.isLt)

theorem eventRecord_fields (s : State) {e : Nat} (he : e < 256) (x : EvtRec) :
    fld (eventRecord s e x) 4 20 4 = 4 ∧ fld (eventRecord s e x) 4 0 16 = 0x3000 ∧
      u32 (eventRecord s e x) 8 = s.evtSeq % 4294967296 ∧ fld (eventRecord s e x) 24 0 8 = e ∧
      fld (eventRecord s e x) 24 8 1 = b2n x.late ∧ fld (eventRecord s e x) 24 16 16 = x.count % 65536 ∧
      u32 (eventRecord s e x) 28 = x.detail.toNat := by
  have hlate : b2n x.late ≤ 1 := by cases x.late <;> decide
  have hword : countWord e x % 4294967296 = e + b2n x.late * 256 + x.count % 65536 * 65536 := by
    rw [countWord]
    omega
  simp only [fld, eventRecord_kindWord, eventRecord_countWord, hword, bits]
  exact ⟨rfl, rfl, mkRecord_seq _ _, by omega, by omega, by omega, eventRecord_detail s e x⟩

/-! ### The rows that write them -/

theorem exec_eventRecordWrite (s : State) {e : Nat} {u : State} (hcount : (tget s.evts e {}).count ≠ 0) (hup : s.shedUp 1 = true)
    (hwrite : ownWrite s 240 (eventRecord s e (tget s.evts e {})) = some u) : exec (.eventRecordWrite e) s =
      .next { u with evts := tdrop u.evts e, evtSeq := (u.evtSeq + 1) % 4294967296 } := by
  have hgo : ((tget s.evts e {}).count == 0 || !s.shedUp 1) = false := by
    rw [beq_eq_false_iff_ne.2 hcount, hup]
    rfl
  rw [exec, execEventRecordWrite, hgo, hwrite]
  rfl

theorem eventRecordWrite_writes (s : State) (e : Nat) (hcount : (tget s.evts e {}).count ≠ 0)
    (hup : s.shedUp 1 = true) (htakes : TakesRecord s 240 32) :
    ∃ t, exec (.eventRecordWrite e) s = .next t ∧ tget t.evts e {} = {} ∧
      ((s.stall 240).base % 8 = 0 → (s.stall 240).a.wr % 8 = 0 → (s.stall 240).base + stallSize s 240 ≤ 0x1FFFC00 →
        ringRead t 240 (s.stall 240).a.wr 32 = eventRecord s e (tget s.evts e {})) ∧
      (∀ k, k ≠ e → tget t.evts k {} = tget s.evts k {}) ∧ t.evtSeq = (s.evtSeq + 1) % 4294967296 ∧
      (t.stall 240).lens = (s.stall 240).lens ++ [32] ∧ t.get F.stall_GRANTED 240 = s.get F.stall_GRANTED 240 - 32 := by
  generalize hrec : eventRecord s e (tget s.evts e {}) = rec
  have hlen : rec.length = 32 := by rw [← hrec]; exact eventRecord_length s e _
  have htakes : TakesRecord s 240 rec.length := by rw [hlen]; exact htakes
  have hevts : (stallPut (spendCredit s 240 rec.length) 240 rec).evts = s.evts := by rw [stallPut_rest]; rfl
  have hseq : (stallPut (spendCredit s 240 rec.length) 240 rec).evtSeq = s.evtSeq := by rw [stallPut_rest]; rfl
  have hread := written_ringRead htakes
  have hlens := written_lens s 240 rec
  have hgranted := written_granted s 240 rec
  have hwrite := ownWrite_credit htakes
  generalize stallPut (spendCredit s 240 rec.length) 240 rec = u at *
  rw [hlen] at hlens hgranted hread
  refine ⟨_, exec_eventRecordWrite s hcount hup (by rw [hrec]; exact hwrite), tget_tdrop_self _ _ _, fun hb hp htop => ?_,
    fun k hk => ?_, by rw [hseq], hlens, hgranted⟩
  · have hsame : SameRing 240 u { u with evts := tdrop u.evts e, evtSeq := (u.evtSeq + 1) % 4294967296 } :=
      ⟨fun _ => rfl, rfl, rfl, rfl, rfl, rfl⟩
    exact (hsame.ringRead _ _).trans (hread hb hp (by decide) (by decide) htop)
  · rw [← hevts]
    exact tget_tdrop_ne _ hk _

theorem completeEntry_rest (s : State) (e : Option Nat) : completeEntry s e = { s with cmds := (completeEntry s e).cmds } := by
  cases e <;> rfl

/-- The state once the oldest held message is in Q243, from the state `u` in which its record was written. -/
def messageWritten (u : State) (m : Spilled) (rest : List Spilled) : State :=
  let n := tget u.spillCount m.mbo 0 + 1
  fireDetail (completeEntry { u with spill := rest, spillSeq := (u.spillSeq + 1) % 4294967296,
                                     spillCount := tput u.spillCount m.mbo n 0 } m.entry) 255 (m.mbo % 8 + min n 255 * 256)

theorem exec_spillRecordWrite (s : State) {m : Spilled} {rest : List Spilled} {u : State} (hrun : s.running = true)
    (hspill : s.spill = m :: rest) (hwrite : ownWrite s 243 (spillRecord s m.mbo m.bytes) = some u) :
    exec .spillRecordWrite s = .next (messageWritten u m rest) := by
  rw [exec, execSpillRecordWrite, hspill]
  simp [hrun, hwrite, messageWritten]

theorem messageWritten_rest (u : State) (m : Spilled) (rest : List Spilled) :
    messageWritten u m rest = { u with
      spill := rest, spillSeq := (u.spillSeq + 1) % 4294967296,
      spillCount := tput u.spillCount m.mbo (tget u.spillCount m.mbo 0 + 1) 0, cmds := (messageWritten u m rest).cmds,
      fired := (messageWritten u m rest).fired } := by
  unfold messageWritten
  dsimp only
  rw [completeEntry_rest]
  rfl

/-- E255 fires with the message's mailbox in DETAIL. -/
theorem messageWritten_fires (u : State) (m : Spilled) (rest : List Spilled) :
    ∃ f ∈ (messageWritten u m rest).fired, f.event = 255 ∧ f.detail.toNat % 8 = m.mbo % 8 := by
  refine ⟨_, List.mem_append_right _ (List.mem_singleton_self _), rfl, ?_⟩
  dsimp only
  rw [BitVec.toNat_ofNat]
  omega

theorem spillRecordWrite_writes (s : State) (m : Spilled) (rest : List Spilled) (hrun : s.running = true)
    (hspill : s.spill = m :: rest) (htakes : TakesRecord s 243 (spillRecord s m.mbo m.bytes).length) :
    ∃ t, exec .spillRecordWrite s = .next t ∧ t.spill = rest ∧ t.spillSeq = (s.spillSeq + 1) % 4294967296 ∧
      tget t.spillCount m.mbo 0 = tget s.spillCount m.mbo 0 + 1 ∧
      ((s.stall 243).base % 8 = 0 → (s.stall 243).a.wr % 8 = 0 → (s.stall 243).base + stallSize s 243 ≤ 0x1FFFC00 →
        ringRead t 243 (s.stall 243).a.wr (spillRecord s m.mbo m.bytes).length = spillRecord s m.mbo m.bytes) ∧
      (t.stall 243).lens = (s.stall 243).lens ++ [(spillRecord s m.mbo m.bytes).length] ∧
      (∃ f ∈ t.fired, f.event = 255 ∧ f.detail.toNat % 8 = m.mbo % 8) := by
  obtain ⟨hwords, hmin⟩ : (spillRecord s m.mbo m.bytes).length % 8 = 0 ∧ 8 ≤ (spillRecord s m.mbo m.bytes).length :=
    mkRecord_words _ _
  have hexec := fun u => exec_spillRecordWrite s (u := u) hrun hspill
  generalize spillRecord s m.mbo m.bytes = rec at *
  have hcount : (stallPut (spendCredit s 243 rec.length) 243 rec).spillCount = s.spillCount := by rw [stallPut_rest]; rfl
  have hseq : (stallPut (spendCredit s 243 rec.length) 243 rec).spillSeq = s.spillSeq := by rw [stallPut_rest]; rfl
  have hread := written_ringRead htakes
  have hlens := written_lens s 243 rec
  have hwrite := ownWrite_credit htakes
  generalize stallPut (spendCredit s 243 rec.length) 243 rec = u at *
  have hout := messageWritten_rest u m rest
  have hsame : SameRing 243 u (messageWritten u m rest) := by
    rw [hout]
    exact ⟨fun _ => rfl, rfl, rfl, rfl, rfl, rfl⟩
  refine ⟨_, hexec u hwrite, congrArg State.spill hout, ?_, ?_, fun hb hp htop => ?_, ?_, messageWritten_fires u m rest⟩
  · rw [hout, hseq]
  · rw [hout, hcount]
    exact tget_tput_self s.spillCount m.mbo (tget s.spillCount m.mbo 0 + 1) 0
  · exact (hsame.ringRead _ _).trans (hread hb hp hwords hmin htop)
  · rw [hout]
    exact hlens

/-- Settles O20: an event taken, its record written, a held message written. -/
theorem eventsAndSpilledMessagesBecomeRecords : Obligations.EventsAndSpilledMessagesBecomeRecords := fun s =>
  ⟨fun e fi hrun he hfind => eventFire_takes s e fi hrun he hfind,
    fun e he hcount hup hon hreset hagree hsize hmode hgranted => ⟨eventRecord_fields s he _,
      eventRecordWrite_writes s e hcount hup ⟨hon, hreset, hagree, hsize, hmode, hgranted⟩⟩,
    fun m rest hrun hspill hon hreset hagree hsize hmode hgranted =>
      spillRecordWrite_writes s m rest hrun hspill ⟨hon, hreset, hagree, hsize, hmode, hgranted⟩⟩

end Sys2Proof.Machine
end

section
/-! PROOF. What a step that writes some fields of one unit leaves to read: fields that share no bit with those written, and
registers of other blocks. -/

namespace Sys2Proof.Machine

/-! ### Fields apart -/

/-- Two fields share no bit: another block, another register, or other bits of the same register. -/
def apartFrom (f g : Field) : Bool :=
  f.blk != g.blk || f.off != g.off || decide (f.lo + f.width ≤ g.lo) || decide (g.lo + g.width ≤ f.lo)

/-- A field of a whole register word that shares no bit with the fields listed. -/
def standsBeside (fs : List Field) (g : Field) : Bool :=
  g.off % 4 == 0 && decide (g.off < 4096) && fs.all (fun f => apartFrom f g)

/-- One object's fields, each with its number, as frames list them. -/
abbrev fieldsAt (fs : List Field) (n : Nat) : List (Field × Nat) := fs.map (fun f => (f, n))

theorem namedBits_getLsbD (l : List (Field × Nat)) (r : RegAddr) (k : Nat) (hk : k < 32) :
    (namedBits l r).getLsbD k = l.any (fun e => decide (e.1.addr e.2 = r) && e.1.mask.testBit k) := by
  simp only [namedBits, BitVec.getLsbD_ofNat, hk, decide_true, Bool.true_and, testBit_foldl_mask, Nat.zero_testBit, Bool.false_or,
    List.any_filter]

/-- A field beside those written reads as before. -/
theorem get_of_keeps {fs : List Field} {n : Nat} {s t : State} (h : keepsRegsBut (fieldsAt fs n) s t) (hn : n < 65536) (g : Field)
    (hg : standsBeside fs g = true) : t.get g n = s.get g n := by
  simp only [standsBeside, Bool.and_eq_true, beq_iff_eq, decide_eq_true_eq, List.all_eq_true] at hg
  obtain ⟨⟨halign, hoff⟩, hapart⟩ := hg
  have hreg := h (g.addr n) (by simp [wfReg, Field.addr, halign, hoff, hn])
  apply Nat.eq_of_testBit_eq
  intro k
  simp only [State.get, testBit_bits, BitVec.testBit_toNat]
  by_cases hk : k < g.width
  · by_cases h32 : g.lo + k < 32
    · have hbit := congrArg (fun w : Word => w.getLsbD (g.lo + k)) hreg
      have hnone : (namedBits (fieldsAt fs n) (g.addr n)).getLsbD (g.lo + k) = false := by
        rw [namedBits_getLsbD _ _ _ h32, List.any_map, List.any_eq_false]
        intro f hf
        have := hapart f hf
        simp only [apartFrom, Bool.or_eq_true, bne_iff_ne, ne_eq, decide_eq_true_eq] at this
        simp only [Function.comp_apply, Field.addr, RegAddr.mk.injEq, testBit_mask, Bool.and_eq_true, decide_eq_true_eq, true_and]
        rintro ⟨⟨hb, ho⟩, hlo, hhi⟩
        obtain ((h1 | h1) | h1) | h1 := this
        · exact h1 hb
        · exact h1 ho
        · omega
        · omega
      simp only [BitVec.getLsbD_and, BitVec.getLsbD_not, hnone, h32, decide_true, Bool.not_false, Bool.and_true] at hbit
      rw [hbit]
    · simp [BitVec.getLsbD_of_ge _ _ (Nat.le_of_not_lt h32)]
  · simp [hk]

theorem on_of_keeps {fs : List Field} {n : Nat} {s t : State} (h : keepsRegsBut (fieldsAt fs n) s t) (hn : n < 65536) (g : Field)
    (hg : standsBeside fs g = true) : t.on g n = s.on g n := by
  rw [State.on, State.on, get_of_keeps h hn g hg]

/-- A register at which no field is listed is as it was. -/
theorem reg_of_keeps {l : List (Field × Nat)} {s t : State} (h : keepsRegsBut l s t) {r : RegAddr} (hr : wfReg r = true)
    (hl : ∀ e ∈ l, e.1.addr e.2 ≠ r) : t.reg r = s.reg r := by
  have hnone : namedBits l r = 0 := by
    rw [namedBits, List.filter_eq_nil_iff.2 (fun e he => by simpa using hl e he)]
    rfl
  have hreg := h r hr
  rwa [hnone, BitVec.ofNat_eq_ofNat, BitVec.not_zero, BitVec.and_allOnes, BitVec.and_allOnes] at hreg

/-- A field of another block reads as before. -/
theorem get_of_keeps_block {fs : List Field} {n : Nat} {s t : State} (h : keepsRegsBut (fieldsAt fs n) s t) (g : Field) (i : Nat)
    (hi : i < 65536) (hw : (g.off % 4 == 0 && decide (g.off < 4096)) = true) (hb : fs.all (fun f => f.blk != g.blk) = true) :
    t.get g i = s.get g i := by
  simp only [Bool.and_eq_true, beq_iff_eq, decide_eq_true_eq, List.all_eq_true, bne_iff_ne, ne_eq] at hw hb
  obtain ⟨halign, hoff⟩ := hw
  refine get_of_reg (reg_of_keeps h (by simp [wfReg, Field.addr, halign, hoff, hi]) ?_)
  intro e he
  obtain ⟨f, hf, rfl⟩ := List.mem_map.1 he
  exact fun e => hb f hf (congrArg RegAddr.blk e)

/-- Registers outside those that the fields listed lie in. -/
theorem keepsRegsOutside_of_keeps {l : List (Field × Nat)} {s t : State} (h : keepsRegsBut l s t) {p : RegAddr → Bool}
    (hp : ∀ e ∈ l, p (e.1.addr e.2) = true) : keepsRegsOutside p s t := by
  intro r hr hpr
  refine reg_of_keeps h hr fun e he heq => ?_
  rw [← heq, hp e he] at hpr
  cases hpr

/-- A frame over more fields. -/
theorem keeps_more {fs gs : List Field} {n : Nat} {s t : State} (h : keepsRegsBut (fieldsAt fs n) s t) (hsub : fs ⊆ gs) :
    keepsRegsBut (fieldsAt gs n) s t := by
  refine keepsRegsBut_mono h fun e he => ?_
  obtain ⟨f, hf, rfl⟩ := List.mem_map.1 he
  exact List.mem_map.2 ⟨f, hsub hf, rfl⟩

theorem keeps_set {fs : List Field} {n : Nat} (s : State) (f : Field) (v : Nat) (hf : f ∈ fs) (hn : n < 65536) (ho : f.off < 65536) :
    keepsRegsBut (fieldsAt fs n) s (s.set f n v) := keepsRegsBut_set s f n v (List.mem_map.2 ⟨f, hf, rfl⟩) hn ho

/-! ### Fields of other blocks -/

theorem get_set_block (s : State) (f g : Field) (i j v : Nat) (h : f.blk ≠ g.blk) : (s.set f i v).get g j = s.get g j :=
  get_of_reg (reg_setReg_blk s (r := f.addr i) (q := g.addr j) h _)

theorem get_inc_off (s : State) (f g : Field) (i j : Nat) (h : f.off % 65536 ≠ g.off % 65536) : (s.inc f i).get g j = s.get g j :=
  State.get_set_off s f g i j _ h

theorem get_inc_beside (s : State) (f g : Field) (i : Nat) (hb : f.blk = g.blk) (ho : f.off = g.off) (hg : g.fits)
    (h : f.lo + f.width ≤ g.lo ∨ g.lo + g.width ≤ f.lo) : (s.inc f i).get g i = s.get g i :=
  State.get_set_beside s f g i _ hb ho hg h

theorem get_inc_block (s : State) (f g : Field) (i j : Nat) (h : f.blk ≠ g.blk) : (s.inc f i).get g j = s.get g j :=
  get_set_block s f g i j _ h

theorem get_raise_block (s : State) (fl ev : Field) (i bit e : Nat) (g : Field) (j : Nat) (h : fl.blk ≠ g.blk) :
    (raise s fl ev i bit e).get g j = s.get g j := by
  rw [raise_get]
  split
  · rfl
  · exact get_set_block s fl g i j _ h

/-! ### Flags latched -/

/-- A flag raised is latched, and its event fires where it rose enabled. -/
theorem raise_flagged (s : State) (fl ev : Field) (i bit e : Nat) (hf : fl.fits) (hb : bit < fl.width) (hblk : fl.blk ≠ .time) :
    flagged fl ev i bit e s (raise s fl ev i bit e) := by
  refine ⟨raise_get_self s fl ev hf i bit e hb, ?_⟩
  have hkey : regKey (F.time_SERVO.addr 0) ≠ regKey (fl.addr i) := fun h => hblk (by
    have := congrArg keyBlk h
    rw [keyBlk_regKey, keyBlk_regKey] at this
    exact (blkCode_inj this).symm)
  rw [raise_fired _ _ _ _ _ _ hkey]
  cases hflag : (s.get fl i).testBit bit <;> cases hen : (s.get ev i).testBit bit <;> simp [firingOf]

/-- A flag latched after a step that left it, its enable, the firings and the time as they were. -/
theorem flagged_after {fl ev : Field} {i bit e : Nat} {s u t : State} (h : flagged fl ev i bit e u t) (hfl : u.get fl i = s.get fl i)
    (hev : u.get ev i = s.get ev i) (hfired : u.fired = s.fired) (htod : u.tod = s.tod)
    (hservo : u.get F.time_SERVO 0 = s.get F.time_SERVO 0) : flagged fl ev i bit e s t := by
  obtain ⟨hbit, hfire⟩ := h
  simp only [hfl, hev, hfired, State.stamp, htod, State.tsState, hservo] at hbit hfire
  exact ⟨hbit, hfire⟩

/-- What leaves the flags and the firings alone keeps an event's mark. -/
theorem flagged_before {fl ev : Field} {i bit e : Nat} {s t u : State} (h : flagged fl ev i bit e s t) (hfl : u.get fl i = t.get fl i)
    (hfired : u.fired = t.fired) : flagged fl ev i bit e s u :=
  ⟨hfl.trans h.1, hfired.trans h.2⟩

theorem flagged_testBit {fl ev : Field} {i bit e : Nat} {s t : State} (h : flagged fl ev i bit e s t) :
    (t.get fl i).testBit bit = true := by
  rw [h.1, Nat.testBit_or, Nat.testBit_two_pow_self, Bool.or_true]

/-- Latching a flag clears none. -/
theorem raise_testBit (s : State) (fl ev : Field) (hf : fl.fits) (i bit e : Nat) (hb : bit < fl.width) {k : Nat}
    (h : (s.get fl i).testBit k = true) : ((raise s fl ev i bit e).get fl i).testBit k = true := by
  rw [raise_get_self s fl ev hf i bit e hb, Nat.testBit_or, h, Bool.true_or]

end Sys2Proof.Machine
end

section
/-! PROOF. Counter clears (R85, R118, R145, R153, R185, R206, R279, R348, R367, R386, R454, R455): clearing fields clears them and
nothing else. -/

namespace Sys2Proof.Machine

/-! ### Fields cleared -/

/-- A field lies inside a word at an offset that no other offset shares a key with. -/
def wholeField (f : Field) : Bool := decide f.fits && decide (f.off < 65536)

theorem clear_get_zero {fs : List Field} (hfs : fs.all wholeField = true) {f : Field} (hf : f ∈ fs) (s : State) {i : Nat}
    (hi : i < 65536) : (s.clear fs i).get f i = 0 := by
  have hwhole : ∀ g ∈ fs, g.fits ∧ g.off < 65536 := fun g hg => by
    simpa [wholeField] using List.all_eq_true.1 hfs g hg
  obtain ⟨hfit, hoff⟩ := hwhole f hf
  apply Nat.eq_of_testBit_eq
  intro k
  rw [State.get, testBit_bits, Nat.zero_testBit]
  by_cases hk : k < f.width
  · have hcov : coveredBit fs f.blk f.off (f.lo + k) = true := List.any_eq_true.2 ⟨f, hf, by simp [hk]⟩
    have h32 : f.lo + k < 32 := by
      have : f.lo + f.width ≤ 32 := hfit
      omega
    rw [BitVec.testBit_toNat, Field.addr, clear_bit fs (fun g hg => (hwhole g hg).2) s _ _ _ _ hi hoff h32, hcov]
    simp
  · simp [hk]

theorem clear_keeps {fs : List Field} (hfs : fs.all wholeField = true) {l : List (Field × Nat)} {i : Nat} (hi : i < 65536)
    (hl : ∀ f ∈ fs, (f, i) ∈ l) (s : State) : keepsRegsBut l s (s.clear fs i) := by
  induction fs generalizing s with
  | nil => exact keepsRegsBut_refl l s
  | cons f fs ih =>
    rw [List.all_cons, Bool.and_eq_true] at hfs
    obtain ⟨hf, hrest⟩ := hfs
    have hoff : f.off < 65536 := by
      simp only [wholeField, Bool.and_eq_true, decide_eq_true_eq] at hf
      exact hf.2
    exact keepsRegsBut_trans (keepsRegsBut_set s f i 0 (hl f List.mem_cons_self) hi hoff)
      (ih hrest (fun g hg => hl g (List.mem_cons_of_mem f hg)) _)

/-- Clearing fields of one object leaves them 0 and all else as it was. -/
theorem cleared_clear {fs : List Field} (hfs : fs.all wholeField = true) {i : Nat} (hi : i < 65536) (s : State) :
    cleared fs i s (s.clear fs i) :=
  ⟨clear_only fs s i, fun _ hf => clear_get_zero hfs hf s hi, clear_keeps hfs hi (fun f hf => List.mem_map.2 ⟨f, hf, rfl⟩) s⟩

/-- A row that clears an object's fields where its unit is fitted and powered. -/
theorem clears_of_exec {c : Instr} {s : State} {b : Bool} {fs : List Field} {i : Nat}
    (hexec : exec c s = .next (if b = true then s.clear fs i else s)) (hb : b = true) (hfs : fs.all wholeField = true) (hi : i < 65536) :
    ∃ t, exec c s = .next t ∧ cleared fs i s t :=
  ⟨s.clear fs i, by rw [hexec, if_pos hb], cleared_clear hfs hi s⟩

/-! ### Receivers -/

/-- LANE_RX_CNT_CLR: the counters read 0 and PEAK starts again at LEVEL (R91). -/
theorem laneRxCntClr_clears (s : State) (n : Nat) (hn : n < 96) (hup : s.laneUp n = true) :
    ∃ t, exec (.laneRxCntClr n) s = .next t ∧ t = { s with regs := t.regs } ∧ (∀ f ∈ rxCounters, t.get f n = 0) ∧
      t.get F.rx_PEAK n = s.get F.rx_LEVEL n ∧
      keepsRegsOutside (fun q => q.blk == .laneRx && q.inst == n && decide (0x20 ≤ q.off) && decide (q.off ≤ 0x44)) s t ∧
      t.get F.rx_LEVEL n = s.get F.rx_LEVEL n := by
  have hi : n < 65536 := by omega
  have hcounters : rxCounters.all wholeField = true := by decide
  have hkeep := clear_keeps hcounters hi (l := fieldsAt (F.rx_PEAK :: rxCounters) n)
    (fun f hf => List.mem_map.2 ⟨f, List.mem_cons_of_mem _ hf, rfl⟩) s
  have hpeak := keeps_set (fs := [F.rx_PEAK]) (s.clear rxCounters n) F.rx_PEAK (s.get F.rx_LEVEL n) (by simp) hi (by decide)
  refine ⟨clearRxCounters s n, by simp only [exec, execLaneRxCntClr, hup, if_pos],
    regsOnly_trans (clear_only rxCounters s n) (regsOnly_set _ F.rx_PEAK n _), fun f hf => ?_, ?_, ?_, ?_⟩
  · have hbeside : ∀ g ∈ rxCounters, standsBeside [F.rx_PEAK] g = true := by decide
    exact (get_of_keeps hpeak hi f (hbeside f hf)).trans (clear_get_zero hcounters hf s hi)
  · exact (State.get_set_self _ F.rx_PEAK (by decide) n _).trans (Nat.mod_eq_of_lt (get_lt s F.rx_LEVEL n))
  · refine keepsRegsOutside_of_keeps (keepsRegsBut_trans hkeep (keeps_more hpeak (by simp))) fun e he => ?_
    obtain ⟨f, hf, rfl⟩ := List.mem_map.1 he
    have hplace : ∀ g ∈ F.rx_PEAK :: rxCounters, g.blk = .laneRx ∧ 0x20 ≤ g.off ∧ g.off ≤ 0x44 := by decide
    obtain ⟨hblk, hlo, hhi⟩ := hplace f hf
    simp [Field.addr, hblk, hlo, hhi]
  · exact (get_of_keeps hpeak hi F.rx_LEVEL (by decide)).trans
      (get_of_keeps (cleared_clear hcounters hi s).2.2 hi F.rx_LEVEL (by decide))

/-! ### Sequence numbers -/

/-- SEQ_CLR: the source's next sentence has number 0 and is marked (R145). -/
theorem seqClr_clears (s : State) (i : Nat) (hi : i < 65536) (hfit : s.part.hasSource i = true) (hup : s.shedUp 2 = true) :
    ∃ t, exec (.seqClr i) s = .next t ∧ t = { s with regs := t.regs, srcs := t.srcs } ∧ t.get F.parse_NEXT i = 0 ∧
      t.source i = { s.source i with seqStart := true, lastNext := 0 } ∧ (∀ k, k ≠ i → t.source k = s.source k) ∧
      keepsRegsBut [(F.parse_NEXT, i)] s t := by
  refine ⟨clearSeq s i, by simp only [exec, execSeqClr, hfit, hup, Bool.and_self, if_pos], rfl, ?_, ?_, fun k hk => ?_, ?_⟩
  · exact State.get_set_self s F.parse_NEXT (by decide) i 0
  · exact tget_tput_self _ _ _ _
  · exact tget_tput_ne _ hk _ _ _
  · exact keepsRegsBut_set s F.parse_NEXT i 0 List.mem_cons_self hi (by decide)

/-! ### Measurement channels -/

/-- The counters of one channel (R386). -/
def chCounters : List Field := [F.ch_OVERRANGE, F.ch_LIMIT]

/-- The first `k` channels' counters cleared. -/
def clearChannels (s : State) (k : Nat) : State := (List.range k).foldl (fun t n => t.clear chCounters n) s

theorem clearChannels_succ (s : State) (k : Nat) : clearChannels s (k + 1) = (clearChannels s k).clear chCounters k := by
  rw [clearChannels, List.range_succ, List.foldl_append]
  rfl

/-- Clearing one channel's counters leaves another's. -/
theorem clearChannel_other (s : State) {k n : Nat} (hk : k < 65536) (hn : n < 65536) (hne : k ≠ n) (g : Field) (hg : g.off < 65536) :
    (s.clear chCounters k).get g n = s.get g n :=
  (State.get_set_inst _ F.ch_LIMIT g k n 0 hk hn hne (by decide) hg).trans
    (State.get_set_inst s F.ch_OVERRANGE g k n 0 hk hn hne (by decide) hg)

theorem clearChannels_zero (s : State) {k : Nat} (hk : k < 65536) {n : Nat} (hn : n < k) {f : Field} (hf : f ∈ chCounters) :
    (clearChannels s k).get f n = 0 := by
  induction k with
  | zero => omega
  | succ k ih =>
    have hoff : ∀ g ∈ chCounters, g.off < 65536 := by decide
    rw [clearChannels_succ]
    by_cases hlast : n = k
    · exact hlast ▸ clear_get_zero (by decide) hf _ (by omega)
    · rw [clearChannel_other _ (by omega) (by omega) (Ne.symm hlast) f (hoff f hf)]
      exact ih (by omega) (by omega)

theorem clearChannels_only (s : State) (k : Nat) : regsOnly s (clearChannels s k) := by
  induction k with
  | zero => exact regsOnly_refl s
  | succ k ih =>
    rw [clearChannels_succ]
    exact regsOnly_trans ih (clear_only _ _ _)

theorem clearChannels_keeps {l : List (Field × Nat)} (s : State) {k : Nat} (hk : k < 65536)
    (hl : ∀ n < k, ∀ f ∈ chCounters, (f, n) ∈ l) : keepsRegsBut l s (clearChannels s k) := by
  induction k with
  | zero => exact keepsRegsBut_refl l s
  | succ k ih =>
    rw [clearChannels_succ]
    exact keepsRegsBut_trans (ih (by omega) fun n hn => hl n (by omega)) (clear_keeps (by decide) (by omega) (hl k (by omega)) _)

theorem clearChannels_lost (s : State) {k : Nat} : (clearChannels s k).get F.meas_CAL_LOG_LOST 0 = s.get F.meas_CAL_LOG_LOST 0 := by
  induction k with
  | zero => rfl
  | succ k ih =>
    rw [clearChannels_succ, ← ih]
    exact (get_set_block _ F.ch_LIMIT F.meas_CAL_LOG_LOST _ _ _ (by decide)).trans
      (get_set_block _ F.ch_OVERRANGE F.meas_CAL_LOG_LOST _ _ _ (by decide))

/-- MEAS_CNT_CLR: every channel's counters and CAL_LOG_LOST. -/
theorem measCntClr_clears (s : State) (hup : s.shedUp 6 = true) :
    ∃ t, exec .measCntClr s = .next t ∧ t = { s with regs := t.regs } ∧ t.get F.meas_CAL_LOG_LOST 0 = 0 ∧
      (∀ n, n < 24 → t.get F.ch_OVERRANGE n = 0 ∧ t.get F.ch_LIMIT n = 0) ∧
      keepsRegsBut ((F.meas_CAL_LOG_LOST, 0) :: (List.range 24).flatMap (fun n => [(F.ch_OVERRANGE, n), (F.ch_LIMIT, n)])) s t := by
  let u := s.set F.meas_CAL_LOG_LOST 0 0
  refine ⟨clearChannels u 24, by simp only [exec, execMeasCntClr, hup, if_pos]; rfl,
    regsOnly_trans (t := u) rfl (clearChannels_only u 24), ?_, fun n hn => ⟨?_, ?_⟩, ?_⟩
  · rw [clearChannels_lost]
    exact State.get_set_self s F.meas_CAL_LOG_LOST (by decide) 0 0
  · exact clearChannels_zero u (by decide) hn (by decide)
  · exact clearChannels_zero u (by decide) hn (by decide)
  · refine keepsRegsBut_trans (keepsRegsBut_set s F.meas_CAL_LOG_LOST 0 0 List.mem_cons_self (by decide) (by decide))
      (clearChannels_keeps u (by decide) fun n hn f hf => List.mem_cons_of_mem _ (List.mem_flatMap.2 ⟨n, List.mem_range.2 hn, ?_⟩))
    simpa [chCounters] using hf

/-! ### Stalls -/

/-- STALL_CNT_CLR is accepted in every state of an allocated stall outside a reset (R232). -/
theorem stallCntClr_clears (s : State) (q : Nat) (hq : q < 256) (hup : s.shedUp 4 = true) (hsize : s.get F.stall_SIZE_LOG2 q ≠ 0)
    (hstate : s.get F.stall_STATE q ≠ 0) (hreset : (s.stall q).reset = none) :
    ∃ t, exec (.stallCntClr ⟨q, 0⟩) s = .next t ∧ cleared [F.stall_LOST, F.stall_RESETS] q s t := by
  have haccepts : readerAccepts (s.get F.stall_STATE q) 8 = true := by simpa [readerAccepts] using hstate
  have hcmd : readerCmd s q 8 0 = s.clear [F.stall_LOST, F.stall_RESETS] q := by
    simp [readerCmd, hup, hsize, corruptPtrs, movesPtrs, hreset, haccepts, readerMove, State.clear]
  exact ⟨_, congrArg Host.Outcome.next hcmd, cleared_clear (by decide) (by omega) s⟩

/-! ### Router -/

theorem clear_hits (fs : List Field) (s : State) (i : Nat) (h : Tbl Nat) :
    ({ s with hits := h } : State).clear fs i = { s.clear fs i with hits := h } := by
  induction fs generalizing s with
  | nil => rfl
  | cons f fs ih => exact ih (s.set f i 0)

/-- The counters of ROUTER_CFG.CNT_CLR beside the hits (R185). -/
def routerCounters : List Field := [F.router_CLASSIFIED, F.router_MISS, F.router_DROPPED, F.router_BAD_DROPPED,
  F.router_CLASS0_REFUSED, F.router_DECIMATED, F.router_RATE_DROP, F.router_EMPTY_GROUP, F.router_COPIES, F.router_COPY_ABANDONED,
  F.router_HOOKS, F.router_HOOK_ERR, F.router_SWAPS]

theorem routerCntClr_clears (s : State) (hup : s.shedUp 2 = true) :
    ∃ t, exec .routerCntClr s = .next t ∧ t.hits = [] ∧ cleared routerCounters 0 { s with hits := [] } t := by
  refine ⟨{ s.clear routerCounters 0 with hits := [] }, by simp only [exec, execRouterCntClr, hup, if_pos]; rfl, rfl, ?_⟩
  rw [← clear_hits]
  exact cleared_clear (by decide) (by decide) _

/-- Settles O30: each row clears a list of fields of one object (`cleared_clear`); the receiver's PEAK, SEQ_CLR and the
measurement block have their own lemmas. -/
theorem counterClearsClearExactlyTheirCounters : Obligations.CounterClearsClearExactlyTheirCounters := by
  intro s
  have hlanes := lanes_le s.part
  have hports : s.part.ports ≤ 2 := by cases s.part <;> decide
  exact ⟨fun n hn hup => laneRxCntClr_clears s n hn hup, fun n hn hup => clears_of_exec rfl hup (by decide) (by omega),
    fun i hi hfit hup => clears_of_exec rfl (by simp [hfit, hup]) (by decide) hi,
    fun i hi hfit hup => seqClr_clears s i hi hfit hup, fun hup => routerCntClr_clears s hup, fun hup => clears_of_exec rfl hup (by decide) (by decide),
    fun hup => clears_of_exec rfl hup (by decide) (by decide),
    fun hfit hup => clears_of_exec rfl (by simp [hfit, hup]) (by decide) (by decide),
    fun n hn hfit hup => clears_of_exec rfl (by simp [hfit, hup, hn]) (by decide) (by omega),
    fun hup => measCntClr_clears s hup,
    fun hfit hup => clears_of_exec rfl (by simp [hfit, hup]) (by decide) (by decide),
    fun p hp hup => clears_of_exec rfl (by simp [hp, hup]) (by decide) (by omega), fun q hq hup hsize hstate hreset => stallCntClr_clears s q hq hup hsize hstate hreset⟩

end Sys2Proof.Machine
end

section
/-! PROOF. Lane receivers (R60 to R92): what each shared operation of a receiver writes, reads back and leaves. Every lemma is
about lane `n`, and `fieldsAt` lists the fields of its block that may move. -/

namespace Sys2Proof.Machine

/-! ### Receivers and contexts beside the registers -/

@[simp] theorem rxLane_putRx_self (s : State) (n : Nat) (x : LaneRx) : (s.putRx n x).rxLane n = x := by
  rw [State.rxLane, State.putRx, tget_tput_self]

theorem rxLane_putRx_ne (s : State) {n k : Nat} (x : LaneRx) (h : k ≠ n) : (s.putRx n x).rxLane k = s.rxLane k :=
  tget_tput_ne _ h _ _ _

theorem rx_of_onlyRegs {s t : State} (h : onlyRegs s t) : t.rx = s.rx := by
  unfold onlyRegs at h
  rw [h]

theorem rxLane_of_onlyRegs {s t : State} (h : onlyRegs s t) (k : Nat) : t.rxLane k = s.rxLane k := by
  rw [State.rxLane, rx_of_onlyRegs h]
  rfl

theorem receiversFired_of_onlyRegs {s t : State} (h : onlyRegs s t) : receiversFired s t := by
  unfold onlyRegs at h
  unfold receiversFired
  rw [h]

theorem receiversFired_of_onlyReceivers {s t : State} (h : onlyReceivers s t) : receiversFired s t := by
  unfold onlyReceivers at h
  unfold receiversFired
  rw [h]

theorem receiversFired_putRx {s t : State} (h : receiversFired s t) (n : Nat) (x : LaneRx) : receiversFired s (t.putRx n x) :=
  receiversFired_trans h rfl

theorem onlyReceivers_putRx {s t : State} (h : onlyReceivers s t) (n : Nat) (x : LaneRx) : onlyReceivers s (t.putRx n x) :=
  onlyReceivers_trans h rfl

theorem receives_of {m : Nat} (h : m = 1 ∨ m = 3 ∨ m = 5) : receives m = true := by
  obtain rfl | rfl | rfl := h <;> rfl

/-- Fields of the receivers' block are in no other. -/
theorem blocks_ne {fs : List Field} {b : Blk} (hfs : fs.all (fun f => f.blk == .laneRx) = true) (hb : b ≠ .laneRx) :
    fs.all (fun f => f.blk != b) = true := List.all_eq_true.2 fun f hf => by
  have hblk := List.all_eq_true.1 hfs f hf
  simp only [beq_iff_eq] at hblk
  simpa [hblk] using Ne.symm hb

/-- A receiver's mode is read from other blocks than its own. -/
theorem laneMode_of_keeps {fs : List Field} {n : Nat} {s t : State} (h : keepsRegsBut (fieldsAt fs n) s t) (hn : n < 65536)
    (hfs : fs.all (fun f => f.blk == .laneRx) = true) (hpart : t.part = s.part) : laneMode t n = laneMode s n := by
  have hactive := get_of_keeps_block h F.tx_ACTIVE n hn (by decide) (blocks_ne hfs (by decide))
  have hup := get_of_keeps_block h F.pwr_UP 0 (by decide) (by decide) (blocks_ne hfs (by decide))
  rw [laneMode, laneMode, State.laneUp, State.laneUp, State.shedUp, State.shedUp, hup, hpart, hactive]

theorem autobaudOn_of_keeps {fs : List Field} {n : Nat} {s t : State} (h : keepsRegsBut (fieldsAt fs n) s t) (hn : n < 65536)
    (hfs : fs.all (fun f => f.blk == .laneRx) = true) (hab : standsBeside fs F.rx_AB_EN = true) (hpart : t.part = s.part) :
    autobaudOn t n = autobaudOn s n := by
  rw [autobaudOn, autobaudOn, on_of_keeps h hn _ hab, laneMode_of_keeps h hn hfs hpart]

/-- What a field of one bit reads after 1 or 0 was written. -/
theorem on_set_one (s : State) (f : Field) (hf : f.fits) (hw : 0 < f.width) (i : Nat) : (s.set f i 1).on f i = true :=
  State.on_setB s f hf hw i true

theorem on_set_zero (s : State) (f : Field) (hf : f.fits) (hw : 0 < f.width) (i : Nat) : (s.set f i 0).on f i = false :=
  State.on_setB s f hf hw i false

/-! ### Events counted and flagged (R90, R92) -/

/-- The flags of a lane's receiver that read 1 still do. -/
def flagsStand (n : Nat) (s t : State) : Prop := ∀ k, (s.get F.rx_FLAGS n).testBit k = true → (t.get F.rx_FLAGS n).testBit k = true

theorem flagsStand.trans {n : Nat} {s t u : State} (h : flagsStand n s t) (k : flagsStand n t u) : flagsStand n s u :=
  fun b hb => k b (h b hb)

theorem flagsStand_of_eq {n : Nat} {s t : State} (h : t.get F.rx_FLAGS n = s.get F.rx_FLAGS n) : flagsStand n s t :=
  fun _ hk => by rwa [h]

theorem rxCounters_whole : ∀ f ∈ rxCounters, f.blk = .laneRx ∧ f.fits ∧ f.off < 4096 ∧ 0x20 ≤ f.off := by decide

theorem raiseRx_keeps (s : State) {n : Nat} (hn : n < 65536) (bit : Nat) :
    keepsRegsBut (fieldsAt [F.rx_FLAGS] n) s (raiseRx s n bit) := raise_keeps s _ _ _ _ _ List.mem_cons_self hn (by decide)

theorem raiseRx_only (s : State) (n bit : Nat) : onlyRegs s (raiseRx s n bit) := raise_rest _ _ _ _ _ _

theorem raiseRx_flagged (s : State) (n : Nat) {bit : Nat} (hb : bit < 12) :
    flagged F.rx_FLAGS F.rx_EVEN n bit n s (raiseRx s n bit) := raise_flagged s _ _ _ _ _ (by decide) hb (by decide)

theorem raiseRx_flags (s : State) (n : Nat) {bit : Nat} (hb : bit < 12) : flagsStand n s (raiseRx s n bit) :=
  fun _ hk => raise_testBit s F.rx_FLAGS _ (by decide) n bit n hb hk

section

variable (s : State) {n : Nat} {f : Field} (hf : f ∈ rxCounters) {bit : Nat}
include hf

theorem rxEvent_keeps (hn : n < 65536) : keepsRegsBut (fieldsAt [f, F.rx_FLAGS] n) s (rxEvent s n f bit) := by
  obtain ⟨-, -, hoff, -⟩ := rxCounters_whole f hf
  exact keepsRegsBut_trans (keeps_set s f _ List.mem_cons_self hn (by omega)) (keeps_more (raiseRx_keeps _ hn bit) (by simp))

theorem rxEvent_count : (rxEvent s n f bit).get f n = min (s.get f n + 1) (2 ^ f.width - 1) := by
  obtain ⟨-, hfit, hoff, hlo⟩ := rxCounters_whole f hf
  have hne : F.rx_FLAGS.off % 65536 ≠ f.off % 65536 := by
    rw [show F.rx_FLAGS.off = 0x18 from rfl]
    omega
  exact (raise_get_off _ _ _ _ _ _ f n hne).trans (State.get_inc s f hfit n)

variable (hb : bit < 12)
include hb

theorem rxEvent_flagged : flagged F.rx_FLAGS F.rx_EVEN n bit n s (rxEvent s n f bit) := by
  obtain ⟨hblk, -, hoff, hlo⟩ := rxCounters_whole f hf
  have hne : ∀ g : Field, g.off < 0x20 → f.off % 65536 ≠ g.off % 65536 := fun g hg => by omega
  exact flagged_after (raiseRx_flagged _ n hb) (get_inc_off s f _ n n (hne F.rx_FLAGS (by decide)))
    (get_inc_off s f _ n n (hne F.rx_EVEN (by decide))) rfl rfl (get_inc_block s f _ n 0 (by rw [hblk]; decide))

theorem rxEvent_flags : flagsStand n s (rxEvent s n f bit) := fun k hk => by
  rw [(rxEvent_flagged s hf hb).1, Nat.testBit_or, hk, Bool.true_or]

end

theorem rxEvent_only (s : State) (n : Nat) (f : Field) (bit : Nat) : onlyRegs s (rxEvent s n f bit) :=
  onlyRegs_trans (t := s.inc f n) rfl (raiseRx_only _ n bit)

/-! ### A cause noted (R138) -/

/-- A cause that only damages the open sentence leaves all but the parser's contexts. -/
theorem roleCause_noted (s : State) (n : Nat) {c : Nat} (hc : c ∉ [1, 5, 6]) :
    roleCause s n c = { s with srcs := (roleCause s n c).srcs } := by
  have hnot : (c == 1 || c == 5 || c == 6) = false := by
    simpa [and_assoc] using hc
  have hcause : ∀ src, laneCause s src c = { s with srcs := (laneCause s src c).srcs } := by
    intro src
    unfold laneCause
    simp only [hnot, Bool.false_eq_true, if_false]
    split <;> rfl
  unfold roleCause
  split
  · exact hcause _
  · rfl

/-- With no open sentence of the lane's role there is none to take the cause. -/
theorem roleCause_closed (s : State) (n c : Nat) (h : laneOpen s n = false) : roleCause s n c = s := by
  unfold roleCause
  split
  · next hrole =>
    simp only [Bool.and_eq_true, decide_eq_true_eq] at hrole
    have hnone : (s.source (s.get F.tx_ROLE n)).sent = none := by
      simpa [laneOpen, hrole.1, hrole.2] using h
    simp only [laneCause, hnone]
  · rfl

/-! ### A character ends (R76, R86) -/

theorem takeBaud_period (s : State) (n : Nat) (f g : Field) (v w : Nat) (hf : f.off = 0x14) (hg : g.off = 0x14) :
    ((s.set f n v).set g n w).reg ⟨.laneRx, n, 4⟩ = s.reg ⟨.laneRx, n, 4⟩ := by
  rw [reg_set_off _ _ _ _ _ _ _ (by rw [hg]; decide), reg_set_off _ _ _ _ _ _ _ (by rw [hf]; decide)]

theorem charDone_rxLane (s : State) (n st : Nat) (level : Bool) : (charDone s n st level).rxLane n =
    { s.rxLane n with confirmed := false, baud := baudPeriod (s.reg ⟨.laneRx, n, 4⟩) } := by
  have hbaud : ((s.set F.rx_STATE n st).setB F.rx_LINE n level).reg (F.rx_DIV_INT.addr n) = s.reg ⟨.laneRx, n, 4⟩ :=
    takeBaud_period s n F.rx_STATE F.rx_LINE _ _ rfl rfl
  simp only [charDone, takeBaud, rxLane_putRx_self, hbaud]
  rfl

theorem charDone_rxLane_ne (s : State) {n k : Nat} (st : Nat) (level : Bool) (h : k ≠ n) :
    (charDone s n st level).rxLane k = s.rxLane k :=
  (rxLane_putRx_ne _ _ h).trans (rxLane_putRx_ne _ _ h)

theorem charDone_only (s : State) (n st : Nat) (level : Bool) : onlyReceivers s (charDone s n st level) := by
  have hset : onlyReceivers s ((s.set F.rx_STATE n st).setB F.rx_LINE n level) := rfl
  exact onlyReceivers_trans hset rfl

theorem charDone_regs (s : State) (n st : Nat) (level : Bool) :
    (charDone s n st level).regs = ((s.set F.rx_STATE n st).setB F.rx_LINE n level).regs := rfl

/-- The fields that the end of a character moves. -/
def endFields : List Field := [F.rx_STATE, F.rx_LINE]

theorem charDone_keeps (s : State) {n : Nat} (hn : n < 65536) (st : Nat) (level : Bool) :
    keepsRegsBut (fieldsAt endFields n) s (charDone s n st level) := by
  have hset := keepsRegsBut_trans (keeps_set (fs := endFields) s F.rx_STATE st (by decide) hn (by decide))
    (keeps_set _ F.rx_LINE (b2n level) (by decide) hn (by decide))
  exact keepsRegsBut_trans hset (keepsRegsBut_of_regs (charDone_regs s n st level))

theorem charDone_state (s : State) (n : Nat) {st : Nat} (hst : st < 8) (level : Bool) : rxState (charDone s n st level) n = st :=
  (State.get_set_beside _ F.rx_LINE F.rx_STATE n _ rfl rfl (by decide) (by decide)).trans
    ((State.get_set_self s F.rx_STATE (by decide) n st).trans (Nat.mod_eq_of_lt hst))

theorem charDone_line (s : State) (n st : Nat) (level : Bool) : (charDone s n st level).on F.rx_LINE n = level :=
  State.on_setB _ F.rx_LINE (by decide) (by decide) n level

/-! ### A character counted (R76, R81, R92) -/

/-- A completed character is counted, and ends the talker's silence. -/
def countChar (s : State) (n : Nat) : State :=
  if (s.inc F.rx_CHARS n).on F.rx_SILENT n then raiseRx ((s.inc F.rx_CHARS n).set F.rx_SILENT n 0) n Bit.rxTalkerBack
  else s.inc F.rx_CHARS n

theorem countChar_only (s : State) (n : Nat) : onlyRegs s (countChar s n) := by
  unfold countChar
  split
  · exact onlyRegs_trans (t := (s.inc F.rx_CHARS n).set F.rx_SILENT n 0) rfl (raiseRx_only _ n _)
  · rfl

theorem countChar_plain (s : State) (n : Nat) (h : s.on F.rx_SILENT n = false) : countChar s n = s.inc F.rx_CHARS n := by
  have hon : (s.inc F.rx_CHARS n).on F.rx_SILENT n = false := by
    rw [State.on, get_inc_off s F.rx_CHARS F.rx_SILENT n n (by decide)]
    exact h
  rw [countChar, hon, if_neg Bool.false_ne_true]

theorem countChar_keeps (s : State) {n : Nat} (hn : n < 65536) :
    keepsRegsBut (fieldsAt [F.rx_CHARS, F.rx_SILENT, F.rx_FLAGS] n) s (countChar s n) := by
  have hchars := keeps_set (fs := [F.rx_CHARS, F.rx_SILENT, F.rx_FLAGS]) s F.rx_CHARS
    (min (s.get F.rx_CHARS n + 1) (2 ^ F.rx_CHARS.width - 1)) (by simp) hn (by decide)
  unfold countChar
  split
  · exact keepsRegsBut_trans hchars (keepsRegsBut_trans (keeps_set _ F.rx_SILENT 0 (by simp) hn (by decide))
      (keeps_more (raiseRx_keeps _ hn _) (by simp)))
  · exact hchars

theorem countChar_chars (s : State) (n : Nat) :
    (countChar s n).get F.rx_CHARS n = min (s.get F.rx_CHARS n + 1) 0xFFFFFFFF := by
  have hinc : (s.inc F.rx_CHARS n).get F.rx_CHARS n = min (s.get F.rx_CHARS n + 1) 0xFFFFFFFF := State.get_inc s _ (by decide) n
  unfold countChar
  split
  · rw [raiseRx, raise_get_off _ _ _ _ _ _ _ _ (by decide), State.get_set_off _ _ _ _ _ _ (by decide), hinc]
  · exact hinc

theorem countChar_silent (s : State) (n : Nat) : (countChar s n).on F.rx_SILENT n = false := by
  unfold countChar
  split
  · rw [State.on, raiseRx, raise_get_off _ _ _ _ _ _ _ _ (by decide)]
    exact on_set_zero _ F.rx_SILENT (by decide) (by decide) n
  · next h => simpa using h

theorem countChar_flags (s : State) (n : Nat) : flagsStand n s (countChar s n) := by
  have hinc : (s.inc F.rx_CHARS n).get F.rx_FLAGS n = s.get F.rx_FLAGS n := get_inc_off s _ _ n n (by decide)
  unfold countChar
  split
  · refine (flagsStand_of_eq ?_).trans (raiseRx_flags _ n (by decide))
    rw [State.get_set_off _ _ _ _ _ _ (by decide), hinc]
  · exact flagsStand_of_eq hinc

/-! ### The holding register (R75) -/

/-- A character that finds the holding register full is an overrun. -/
def noteOverrun (s : State) (n : Nat) : State :=
  if (s.rxLane n).hold.isSome then roleCause (rxEvent s n F.rx_N_OVERRUN Bit.rxOverrun) n 3 else s

/-- What an overrun leaves of the registers is the event's, and receivers stand. -/
theorem noteOverrun_rest (s : State) (n : Nat) (h : (s.rxLane n).hold.isSome = true) :
    (noteOverrun s n).regs = (rxEvent s n F.rx_N_OVERRUN Bit.rxOverrun).regs ∧ (noteOverrun s n).rx = s.rx := by
  have hrx := rx_of_onlyRegs (rxEvent_only s n F.rx_N_OVERRUN Bit.rxOverrun)
  rw [noteOverrun, if_pos h, roleCause_noted _ n (by decide)]
  exact ⟨rfl, hrx⟩

theorem noteOverrun_plain (s : State) (n : Nat) (h : (s.rxLane n).hold.isSome = false) : noteOverrun s n = s := by
  rw [noteOverrun, h, if_neg Bool.false_ne_true]

theorem noteOverrun_rxLane (s : State) (n k : Nat) : (noteOverrun s n).rxLane k = s.rxLane k := by
  cases h : (s.rxLane n).hold.isSome with
  | true => rw [State.rxLane, (noteOverrun_rest s n h).2]; rfl
  | false => rw [noteOverrun_plain s n h]

theorem noteOverrun_keeps (s : State) {n : Nat} (hn : n < 65536) :
    keepsRegsBut (fieldsAt [F.rx_N_OVERRUN, F.rx_FLAGS] n) s (noteOverrun s n) := by
  cases h : (s.rxLane n).hold.isSome with
  | true => exact keepsRegsBut_trans (rxEvent_keeps s (by decide) hn) (keepsRegsBut_of_regs (noteOverrun_rest s n h).1)
  | false => rw [noteOverrun_plain s n h]; exact keepsRegsBut_refl _ s

theorem noteOverrun_count (s : State) (n : Nat) :
    (noteOverrun s n).get F.rx_N_OVERRUN n = min (s.get F.rx_N_OVERRUN n + b2n (s.rxLane n).hold.isSome) 0xFFFFFFFF := by
  cases h : (s.rxLane n).hold.isSome with
  | true => exact (State.get_congr (noteOverrun_rest s n h).1 _ n).trans (rxEvent_count s (by decide))
  | false =>
    rw [noteOverrun_plain s n h]
    have := get_lt s F.rx_N_OVERRUN n
    rw [show F.rx_N_OVERRUN.width = 32 from rfl] at this
    rw [show b2n false = 0 from rfl]
    omega

theorem noteOverrun_flags (s : State) (n : Nat) : flagsStand n s (noteOverrun s n) := by
  cases h : (s.rxLane n).hold.isSome with
  | true =>
    exact (rxEvent_flags s (f := F.rx_N_OVERRUN) (by decide) (by decide)).trans
      (flagsStand_of_eq (State.get_congr (noteOverrun_rest s n h).1 _ n))
  | false => rw [noteOverrun_plain s n h]; exact fun _ hk => hk

theorem toHold_eq (s : State) (n : Nat) (c : HoldChar) : toHold s n c = (noteOverrun (countChar s n) n).putRx n
    { (noteOverrun (countChar s n) n).rxLane n with hold := some c, silentDue := false, heard := true } := rfl

theorem toHold_rxLane (s : State) (n : Nat) (c : HoldChar) :
    (toHold s n c).rxLane n = { s.rxLane n with hold := some c, silentDue := false, heard := true } := by
  rw [toHold_eq, rxLane_putRx_self, noteOverrun_rxLane, rxLane_of_onlyRegs (countChar_only s n)]

/-- The fields that a character in the holding register may move. -/
def holdFields : List Field := [F.rx_CHARS, F.rx_SILENT, F.rx_FLAGS, F.rx_N_OVERRUN]

theorem toHold_keeps (s : State) {n : Nat} (hn : n < 65536) (c : HoldChar) :
    keepsRegsBut (fieldsAt holdFields n) s (toHold s n c) :=
  keepsRegsBut_trans (keeps_more (countChar_keeps s hn) (by decide)) (keeps_more (noteOverrun_keeps _ hn) (by decide))

theorem toHold_chars (s : State) {n : Nat} (hn : n < 65536) (c : HoldChar) :
    (toHold s n c).get F.rx_CHARS n = min (s.get F.rx_CHARS n + 1) 0xFFFFFFFF :=
  (get_of_keeps (noteOverrun_keeps _ hn) hn F.rx_CHARS (by decide)).trans (countChar_chars s n)

theorem toHold_silent (s : State) {n : Nat} (hn : n < 65536) (c : HoldChar) : (toHold s n c).on F.rx_SILENT n = false :=
  (on_of_keeps (noteOverrun_keeps _ hn) hn F.rx_SILENT (by decide)).trans (countChar_silent s n)

theorem toHold_overrun (s : State) {n : Nat} (hn : n < 65536) (c : HoldChar) : (toHold s n c).get F.rx_N_OVERRUN n =
    min (s.get F.rx_N_OVERRUN n + b2n (s.rxLane n).hold.isSome) 0xFFFFFFFF := by
  refine (noteOverrun_count (countChar s n) n).trans ?_
  rw [get_of_keeps (countChar_keeps s hn) hn F.rx_N_OVERRUN (by decide), rxLane_of_onlyRegs (countChar_only s n)]

theorem toHold_flags (s : State) (n : Nat) (c : HoldChar) : flagsStand n s (toHold s n c) :=
  (countChar_flags s n).trans (noteOverrun_flags _ n)

/-- With the holding register empty and the talker not silent a character is counted and held, and that is all. -/
theorem toHold_plain (s : State) (n : Nat) (c : HoldChar) (hhold : (s.rxLane n).hold = none) (hsilent : s.on F.rx_SILENT n = false) :
    toHold s n c = (s.inc F.rx_CHARS n).putRx n { s.rxLane n with hold := some c, silentDue := false, heard := true } := by
  have hcount := countChar_plain s n hsilent
  have hnone : ((s.inc F.rx_CHARS n).rxLane n).hold.isSome = false := congrArg Option.isSome hhold
  rw [toHold_eq, hcount, noteOverrun_plain _ n hnone]
  rfl

end Sys2Proof.Machine
end

section
/-! PROOF. Start bits and characters (R62 to R76, R86, R106): what a confirm sample, a stop sample and an autobaud measurement do to
their lane. -/

namespace Sys2Proof.Machine

/-! ### START_BIT (R63, R64) -/

theorem startBit_high {s : State} {n : Nat} (hmode : laneMode s n = 1 ∨ laneMode s n = 3 ∨ laneMode s n = 5)
    (hign : (s.rxLane n).ignoring = false) (hst : rxState s n = 3 ∨ (rxState s n = 4 ∧ (s.rxLane n).confirmed = false)) (e : EdgeAt) :
    exec (.startBit n true e) s = .next (rxEvent (charDone s n 3 true) n F.rx_N_FALSE_START Bit.rxFalseStart) := by
  obtain hst | ⟨hst, hconf⟩ := hst
  · simp [exec, execStartBit, receives_of hmode, hign, hst]
  · simp [exec, execStartBit, receives_of hmode, hign, hst, hconf]

/-- Settles O22: the character ends armed and high (`charDone`), and the event is counted and flagged (`rxEvent`). -/
theorem falseStartIsCountedAndRearms : Obligations.FalseStartIsCountedAndRearms := by
  intro s n e hn96 hmode hign hst
  have hn : n < 65536 := by omega
  have hdone := charDone_keeps s hn 3 true
  have hevent := rxEvent_keeps (charDone s n 3 true) (f := F.rx_N_FALSE_START) (by decide) (bit := Bit.rxFalseStart) hn
  have honly := rxEvent_only (charDone s n 3 true) n F.rx_N_FALSE_START Bit.rxFalseStart
  refine ⟨_, startBit_high hmode hign hst e, ?_, ?_, ?_, ?_, ?_, ?_, fun k hk => ?_, ?_⟩
  · exact receiversFired_trans (receiversFired_of_onlyReceivers (charDone_only s n 3 true)) (receiversFired_of_onlyRegs honly)
  · refine (rxEvent_count _ (by decide)).trans ?_
    rw [get_of_keeps hdone hn F.rx_N_FALSE_START (by decide)]
    rfl
  · exact flagged_after (rxEvent_flagged _ (by decide) (by decide)) (get_of_keeps hdone hn _ (by decide))
      (get_of_keeps hdone hn _ (by decide)) rfl rfl (get_of_keeps_block hdone _ 0 (by decide) (by decide) (by decide))
  · exact (get_of_keeps hevent hn F.rx_STATE (by decide)).trans (charDone_state s n (by decide) true)
  · exact (on_of_keeps hevent hn F.rx_LINE (by decide)).trans (charDone_line s n 3 true)
  · exact (rxLane_of_onlyRegs honly n).trans (charDone_rxLane s n 3 true)
  · exact (rxLane_of_onlyRegs honly k).trans (charDone_rxLane_ne s 3 true hk)
  · have hkeep : keepsRegsBut (fieldsAt [F.rx_N_FALSE_START, F.rx_FLAGS, F.rx_STATE, F.rx_LINE] n) s _ :=
      keepsRegsBut_trans (keeps_more hdone (by decide)) (keeps_more hevent (by decide))
    exact hkeep

/-- The falling edge of a start bit confirmed: the lane is inside a character. -/
theorem startBit_confirms {s : State} {n : Nat} (hn : n < 65536) (hmode : laneMode s n = 1 ∨ laneMode s n = 3 ∨ laneMode s n = 5)
    (hign : (s.rxLane n).ignoring = false) (hst : rxState s n = 3) (e : EdgeAt) :
    ∃ t, exec (.startBit n false e) s = .next t ∧ t = { s with regs := t.regs, rx := t.rx } ∧ rxState t n = 4 ∧
      t.on F.rx_LINE n = false ∧
      t.rxLane n = { s.rxLane n with confirmed := true, edge := edgeStamp s e, edgeTs := s.tsAt (edgeStamp s e) } ∧
      (∀ k, k ≠ n → t.rxLane k = s.rxLane k) ∧ keepsRegsBut [(F.rx_STATE, n), (F.rx_LINE, n)] s t := by
  refine ⟨((s.set F.rx_STATE n 4).set F.rx_LINE n 0).putRx n
      { s.rxLane n with confirmed := true, edge := edgeStamp s e, edgeTs := s.tsAt (edgeStamp s e) },
    by simp [exec, execStartBit, receives_of hmode, hign, hst], rfl, ?_, ?_, rxLane_putRx_self _ _ _,
    fun k hk => rxLane_putRx_ne _ _ hk, ?_⟩
  · exact (State.get_set_beside _ F.rx_LINE F.rx_STATE n _ rfl rfl (by decide) (by decide)).trans
      (State.get_set_self s F.rx_STATE (by decide) n 4)
  · exact on_set_zero _ F.rx_LINE (by decide) (by decide) n
  · have hkeep : keepsRegsBut (fieldsAt endFields n) s ((s.set F.rx_STATE n 4).set F.rx_LINE n 0) :=
      keepsRegsBut_trans (keeps_set s F.rx_STATE 4 (by decide) hn (by decide)) (keeps_set _ F.rx_LINE 0 (by decide) hn (by decide))
    exact hkeep

/-! ### A character delivered (R65, R75, R76) -/

/-- A character ends and enters the holding register. -/
def deliverChar (u : State) (n st : Nat) (level : Bool) (h : HoldChar) : State := toHold (charDone u n st level) n h

/-- The fields that a delivered character may move. -/
def deliverFields : List Field := endFields ++ holdFields

section

variable (u : State) {n : Nat} (hn : n < 65536) (st : Nat) (level : Bool) (h : HoldChar)

theorem deliverChar_rxLane : (deliverChar u n st level h).rxLane n = { u.rxLane n with
    confirmed := false, baud := baudPeriod (u.reg ⟨.laneRx, n, 4⟩), hold := some h, silentDue := false, heard := true } := by
  rw [deliverChar, toHold_rxLane, charDone_rxLane]

theorem deliverChar_flags : flagsStand n u (deliverChar u n st level h) := by
  refine (flagsStand_of_eq ?_).trans (toHold_flags (charDone u n st level) n h)
  exact State.get_congr (charDone_regs u n st level) _ n |>.trans ((State.get_set_off _ _ _ _ _ _ (by decide)).trans
    (State.get_set_off _ _ _ _ _ _ (by decide)))

include hn

theorem deliverChar_keeps : keepsRegsBut (fieldsAt deliverFields n) u (deliverChar u n st level h) :=
  keepsRegsBut_trans (keeps_more (charDone_keeps u hn st level) (by decide)) (keeps_more (toHold_keeps _ hn h) (by decide))

theorem deliverChar_state (hst : st < 8) : rxState (deliverChar u n st level h) n = st :=
  (get_of_keeps (toHold_keeps _ hn h) hn F.rx_STATE (by decide)).trans (charDone_state u n hst level)

theorem deliverChar_line : (deliverChar u n st level h).on F.rx_LINE n = level :=
  (on_of_keeps (toHold_keeps _ hn h) hn F.rx_LINE (by decide)).trans (charDone_line u n st level)

theorem deliverChar_chars : (deliverChar u n st level h).get F.rx_CHARS n = min (u.get F.rx_CHARS n + 1) 0xFFFFFFFF := by
  refine (toHold_chars (charDone u n st level) hn h).trans ?_
  rw [get_of_keeps (charDone_keeps u hn st level) hn F.rx_CHARS (by decide)]

theorem deliverChar_overrun : (deliverChar u n st level h).get F.rx_N_OVERRUN n =
    min (u.get F.rx_N_OVERRUN n + b2n (u.rxLane n).hold.isSome) 0xFFFFFFFF := by
  refine (toHold_overrun (charDone u n st level) hn h).trans ?_
  rw [get_of_keeps (charDone_keeps u hn st level) hn F.rx_N_OVERRUN (by decide), charDone_rxLane]

/-- A character delivered into an empty holding register of a talker that is heard: it is counted, and that is all. -/
theorem deliverChar_plain (hhold : (u.rxLane n).hold = none) (hsilent : u.on F.rx_SILENT n = false) :
    onlyReceivers u (deliverChar u n st level h) ∧
      keepsRegsBut [(F.rx_CHARS, n), (F.rx_STATE, n), (F.rx_LINE, n)] u (deliverChar u n st level h) := by
  have hdone := charDone_keeps u hn st level
  have hempty : ((charDone u n st level).rxLane n).hold = none := by rw [charDone_rxLane]; exact hhold
  rw [deliverChar, toHold_plain _ n h hempty ((on_of_keeps hdone hn F.rx_SILENT (by decide)).trans hsilent)]
  constructor
  · exact onlyReceivers_putRx (onlyReceivers_set (charDone_only u n st level) F.rx_CHARS n _) n _
  · have hkeep : keepsRegsBut (fieldsAt [F.rx_CHARS, F.rx_STATE, F.rx_LINE] n) u ((charDone u n st level).inc F.rx_CHARS n) :=
      keepsRegsBut_trans (keeps_more hdone (by decide)) (keeps_set _ F.rx_CHARS _ (by decide) hn (by decide))
    exact hkeep

end

/-! ### The stop sample of a sentence lane (R65, R66, R68, R70) -/

/-- The character sampled, as it enters the holding register. -/
def sampled (s : State) (n : Nat) (c : CharSample) : HoldChar :=
  { data := BitVec.ofNat 8 (rxData s n c), parityBad := rxParityBad s n c, framingBad := !c.stop, stamp := (s.rxLane n).edge,
    tsState := (s.rxLane n).edgeTs }

/-- A parity error counted and flagged, where there is one. -/
def parityNoted (s : State) (n : Nat) (c : CharSample) : State :=
  if rxParityBad s n c then rxEvent s n F.rx_N_PARITY Bit.rxParity else s

/-- A missing stop bit counted and flagged after that. -/
def framingNoted (s : State) (n : Nat) (c : CharSample) : State := rxEvent (parityNoted s n c) n F.rx_N_FRAMING Bit.rxFraming

theorem parityNoted_sound {s : State} {n : Nat} {c : CharSample} (h : rxParityBad s n c = false) : parityNoted s n c = s := by
  rw [parityNoted, h, if_neg Bool.false_ne_true]

theorem parityNoted_bad {s : State} {n : Nat} {c : CharSample} (h : rxParityBad s n c = true) :
    parityNoted s n c = rxEvent s n F.rx_N_PARITY Bit.rxParity := by rw [parityNoted, h, if_pos rfl]

theorem parityNoted_keeps (s : State) {n : Nat} (hn : n < 65536) (c : CharSample) :
    keepsRegsBut (fieldsAt [F.rx_N_PARITY, F.rx_FLAGS] n) s (parityNoted s n c) := by
  cases h : rxParityBad s n c with
  | true => rw [parityNoted_bad h]; exact rxEvent_keeps s (by decide) hn
  | false => rw [parityNoted_sound h]; exact keepsRegsBut_refl _ s

section

variable {s : State} {n : Nat} {c : CharSample}

theorem sentenceChar_stop (hstop : c.stop = true) :
    sentenceChar s n c = deliverChar (parityNoted s n c) n 3 true (sampled s n c) := by
  simp only [sentenceChar, hstop, Bool.not_true, Bool.false_and, Bool.false_eq_true, if_false, if_true, deliverChar, parityNoted, sampled]

theorem sentenceChar_framing (hstop : c.stop = false) (hlow : rxAllLow s n c = false) :
    sentenceChar s n c = (deliverChar (framingNoted s n c) n 4 false (sampled s n c)).putRx n
      { (deliverChar (framingNoted s n c) n 4 false (sampled s n c)).rxLane n with
        edge := edgeStamp s c.edge, edgeTs := s.tsAt (edgeStamp s c.edge) } := by
  simp only [sentenceChar, hstop, hlow, Bool.and_false, Bool.false_eq_true, if_false, deliverChar, framingNoted, parityNoted, sampled]

theorem sentenceChar_break (hstop : c.stop = false) (hlow : rxAllLow s n c = true) (hdue : (s.rxLane n).silentDue = false) :
    sentenceChar s n c = roleCause (rxEvent (charDone s n 5 false) n F.rx_N_BREAK Bit.rxBreak) n 2 := by
  simp only [sentenceChar, hstop, hlow, hdue, Bool.not_false, Bool.and_true, Bool.false_eq_true, if_false, if_true]

theorem exec_laneCharacter_sentence (hmode : laneMode s n = 1 ∨ laneMode s n = 3) (hign : (s.rxLane n).ignoring = false)
    (hst : rxState s n = 4) (hconf : (s.rxLane n).confirmed = true) (wave : List Nat) :
    exec (.laneCharacter n c wave) s = .next (sentenceChar s n c) := by
  obtain hmode | hmode := hmode <;> simp [exec, execLaneCharacter, receives, hmode, hign, hst, hconf]

/-- What the character sampled becomes in the holding register, with or without its stop bit. -/
theorem sentenceChar_hold (h : c.stop = true ∨ rxAllLow s n c = false) :
    ((sentenceChar s n c).rxLane n).hold = some (sampled s n c) := by
  cases hstop : c.stop with
  | true => rw [sentenceChar_stop hstop, deliverChar_rxLane]
  | false =>
    have hlow : rxAllLow s n c = false := by simpa [hstop] using h
    rw [sentenceChar_framing hstop hlow, rxLane_putRx_self, deliverChar_rxLane]

/-- A parity error is counted and flagged, with or without the stop bit. -/
theorem sentenceChar_parity (hn : n < 65536) (hpar : rxParityBad s n c = true) (h : c.stop = true ∨ rxAllLow s n c = false) :
    (sentenceChar s n c).get F.rx_N_PARITY n = min (s.get F.rx_N_PARITY n + 1) 0xFFFFFFFF ∧
      ((sentenceChar s n c).get F.rx_FLAGS n).testBit 2 = true := by
  have hcount : (rxEvent s n F.rx_N_PARITY Bit.rxParity).get F.rx_N_PARITY n = min (s.get F.rx_N_PARITY n + 1) 0xFFFFFFFF :=
    rxEvent_count s (by decide)
  have hflag := flagged_testBit (rxEvent_flagged s (f := F.rx_N_PARITY) (by decide) (n := n) (bit := Bit.rxParity) (by decide))
  cases hstop : c.stop with
  | true =>
    rw [sentenceChar_stop hstop, parityNoted_bad hpar]
    exact ⟨(get_of_keeps (deliverChar_keeps _ hn 3 true _) hn _ (by decide)).trans hcount, deliverChar_flags _ 3 true _ _ hflag⟩
  | false =>
    have hlow : rxAllLow s n c = false := by simpa [hstop] using h
    have hframe := rxEvent_keeps (rxEvent s n F.rx_N_PARITY Bit.rxParity) (f := F.rx_N_FRAMING) (by decide) (bit := Bit.rxFraming) hn
    have hstand := rxEvent_flags (rxEvent s n F.rx_N_PARITY Bit.rxParity) (n := n) (f := F.rx_N_FRAMING) (by decide)
      (bit := Bit.rxFraming) (by decide)
    rw [sentenceChar_framing hstop hlow, framingNoted, parityNoted_bad hpar]
    exact ⟨(get_of_keeps (deliverChar_keeps _ hn 4 false (sampled s n c)) hn _ (by decide)).trans ((get_of_keeps hframe hn _ (by decide)).trans hcount),
      deliverChar_flags _ 4 false (sampled s n c) _ (hstand _ hflag)⟩

end

/-- Settles O23: the character is delivered with its parity flag (`sentenceChar_hold`), and the error is counted and flagged
(`sentenceChar_parity`). -/
theorem parityErrorIsCountedAndDelivered : Obligations.ParityErrorIsCountedAndDelivered := by
  intro s n c wave hn hmode hign hst hconf hpar hlow
  obtain ⟨hcount, hflag⟩ := sentenceChar_parity (show n < 65536 by omega) hpar hlow
  refine ⟨_, exec_laneCharacter_sentence hmode hign hst hconf wave, ?_, hcount, hflag⟩
  rw [sentenceChar_hold hlow, sampled, hpar]

/-! ### The outcomes of a stop sample -/

section

variable {s : State} {n : Nat} (hn : n < 65536) {c : CharSample}
include hn

/-- A sound character. -/
theorem sentenceChar_sound (hstop : c.stop = true) (hpar : rxParityBad s n c = false) :
    let t := sentenceChar s n c
    (t.rxLane n).hold = some { data := BitVec.ofNat 8 (rxData s n c), parityBad := false, framingBad := false,
                               stamp := (s.rxLane n).edge, tsState := (s.rxLane n).edgeTs } ∧
      t.get F.rx_CHARS n = min (s.get F.rx_CHARS n + 1) 0xFFFFFFFF ∧ rxState t n = 3 ∧ t.on F.rx_LINE n = true ∧
      t.on F.rx_SILENT n = false ∧ (t.rxLane n).heard = true ∧
      t.get F.rx_N_OVERRUN n = min (s.get F.rx_N_OVERRUN n + b2n (s.rxLane n).hold.isSome) 0xFFFFFFFF ∧
      ((s.rxLane n).hold = none → s.on F.rx_SILENT n = false → t = { s with regs := t.regs, rx := t.rx } ∧
        keepsRegsBut [(F.rx_CHARS, n), (F.rx_STATE, n), (F.rx_LINE, n)] s t) := by
  intro t
  have ht : t = deliverChar s n 3 true (sampled s n c) := by
    rw [← parityNoted_sound hpar]
    exact (sentenceChar_stop hstop).trans (by rw [parityNoted_sound hpar])
  have hheard := deliverChar_rxLane s (n := n) 3 true (sampled s n c)
  rw [ht]
  refine ⟨?_, deliverChar_chars s hn 3 true _, deliverChar_state s hn 3 true _ (by decide), deliverChar_line s hn 3 true _, toHold_silent _ hn _,
    by rw [hheard], deliverChar_overrun s hn 3 true _, fun hhold hsilent => deliverChar_plain s hn 3 true _ hhold hsilent⟩
  rw [hheard, sampled, hpar, hstop]
  rfl

/-- A character without its stop bit. -/
theorem sentenceChar_framingError (hstop : c.stop = false) (hlow : rxAllLow s n c = false) :
    let t := sentenceChar s n c
    t.get F.rx_N_FRAMING n = min (s.get F.rx_N_FRAMING n + 1) 0xFFFFFFFF ∧ (t.get F.rx_FLAGS n).testBit 1 = true ∧
      rxState t n = 4 ∧ t.on F.rx_LINE n = false ∧ ((t.rxLane n).hold.map (·.framingBad)) = some true := by
  intro t
  let d := deliverChar (framingNoted s n c) n 4 false (sampled s n c)
  have ht : t = d.putRx n _ := sentenceChar_framing hstop hlow
  have hcount : (framingNoted s n c).get F.rx_N_FRAMING n = min (s.get F.rx_N_FRAMING n + 1) 0xFFFFFFFF := by
    refine (rxEvent_count _ (by decide)).trans ?_
    rw [get_of_keeps (parityNoted_keeps s hn c) hn F.rx_N_FRAMING (by decide)]
    rfl
  have hflag := flagged_testBit (rxEvent_flagged (parityNoted s n c) (n := n) (f := F.rx_N_FRAMING) (by decide)
    (bit := Bit.rxFraming) (by decide))
  have hget : ∀ f, t.get f n = d.get f n := fun f => State.get_congr (by rw [ht]; rfl) f n
  refine ⟨?_, ?_, ?_, ?_, ?_⟩
  · exact (hget _).trans ((get_of_keeps (deliverChar_keeps _ hn 4 false _) hn _ (by decide)).trans hcount)
  · rw [hget]
    exact deliverChar_flags (framingNoted s n c) 4 false _ _ hflag
  · exact (hget _).trans (deliverChar_state _ hn 4 false _ (by decide))
  · rw [State.on, hget]
    exact deliverChar_line _ hn 4 false _
  · rw [sentenceChar_hold (Or.inr hlow), sampled, hstop]
    rfl

/-- A break. -/
theorem sentenceChar_breakSeen (hstop : c.stop = false) (hlow : rxAllLow s n c = true) (hdue : (s.rxLane n).silentDue = false) :
    let t := sentenceChar s n c
    t.get F.rx_N_BREAK n = min (s.get F.rx_N_BREAK n + 1) 0xFFFFFFFF ∧ (t.get F.rx_FLAGS n).testBit 3 = true ∧
      rxState t n = 5 ∧ t.on F.rx_LINE n = false ∧ (t.rxLane n).hold = (s.rxLane n).hold := by
  intro t
  let u := rxEvent (charDone s n 5 false) n F.rx_N_BREAK Bit.rxBreak
  have hkeep : keepsRegsBut (fieldsAt [F.rx_N_BREAK, F.rx_FLAGS] n) (charDone s n 5 false) u := rxEvent_keeps _ (by decide) hn
  have ht : t = { u with srcs := t.srcs } := by
    have hbreak : t = roleCause u n 2 := sentenceChar_break hstop hlow hdue
    rw [hbreak]
    exact roleCause_noted u n (by decide)
  have hget : ∀ f, t.get f n = u.get f n := fun f => by rw [ht]; rfl
  have hlane : t.rxLane n = (charDone s n 5 false).rxLane n := by
    have hu : t.rxLane n = u.rxLane n := by rw [ht]; rfl
    exact hu.trans (rxLane_of_onlyRegs (rxEvent_only _ n _ _) n)
  refine ⟨?_, ?_, ?_, ?_, ?_⟩
  · refine (hget _).trans ((rxEvent_count _ (by decide)).trans ?_)
    rw [get_of_keeps (charDone_keeps s hn 5 false) hn F.rx_N_BREAK (by decide)]
    rfl
  · rw [hget]
    exact flagged_testBit (rxEvent_flagged (charDone s n 5 false) (n := n) (f := F.rx_N_BREAK) (by decide) (bit := Bit.rxBreak) (by decide))
  · exact (hget _).trans ((get_of_keeps hkeep hn F.rx_STATE (by decide)).trans (charDone_state s n (by decide) false))
  · rw [State.on, hget]
    exact (on_of_keeps hkeep hn F.rx_LINE (by decide)).trans (charDone_line s n 5 false)
  · rw [hlane, charDone_rxLane]

end

/-! ### Autobaud (R71 to R74, R86) -/

theorem exec_laneCharacter_searching {s : State} {n : Nat} (hmode : laneMode s n = 1 ∨ laneMode s n = 3 ∨ laneMode s n = 5)
    (hign : (s.rxLane n).ignoring = false) (hst : rxState s n = 2) (c : CharSample) (wave : List Nat) :
    exec (.laneCharacter n c wave) s = .next (abMeasure s n c wave) := by
  simp [exec, execLaneCharacter, receives_of hmode, hign, hst]

/-- The rate and the key that lock. -/
def lockRate (s : State) (n p code : Nat) : State :=
  ((s.setReg (F.rx_DIV_INT.addr n) (BitVec.ofNat 32 p)).set F.rx_LOCKED n 1).set F.rx_LOCKED_KEY n code

/-- The fields of the lock. -/
def lockFields : List Field := [F.rx_LOCKED, F.rx_LOCKED_KEY]

theorem lockRate_reg (s : State) (n p code : Nat) : (lockRate s n p code).reg ⟨.laneRx, n, 4⟩ = BitVec.ofNat 32 p := by
  rw [lockRate, reg_set_off _ _ _ _ _ _ _ (by decide), reg_set_off _ _ _ _ _ _ _ (by decide)]
  exact State.reg_setReg_self _ _ _

/-- A whole register at which nothing was written reads as before. -/
theorem reg_off_of_keeps {fs : List Field} {n : Nat} {s t : State} (h : keepsRegsBut (fieldsAt fs n) s t) (hn : n < 65536) (o : Nat)
    (ho : (o % 4 == 0 && decide (o < 4096)) = true) (hfs : fs.all (fun f => f.off != o) = true) :
    t.reg ⟨.laneRx, n, o⟩ = s.reg ⟨.laneRx, n, o⟩ := by
  simp only [Bool.and_eq_true, beq_iff_eq, decide_eq_true_eq, List.all_eq_true, bne_iff_ne, ne_eq] at ho hfs
  refine reg_of_keeps h (by simp [wfReg, ho.1, ho.2, hn]) fun e he heq => ?_
  obtain ⟨f, hf, rfl⟩ := List.mem_map.1 he
  exact hfs f hf (congrArg RegAddr.off heq)

theorem abMeasure_none {s : State} {n : Nat} {wave : List Nat} (h : abWinner s n wave = none) (c : CharSample) :
    abMeasure s n c wave = rxEvent s n F.rx_N_AB_REJECT Bit.rxAbReject := by
  simp only [abMeasure, h]

theorem abMeasure_some {s : State} {n : Nat} {wave : List Nat} {k : AbKey} {p : Nat} (h : abWinner s n wave = some (k, p))
    (c : CharSample) : abMeasure s n c wave = deliverChar (raiseRx (lockRate s n p k.code) n Bit.rxAbLock) n 3 true
      { data := BitVec.ofNat 8 k.byte, parityBad := false, framingBad := false, stamp := edgeStamp s c.edge,
        tsState := s.tsAt (edgeStamp s c.edge) } := by
  simp only [abMeasure, h, deliverChar, lockRate]

/-- A key that locks: its rate is in force, the lane is armed and the key is held. -/
theorem abMeasure_locks {s : State} {n : Nat} (hn : n < 65536) {wave : List Nat} {k : AbKey} {p : Nat}
    (h : abWinner s n wave = some (k, p)) (hcode : k.code < 8) (c : CharSample) :
    let t := abMeasure s n c wave
    t.reg ⟨.laneRx, n, 4⟩ = BitVec.ofNat 32 p ∧ t.on F.rx_LOCKED n = true ∧ t.get F.rx_LOCKED_KEY n = k.code ∧
      rxState t n = 3 ∧ (t.rxLane n).baud = baudPeriod (BitVec.ofNat 32 p) ∧
      (t.rxLane n).hold = some { data := BitVec.ofNat 8 k.byte, parityBad := false, framingBad := false,
                                 stamp := edgeStamp s c.edge, tsState := s.tsAt (edgeStamp s c.edge) } := by
  intro t
  let u := raiseRx (lockRate s n p k.code) n Bit.rxAbLock
  have ht : t = deliverChar u n 3 true _ := abMeasure_some h c
  have hraise : keepsRegsBut (fieldsAt [F.rx_FLAGS] n) (lockRate s n p k.code) u := raiseRx_keeps _ hn _
  have hkeep : keepsRegsBut (fieldsAt deliverFields n) (lockRate s n p k.code) t := by
    rw [ht]
    exact keepsRegsBut_trans (keeps_more hraise (by decide)) (deliverChar_keeps u hn 3 true _)
  have hreg : u.reg ⟨.laneRx, n, 4⟩ = BitVec.ofNat 32 p :=
    (reg_off_of_keeps hraise hn 4 (by decide) (by decide)).trans (lockRate_reg s n p k.code)
  refine ⟨(reg_off_of_keeps hkeep hn 4 (by decide) (by decide)).trans (lockRate_reg s n p k.code), ?_, ?_, ?_, ?_, ?_⟩
  · refine (on_of_keeps hkeep hn F.rx_LOCKED (by decide)).trans ?_
    rw [lockRate, State.on, State.get_set_beside _ F.rx_LOCKED_KEY F.rx_LOCKED n _ rfl rfl (by decide) (by decide)]
    exact on_set_one _ F.rx_LOCKED (by decide) (by decide) n
  · exact (get_of_keeps hkeep hn F.rx_LOCKED_KEY (by decide)).trans
      ((State.get_set_self _ F.rx_LOCKED_KEY (by decide) n _).trans (Nat.mod_eq_of_lt hcode))
  · rw [ht]
    exact deliverChar_state u hn 3 true _ (by decide)
  · rw [ht, deliverChar_rxLane, hreg]
  · rw [ht, deliverChar_rxLane]

/-! ### A slot of a DMX packet (R106) -/

theorem takeSlot_eq (s : State) (n : Nat) : takeSlot s n =
    (countChar s n).putRx n { (countChar s n).rxLane n with silentDue := false, heard := true } := rfl

/-- A sound slot of an open packet joins it. -/
theorem dmxChar_joins {s : State} {n : Nat} (hn : n < 65536) {c : CharSample} (hstop : c.stop = true)
    (hpar : rxParityBad s n c = false) (hopen : (s.rxLane n).dmxOpen = true) (hroom : (s.rxLane n).dmxSlots.length < 513) :
    let t := dmxChar s n c
    t = { s with regs := t.regs, rx := t.rx, fired := t.fired } ∧ rxState t n = 3 ∧
      (t.rxLane n).dmxSlots = (s.rxLane n).dmxSlots ++ [BitVec.ofNat 8 (rxData s n c)] ∧
      t.get F.rx_CHARS n = min (s.get F.rx_CHARS n + 1) 0xFFFFFFFF ∧
      (s.on F.rx_SILENT n = false → t.fired = s.fired ∧ keepsRegsBut [(F.rx_STATE, n), (F.rx_LINE, n), (F.rx_CHARS, n)] s t) := by
  intro t
  let u := charDone s n 3 true
  have ht : t = (takeSlot u n).putRx n
      { (takeSlot u n).rxLane n with dmxSlots := (s.rxLane n).dmxSlots ++ [BitVec.ofNat 8 (rxData s n c)] } := by
    simp only [t, dmxChar, hstop, hpar, hopen, hroom, Bool.not_true, Bool.false_and, Bool.false_eq_true, Bool.or_self, if_false, if_true,
      decide_true, Bool.and_self, u]
  have hdone : keepsRegsBut (fieldsAt endFields n) s u := charDone_keeps s hn 3 true
  have hcount := countChar_keeps u hn
  have hregs : t.regs = (countChar u n).regs := by rw [ht]; rfl
  have hget : ∀ f, t.get f n = (countChar u n).get f n := fun f => State.get_congr hregs f n
  refine ⟨?_, ?_, ?_, ?_, fun hsilent => ?_⟩
  · have hu := receiversFired_of_onlyReceivers (charDone_only s n 3 true)
    rw [ht, takeSlot_eq]
    exact receiversFired_putRx (receiversFired_putRx
      (receiversFired_trans hu (receiversFired_of_onlyRegs (countChar_only u n))) n _) n _
  · exact (hget _).trans ((get_of_keeps hcount hn F.rx_STATE (by decide)).trans (charDone_state s n (by decide) true))
  · rw [ht, rxLane_putRx_self]
  · refine (hget _).trans ((countChar_chars u n).trans ?_)
    rw [get_of_keeps hdone hn F.rx_CHARS (by decide)]
  · have hplain : countChar u n = u.inc F.rx_CHARS n :=
      countChar_plain u n ((on_of_keeps hdone hn F.rx_SILENT (by decide)).trans hsilent)
    have hinc : keepsRegsBut (fieldsAt [F.rx_STATE, F.rx_LINE, F.rx_CHARS] n) u t :=
      keepsRegsBut_trans (keeps_set u F.rx_CHARS _ (by decide) hn (by decide)) (keepsRegsBut_of_regs (hregs.trans (by rw [hplain]; rfl)))
    have hfired : t.fired = (countChar u n).fired := by rw [ht]; rfl
    have hkeep := keepsRegsBut_trans (keeps_more (gs := [F.rx_STATE, F.rx_LINE, F.rx_CHARS]) hdone (by decide)) hinc
    refine ⟨hfired.trans ?_, hkeep⟩
    rw [hplain]
    rfl

/-- Settles O24: one lemma for each outcome of the two rows. -/
theorem charactersReachTheHoldingRegister : Obligations.CharactersReachTheHoldingRegister := by
  intro s n hn96 hign
  have hn : n < 65536 := by omega
  refine ⟨fun e hmode hst => startBit_confirms hn hmode hign hst e, fun c wave hmode hst hconf => ?_, fun c wave hmode hst => ⟨?_, ?_⟩,
    fun c wave hmode hst hconf hstop hpar hopen hroom => ?_⟩
  · exact ⟨_, exec_laneCharacter_sentence hmode hign hst hconf wave, fun hstop hpar => sentenceChar_sound hn hstop hpar,
      fun hstop hlow => sentenceChar_framingError hn hstop hlow, fun hstop hlow hdue => sentenceChar_breakSeen hn hstop hlow hdue⟩
  · intro hnone
    refine ⟨_, exec_laneCharacter_searching hmode hign hst c wave, ?_⟩
    rw [abMeasure_none hnone]
    exact ⟨rxEvent_only s n _ _, rxEvent_count s (by decide), rxEvent_flagged s (by decide) (by decide), rxEvent_keeps s (by decide) hn⟩
  · intro k p hkey hcode
    exact ⟨_, exec_laneCharacter_searching hmode hign hst c wave, abMeasure_locks hn hkey hcode c⟩
  · have hexec : exec (.laneCharacter n c wave) s = .next (dmxChar s n c) := by
      simp [exec, execLaneCharacter, receives, hmode, hign, hst, hconf]
    exact ⟨_, hexec, dmxChar_joins hn hstop hpar hopen hroom⟩

end Sys2Proof.Machine
end

section
/-! PROOF. A source's open sentence (R75, R91, R134, R138): what showing a ring's level, freeing staging bytes, counting a discard and
discarding leave alone. -/

namespace Sys2Proof.Machine

/-! ### Rings and mailboxes -/

/-- Only the receivers' RING registers follow a ring's level. -/
def notRing (r : RegAddr) : Prop := r.blk ≠ .laneRx ∨ r.off % 65536 ≠ 0x20

theorem reg_set_notRing (s : State) (f : Field) (i v : Nat) (hb : f.blk = .laneRx) (ho : f.off = 0x20) {r : RegAddr} (hr : notRing r) :
    (s.set f i v).reg r = s.reg r := by
  obtain hr | hr := hr
  · exact reg_setReg_blk s (r := f.addr i) (by rw [show (f.addr i).blk = f.blk from rfl, hb]; exact Ne.symm hr) _
  · exact reg_set_off s f i v r.blk r.inst r.off (by rw [ho]; exact hr)

theorem ringShow_only (s : State) (src : Nat) : regsOnly s (ringShow s src) := by
  unfold ringShow
  split
  · split <;> rfl
  · rfl

theorem ringShow_reg (s : State) (src : Nat) {r : RegAddr} (hr : notRing r) : (ringShow s src).reg r = s.reg r := by
  unfold ringShow
  split
  · split
    · rfl
    · exact (reg_set_notRing _ F.rx_PEAK _ _ rfl rfl hr).trans (reg_set_notRing s F.rx_LEVEL _ _ rfl rfl hr)
  · rfl

theorem freeSentence_only (s : State) (x : Sentence) : regsOnly s (freeSentence s x) := by
  have hring := ringShow_only s x.source
  unfold freeSentence
  cases x.mbox with
  | none => exact hring
  | some i =>
    dsimp only
    split
    · exact regsOnly_trans hring (regsOnly_set _ F.host_STATE 0 _)
    · exact hring

theorem freeSentence_reg (s : State) (x : Sentence) {r : RegAddr} (hr : notRing r) (hhost : r.blk ≠ .host) :
    (freeSentence s x).reg r = s.reg r := by
  have hring := ringShow_reg s x.source hr
  unfold freeSentence
  cases x.mbox with
  | none => exact hring
  | some i =>
    dsimp only
    split
    · exact (reg_setReg_blk _ (r := F.host_STATE.addr 0) (Ne.symm hhost) _).trans hring
    · exact hring

/-- With no mailbox behind it, freeing a sentence's bytes shows the ring's level and no more. -/
theorem freeSentence_plain (s : State) {x : Sentence} (h : x.mbox = none) : freeSentence s x = ringShow s x.source := by
  simp only [freeSentence, h]

theorem source_of_regsOnly {s t : State} (h : regsOnly s t) (k : Nat) : t.source k = s.source k := by
  unfold regsOnly at h
  rw [h]
  rfl

theorem rx_of_regsOnly {s t : State} (h : regsOnly s t) : t.rx = s.rx := by
  unfold regsOnly at h
  rw [h]

/-! ### Contexts -/

@[simp] theorem source_putSource_self (s : State) (src : Nat) (x : Source) : (s.putSource src x).source src = x := by
  rw [State.source, State.putSource, tget_tput_self]

theorem source_putSource_ne (s : State) {src k : Nat} (x : Source) (h : k ≠ src) : (s.putSource src x).source k = s.source k := by
  rw [State.source, State.putSource, tget_tput_ne _ h]
  rfl

/-! ### Discards (R134, R137, R138) -/

theorem countDiscard_only (s : State) (x : Sentence) (restart : Bool) : regsOnly s (countDiscard s x restart) := by
  unfold countDiscard
  split <;> rfl

theorem refusalField_parse (x : Sentence) (restart : Bool) : (refusalField x restart).blk = .parse := by
  unfold refusalField
  split_ifs <;> rfl

theorem causeField_parse (c : Nat) : (causeField c).blk = .parse := by
  unfold causeField
  split <;> rfl

theorem reg_inc_block (s : State) (f : Field) (i : Nat) {r : RegAddr} (h : r.blk ≠ f.blk) : (s.inc f i).reg r = s.reg r :=
  reg_setReg_blk s (r := f.addr i) (Ne.symm h) _

theorem countDiscard_reg (s : State) (x : Sentence) (restart : Bool) {r : RegAddr} (hr : r.blk ≠ .parse) :
    (countDiscard s x restart).reg r = s.reg r := by
  unfold countDiscard
  split
  · exact reg_inc_block s _ _ (by rw [refusalField_parse]; exact hr)
  · exact (reg_inc_block _ _ _ (by rw [causeField_parse]; exact hr)).trans (reg_inc_block s F.parse_DAMAGED _ hr)

/-- Receivers stand, and of their registers all but RING. -/
structure ReceiversStand (s t : State) : Prop where
  rx : t.rx = s.rx
  reg : ∀ r : RegAddr, r.blk = .laneRx → r.off % 65536 ≠ 0x20 → t.reg r = s.reg r

theorem ReceiversStand.refl (s : State) : ReceiversStand s s := ⟨rfl, fun _ _ _ => rfl⟩

theorem ReceiversStand.get {s t : State} (h : ReceiversStand s t) (f : Field) (n : Nat) (hb : f.blk = .laneRx)
    (ho : f.off % 65536 ≠ 0x20) : t.get f n = s.get f n := get_of_reg (h.reg (f.addr n) hb ho)

theorem discardOpen_stands (s : State) (src : Nat) (restart : Bool) : ReceiversStand s (discardOpen s src restart) := by
  unfold discardOpen
  dsimp only
  split
  · exact ReceiversStand.refl s
  · next x _ =>
    have hcount := rx_of_regsOnly (countDiscard_only s x restart)
    refine ⟨(rx_of_regsOnly (freeSentence_only _ x)).trans hcount, fun r hb ho => ?_⟩
    rw [freeSentence_reg _ x (Or.inr ho) (by rw [hb]; decide)]
    exact countDiscard_reg s x restart (by rw [hb]; decide)

/-- A discard takes the open sentence out of its context. -/
theorem discardOpen_sent (s : State) (src : Nat) (restart : Bool) : ((discardOpen s src restart).source src).sent = none := by
  unfold discardOpen
  dsimp only
  split
  · next h => exact h
  · next x _ => rw [source_of_regsOnly (freeSentence_only _ x), source_putSource_self]

theorem laneCause_stands (s : State) (src c : Nat) : ReceiversStand s (laneCause s src c) := by
  unfold laneCause
  dsimp only
  split
  · exact ReceiversStand.refl s
  · next x _ =>
    obtain ⟨hrx, hreg⟩ := discardOpen_stands
      (s.putSource src { s.source src with sent := some { x with causes := x.causes ++ [c] } }) src false
    split
    · exact ⟨hrx, hreg⟩
    · exact ⟨rfl, fun _ _ _ => rfl⟩

theorem roleCause_stands (s : State) (n c : Nat) : ReceiversStand s (roleCause s n c) := by
  unfold roleCause
  split
  · exact laneCause_stands s _ c
  · exact ReceiversStand.refl s

/-- A timeout discards the open sentence at once (R82, R138). -/
theorem laneCause_timeout (s : State) (src : Nat) : ((laneCause s src 5).source src).sent = none := by
  unfold laneCause
  dsimp only
  split
  · next h => exact h
  · exact discardOpen_sent _ src false

theorem roleCause_timeout (s : State) (n : Nat) (h : laneOpen s n = true) :
    ((roleCause s n 5).source (s.get F.tx_ROLE n)).sent = none := by
  have hrole : (s.shedUp 2 && decide (s.get F.tx_ROLE n < 96)) = true := by
    rw [laneOpen, Bool.and_eq_true] at h
    exact h.1
  rw [roleCause, if_pos hrole]
  exact laneCause_timeout s _

end Sys2Proof.Machine
end

section
/-! PROOF. A receiver's timers (R70, R71, R77 to R82, R85): BREAK_END, LINE_STUCK_LOW, LANE_ARM, TALKER_SILENT, FRAGMENT and REARM. -/

namespace Sys2Proof.Machine

/-! ### Searching and arming (R71, R80) -/

/-- The fields of a search: the lock and STATE. -/
def searchFields : List Field := [F.rx_LOCKED, F.rx_LOCKED_KEY, F.rx_STATE]

/-- The fields that a receiver's timers may move. -/
def timerFields : List Field := [F.rx_STATE, F.rx_LINE, F.rx_STUCK, F.rx_LOCKED, F.rx_LOCKED_KEY, F.rx_FLAGS, F.rx_STUCK_CNT,
  F.rx_SILENT, F.rx_SILENT_CNT]

theorem laneUp_of_mode {s : State} {n m : Nat} (h : laneMode s n = m) (hm : m ≠ 0) : s.laneUp n = true := by
  cases hup : s.laneUp n with
  | true => rfl
  | false => exact absurd (by simpa [laneMode, hup] using h.symm) hm

section

variable (s : State) {n : Nat}

theorem dropLock_locked : (dropLock s n).on F.rx_LOCKED n = false ∧ (dropLock s n).get F.rx_LOCKED_KEY n = 0 := by
  constructor
  · rw [dropLock, State.on, State.get_set_beside _ F.rx_LOCKED_KEY F.rx_LOCKED n _ rfl rfl (by decide) (by decide)]
    exact on_set_zero s F.rx_LOCKED (by decide) (by decide) n
  · exact State.get_set_self _ F.rx_LOCKED_KEY (by decide) n 0

theorem abSearch_state : rxState (abSearch s n) n = 2 := State.get_set_self _ F.rx_STATE (by decide) n 2

theorem abSearch_regs : (abSearch s n).regs = ((dropLock s n).set F.rx_STATE n 2).regs := rfl

theorem abSearch_receivers : onlyReceivers s (abSearch s n) := by
  have hset : onlyReceivers s ((dropLock s n).set F.rx_STATE n 2) := rfl
  exact onlyReceivers_putRx hset n _

theorem abSearch_rxLane : (abSearch s n).rxLane n = { s.rxLane n with confirmed := false } := rxLane_putRx_self _ _ _

theorem abSearch_locked : (abSearch s n).on F.rx_LOCKED n = false ∧ (abSearch s n).get F.rx_LOCKED_KEY n = 0 := by
  have hlock := dropLock_locked s (n := n)
  have hget : ∀ f : Field, f.off % 65536 ≠ 0x14 → (abSearch s n).get f n = (dropLock s n).get f n := fun f hf =>
    (State.get_congr (abSearch_regs s) f n).trans (State.get_set_off _ F.rx_STATE f n n 2 (Ne.symm hf))
  rw [State.on, hget _ (by decide), hget _ (by decide)]
  exact hlock

variable (hn : n < 65536)
include hn

theorem dropLock_keeps : keepsRegsBut (fieldsAt searchFields n) s (dropLock s n) :=
  keepsRegsBut_trans (keeps_set s F.rx_LOCKED 0 (by decide) hn (by decide)) (keeps_set _ F.rx_LOCKED_KEY 0 (by decide) hn (by decide))

theorem abSearch_keeps : keepsRegsBut (fieldsAt searchFields n) s (abSearch s n) := by
  have hset := keepsRegsBut_trans (dropLock_keeps s hn)
    (keeps_set (dropLock s n) F.rx_STATE 2 (fs := searchFields) (by decide) hn (by decide))
  exact keepsRegsBut_trans hset (keepsRegsBut_of_regs (abSearch_regs s))

end

/-- An unlocked autobaud lane searches, any other is armed (R80). -/
def afterArm (s : State) (n : Nat) : Nat := if (autobaudOn s n && !s.on F.rx_LOCKED n) = true then 2 else 3

theorem armLane_arms (s : State) {n : Nat} (hn : n < 65536) : rxState (armLane s n) n = afterArm s n ∧
    onlyReceivers s (armLane s n) ∧ keepsRegsBut (fieldsAt searchFields n) s (armLane s n) := by
  unfold armLane afterArm
  split
  · exact ⟨abSearch_state s, abSearch_receivers s, abSearch_keeps s hn⟩
  · exact ⟨State.get_set_self s F.rx_STATE (by decide) n 3, rfl, keeps_set s F.rx_STATE 3 (by decide) hn (by decide)⟩

/-- The line reads high and the lane arms: what BREAK_END and LANE_ARM do to a lane that waits. -/
theorem armLane_high (s : State) {n : Nat} (hn : n < 65536) :
    let t := armLane (s.set F.rx_LINE n 1) n
    t = { s with regs := t.regs, rx := t.rx } ∧ t.on F.rx_LINE n = true ∧ rxState t n = afterArm s n ∧
      keepsRegsBut (fieldsAt timerFields n) s t := by
  intro t
  have hline : keepsRegsBut (fieldsAt [F.rx_LINE] n) s (s.set F.rx_LINE n 1) := keeps_set s F.rx_LINE 1 (by simp) hn (by decide)
  obtain ⟨hstate, honly, hkeep⟩ := armLane_arms (s.set F.rx_LINE n 1) hn
  refine ⟨onlyReceivers_trans (onlyReceivers_set (onlyReceivers_refl s) F.rx_LINE n 1) honly, ?_, ?_,
    keepsRegsBut_trans (keeps_more hline (by decide)) (keeps_more hkeep (by decide))⟩
  · exact (on_of_keeps hkeep hn F.rx_LINE (by decide)).trans (on_set_one s F.rx_LINE (by decide) (by decide) n)
  · rw [hstate, afterArm, afterArm, on_of_keeps hline hn F.rx_LOCKED (by decide),
      autobaudOn_of_keeps hline hn (by decide) (by decide) rfl]

/-! ### BREAK_END on a stuck lane (R77, R79, R89) -/

theorem receivesOf_keeps {fs : List Field} {n : Nat} {s t : State} (h : keepsRegsBut (fieldsAt fs n) s t) (hn : n < 65536)
    (hfs : fs.all (fun f => f.blk == .laneRx) = true) (hpart : t.part = s.part)
    (hmode : laneMode s n = 1 ∨ laneMode s n = 3 ∨ laneMode s n = 5) : receives (laneMode t n) = true := by
  rw [laneMode_of_keeps h hn hfs hpart]
  exact receives_of hmode

/-- LINE and STATE of a stuck lane as its line rises or falls. -/
def stuckLine (s : State) (n line st : Nat) : State := (s.set F.rx_LINE n line).set F.rx_STATE n st

theorem stuckLine_keeps (s : State) {n : Nat} (hn : n < 65536) (line st : Nat) :
    keepsRegsBut (fieldsAt timerFields n) s (stuckLine s n line st) :=
  keepsRegsBut_trans (keeps_set s F.rx_LINE line (by decide) hn (by decide)) (keeps_set _ F.rx_STATE st (by decide) hn (by decide))

theorem stuckLine_reads (s : State) (n line : Nat) {st : Nat} (hst : st < 8) :
    rxState (stuckLine s n line st) n = st ∧ (stuckLine s n line st).on F.rx_LINE n = (s.set F.rx_LINE n line).on F.rx_LINE n := by
  refine ⟨(State.get_set_self _ F.rx_STATE (by decide) n st).trans (Nat.mod_eq_of_lt hst), ?_⟩
  rw [stuckLine, State.on, State.get_set_beside _ F.rx_STATE F.rx_LINE n _ rfl rfl (by decide) (by decide)]
  rfl

/-- The line of a stuck lane falls again. -/
theorem startBit_stuck {s : State} {n : Nat} (hn : n < 65536) (hrec : receives (laneMode s n) = true)
    (hign : (s.rxLane n).ignoring = false) (hst : rxState s n = 7) (e : EdgeAt) :
    ∃ u, exec (.startBit n false e) s = .next u ∧ u = { s with regs := u.regs } ∧ u.on F.rx_LINE n = false ∧ rxState u n = 6 ∧
      keepsRegsBut (fieldsAt timerFields n) s u := by
  refine ⟨(s.set F.rx_STATE n 6).set F.rx_LINE n 0, by simp [exec, execStartBit, hrec, hign, hst], rfl, ?_, ?_, ?_⟩
  · exact on_set_zero _ F.rx_LINE (by decide) (by decide) n
  · exact (State.get_set_beside _ F.rx_LINE F.rx_STATE n _ rfl rfl (by decide) (by decide)).trans
      (State.get_set_self s F.rx_STATE (by decide) n 6)
  · exact keepsRegsBut_trans (keeps_set s F.rx_STATE 6 (by decide) hn (by decide)) (keeps_set _ F.rx_LINE 0 (by decide) hn (by decide))

/-- Whether a sentence of the lane's role is open is read beside the receivers. -/
theorem laneOpen_of_keeps {fs : List Field} {n : Nat} {s t : State} (h : keepsRegsBut (fieldsAt fs n) s t) (hn : n < 65536)
    (hfs : fs.all (fun f => f.blk == .laneRx) = true) (hsrcs : t.srcs = s.srcs) : laneOpen t n = laneOpen s n := by
  have hrole := get_of_keeps_block h F.tx_ROLE n hn (by decide) (blocks_ne hfs (by decide))
  have hup := get_of_keeps_block h F.pwr_UP 0 (by decide) (by decide) (blocks_ne hfs (by decide))
  rw [laneOpen, laneOpen, State.shedUp, State.shedUp, hrole, hup, State.source, State.source, hsrcs]

theorem part_of_receiversFired {s t : State} (h : receiversFired s t) : t.part = s.part := by
  unfold receiversFired at h
  rw [h]

theorem srcs_of_receiversFired {s t : State} (h : receiversFired s t) : t.srcs = s.srcs := by
  unfold receiversFired at h
  rw [h]

section

variable {s : State} {n : Nat} (hn : n < 65536) (hmode : laneMode s n = 1 ∨ laneMode s n = 3 ∨ laneMode s n = 5)
include hn hmode

theorem breakEnd_arms (hign : (s.rxLane n).ignoring = false) (hst : rxState s n = 5) :
    ∃ t, exec (.breakEnd n) s = .next t ∧ t = { s with regs := t.regs, rx := t.rx } ∧ t.on F.rx_LINE n = true ∧
      rxState t n = afterArm s n ∧ keepsRegsBut (fieldsAt timerFields n) s t :=
  ⟨armLane (s.set F.rx_LINE n 1) n, by simp [exec, execBreakEnd, receives_of hmode, hign, hst], armLane_high s hn⟩

theorem breakEnd_stuck (hign : (s.rxLane n).ignoring = false) (hst : rxState s n = 6) :
    ∃ t, exec (.breakEnd n) s = .next t ∧ t = { s with regs := t.regs } ∧ t.on F.rx_LINE n = true ∧ rxState t n = 7 ∧
      keepsRegsBut (fieldsAt timerFields n) s t ∧
      ∀ e, ∃ u, exec (.startBit n false e) t = .next u ∧ u = { t with regs := u.regs } ∧ u.on F.rx_LINE n = false ∧
        rxState u n = 6 ∧ keepsRegsBut (fieldsAt timerFields n) t u := by
  have hkeep := stuckLine_keeps s hn 1 7
  obtain ⟨hstate, hline⟩ := stuckLine_reads s n 1 (show 7 < 8 by decide)
  exact ⟨stuckLine s n 1 7, by simp [exec, execBreakEnd, receives_of hmode, hign, hst, stuckLine], rfl,
    hline.trans (on_set_one s F.rx_LINE (by decide) (by decide) n), hstate, hkeep,
    fun e => startBit_stuck hn (receivesOf_keeps hkeep hn (by decide) rfl hmode) hign hstate e⟩

/-! ### LINE_STUCK_LOW (R78) -/

/-- The lane is stuck, its line low. -/
def stuckLow (s : State) (n : Nat) : State := ((s.set F.rx_STUCK n 1).set F.rx_LINE n 0).set F.rx_STATE n 6

/-- The stuck line counted and flagged. -/
def stuckNoted (s : State) (n : Nat) : State := rxEvent (stuckLow s n) n F.rx_STUCK_CNT Bit.rxStuckSet

/-- The character and the packet in progress dropped. -/
def stuckCut (s : State) (n : Nat) : State :=
  dropPacket ((stuckNoted s n).putRx n { (stuckNoted s n).rxLane n with confirmed := false }) n

omit hn hmode in
theorem stuckCut_only (s : State) (n : Nat) : receiversFired s (stuckCut s n) := by
  have hlow : receiversFired s (stuckLow s n) := rfl
  have hnoted : receiversFired s (stuckNoted s n) := receiversFired_trans hlow (receiversFired_of_onlyRegs (rxEvent_only _ n _ _))
  exact receiversFired_putRx (receiversFired_putRx hnoted n _) n _

omit hmode in
theorem stuckLow_reads : keepsRegsBut (fieldsAt timerFields n) s (stuckLow s n) ∧ (stuckLow s n).on F.rx_STUCK n = true ∧
    rxState (stuckLow s n) n = 6 ∧ (stuckLow s n).on F.rx_LINE n = false ∧
    (stuckLow s n).get F.rx_STUCK_CNT n = s.get F.rx_STUCK_CNT n := by
  have hstuck := keeps_set (fs := timerFields) s F.rx_STUCK 1 (by decide) hn (by decide)
  have hline := keeps_set (fs := [F.rx_LINE]) (s.set F.rx_STUCK n 1) F.rx_LINE 0 (by simp) hn (by decide)
  have hstate := keeps_set (fs := [F.rx_STATE]) ((s.set F.rx_STUCK n 1).set F.rx_LINE n 0) F.rx_STATE 6 (by simp) hn (by decide)
  refine ⟨keepsRegsBut_trans (keepsRegsBut_trans hstuck (keeps_more hline (by decide))) (keeps_more hstate (by decide)), ?_,
    State.get_set_self _ F.rx_STATE (by decide) n 6, ?_, ?_⟩
  · exact (on_of_keeps hstate hn F.rx_STUCK (by decide)).trans
      ((on_of_keeps hline hn F.rx_STUCK (by decide)).trans (on_set_one s F.rx_STUCK (by decide) (by decide) n))
  · exact (on_of_keeps hstate hn F.rx_LINE (by decide)).trans (on_set_zero _ F.rx_LINE (by decide) (by decide) n)
  · exact (get_of_keeps hstate hn F.rx_STUCK_CNT (by decide)).trans
      ((get_of_keeps hline hn F.rx_STUCK_CNT (by decide)).trans (State.get_set_off s F.rx_STUCK F.rx_STUCK_CNT n n 1 (by decide)))

omit hn in
theorem exec_lineStuckLow (hign : (s.rxLane n).ignoring = false) (hto : s.get F.rx_STUCK_TO n ≠ 0) (hlo : 1 ≤ rxState s n)
    (hhi : rxState s n ≤ 5) (hdue : (s.rxLane n).silentDue = false) :
    exec (.lineStuckLow n) s = .next (roleCause (stuckCut s n) n 1) := by
  simp [exec, execLineStuckLow, receives_of hmode, hign, hto, hlo, hhi, hdue, stuckCut, stuckNoted, stuckLow, rxEvent]

theorem lineStuckLow_sticks (hign : (s.rxLane n).ignoring = false) (hto : s.get F.rx_STUCK_TO n ≠ 0) (hlo : 1 ≤ rxState s n)
    (hhi : rxState s n ≤ 5) (hdue : (s.rxLane n).silentDue = false) :
    ∃ t, exec (.lineStuckLow n) s = .next t ∧ t.on F.rx_STUCK n = true ∧ rxState t n = 6 ∧ t.on F.rx_LINE n = false ∧
      t.get F.rx_STUCK_CNT n = min (s.get F.rx_STUCK_CNT n + 1) 65535 ∧ (t.get F.rx_FLAGS n).testBit 6 = true ∧
      (t.rxLane n).dmxOpen = false ∧
      (laneOpen s n = false → t = { s with regs := t.regs, fired := t.fired, rx := t.rx } ∧
        keepsRegsBut (fieldsAt timerFields n) s t) := by
  obtain ⟨hlow, hstuck, hstate, hline, hcnt⟩ := stuckLow_reads (s := s) hn
  have hevent := rxEvent_keeps (stuckLow s n) (f := F.rx_STUCK_CNT) (by decide) (bit := Bit.rxStuckSet) hn
  have hregs : (stuckCut s n).regs = (stuckNoted s n).regs := rfl
  have hcause := roleCause_stands (stuckCut s n) n 1
  have hget : ∀ f : Field, f.blk = .laneRx → f.off % 65536 ≠ 0x20 →
      (roleCause (stuckCut s n) n 1).get f n = (stuckNoted s n).get f n := fun f hb ho =>
    (hcause.get f n hb ho).trans (State.get_congr hregs f n)
  refine ⟨_, exec_lineStuckLow hmode hign hto hlo hhi hdue, ?_, ?_, ?_, ?_, ?_, ?_, fun hopen => ?_⟩
  · rw [State.on, hget _ rfl (by decide)]
    exact (on_of_keeps hevent hn F.rx_STUCK (by decide)).trans hstuck
  · exact (hget _ rfl (by decide)).trans ((get_of_keeps hevent hn F.rx_STATE (by decide)).trans hstate)
  · rw [State.on, hget _ rfl (by decide)]
    exact (on_of_keeps hevent hn F.rx_LINE (by decide)).trans hline
  · refine (hget _ rfl (by decide)).trans ((rxEvent_count _ (by decide)).trans ?_)
    rw [hcnt]
    rfl
  · rw [hget _ rfl (by decide)]
    exact flagged_testBit (rxEvent_flagged (stuckLow s n) (n := n) (f := F.rx_STUCK_CNT) (by decide) (bit := Bit.rxStuckSet) (by decide))
  · rw [State.rxLane, hcause.rx]
    exact congrArg LaneRx.dmxOpen (rxLane_putRx_self _ n _)
  · have hregs' : keepsRegsBut (fieldsAt timerFields n) s (stuckCut s n) :=
      keepsRegsBut_trans hlow (keepsRegsBut_trans (keeps_more hevent (by decide)) (keepsRegsBut_of_regs hregs))
    have hrest := stuckCut_only s n
    have hshut : laneOpen (stuckCut s n) n = false := (laneOpen_of_keeps hregs' hn (by decide) (srcs_of_receiversFired hrest)).trans hopen
    rw [roleCause_closed _ n 1 hshut]
    exact ⟨hrest, hregs'⟩

/-! ### LANE_ARM (R79, R80) -/

theorem laneArm_arms (hign : (s.rxLane n).ignoring = false) (hup : upstream s = true) (hst : rxState s n = 1) :
    ∃ t, exec (.laneArm n) s = .next t ∧ t = { s with regs := t.regs, rx := t.rx } ∧ t.on F.rx_LINE n = true ∧
      rxState t n = afterArm s n ∧ keepsRegsBut (fieldsAt timerFields n) s t :=
  ⟨armLane (s.set F.rx_LINE n 1) n, by simp [exec, execLaneArm, receives_of hmode, hign, hup, hst], armLane_high s hn⟩

/-- The fault of a stuck lane cleared: STUCK 0, the line high, the fault's end flagged. -/
def stuckClear (s : State) (n : Nat) : State := raiseRx ((s.set F.rx_STUCK n 0).set F.rx_LINE n 1) n Bit.rxStuckClear

/-- A lane without a fault searches or arms. -/
def freeLane (s : State) (n : Nat) : State := if autobaudOn s n then abSearch s n else s.set F.rx_STATE n 3

omit hmode in
theorem stuckClear_reads (s : State) : receiversFired s (stuckClear s n) ∧ (stuckClear s n).on F.rx_STUCK n = false ∧
    (stuckClear s n).on F.rx_LINE n = true ∧ flagged F.rx_FLAGS F.rx_EVEN n 7 n s (stuckClear s n) ∧
    keepsRegsBut (fieldsAt [F.rx_STUCK, F.rx_LINE, F.rx_FLAGS] n) s (stuckClear s n) := by
  have hstuck := keeps_set (fs := [F.rx_STUCK]) s F.rx_STUCK 0 (by simp) hn (by decide)
  have hline := keeps_set (fs := [F.rx_LINE]) (s.set F.rx_STUCK n 0) F.rx_LINE 1 (by simp) hn (by decide)
  have hwrites : keepsRegsBut (fieldsAt [F.rx_STUCK, F.rx_LINE] n) s ((s.set F.rx_STUCK n 0).set F.rx_LINE n 1) :=
    keepsRegsBut_trans (keeps_more hstuck (by decide)) (keeps_more hline (by decide))
  have hflag := raiseRx_keeps ((s.set F.rx_STUCK n 0).set F.rx_LINE n 1) hn Bit.rxStuckClear
  refine ⟨receiversFired_trans (t := (s.set F.rx_STUCK n 0).set F.rx_LINE n 1) rfl (receiversFired_of_onlyRegs (raiseRx_only _ n _)),
    (on_of_keeps hflag hn F.rx_STUCK (by decide)).trans ((on_of_keeps hline hn F.rx_STUCK (by decide)).trans
      (on_set_zero s F.rx_STUCK (by decide) (by decide) n)),
    (on_of_keeps hflag hn F.rx_LINE (by decide)).trans (on_set_one _ F.rx_LINE (by decide) (by decide) n), ?_,
    keepsRegsBut_trans (keeps_more hwrites (by decide)) (keeps_more hflag (by decide))⟩
  exact flagged_after (raiseRx_flagged ((s.set F.rx_STUCK n 0).set F.rx_LINE n 1) n (by decide))
    (get_of_keeps hwrites hn F.rx_FLAGS (by decide)) (get_of_keeps hwrites hn F.rx_EVEN (by decide)) rfl rfl
    (get_of_keeps_block hwrites F.time_SERVO 0 (by decide) (by decide) (by decide))

omit hmode in
theorem freeLane_reads (s : State) : receiversFired s (freeLane s n) ∧ rxState (freeLane s n) n = (if autobaudOn s n then 2 else 3) ∧
    keepsRegsBut (fieldsAt searchFields n) s (freeLane s n) ∧ (freeLane s n).fired = s.fired := by
  unfold freeLane
  split
  · exact ⟨receiversFired_of_onlyReceivers (abSearch_receivers s), abSearch_state s, abSearch_keeps s hn, rfl⟩
  · exact ⟨rfl, State.get_set_self s F.rx_STATE (by decide) n 3, keeps_set s F.rx_STATE 3 (by decide) hn (by decide), rfl⟩

theorem laneArm_clears (hign : (s.rxLane n).ignoring = false) (hup : upstream s = true)
    (hst : rxState s n = 6 ∨ rxState s n = 7) :
    ∃ t, exec (.laneArm n) s = .next t ∧ t = { s with regs := t.regs, rx := t.rx, fired := t.fired } ∧ t.on F.rx_STUCK n = false ∧
      t.on F.rx_LINE n = true ∧ flagged F.rx_FLAGS F.rx_EVEN n 7 n s t ∧ rxState t n = (if autobaudOn s n then 2 else 3) ∧
      keepsRegsBut (fieldsAt timerFields n) s t := by
  obtain ⟨honly, hstuck, hline, hflag, hkeep⟩ := stuckClear_reads hn s
  obtain ⟨hrest, hstate, hfree, hfired⟩ := freeLane_reads hn (stuckClear s n)
  have hauto : autobaudOn (stuckClear s n) n = autobaudOn s n :=
    autobaudOn_of_keeps hkeep hn (by decide) (by decide) (part_of_receiversFired honly)
  have hfault : (rxState s n == 6 || rxState s n == 7) = true := by
    obtain hst | hst := hst <;> rw [hst] <;> rfl
  refine ⟨freeLane (stuckClear s n) n, ?_, receiversFired_trans honly hrest,
    (on_of_keeps hfree hn F.rx_STUCK (by decide)).trans hstuck, (on_of_keeps hfree hn F.rx_LINE (by decide)).trans hline,
    flagged_before hflag (get_of_keeps hfree hn F.rx_FLAGS (by decide)) hfired, by rw [hstate, hauto],
    keepsRegsBut_trans (keeps_more hkeep (by decide)) (keeps_more hfree (by decide))⟩
  simp only [exec, execLaneArm, receives_of hmode, hign, hup, hfault, Bool.not_true, Bool.or_self, Bool.false_eq_true, if_false, if_true]
  rfl

/-! ### REARM (R71, R79, R85) -/

theorem rearmArms (hign : (s.rxLane n).ignoring = false) (hup : upstream s = true) (hauto : autobaudOn s n = false)
    (hst : rxState s n = 1) :
    ∃ t, exec (.rearm n) s = .next t ∧ t = { s with regs := t.regs } ∧ rxState t n = 3 ∧
      keepsRegsBut (fieldsAt [F.rx_STATE] n) s t := by
  have hlane : s.laneUp n = true := laneUp_of_mode rfl (by omega)
  exact ⟨s.set F.rx_STATE n 3, by simp [exec, execRearm, rearmLane, hlane, receives_of hmode, hign, hup, hauto, hst], rfl,
    State.get_set_self s F.rx_STATE (by decide) n 3, keeps_set s F.rx_STATE 3 (by simp) hn (by decide)⟩

/-- The lane keeps its STATE under REARM: it ignores its line, is stuck, or S2 or S4 is down. -/
def rearmBlocked (s : State) (n : Nat) : Bool := (s.rxLane n).ignoring || !upstream s || rxState s n == 6 || rxState s n == 7

omit hn in
theorem exec_rearmAutobaud (hauto : autobaudOn s n = true) (hdue : (s.rxLane n).silentDue = false) :
    exec (.rearm n) s = .next (if rearmBlocked s n then dropLock s n else abSearch s n) := by
  have hlane : s.laneUp n = true := laneUp_of_mode rfl (by omega)
  have hblocked : (rxState s n == 6 || rxState s n == 7 || (s.rxLane n).ignoring || !upstream s) = rearmBlocked s n := by
    unfold rearmBlocked
    ac_rfl
  simp only [exec, execRearm, rearmLane, hlane, receives_of hmode, hblocked, hauto, hdue, if_true, Bool.not_true,
    Bool.false_eq_true, if_false]

theorem rearmDrops (hauto : autobaudOn s n = true) (hdue : (s.rxLane n).silentDue = false) :
    ∃ t, exec (.rearm n) s = .next t ∧ t = { s with regs := t.regs, rx := t.rx } ∧ t.on F.rx_LOCKED n = false ∧
      t.get F.rx_LOCKED_KEY n = 0 ∧ rxState t n = (if rearmBlocked s n then rxState s n else 2) ∧
      keepsRegsBut (fieldsAt timerFields n) s t := by
  refine ⟨_, exec_rearmAutobaud hmode hauto hdue, ?_⟩
  split
  · obtain ⟨hlock, hkey⟩ := dropLock_locked s (n := n)
    have hkeep : keepsRegsBut (fieldsAt [F.rx_LOCKED, F.rx_LOCKED_KEY] n) s (dropLock s n) :=
      keepsRegsBut_trans (keeps_set s F.rx_LOCKED 0 (by simp) hn (by decide)) (keeps_set _ F.rx_LOCKED_KEY 0 (by simp) hn (by decide))
    exact ⟨rfl, hlock, hkey, get_of_keeps hkeep hn F.rx_STATE (by decide), keeps_more hkeep (by decide)⟩
  · obtain ⟨hlock, hkey⟩ := abSearch_locked s (n := n)
    exact ⟨abSearch_receivers s, hlock, hkey, abSearch_state s, keeps_more (abSearch_keeps s hn) (by decide)⟩

/-! ### TALKER_SILENT (R81) -/

omit hmode in
theorem noteSilent_reads (s : State) : (noteSilent s n).on F.rx_SILENT n = true ∧
    (noteSilent s n).get F.rx_SILENT_CNT n = min (s.get F.rx_SILENT_CNT n + 1) 65535 ∧
    flagged F.rx_FLAGS F.rx_EVEN n 8 n s (noteSilent s n) ∧
    keepsRegsBut (fieldsAt [F.rx_SILENT, F.rx_SILENT_CNT, F.rx_FLAGS] n) s (noteSilent s n) := by
  have hset := keeps_set (fs := [F.rx_SILENT]) s F.rx_SILENT 1 (by simp) hn (by decide)
  have hevent := rxEvent_keeps (s.set F.rx_SILENT n 1) (f := F.rx_SILENT_CNT) (by decide) (bit := Bit.rxSilentSet) hn
  have hregs : (noteSilent s n).regs = (rxEvent (s.set F.rx_SILENT n 1) n F.rx_SILENT_CNT Bit.rxSilentSet).regs := rfl
  have hfired : (noteSilent s n).fired = (rxEvent (s.set F.rx_SILENT n 1) n F.rx_SILENT_CNT Bit.rxSilentSet).fired := rfl
  have hget := State.get_congr hregs
  refine ⟨?_, ?_, ?_, ?_⟩
  · rw [State.on, hget]
    exact (on_of_keeps hevent hn F.rx_SILENT (by decide)).trans (on_set_one s F.rx_SILENT (by decide) (by decide) n)
  · rw [hget, rxEvent_count _ (by decide), get_of_keeps hset hn F.rx_SILENT_CNT (by decide)]
    rfl
  · have hflag := rxEvent_flagged (s.set F.rx_SILENT n 1) (n := n) (f := F.rx_SILENT_CNT) (by decide) (bit := Bit.rxSilentSet) (by decide)
    exact flagged_before (flagged_after hflag (get_of_keeps hset hn F.rx_FLAGS (by decide)) (get_of_keeps hset hn F.rx_EVEN (by decide))
      rfl rfl (get_of_keeps_block hset F.time_SERVO 0 (by decide) (by decide) (by decide))) (hget _ _) hfired
  · exact keepsRegsBut_trans (keeps_more hset (by decide)) (keepsRegsBut_trans (keeps_more hevent (by decide)) (keepsRegsBut_of_regs hregs))

omit hmode in
/-- A dropped lock after TALKER_SILENT moves the search's fields and `confirmed`, no more. -/
theorem raiseSilent_after (s : State) : keepsRegsBut (fieldsAt searchFields n) (noteSilent s n) (raiseSilent s n) ∧
    (raiseSilent s n).fired = (noteSilent s n).fired ∧ ((raiseSilent s n).rxLane n).heard = ((noteSilent s n).rxLane n).heard := by
  have hdrop := dropLock_keeps (noteSilent s n) hn
  have hcases := raiseSilent_cases s n
  generalize noteSilent s n = u at hdrop hcases ⊢
  obtain h | h | h := hcases <;> rw [h]
  · exact ⟨keepsRegsBut_refl _ _, rfl, rfl⟩
  · exact ⟨hdrop, rfl, rfl⟩
  · refine ⟨keepsRegsBut_trans hdrop (abSearch_keeps _ hn), rfl, ?_⟩
    rw [abSearch_rxLane]
    rfl

omit hn in
theorem exec_talkerSilent (hto : s.get F.rx_SILENT_TO n ≠ 0) (hheard : (s.rxLane n).heard = true) (hsil : s.on F.rx_SILENT n = false) :
    exec (.talkerSilent n) s = .next (if rxState s n == 4 && (s.rxLane n).confirmed then
      s.putRx n { s.rxLane n with silentDue := true } else raiseSilent s n) := by
  simp only [exec, execTalkerSilent, receives_of hmode, bne_iff_ne.2 hto, hheard, hsil, Bool.not_false, Bool.and_self, if_true]
  split <;> rfl

theorem talkerSilent_raised (hto : s.get F.rx_SILENT_TO n ≠ 0) (hheard : (s.rxLane n).heard = true) (hsil : s.on F.rx_SILENT n = false)
    (hout : ¬ (rxState s n = 4 ∧ (s.rxLane n).confirmed = true)) :
    ∃ t, exec (.talkerSilent n) s = .next t ∧ t = { s with regs := t.regs, rx := t.rx, fired := t.fired } ∧
      t.on F.rx_SILENT n = true ∧ t.get F.rx_SILENT_CNT n = min (s.get F.rx_SILENT_CNT n + 1) 65535 ∧
      flagged F.rx_FLAGS F.rx_EVEN n 8 n s t ∧ (t.rxLane n).heard = false ∧ keepsRegsBut (fieldsAt timerFields n) s t := by
  obtain ⟨hon, hcnt, hflag, hkeep⟩ := noteSilent_reads hn s
  obtain ⟨hafter, hfired, hquiet⟩ := raiseSilent_after hn s
  refine ⟨raiseSilent s n, ?_, raiseSilent_only s n, (on_of_keeps hafter hn F.rx_SILENT (by decide)).trans hon,
    (get_of_keeps hafter hn F.rx_SILENT_CNT (by decide)).trans hcnt,
    flagged_before hflag (get_of_keeps hafter hn F.rx_FLAGS (by decide)) hfired, ?_,
    keepsRegsBut_trans (keeps_more hkeep (by decide)) (keeps_more hafter (by decide))⟩
  · rw [exec_talkerSilent hmode hto hheard hsil, if_neg (by simpa using hout)]
  · rw [hquiet, noteSilent, rxLane_putRx_self]

/-! ### FRAGMENT (R82) -/

theorem fragment_cuts (hm : laneMode s n ≠ 5) (hict : s.get F.rx_ICT n ≠ 0) (hopen : laneOpen s n = true)
    (hout : ¬ (rxState s n = 4 ∧ (s.rxLane n).confirmed = true)) :
    ∃ t, exec (.fragment n) s = .next t ∧
      t.get F.rx_N_FRAGMENT n = min (s.get F.rx_N_FRAGMENT n + 1) 0xFFFFFFFF ∧ (t.get F.rx_FLAGS n).testBit 5 = true ∧
      (t.source (s.get F.tx_ROLE n)).sent = none ∧ t.rx = s.rx := by
  have hmode' : (laneMode s n == 1 || laneMode s n == 3) = true := by
    simp only [Bool.or_eq_true, beq_iff_eq]
    omega
  have hout' : (rxState s n == 4 && (s.rxLane n).confirmed) = false := by simpa using hout
  have hevent := rxEvent_keeps s (f := F.rx_N_FRAGMENT) (by decide) (bit := Bit.rxFragment) hn
  have honly := rxEvent_only s n F.rx_N_FRAGMENT Bit.rxFragment
  have hrole : (rxEvent s n F.rx_N_FRAGMENT Bit.rxFragment).get F.tx_ROLE n = s.get F.tx_ROLE n :=
    get_of_keeps_block hevent F.tx_ROLE n hn (by decide) (by decide)
  have hcause := roleCause_stands (rxEvent s n F.rx_N_FRAGMENT Bit.rxFragment) n 5
  have hopen' : laneOpen (rxEvent s n F.rx_N_FRAGMENT Bit.rxFragment) n = true :=
    (laneOpen_of_keeps hevent hn (by decide) (srcs_of_receiversFired (receiversFired_of_onlyRegs honly))).trans hopen
  refine ⟨roleCause (rxEvent s n F.rx_N_FRAGMENT Bit.rxFragment) n 5, ?_, ?_, ?_, ?_, hcause.rx.trans (rx_of_onlyRegs honly)⟩
  · simp only [exec, execFragment, hmode', bne_iff_ne.2 hict, hopen, hout', Bool.not_false, Bool.and_self, if_true]
  · exact (hcause.get F.rx_N_FRAGMENT n rfl (by decide)).trans (rxEvent_count s (by decide))
  · rw [hcause.get F.rx_FLAGS n rfl (by decide)]
    exact flagged_testBit (rxEvent_flagged s (n := n) (f := F.rx_N_FRAGMENT) (by decide) (bit := Bit.rxFragment) (by decide))
  · rw [← hrole]
    exact roleCause_timeout _ n hopen'

end

/-- Settles O25, each event by its own branch: a lane's registers move within the timers' fields (R77 to R82). -/
theorem receiverTimersTakeEffect : Obligations.ReceiverTimersTakeEffect := by
  intro s n hlane hmode
  have hn : n < 65536 := by omega
  have hups : s.shedUp 2 = true → s.shedUp 4 = true → upstream s = true := fun h2 h4 => by rw [upstream, h2, h4]; rfl
  refine ⟨breakEnd_arms hn hmode, breakEnd_stuck hn hmode, lineStuckLow_sticks hn hmode,
    fun hign h2 h4 => ⟨laneArm_arms hn hmode hign (hups h2 h4), laneArm_clears hn hmode hign (hups h2 h4)⟩,
    fun hto hheard hsil => ⟨fun hin => ?_, talkerSilent_raised hn hmode hto hheard hsil⟩, fragment_cuts hn hmode,
    fun hign h2 h4 => rearmArms hn hmode hign (hups h2 h4), rearmDrops hn hmode⟩
  rw [exec_talkerSilent hmode hto hheard hsil, if_pos (by simpa using hin)]

end Sys2Proof.Machine
end

section
/-! PROOF. The parser's framing (R75, R124 to R136): what taking one byte of a source moves, where the byte stands, and the sentence that
PARSER_BYTE leaves open, ends or discards. -/

namespace Sys2Proof.Machine

/-! ### What taking a byte leaves alone -/

/-- A step of source `src`'s parser that writes the yard, and of the registers only the receivers': other sources, and what the
holding registers hold, stand. -/
structure ParserStep (src : Nat) (s t : State) : Prop where
  rest : t = { s with regs := t.regs, srcs := t.srcs, rx := t.rx, yard := t.yard, groomPass := t.groomPass }
  others : ∀ k, k ≠ src → t.source k = s.source k
  hold : ∀ k, (t.rxLane k).hold = (s.rxLane k).hold
  reg : ∀ r : RegAddr, r.blk ≠ .laneRx → t.reg r = s.reg r

namespace ParserStep

variable {src : Nat} {s t u : State}

theorem refl (src : Nat) (s : State) : ParserStep src s s := ⟨rfl, fun _ _ => rfl, fun _ => rfl, fun _ _ => rfl⟩

theorem trans (h : ParserStep src s t) (k : ParserStep src t u) : ParserStep src s u :=
  ⟨by rw [k.rest, h.rest], fun j hj => (k.others j hj).trans (h.others j hj), fun j => (k.hold j).trans (h.hold j),
    fun r hr => (k.reg r hr).trans (h.reg r hr)⟩

theorem get (h : ParserStep src s t) (f : Field) (i : Nat) (hf : f.blk ≠ .laneRx) : t.get f i = s.get f i :=
  get_of_reg (h.reg (f.addr i) hf)

theorem yardErr (h : ParserStep src s t) : t.yardErr = s.yardErr := by rw [h.rest]

theorem stamp (h : ParserStep src s t) : t.stamp = s.stamp := by rw [h.rest]; rfl

theorem tsState (h : ParserStep src s t) : t.tsState = s.tsState := by
  rw [State.tsState, State.tsState, h.get F.time_SERVO 0 (by decide)]

end ParserStep

theorem ringShow_step (s : State) (src k : Nat) : ParserStep src s (ringShow s k) := by
  have honly := ringShow_only s k
  refine ⟨?_, fun j _ => source_of_regsOnly honly j, fun j => ?_, fun r hr => ringShow_reg s k (Or.inl hr)⟩
  · unfold regsOnly at honly
    rw [honly]
  · rw [State.rxLane, rx_of_regsOnly honly]
    rfl

theorem putSource_step (s : State) (src : Nat) (x : Source) : ParserStep src s (s.putSource src x) :=
  ⟨rfl, fun _ hk => source_putSource_ne s x hk, fun _ => rfl, fun _ _ => rfl⟩

/-! ### Where a stored byte stands (R75, R126, R249) -/

/-- A single byte written while no word is in error is stored as it is. -/
theorem writeWord_byte {s : State} (hyard : s.yardErr = []) (port w i : Nat) (b : Byte) :
    writeWord s port w [(i, b)] = (s.yardPut (8 * w + i) b, rspOk) := by
  have hpart : (List.range 8).all (fun k => [(i, b)].any (fun e => e.1 == k)) = false := by
    rw [List.all_eq_false]
    refine ⟨if i = 0 then 1 else 0, by split <;> decide, ?_⟩
    split <;> simp [*]
  simp only [writeWord, hpart, hyard, List.isEmpty_nil, Bool.false_eq_true, if_false, if_true, List.foldl_cons, List.foldl_nil]

theorem yardPut_step (s : State) (src a : Nat) (b : Byte) : ParserStep src s (s.yardPut a b) := by
  have hmark : s.markWritten a = { s with groomPass := (s.markWritten a).groomPass } := by
    unfold State.markWritten
    split
    · split <;> rfl
    · rfl
  have hrest : s.yardPut a b = { s with yard := (s.yardPut a b).yard, groomPass := (s.yardPut a b).groomPass } := by
    unfold State.yardPut
    rw [hmark]
  rw [hrest]
  exact ⟨rfl, fun _ _ => rfl, fun _ => rfl, fun _ _ => rfl⟩

theorem putRx_step (s : State) (src n : Nat) (x : LaneRx) (h : x.hold = (s.rxLane n).hold) : ParserStep src s (s.putRx n x) := by
  refine ⟨rfl, fun _ _ => rfl, fun k => ?_, fun _ _ => rfl⟩
  by_cases hk : k = n
  · rw [hk, rxLane_putRx_self, h]
  · rw [rxLane_putRx_ne s x hk]

/-- A context in which the open sentence is `x`, its bytes at some places. -/
def placedAt (so : Source) (x : Sentence) (t : Source) : Prop := ∃ p, t = { so with sent := some { x with spots := p } }

theorem stageLane_step {s : State} (hyard : s.yardErr = []) (src n : Nat) (x : Sentence) (b : Byte) :
    ParserStep src s (stageLane s src n x b) ∧ placedAt (s.source src) x ((stageLane s src n x b).source src) := by
  have hput := yardPut_step s src (8 * (ringSpot s n / 8) + ringSpot s n % 8) b
  unfold stageLane
  dsimp only
  rw [writeWord_byte hyard]
  have hok : (rspOk == rspDue) = false := by decide
  simp only [hok, Bool.false_eq_true, if_false]
  generalize s.yardPut (8 * (ringSpot s n / 8) + ringSpot s n % 8) b = t at hput
  refine ⟨(hput.trans (putRx_step t src n { t.rxLane n with ringWr := ((t.rxLane n).ringWr + 1) % 2048 } rfl)).trans
    (putSource_step _ src _), ?_⟩
  rw [source_putSource_self]
  exact ⟨_, rfl⟩

/-- The byte just taken finds its place: the sentence's spots alone move. -/
theorem stageLast_step {s : State} (hyard : s.yardErr = []) {src : Nat} {x : Sentence} (hsent : (s.source src).sent = some x)
    (before : Nat) (i : InByte) :
    ParserStep src s (stageLast s src before i) ∧ placedAt (s.source src) x ((stageLast s src before i).source src) := by
  have hstay : ParserStep src s s ∧ placedAt (s.source src) x (s.source src) := ⟨ParserStep.refl src s, x.spots, by rw [← hsent]⟩
  unfold stageLast
  simp only [hsent]
  split
  · exact hstay
  · split
    · refine ⟨putSource_step s src _, ?_⟩
      rw [source_putSource_self]
      exact ⟨_, rfl⟩
    · split
      · exact stageLane_step hyard src _ x i.data
      · exact hstay
    · exact hstay

/-- A byte that was not stored takes no place. -/
theorem stageLast_unstored {s : State} {src : Nat} {x : Sentence} (hsent : (s.source src).sent = some x) {before : Nat}
    (h : x.bytes.length ≤ before) (i : InByte) : stageLast s src before i = s := by
  simp only [stageLast, hsent, h, if_true]

/-! ### A sentence opens (R124, R136, R142) -/

/-- The sentence that a start character opens. -/
def opening (s : State) (src : Nat) (i : InByte) : Sentence :=
  { source := src, long := i.data == 0x25#8, bytes := [i.data], count := 1, dmxr := i.dmxr,
    cfg := s.reg (F.parse_NMEA_EN.addr src), stamp := if i.tsSrc == 2 then s.stamp else i.stamp, tsSrc := i.tsSrc
    tsState := if i.tsSrc == 2 then s.tsState else i.tsState, idx := (s.source src).idx, frame := i.frame }

/-- What a sentence that byte `i` opened in state `s` holds. -/
def opensWith (s : State) (src : Nat) (i : InByte) (y : Sentence) : Prop :=
  y.bytes = [i.data] ∧ y.count = 1 ∧ y.source = src ∧ y.malformed = false ∧ y.long = (i.data == 0x25#8) ∧ y.tsSrc = i.tsSrc ∧
    y.stamp = (if i.tsSrc = 2 then s.stamp else i.stamp) ∧ y.tsState = (if i.tsSrc = 2 then s.tsState else i.tsState) ∧
    y.cfg = s.reg (F.parse_NMEA_EN.addr src)

theorem opening_opensWith (s : State) (src : Nat) (i : InByte) (p : List Nat) : opensWith s src i { opening s src i with spots := p } := by
  simp [opensWith, opening]

/-- Opening reads the time and the source's settings alone. -/
theorem opensWith_of_reads {s t : State} {src : Nat} {i : InByte} {y : Sentence} (h : opensWith t src i y) (hstamp : t.stamp = s.stamp)
    (hts : t.tsState = s.tsState) (hcfg : t.reg (F.parse_NMEA_EN.addr src) = s.reg (F.parse_NMEA_EN.addr src)) :
    opensWith s src i y := by
  unfold opensWith at h
  rwa [hstamp, hts, hcfg] at h

theorem openSentence_step (s : State) (src : Nat) (i : InByte) : ParserStep src s (openSentence s src i) ∧
    ∃ k, (openSentence s src i).source src = { s.source src with sent := some (opening s src i), idx := k } := by
  refine ⟨(putSource_step s src _).trans (ringShow_step _ src src), if i.tsSrc == 1 then (s.source src).idx + 1 else 0, ?_⟩
  rw [openSentence, source_of_regsOnly (ringShow_only _ src), source_putSource_self]
  rfl

/-- The state with a sentence opened at byte `i`, the byte in its place. -/
def openedAt (s : State) (src : Nat) (i : InByte) : State := stageLast (openSentence s src i) src 0 i

theorem openedAt_step {s : State} (hyard : s.yardErr = []) (src : Nat) (i : InByte) : ParserStep src s (openedAt s src i) ∧
    ∃ z k, opensWith s src i z ∧ (openedAt s src i).source src = { s.source src with sent := some z, idx := k } := by
  obtain ⟨hopen, k, hsource⟩ := openSentence_step s src i
  have hyard' : (openSentence s src i).yardErr = [] := hopen.yardErr.trans hyard
  obtain ⟨hstage, p, hplaced⟩ := stageLast_step hyard' (src := src) (x := opening s src i) (by rw [hsource]) 0 i
  refine ⟨hopen.trans hstage, _, k, opening_opensWith s src i p, ?_⟩
  rw [openedAt, hplaced, hsource]

/-! ### A byte joins the open sentence (R127, R134, R135) -/

/-- The state with byte `i` taken into the open sentence `x`, the byte in its place. -/
def takenAt (s : State) (src : Nat) (x : Sentence) (i : InByte) : State :=
  stageLast (ringShow (s.putSource src { s.source src with sent := some (takeByte x i.data) }) src) src x.bytes.length i

/-- The state with the byte in the sentence, before its place is known. -/
def shownAt (s : State) (src : Nat) (x : Sentence) (i : InByte) : State :=
  ringShow (s.putSource src { s.source src with sent := some (takeByte x i.data) }) src

theorem shownAt_step (s : State) (src : Nat) (x : Sentence) (i : InByte) : ParserStep src s (shownAt s src x i) ∧
    (shownAt s src x i).source src = { s.source src with sent := some (takeByte x i.data) } := by
  refine ⟨(putSource_step s src { s.source src with sent := some (takeByte x i.data) }).trans (ringShow_step _ src src), ?_⟩
  rw [shownAt, source_of_regsOnly (ringShow_only _ src), source_putSource_self]

theorem takenAt_step {s : State} (hyard : s.yardErr = []) (src : Nat) (x : Sentence) (i : InByte) :
    ParserStep src s (takenAt s src x i) ∧ placedAt (s.source src) (takeByte x i.data) ((takenAt s src x i).source src) := by
  obtain ⟨hshow, hsource⟩ := shownAt_step s src x i
  obtain ⟨hstage, p, hplaced⟩ :=
    stageLast_step (hshow.yardErr.trans hyard) (x := takeByte x i.data) (by rw [hsource]) x.bytes.length i
  refine ⟨hshow.trans hstage, p, ?_⟩
  rw [takenAt, ← shownAt, hplaced, hsource]

theorem takenAt_unstored (s : State) (src : Nat) {x : Sentence} {i : InByte} (h : (takeByte x i.data).bytes.length ≤ x.bytes.length) :
    (takenAt s src x i).source src = { s.source src with sent := some (takeByte x i.data) } := by
  obtain ⟨-, hsource⟩ := shownAt_step s src x i
  rw [takenAt, ← shownAt, stageLast_unstored (by rw [hsource]) h, hsource]

theorem stageAddr_count (x : Sentence) (b : Byte) : (stageAddr x b).count = x.count ∧ (stageAddr x b).causes = x.causes := by
  unfold stageAddr
  dsimp only
  split_ifs <;> exact ⟨rfl, rfl⟩

theorem stageNmea_count (x : Sentence) (b : Byte) : (stageNmea x b).count = x.count ∧ (stageNmea x b).causes = x.causes := by
  unfold stageNmea
  split_ifs <;> exact ⟨rfl, rfl⟩

theorem stageLong_count (x : Sentence) (b : Byte) : (stageLong x b).count = x.count ∧ (stageLong x b).causes = x.causes := by
  unfold stageLong
  split_ifs <;> exact ⟨rfl, rfl⟩

theorem stageCheck_count (x : Sentence) (b : Byte) : (stageCheck x b).count = x.count ∧ (stageCheck x b).causes = x.causes := by
  unfold stageCheck
  dsimp only
  split_ifs <;> exact ⟨rfl, rfl⟩

/-- Looking at a byte's framing counts nothing and notes no cause. -/
theorem stageByte_count (x : Sentence) (b : Byte) : (stageByte x b).count = x.count ∧ (stageByte x b).causes = x.causes := by
  unfold stageByte
  split
  · exact ⟨rfl, rfl⟩
  · split
    · exact stageAddr_count x b
    · split
      · exact stageLong_count x b
      · exact stageNmea_count x b
    · exact stageCheck_count x b
    · split <;> exact ⟨rfl, rfl⟩
    · split <;> exact ⟨rfl, rfl⟩

theorem takeByte_count (x : Sentence) (b : Byte) : (takeByte x b).count = x.count + 1 ∧ (takeByte x b).causes = x.causes := by
  obtain ⟨hcount, hcauses⟩ := stageByte_count _ b
  unfold takeByte
  dsimp only
  rw [hcount, hcauses]
  split_ifs <;> exact ⟨rfl, rfl⟩

section

variable {x : Sentence} {b : Byte} (hstage : x.stage = 1) (hlong : x.long = false) (hmal : x.malformed = false)
  (hlo : 0x20 ≤ b.toNat) (hhi : b.toNat ≤ 0x7E) (hb : b ∉ [0x21#8, 0x24#8, 0x2A#8])
include hlo

theorem printable_ne_control {c : Byte} (hc : c.toNat < 0x20) : b ≠ c := fun h => by
  rw [h] at hlo
  omega

include hhi hb

/-- A printable field byte that no framing character is leaves an NMEA sentence's stage. -/
theorem stageNmea_printable (y : Sentence) : stageNmea y b = y := by
  obtain ⟨hbang, hdollar, hstar⟩ : b ≠ 0x21#8 ∧ b ≠ 0x24#8 ∧ b ≠ 0x2A#8 := by simpa using hb
  have hcr : b ≠ 0x0D#8 := printable_ne_control hlo (by decide)
  have hbad : ¬ (b.toNat < 0x20 ∨ 0x7E < b.toNat ∨ b = 0x24#8 ∨ b = 0x21#8) := by
    rintro (h | h | h | h)
    · omega
    · omega
    · exact hdollar h
    · exact hbang h
  simp only [stageNmea, beq_eq_false_iff_ne.2 hcr, beq_eq_false_iff_ne.2 hstar, Bool.false_eq_true, if_false, hbad]

include hstage hlong hmal

theorem takeByte_stored (hover : x.overlong = false) (hcount : x.count < 82) :
    takeByte x b = { x with count := x.count + 1, bytes := x.bytes ++ [b] } := by
  have hlf : b ≠ 0x0A#8 := printable_ne_control hlo (by decide)
  have hfit : ¬ 82 < x.count + 1 := by omega
  simp only [takeByte, lengthLimit, hlong, Bool.false_eq_true, if_false, hfit, beq_eq_false_iff_ne.2 hlf, Bool.false_and]
  simp only [stageByte, hmal, hover, hstage, Bool.or_self, Bool.false_eq_true, if_false]
  exact stageNmea_printable hlo hhi hb _

omit hhi hb hstage hmal in
theorem takeByte_overlong (hcount : 82 ≤ x.count) : takeByte x b = { x with count := x.count + 1, overlong := true } := by
  have hlf : b ≠ 0x0A#8 := printable_ne_control hlo (by decide)
  have hfit : 82 < x.count + 1 := by omega
  simp only [takeByte, lengthLimit, hlong, Bool.false_eq_true, if_false, hfit, if_true, beq_eq_false_iff_ne.2 hlf, Bool.false_and]
  simp only [stageByte, Bool.or_true, if_true]

end

/-! ### The parser takes a byte (R134) -/

theorem flagOpen_plain (s : State) (src : Nat) : flagOpen s src false false = s := by
  unfold flagOpen
  simp only [Bool.false_eq_true, if_false]
  split <;> rfl

/-- A character in parity error marks the open sentence damaged. -/
theorem flagOpen_damaged {s : State} {src : Nat} {x : Sentence} (hsent : (s.source src).sent = some x) :
    flagOpen s src true false = s.putSource src { s.source src with sent := some { x with causes := x.causes ++ [4] } } := by
  simp [flagOpen, laneCause, hsent]

section

variable {s : State} {src : Nat} {i : InByte} (hlast : i.last = false) (hdmxr : i.dmxr = false)
include hlast hdmxr

theorem parserTake_stray (hsent : (s.source src).sent = none) (hstart : isStart (startCfg s src) i.data = false) :
    parserTake s src i false false = s.inc F.parse_STRAY src := by
  simp only [parserTake, hstart, hdmxr, hlast, hsent, Bool.false_and, Bool.or_self, Bool.false_eq_true, if_false]

omit hdmxr in
theorem parserTake_opens (hstart : isStart (startCfg s src) i.data = true) :
    parserTake s src i false false = openedAt (discardOpen s src true) src i := by
  simp only [parserTake, hstart, hlast, Bool.true_or, Bool.false_eq_true, if_false, if_true, flagOpen_plain]
  rfl

variable {x : Sentence} (hsent : (s.source src).sent = some x) (hstart : isStart (startCfg s src) i.data = false)
include hsent hstart

theorem parserTake_inside (hlf : i.data ≠ 0x0A#8) (dmg : Bool) :
    parserTake s src i dmg false = flagOpen (takenAt s src x i) src dmg false := by
  simp only [parserTake, hstart, hdmxr, hlast, hsent, beq_eq_false_iff_ne.2 hlf, Bool.false_and, Bool.or_self, Bool.false_eq_true,
    if_false]
  rfl

theorem parserTake_ends (hlf : i.data = 0x0A#8) : parserTake s src i false false = endOpen (takenAt s src x i) src := by
  simp only [parserTake, hstart, hdmxr, hlast, hsent, beq_iff_eq.2 hlf, Bool.false_and, Bool.or_self, Bool.false_eq_true, if_false,
    if_true, flagOpen_plain]
  rfl

end

end Sys2Proof.Machine
end

section
/-! PROOF. PARSER_BYTE (R75, R124, R134, R136, R137): the byte taken is a stray one, opens a sentence, joins the open one, ends it or
restarts it. -/

namespace Sys2Proof.Machine

/-- Source `src` with the bytes `rest` still to take. -/
def fed (s : State) (src : Nat) (rest : List InByte) : State := s.putSource src { s.source src with input := rest }

/-- A waiting byte as the parser reads it: a datagram's from the receive buffer. -/
def readIn (s : State) (i : InByte) : InByte := { i with data := (i.spot.map s.yardByte).getD i.data }

/-- PARSER_BYTE leaves a sentence open of which `y` holds, with no stray byte counted. -/
def leavesOpen (s : State) (src : Nat) (rest : List InByte) (y : Sentence → Prop) : Prop :=
  ∃ t z, exec (.parserByte src) s = .next t ∧
    t = { s with regs := t.regs, srcs := t.srcs, rx := t.rx, yard := t.yard, groomPass := t.groomPass } ∧
    t.source src = { s.source src with sent := some z, input := rest, idx := (t.source src).idx } ∧ y z ∧
    (∀ k, k ≠ src → t.source k = s.source k) ∧ t.get F.parse_STRAY src = s.get F.parse_STRAY src

theorem fed_step (s : State) (src : Nat) (rest : List InByte) : ParserStep src s (fed s src rest) := putSource_step s src _

theorem fed_source (s : State) (src : Nat) (rest : List InByte) : (fed s src rest).source src = { s.source src with input := rest } :=
  source_putSource_self s src _

theorem startCfg_fed (s : State) (src : Nat) (rest : List InByte) : startCfg (fed s src rest) src = startCfg s src := by
  rw [startCfg, startCfg, fed_source]
  rfl

theorem discardOpen_closed {s : State} {src : Nat} (h : (s.source src).sent = none) (restart : Bool) : discardOpen s src restart = s := by
  simp only [discardOpen, h]

/-- A sound sentence cut off by a start character counts in RESTART (R136, R137). -/
theorem discardOpen_restart {s : State} {src : Nat} {x : Sentence} (hsent : (s.source src).sent = some x) (hsrc : x.source = src)
    (hcauses : x.causes = []) (hmbox : x.mbox = none) :
    discardOpen s src true = ringShow ((s.inc F.parse_RESTART src).putSource src { s.source src with sent := none }) src := by
  simp only [discardOpen, hsent, countDiscard, hcauses, refusalField, if_true, freeSentence_plain _ hmbox, hsrc]

section

variable {s : State} {src : Nat} (hon : parserOn s src = true)
include hon

theorem exec_parserByte : exec (.parserByte src) s = .next (sourceByte s src) := by
  simp only [exec, execParserByte, hon, if_true]

variable (hyard : s.yardErr = []) {i : InByte} {rest : List InByte} (hin : (s.source src).input = i :: rest)
  (hroom : 96 ≤ src ∨ ringLevel s src < 2048)
include hyard hin hroom

theorem exec_parserByte_input : exec (.parserByte src) s = .next (parserTake (fed s src rest) src (readIn s i) false false) := by
  have hfree : (isRole src && decide (2048 ≤ ringLevel s src)) = false := by
    simp only [isRole, Bool.and_eq_false_iff, decide_eq_false_iff_not]
    omega
  rw [exec_parserByte hon]
  simp only [sourceByte, hin, hfree, touchBytes, hyard, List.isEmpty_nil, Bool.false_eq_true, if_false, if_true]
  rfl

variable (hlast : i.last = false) (hdmxr : i.dmxr = false)
include hlast hdmxr

/-! ### Outside a sentence -/

theorem parserByte_stray (hsrc : src < 65536) (hsent : (s.source src).sent = none)
    (hstart : isStart (startCfg s src) (readIn s i).data = false) :
    ∃ t, exec (.parserByte src) s = .next t ∧ t = { s with regs := t.regs, srcs := t.srcs } ∧
      t.source src = { s.source src with input := rest } ∧ (∀ k, k ≠ src → t.source k = s.source k) ∧
      t.get F.parse_STRAY src = min (s.get F.parse_STRAY src + 1) 0xFFFFFFFF ∧ keepsRegsBut [(F.parse_STRAY, src)] s t := by
  have hopen : ((fed s src rest).source src).sent = none := by rw [fed_source, hsent]
  refine ⟨(fed s src rest).inc F.parse_STRAY src, ?_, rfl, fed_source s src rest, (fed_step s src rest).others,
    State.get_inc _ F.parse_STRAY (by decide) src, ?_⟩
  · rw [exec_parserByte_input hon hyard hin hroom,
      parserTake_stray (i := readIn s i) hlast hdmxr hopen (by rw [startCfg_fed]; exact hstart)]
  · exact keeps_set (fs := [F.parse_STRAY]) (fed s src rest) F.parse_STRAY _ (by simp) hsrc (by decide)

omit hdmxr in
theorem parserByte_opens (hsent : (s.source src).sent = none) (hstart : isStart (startCfg s src) (readIn s i).data = true) :
    leavesOpen s src rest (opensWith s src (readIn s i)) := by
  have hfed := fed_step s src rest
  have hopen : ((fed s src rest).source src).sent = none := by rw [fed_source, hsent]
  obtain ⟨hstep, z, k, hz, hsource⟩ := openedAt_step (hfed.yardErr.trans hyard) src (readIn s i)
  have hall := hfed.trans hstep
  refine ⟨openedAt (fed s src rest) src (readIn s i), z, ?_, hall.rest, ?_, ?_, hall.others, hall.get _ _ (by decide)⟩
  · rw [exec_parserByte_input hon hyard hin hroom, parserTake_opens (i := readIn s i) hlast (by rw [startCfg_fed]; exact hstart),
      discardOpen_closed hopen]
  · rw [hsource, fed_source]
  · exact opensWith_of_reads hz hfed.stamp hfed.tsState (hfed.reg _ (by simp [Field.addr, F.parse_NMEA_EN]))

/-! ### Inside a sentence -/

variable {x : Sentence} (hsent : (s.source src).sent = some x)
include hsent

omit hdmxr in
theorem parserByte_restarts (hsrc : x.source = src) (hcauses : x.causes = []) (hmbox : x.mbox = none)
    (hstart : isStart (startCfg s src) (readIn s i).data = true) :
    ∃ t z, exec (.parserByte src) s = .next t ∧ (t.source src).sent = some z ∧ opensWith s src (readIn s i) z ∧
      (t.source src).input = rest ∧ t.get F.parse_RESTART src = min (s.get F.parse_RESTART src + 1) 0xFFFFFFFF := by
  have hopen : ((fed s src rest).source src).sent = some x := by rw [fed_source, hsent]
  have hdiscard := discardOpen_restart hopen hsrc hcauses hmbox
  have hcut := (putSource_step ((fed s src rest).inc F.parse_RESTART src) src { (fed s src rest).source src with sent := none }).trans
    (ringShow_step _ src src)
  rw [← hdiscard] at hcut
  obtain ⟨hstep, z, k, hz, hsource⟩ := openedAt_step (hcut.yardErr.trans hyard) src (readIn s i)
  have hleft : ((discardOpen (fed s src rest) src true).source src).input = rest := by
    rw [hdiscard, source_of_regsOnly (ringShow_only _ src), source_putSource_self, fed_source]
  refine ⟨openedAt (discardOpen (fed s src rest) src true) src (readIn s i), z, ?_, by rw [hsource], ?_, by rw [hsource]; exact hleft, ?_⟩
  · rw [exec_parserByte_input hon hyard hin hroom, parserTake_opens (i := readIn s i) hlast (by rw [startCfg_fed]; exact hstart)]
  · refine opensWith_of_reads hz (hcut.stamp.trans rfl) (hcut.tsState.trans ?_) ((hcut.reg _ (by simp [Field.addr, F.parse_NMEA_EN])).trans ?_)
    · exact congrArg Machine.tsState (get_inc_block (fed s src rest) F.parse_RESTART F.time_SERVO src 0 (by decide))
    · exact reg_set_off (fed s src rest) F.parse_RESTART src _ .parse src 0 (by decide)
  · rw [(hcut.trans hstep).get F.parse_RESTART src (by decide)]
    exact State.get_inc (fed s src rest) F.parse_RESTART (by decide) src

variable (hstart : isStart (startCfg s src) (readIn s i).data = false)
include hstart

theorem parserByte_ends (hlf : (readIn s i).data = 0x0A#8) :
    ∃ t z, exec (.parserByte src) s = .next t ∧ (t.source src).sent = none ∧
      (t.source src).closing = (s.source src).closing ++ [z] ∧ z = { takeByte x 0x0A#8 with spots := z.spots } ∧
      (t.source src).input = rest ∧ (∀ k, k ≠ src → t.source k = s.source k) := by
  have hfed := fed_step s src rest
  have hopen : ((fed s src rest).source src).sent = some x := by rw [fed_source, hsent]
  obtain ⟨hstep, p, hplaced⟩ := takenAt_step (hfed.yardErr.trans hyard) src x (readIn s i)
  have hend : endOpen (takenAt (fed s src rest) src x (readIn s i)) src =
      (takenAt (fed s src rest) src x (readIn s i)).putSource src
        { s.source src with
          sent := none, input := rest, closing := (s.source src).closing ++ [{ takeByte x (readIn s i).data with spots := p }] } := by
    simp only [endOpen, hplaced, fed_source]
  have hsource : (endOpen (takenAt (fed s src rest) src x (readIn s i)) src).source src = { s.source src with
      sent := none, input := rest, closing := (s.source src).closing ++ [{ takeByte x (readIn s i).data with spots := p }] } := by
    rw [hend, source_putSource_self]
  have hothers := ((hfed.trans hstep).trans (putSource_step _ src { s.source src with
    sent := none, input := rest, closing := (s.source src).closing ++ [{ takeByte x (readIn s i).data with spots := p }] })).others
  rw [← hend] at hothers
  refine ⟨endOpen (takenAt (fed s src rest) src x (readIn s i)) src, { takeByte x (readIn s i).data with spots := p }, ?_,
    by rw [hsource], by rw [hsource], by rw [hlf], by rw [hsource], hothers⟩
  rw [exec_parserByte_input hon hyard hin hroom,
    parserTake_ends (i := readIn s i) hlast hdmxr hopen (by rw [startCfg_fed]; exact hstart) hlf]

/-- A byte other than LF joins the open sentence, which is then `z`. -/
theorem parserByte_joins {y : Sentence → Prop} {z : Sentence} (hlf : (readIn s i).data ≠ 0x0A#8) (hy : y z)
    (hz : (takenAt (fed s src rest) src x (readIn s i)).source src = { (fed s src rest).source src with sent := some z }) :
    leavesOpen s src rest y := by
  have hfed := fed_step s src rest
  have hopen : ((fed s src rest).source src).sent = some x := by rw [fed_source, hsent]
  obtain ⟨hstep, -⟩ := takenAt_step (hfed.yardErr.trans hyard) src x (readIn s i)
  have hall := hfed.trans hstep
  refine ⟨takenAt (fed s src rest) src x (readIn s i), z, ?_, hall.rest, ?_, hy, hall.others, hall.get _ _ (by decide)⟩
  · rw [exec_parserByte_input hon hyard hin hroom,
      parserTake_inside (i := readIn s i) hlast hdmxr hopen (by rw [startCfg_fed]; exact hstart) hlf, flagOpen_plain]
  · rw [hz, fed_source]

variable (hlong : x.long = false) (hlo : 0x20 ≤ (readIn s i).data.toNat)
include hlong hlo

theorem parserByte_stored (hstage : x.stage = 1) (hmal : x.malformed = false) (hover : x.overlong = false)
    (hhi : (readIn s i).data.toNat ≤ 0x7E) (hd : (readIn s i).data ∉ [0x21#8, 0x24#8, 0x2A#8]) (hcount : x.count < 82) :
    leavesOpen s src rest
      (fun y => y = { x with count := x.count + 1, bytes := x.bytes ++ [(readIn s i).data], spots := y.spots }) := by
  obtain ⟨-, p, hplaced⟩ := takenAt_step ((fed_step s src rest).yardErr.trans hyard) src x (readIn s i)
  rw [takeByte_stored (b := (readIn s i).data) hstage hlong hmal hlo hhi hd hover hcount] at hplaced
  exact parserByte_joins hon hyard hin hroom hlast hdmxr hsent hstart (printable_ne_control hlo (by decide)) (by rfl) hplaced

/-- Past the 82nd byte of an NMEA sentence nothing is stored (R127, R134). -/
theorem parserByte_overlong (hcount : 82 ≤ x.count) :
    leavesOpen s src rest (fun y => y = { x with count := x.count + 1, overlong := true }) := by
  have htake := takeByte_overlong (b := (readIn s i).data) hlong hlo hcount
  have hplaced := takenAt_unstored (fed s src rest) src (x := x) (i := readIn s i) (by rw [htake])
  rw [htake] at hplaced
  exact parserByte_joins hon hyard hin hroom hlast hdmxr hsent hstart (printable_ne_control hlo (by decide)) (by rfl) hplaced

end

/-! ### A lane's byte (R75, R69, R138) -/

section

variable {s : State} {src n : Nat} (hon : parserOn s src = true) {h : HoldChar} (hlane : src < 96)
  (hempty : (s.source src).input = []) (hrole : roleLane s src = some n) (hhold : (s.rxLane n).hold = some h)
  (hroom : ringLevel s src < 2048) (hframe : h.framingBad = false)
include hon hlane hempty hrole hhold hroom hframe

/-- The lane's holding register emptied. -/
def emptied (s : State) (n : Nat) : State := s.putRx n { s.rxLane n with hold := none }

/-- A held character as the parser takes it. -/
def heldIn (h : HoldChar) : InByte := { data := h.data, stamp := h.stamp, tsSrc := 0, tsState := h.tsState }

theorem exec_parserByte_held :
    exec (.parserByte src) s = .next (parserTake (emptied s n) src (heldIn h) h.parityBad false) := by
  have hfree : ¬ 2048 ≤ ringLevel s src := by omega
  rw [exec_parserByte hon]
  simp only [sourceByte, hempty, isRole, hlane, decide_true, if_true, takeHold, hrole, hhold, hfree, if_false, hframe, Bool.false_and,
    Bool.or_false]
  rfl

theorem parserByte_held_stray (hsent : (s.source src).sent = none) (hstart : isStart (startCfg s src) h.data = false)
    (hparity : h.parityBad = false) :
    ∃ t, exec (.parserByte src) s = .next t ∧ t = { s with regs := t.regs, rx := t.rx } ∧
      t.rxLane n = { s.rxLane n with hold := none } ∧ t.get F.parse_STRAY src = min (s.get F.parse_STRAY src + 1) 0xFFFFFFFF := by
  have htake := exec_parserByte_held hon hlane hempty hrole hhold hroom hframe
  rw [hparity, parserTake_stray (s := emptied s n) (i := heldIn h) rfl rfl hsent hstart] at htake
  exact ⟨_, htake, rfl, rxLane_putRx_self s n _, State.get_inc _ F.parse_STRAY (by decide) src⟩

/-- The byte joins the open sentence, which a bad parity marks damaged. -/
theorem parserByte_held_joins (hyard : s.yardErr = []) {x : Sentence} (hsent : (s.source src).sent = some x)
    (hstart : isStart (startCfg s src) h.data = false) (hlf : h.data ≠ 0x0A#8) :
    ∃ t z, exec (.parserByte src) s = .next t ∧ (t.rxLane n).hold = none ∧ (t.source src).sent = some z ∧
      z.causes = (if h.parityBad then x.causes ++ [4] else x.causes) ∧ z.count = x.count + 1 := by
  have htake := exec_parserByte_held hon hlane hempty hrole hhold hroom hframe
  rw [parserTake_inside (s := emptied s n) (i := heldIn h) rfl rfl hsent hstart hlf] at htake
  obtain ⟨hstep, p, hplaced⟩ := takenAt_step (s := emptied s n) hyard src x (heldIn h)
  have hnone : ((takenAt (emptied s n) src x (heldIn h)).rxLane n).hold = none := by
    rw [hstep.hold, emptied, rxLane_putRx_self]
  obtain ⟨hcount, hcauses⟩ := takeByte_count x h.data
  cases hparity : h.parityBad with
  | false =>
    rw [hparity, flagOpen_plain] at htake
    exact ⟨_, { takeByte x h.data with spots := p }, htake, hnone, by rw [hplaced]; rfl, hcauses, hcount⟩
  | true =>
    rw [hparity, flagOpen_damaged (x := { takeByte x (heldIn h).data with spots := p }) (by rw [hplaced])] at htake
    exact ⟨_, { takeByte x h.data with spots := p, causes := (takeByte x h.data).causes ++ [4] }, htake, hnone,
      by rw [source_putSource_self]; rfl, by rw [if_pos rfl, ← hcauses], hcount⟩

end

end Sys2Proof.Machine
end

section
/-! PROOF. SENTENCE_CLOSE (R134, R137, R139, R145, R150): a runt dropped, a sound sentence numbered, counted and offered to the classifier,
or kept for another close. -/

namespace Sys2Proof.Machine

/-! ### The staging copy of a yard without errors (R126, R258) -/

theorem yardByte_setParse {s : State} (hyard : s.yardErr = []) {r : RegAddr} (hr : r.blk = .parse) (w : Word) (a : Nat) :
    (s.setReg r w).yardByte a = s.yardByte a := by
  have hplace : (s.setReg r w).place a = s.place a := by
    rw [State.place, State.place, loc_setReg s (by rw [hr]; decide)]
  have herr : (s.setReg r w).yardErr = [] := hyard
  rw [State.yardByte, State.yardByte, herr, hyard, List.isEmpty_nil, if_pos rfl, if_pos rfl, State.yardCell, State.yardCell, hplace]
  rfl

/-- With no word in error the staging copy gives the sentence's bytes. -/
theorem readStaging_clean {s : State} (hyard : s.yardErr = []) (port : Nat) {x : Sentence}
    (hcopy : x.spots.length = x.bytes.length → x.spots.map s.yardByte = x.bytes) : readStaging s port x = (s, some x) := by
  simp only [readStaging, touchBytes, hyard, List.isEmpty_nil, if_true, Bool.false_eq_true, if_false]
  split
  · next hlen => rw [hcopy (beq_iff_eq.1 hlen)]
  · rfl

/-! ### Numbering and offering (R134, R139, R145) -/

/-- The state in which the first closing sentence of `src` has left the list and taken its number. -/
def numberedAt (s : State) (src : Nat) (rest : List Sentence) : State :=
  ((s.putSource src { s.source src with closing := rest }).set F.parse_NEXT src (s.get F.parse_NEXT src + 1)).putSource src
    { s.source src with closing := rest, seqStart := false, closes := (s.source src).closes + 1 }

/-- The sentence with its number and the verdict of its checks. -/
def withNumber (s : State) (src : Nat) (x : Sentence) : Sentence :=
  { x with
    numbered := true, no := (s.source src).closes, seqn := s.get F.parse_NEXT src, seqStart := (s.source src).seqStart, bad := isBad x
    nock := isNock x }

/-- Only registers and the parser's contexts may differ. -/
def contextsOnly (s t : State) : Prop := t = { s with regs := t.regs, srcs := t.srcs }

theorem contextsOnly_trans {s t u : State} (h : contextsOnly s t) (k : contextsOnly t u) : contextsOnly s u := by
  unfold contextsOnly at *
  rw [k, h]

theorem contextsOnly_set (s : State) (f : Field) (i v : Nat) : contextsOnly s (s.set f i v) := rfl

theorem contextsOnly_putSource (s : State) (src : Nat) (x : Source) : contextsOnly s (s.putSource src x) := rfl

theorem numberedAt_contexts (s : State) (src : Nat) (rest : List Sentence) : contextsOnly s (numberedAt s src rest) :=
  contextsOnly_trans (contextsOnly_trans (contextsOnly_putSource s src _) (contextsOnly_set _ F.parse_NEXT src _))
    (contextsOnly_putSource _ src _)

/-- After a counter and the source's context are written. -/
theorem contextsOnly_counted {s t : State} (h : contextsOnly s t) (f : Field) (src : Nat) (x : Source) :
    contextsOnly s ((t.inc f src).putSource src x) :=
  contextsOnly_trans (contextsOnly_trans h (contextsOnly_set t f src _)) (contextsOnly_putSource _ src x)

theorem numberedAt_source (s : State) (src : Nat) (rest : List Sentence) : (numberedAt s src rest).source src =
    { s.source src with closing := rest, seqStart := false, closes := (s.source src).closes + 1 } := source_putSource_self _ src _

theorem numberedAt_others (s : State) (src : Nat) (rest : List Sentence) (k : Nat) (hk : k ≠ src) :
    (numberedAt s src rest).source k = s.source k :=
  (source_putSource_ne _ _ hk).trans (source_putSource_ne s _ hk)

theorem numberedAt_get_block (s : State) (src : Nat) (rest : List Sentence) (f : Field) (i : Nat) (hf : f.blk ≠ .parse) :
    (numberedAt s src rest).get f i = s.get f i :=
  get_set_block (s.putSource src { s.source src with closing := rest }) F.parse_NEXT f src i _ (Ne.symm hf)

theorem numberedAt_get_off (s : State) (src : Nat) (rest : List Sentence) (f : Field) (hf : f.off % 65536 ≠ 8) :
    (numberedAt s src rest).get f src = s.get f src :=
  State.get_set_off (s.putSource src { s.source src with closing := rest }) F.parse_NEXT f src src _ (Ne.symm hf)

theorem numberedAt_next (s : State) (src : Nat) (rest : List Sentence) :
    (numberedAt s src rest).get F.parse_NEXT src = (s.get F.parse_NEXT src + 1) % 2 ^ 32 :=
  State.get_set_self (s.putSource src { s.source src with closing := rest }) F.parse_NEXT (by decide) src _

theorem numberedAt_keeps (s : State) {src : Nat} (hsrc : src < 65536) (rest : List Sentence) :
    keepsRegsBut (fieldsAt [F.parse_NEXT] src) s (numberedAt s src rest) :=
  keeps_set (s.putSource src { s.source src with closing := rest }) F.parse_NEXT _ (by simp) hsrc (by decide)

theorem numberedAt_yardByte {s : State} (hyard : s.yardErr = []) (src : Nat) (rest : List Sentence) (a : Nat) :
    (numberedAt s src rest).yardByte a = s.yardByte a :=
  yardByte_setParse (s := s.putSource src { s.source src with closing := rest }) hyard (r := F.parse_NEXT.addr src) rfl _ a

theorem journals_numberedAt (s : State) (src : Nat) (rest : List Sentence) : journals (numberedAt s src rest) = journals s := by
  have hpaired := numberedAt_get_block s src rest F.twin_PAIRED 0 (by decide)
  have hown := numberedAt_get_block s src rest F.twin_OWN 0 (by decide)
  rw [journals, journals, isStandby, isStandby, State.on, State.on, State.on, State.on, hpaired, hown]
  rfl

theorem numberSentence_fresh {s : State} {src : Nat} (rest : List Sentence) {x : Sentence} (hsrc : x.source = src)
    (hnum : x.numbered = false) :
    numberSentence (s.putSource src { s.source src with closing := rest }) x = (numberedAt s src rest, withNumber s src x) := by
  subst hsrc
  simp only [numberSentence, hnum, Bool.false_eq_true, if_false, source_putSource_self]
  rfl

/-- A sentence that is not the host's answers nothing. -/
theorem answerHost_other (s : State) {src : Nat} (h : src ≠ 0x2000) (outcome seqn : Nat) : answerHost s src outcome seqn = s := by
  rw [answerHost, if_pos (bne_iff_ne.2 (show src ≠ hostSource from h))]

/-- The counter of an offered sentence. -/
def outcomeField (x : Sentence) : Field := if x.bad then F.parse_BAD_CHECK else F.parse_ACCEPTED

/-- Counted, a sentence that nothing journals waits for the classifier. -/
theorem offerSentence_plain {s : State} {x : Sentence} {src : Nat} (hsrc : x.source = src) (hhost : src ≠ 0x2000)
    (hoff : x.offered = false) (hj : journals s = false) (href : s.get F.time_REF 0 ≠ 2) :
    offerSentence s x = (s.inc (outcomeField x) src).putSource src
      { s.source src with closed := (s.source src).closed ++ [{ x with offered := true }] } := by
  subst hsrc
  have hblk : (outcomeField x).blk = .parse := by
    unfold outcomeField
    split <;> rfl
  have hget : ∀ (f : Field) (i : Nat), f.blk ≠ .parse → (s.inc (outcomeField x) x.source).get f i = s.get f i := fun f i hf =>
    get_inc_block s _ f x.source i (by rw [hblk]; exact Ne.symm hf)
  have hj' : journals (s.inc (outcomeField x) x.source) = false := by
    rw [← hj, journals, journals, isStandby, isStandby, State.on, State.on, State.on, State.on, hget F.twin_PAIRED 0 (by decide),
      hget F.twin_OWN 0 (by decide)]
    rfl
  have hreplay : (s.inc (outcomeField x) x.source).twin.replaying = false := by
    rw [journals, Bool.or_eq_false_iff] at hj'
    exact hj'.2
  have hlabel : ppsLabel (s.inc (outcomeField x) x.source) x = s.inc (outcomeField x) x.source := by
    have href' : ((s.inc (outcomeField x) x.source).get F.time_REF 0 == 2) = false := by
      rw [hget F.time_REF 0 (by decide)]
      exact beq_eq_false_iff_ne.2 href
    unfold ppsLabel
    simp only [href', Bool.false_and, Bool.false_eq_true, if_false]
    split <;> rfl
  have hanswer := answerHost_other (s.inc (outcomeField x) x.source) hhost (b2n x.bad) x.seqn
  unfold outcomeField at *
  simp only [offerSentence, hoff, hlabel, hanswer, hj', hreplay, Bool.false_and, Bool.false_eq_true, if_false]
  rfl

/-! ### The close -/

section

variable {s : State} {src : Nat} (hon : parserOn s src = true)
include hon

/-- A close without a judge's fault is the row's own. -/
theorem exec_sentenceClose (f : Transient) (hf : ∀ j, f ≠ .judge j) : exec (.sentenceClose src f) s = .next (closeSentence s src f) := by
  have hfault : closeFault s src f = (s, f) := by
    unfold closeFault
    split
    · next j _ _ _ => exact absurd rfl (hf j)
    · rfl
  simp only [exec, execSentenceClose, hon, if_true, hfault]

theorem sentenceClose_nothing (f : Transient) (hnil : (s.source src).closing = []) : exec (.sentenceClose src f) s = .next s := by
  have hfault : closeFault s src f = (s, f) := by
    unfold closeFault
    simp only [hnil]
  simp only [exec, execSentenceClose, hon, if_true, hfault, closeSentence, hnil]

variable {x : Sentence} {rest : List Sentence} (hclosing : (s.source src).closing = x :: rest) (hsrc : x.source = src)
  (hhost : src ≠ 0x2000)
include hclosing hsrc hhost

/-! ### A runt (R134, R135, R137) -/

omit hon hsrc hhost in
theorem closeFault_refused (hrefused : refused x = true) (f : Transient) : (closeFault s src f).1 = s := by
  unfold closeFault
  split
  · next hcons =>
    rw [hclosing, List.cons.injEq] at hcons
    obtain ⟨rfl, -⟩ := hcons
    simp [hrefused]
  · rfl

theorem sentenceClose_runt (hmbox : x.mbox = none) (hcauses : x.causes = []) (hover : x.overlong = false) (hmal : x.malformed = false)
    (hrunt : x.runt = true) (f : Transient) :
    ∃ t, exec (.sentenceClose src f) s = .next t ∧ t = { s with regs := t.regs, srcs := t.srcs } ∧
      t.source src = { s.source src with closing := rest } ∧ (∀ k, k ≠ src → t.source k = s.source k) ∧
      t.get F.parse_RUNT src = min (s.get F.parse_RUNT src + 1) 0xFFFFFFFF := by
  have hrefused : refused x = true := by simp [refused, hrunt]
  have hcount := State.get_inc (s.putSource src { s.source src with closing := rest }) F.parse_RUNT (by decide) src
  have hclose : closeSentence s src (closeFault s src f).2 =
      ringShow ((s.putSource src { s.source src with closing := rest }).inc F.parse_RUNT src) src := by
    simp only [closeSentence, hclosing, hrefused, if_true, countDiscard, hcauses, refusalField, Bool.false_eq_true, if_false, hover, hmal,
      freeSentence_plain _ hmbox, hsrc, answerHost_other _ hhost]
  have honly := ringShow_only ((s.putSource src { s.source src with closing := rest }).inc F.parse_RUNT src) src
  have hstep := ringShow_step ((s.putSource src { s.source src with closing := rest }).inc F.parse_RUNT src) src src
  refine ⟨_, ?_, ?_, ?_, fun k hk => (hstep.others k hk).trans (source_putSource_ne s _ hk), (hstep.get _ _ (by decide)).trans hcount⟩
  · simp only [exec, execSentenceClose, hon, if_true, closeFault_refused hclosing hrefused f, hclose]
  · unfold regsOnly at honly
    rw [honly]
    rfl
  · exact (source_of_regsOnly honly src).trans (source_putSource_self s src _)

/-! ### A sound sentence (R134, R139, R145, R150) -/

variable (hyard : s.yardErr = []) (hcopy : x.spots.length = x.bytes.length → x.spots.map s.yardByte = x.bytes)
  (hsound : refused x = false) (hnum : x.numbered = false)
include hyard hcopy hsound hnum

omit hon hclosing hsrc hhost hsound hnum in
theorem readStaging_numbered : readStaging (numberedAt s src rest) (stagingPort (withNumber s src x)) (withNumber s src x) =
    (numberedAt s src rest, some (withNumber s src x)) := by
  refine readStaging_clean (s := numberedAt s src rest) (x := withNumber s src x) hyard _ fun hlen => ?_
  rw [funext (numberedAt_yardByte hyard src rest)]
  exact hcopy hlen

omit hhost in
theorem exec_sentenceClose_offer :
    exec (.sentenceClose src .none) s = .next (offerSentence (numberedAt s src rest) (withNumber s src x)) := by
  have hread := readStaging_numbered (src := src) (rest := rest) hyard hcopy
  rw [exec_sentenceClose hon .none (by simp)]
  simp only [closeSentence, hclosing, hsound, Bool.false_eq_true, if_false, numberSentence_fresh rest hsrc hnum, hread, reduceCtorEq]

omit hhost in
theorem exec_sentenceClose_check (hruns : x.reruns < 3) : exec (.sentenceClose src .check) s =
    .next (((numberedAt s src rest).inc F.parse_RERUN src).putSource src { s.source src with
      closing := { withNumber s src x with reruns := x.reruns + 1 } :: rest, seqStart := false, closes := (s.source src).closes + 1 }) := by
  have hread := readStaging_numbered (src := src) (rest := rest) hyard hcopy
  have hrerun : countRerun (numberedAt s src rest) (withNumber s src x) =
      ((numberedAt s src rest).inc F.parse_RERUN src, some { withNumber s src x with reruns := x.reruns + 1 }) := by
    subst hsrc
    rw [countRerun, if_pos (show (withNumber s x.source x).reruns < 3 from hruns)]
    rfl
  have hsource : ((numberedAt s src rest).inc F.parse_RERUN src).source src =
      { s.source src with closing := rest, seqStart := false, closes := (s.source src).closes + 1 } := numberedAt_source s src rest
  rw [exec_sentenceClose hon .check (by simp)]
  simp only [closeSentence, hclosing, hsound, Bool.false_eq_true, if_false, numberSentence_fresh rest hsrc hnum, hread, if_true, hrerun,
    hsource]

omit hhost in
theorem sentenceClose_reruns (hruns : x.reruns < 3) :
    ∃ t, exec (.sentenceClose src .check) s = .next t ∧ t = { s with regs := t.regs, srcs := t.srcs } ∧
      t.source src = { s.source src with
        closing := { withNumber s src x with reruns := x.reruns + 1 } :: rest, seqStart := false, closes := (s.source src).closes + 1 } ∧
      t.get F.parse_RERUN src = min (s.get F.parse_RERUN src + 1) 65535 := by
  have hcount := State.get_inc (numberedAt s src rest) F.parse_RERUN (by decide) src
  rw [numberedAt_get_off s src rest F.parse_RERUN (by decide)] at hcount
  exact ⟨_, exec_sentenceClose_check hon hclosing hsrc hyard hcopy hsound hnum hruns,
    contextsOnly_counted (numberedAt_contexts s src rest) F.parse_RERUN src _, source_putSource_self _ src _, hcount⟩

theorem sentenceClose_offers (hwide : src < 65536) (hoff : x.offered = false) (hj : journals s = false) (href : s.get F.time_REF 0 ≠ 2) :
    ∃ t, exec (.sentenceClose src .none) s = .next t ∧ t = { s with regs := t.regs, srcs := t.srcs } ∧
      t.source src = { s.source src with
        closing := rest, seqStart := false, closes := (s.source src).closes + 1
        closed := (s.source src).closed ++ [{ withNumber s src x with offered := true }] } ∧
      (∀ k, k ≠ src → t.source k = s.source k) ∧ t.get F.parse_NEXT src = (s.get F.parse_NEXT src + 1) % 2 ^ 32 ∧
      t.get (outcomeField (withNumber s src x)) src = min (s.get (outcomeField (withNumber s src x)) src + 1) 0xFFFFFFFF ∧
      keepsRegsBut (fieldsAt [F.parse_NEXT, outcomeField (withNumber s src x)] src) s t := by
  have hoffer := offerSentence_plain (s := numberedAt s src rest) (x := withNumber s src x) hsrc hhost hoff
    ((journals_numberedAt s src rest).trans hj) (by rwa [numberedAt_get_block s src rest F.time_REF 0 (by decide)])
  have hfield : (outcomeField (withNumber s src x)).fits ∧ (outcomeField (withNumber s src x)).off % 65536 ≠ 8 ∧
      (outcomeField (withNumber s src x)).off < 65536 ∧ 2 ^ (outcomeField (withNumber s src x)).width - 1 = 0xFFFFFFFF := by
    unfold outcomeField
    split <;> decide
  obtain ⟨hfits, hne, hlow, hmax⟩ := hfield
  generalize outcomeField (withNumber s src x) = f at hoffer hfits hne hlow hmax ⊢
  have hexec := exec_sentenceClose_offer hon hclosing hsrc hyard hcopy hsound hnum
  rw [hoffer, numberedAt_source] at hexec
  have hcount := State.get_inc (numberedAt s src rest) f hfits src
  rw [numberedAt_get_off s src rest f hne, hmax] at hcount
  have hkeep := keepsRegsBut_trans (keeps_more (gs := [F.parse_NEXT, f]) (numberedAt_keeps s hwide rest) (by simp))
    (keeps_set (numberedAt s src rest) f (min ((numberedAt s src rest).get f src + 1) (2 ^ f.width - 1)) (by simp) hwide hlow)
  exact ⟨_, hexec, contextsOnly_counted (numberedAt_contexts s src rest) f src _, source_putSource_self _ src _,
    fun k hk => (source_putSource_ne _ _ hk).trans (numberedAt_others s src rest k hk),
    (get_inc_off (numberedAt s src rest) f F.parse_NEXT src src hne).trans (numberedAt_next s src rest), hcount, hkeep⟩

end

/-! ### The parser's obligation -/

/-- Settles O48: PARSER_BYTE by where the byte falls, SENTENCE_CLOSE by the first sentence that ended. -/
theorem theParserFramesCountsAndClosesSentences : Obligations.TheParserFramesCountsAndClosesSentences := by
  intro s src hsrc hsource h2 h4 hyard
  have hon : parserOn s src = true := by rw [parserOn, upstream, hsource, h2, h4]; rfl
  refine ⟨fun i rest hin hlast hdmxr hroom => ⟨parserByte_stray hon hyard hin hroom hlast hdmxr hsrc,
      parserByte_opens hon hyard hin hroom hlast, fun x hsent hx => ⟨?_, ?_, ?_⟩⟩, ?_, ?_,
    fun f => sentenceClose_nothing hon f, ?_⟩
  · exact fun hstart hcauses _ _ hmbox => parserByte_restarts hon hyard hin hroom hlast hsent hx hcauses hmbox hstart
  · exact fun hstart hlf => parserByte_ends hon hyard hin hroom hlast hdmxr hsent hstart hlf
  · intro hstart hstage hlong hmal hover hlo hhi hd
    exact ⟨fun hcount => parserByte_stored hon hyard hin hroom hlast hdmxr hsent hstart hlong hlo hstage hmal hover hhi hd hcount,
      fun hcount => parserByte_overlong hon hyard hin hroom hlast hdmxr hsent hstart hlong hlo hcount⟩
  · intro n h hlane hempty hrole hhold hroom hframe
    exact ⟨fun hsent hstart hparity => parserByte_held_stray hon hlane hempty hrole hhold hroom hframe hsent hstart hparity,
      fun x hsent hstart hlf => parserByte_held_joins hon hlane hempty hrole hhold hroom hframe hyard hsent hstart hlf⟩
  · intro hempty hport
    rw [exec_parserByte hon, sourceByte, hempty]
    simp [isRole, Nat.not_lt.2 hport]
  · intro x rest hclosing hx hhost hmbox
    refine ⟨fun hcauses hover hmal hrunt f => sentenceClose_runt hon hclosing hx hhost hmbox hcauses hover hmal hrunt f,
      fun hcopy hsound hnum hoff hj href => ⟨?_, sentenceClose_reruns hon hclosing hx hyard hcopy hsound hnum⟩⟩
    obtain ⟨t, hexec, hrest, hsrcs, hothers, hnext, hcount, hkeep⟩ :=
      sentenceClose_offers hon hclosing hx hhost hyard hcopy hsound hnum hsrc hoff hj href
    refine ⟨t, hexec, hrest, hsrcs, hothers, hnext, fun hgood => ?_, fun hbad => ?_⟩
    · have hfield : outcomeField (withNumber s src x) = F.parse_ACCEPTED := if_neg (Bool.eq_false_iff.1 hgood)
      rw [hfield] at hcount hkeep
      exact ⟨hcount, hkeep⟩
    · have hfield : outcomeField (withNumber s src x) = F.parse_BAD_CHECK := if_pos hbad
      rw [hfield] at hcount hkeep
      exact ⟨hcount, hkeep⟩

end Sys2Proof.Machine
end

section
/-! PROOF. What the stalls, the yard and the pixel unit leave of the lanes: their registers and receivers stand, and a transmitter
that holds no record is granted none. -/

namespace Sys2Proof.Machine

/-- A block of the lanes. -/
def laneBlk (b : Blk) : Bool := b == .laneRx || b == .laneTx

/-- From `z` to `s` the lanes' registers and receivers stand, and no transmitter has got a record. -/
structure LanesStand (z s : State) : Prop where
  reg : ∀ r : RegAddr, laneBlk r.blk = true → s.reg r = z.reg r
  rx : s.rx = z.rx
  free : ∀ n, (z.txLane n).granted = none → (s.txLane n).granted = none

theorem LanesStand.refl (s : State) : LanesStand s s := ⟨fun _ _ => rfl, rfl, fun _ h => h⟩

theorem LanesStand.get {z s : State} (h : LanesStand z s) (f : Field) (hf : laneBlk f.blk = true) (n : Nat) : s.get f n = z.get f n :=
  get_of_reg (h.reg (f.addr n) hf)

theorem LanesStand.rxLane {z s : State} (h : LanesStand z s) (n : Nat) : s.rxLane n = z.rxLane n := by
  rw [State.rxLane, State.rxLane, h.rx]

theorem lanes_foldl {z : State} {α : Type} (f : State → α → State) (hf : ∀ t x, LanesStand z t → LanesStand z (f t x)) (l : List α)
    {s : State} (h : LanesStand z s) : LanesStand z (l.foldl f s) := by
  induction l generalizing s with
  | nil => exact h
  | cons x r ih => exact ih (hf _ _ h)

/-- The entries of a table mapped, its default mapped to itself. -/
theorem tget_map {α : Type} (f : α → α) (t : Tbl α) (k : Nat) {d : α} (hd : f d = d) :
    tget (t.map (fun e => (e.1, f e.2))) k d = f (tget t k d) := by
  induction t with
  | nil => exact hd.symm
  | cons e r ih =>
    rw [List.map_cons, tget, tget]
    split
    · rfl
    · exact ih

section

variable {z s : State} (h : LanesStand z s)
include h

/-- The other fields of the state may take any value: a binder for each that the functions below write, so that the statement
matches their record updates. -/
theorem lanes_update {yard : List Host.Cell} {yardErr logSeq spillCount : Tbl Nat} {poison : List Nat} {groomPass : Option GroomPass}
    {trackers : Tbl (List Track)} {trackAge drawn : Nat} {stalls : Tbl Stall} {calHeld : List (List Byte)} {twin : Twin}
    {seedHeld : List (Nat × List Byte)} {srcs : Tbl Source} {fired : List Firing} :
    LanesStand z { s with
      yard := yard, yardErr := yardErr, logSeq := logSeq, spillCount := spillCount, poison := poison, groomPass := groomPass,
      trackers := trackers, trackAge := trackAge, drawn := drawn, stalls := stalls, calHeld := calHeld, twin := twin,
      seedHeld := seedHeld, srcs := srcs, fired := fired } := ⟨h.reg, h.rx, h.free⟩

theorem lanes_set (f : Field) (i v : Nat) (hf : laneBlk f.blk = false) : LanesStand z (s.set f i v) :=
  ⟨fun r hr => (reg_setReg_blk s (r := f.addr i) (fun e => by rw [← e] at hr; exact absurd (hr.symm.trans hf) (by decide)) _).trans
    (h.reg r hr), h.rx, h.free⟩

theorem lanes_inc (f : Field) (i : Nat) (hf : laneBlk f.blk = false) : LanesStand z (s.inc f i) := lanes_set h _ _ _ hf

theorem lanes_incWrap (f : Field) (i : Nat) (hf : laneBlk f.blk = false) : LanesStand z (s.incWrap f i) := lanes_set h _ _ _ hf

theorem lanes_raise (fl ev : Field) (i bit e : Nat) (hf : laneBlk fl.blk = false) : LanesStand z (raise s fl ev i bit e) := by
  grind only [raise, fire, lanes_set, lanes_update]

theorem lanes_raiseStall (q bit : Nat) : LanesStand z (raiseStall s q bit) := lanes_raise h _ _ _ _ _ rfl

theorem lanes_raiseYard (bit : Nat) : LanesStand z (raiseYard s bit) := lanes_raise h _ _ _ _ _ rfl

theorem lanes_putStall (q : Nat) (x : Stall) : LanesStand z (s.putStall q x) := lanes_update h

/-! ### Stalls -/

theorem lanes_poke (a : Nat) (bs : List Byte) : LanesStand z (s.poke a bs) := by
  rw [State.poke_rest]
  exact lanes_update h

/-- A record that has left its stall stays where it is granted, marked gone. -/
theorem lanes_markGone (q : Nat) : LanesStand z (markGone s q) := by
  refine ⟨h.reg, h.rx, fun n hn => ?_⟩
  have htx : (markGone s q).txLane n = _ := tget_map (fun x : LaneTx =>
    { x with granted := x.granted.map (fun g => if g.q = q then { g with gone := true } else g) }) s.tx n rfl
  have hfree : (tget s.tx n {}).granted = none := h.free n hn
  rw [htx, hfree]
  rfl

theorem lanes_wmCheck (q before : Nat) : LanesStand z (wmCheck s q before) := by
  grind only [wmCheck, lanes_raiseStall, lanes_incWrap, laneBlk, F.stall_WM_CROSS]

theorem lanes_stallPut (q : Nat) (rec : List Byte) : LanesStand z (stallPut s q rec) := by
  grind only [stallPut, ringWrite, lanes_poke, lanes_putStall, lanes_wmCheck, lanes_raiseStall, lanes_incWrap, laneBlk, F.stall_RECORDS]

theorem lanes_fillHead (q : Nat) : LanesStand z (fillHead s q) := lanes_putStall h _ _

theorem lanes_discardFor (q n k : Nat) : LanesStand z (discardFor s q n k) := by
  induction k generalizing s with
  | zero => exact h
  | succ k ih =>
    have hold : LanesStand z (discardOldest s q) := by
      grind only [discardOldest, lanes_putStall, lanes_wmCheck, lanes_raiseStall, lanes_inc, laneBlk, F.stall_LOST]
    grind only [discardFor]

theorem lanes_makeRoom (q n : Nat) : LanesStand z (makeRoom s q n) := by
  have hroom := lanes_discardFor h q n (s.stall q).lens.length
  grind only [makeRoom, lanes_fillHead, lanes_incWrap, lanes_set, lanes_raiseStall, lanes_markGone, laneBlk, F.stall_OFFS, F.stall_OVTK]

theorem lanes_comparePtrs (q : Nat) (f : State → State) (hf : LanesStand z (f s)) : LanesStand z (comparePtrs s q f) := by
  grind only [comparePtrs, startReset, lanes_putStall, lanes_inc, laneBlk, F.stall_RESETS]

theorem lanes_stallOffer (q : Nat) (rec : List Byte) : LanesStand z (stallOffer s q rec) := by
  grind only [stallOffer, lanes_raiseStall, lanes_inc, lanes_comparePtrs, lanes_stallPut, lanes_set, lanes_makeRoom, laneBlk,
    F.stall_GRANTED, F.stall_LOST]

theorem lanes_ownWrite (q : Nat) (rec : List Byte) : ∀ u, ownWrite s q rec = some u → LanesStand z u := by
  grind only [ownWrite, lanes_stallOffer, lanes_set, laneBlk, F.stall_GRANTED]

theorem lanes_reofferCredit (q : Nat) : LanesStand z (reofferCredit s q) := by
  have hask : ∀ t n, LanesStand z t → LanesStand z (askCredit t q n) := by
    grind only [askCredit, lanes_set, lanes_putStall, laneBlk, F.stall_GRANTED]
  exact lanes_foldl _ hask _ (lanes_putStall h _ _)

theorem lanes_spillRelease (q : Nat) : LanesStand z (spillRelease s q) := by
  have hleft : ∀ (l : List Nat) (x : State × Nat), LanesStand z x.1 →
      LanesStand z (l.foldl (fun (t, p) l => (spillLeft t (ringRead s q p l), p + l)) x).1 := by
    intro l
    induction l with
    | nil => exact fun _ hx => hx
    | cons a r ih => exact fun x hx => ih _ (lanes_update hx)
  have hall := hleft ((s.stall q).lens.take ((s.stall q).lens.length - (unreadLens s q).length)) (s, (s.stall q).a.rel) h
  grind only [spillRelease]

theorem lanes_flushCal (n : Nat) : LanesStand z (flushCal s n) := by
  induction n generalizing s with
  | zero => exact h
  | succ n ih => grind only [flushCal, lanes_ownWrite, lanes_update]

theorem lanes_moveRelease (q : Nat) : LanesStand z (moveRelease s q) := by
  have hrel : ∀ t p, LanesStand z t → LanesStand z (moveRel t q p) := by
    grind only [moveRel, lanes_putStall, lanes_reofferCredit, lanes_wmCheck]
  grind only [moveRelease, endSpilling, lanes_spillRelease, lanes_flushCal, lanes_set, laneBlk, F.host_SPILLING]

theorem lanes_moveDrop (q : Nat) : LanesStand z (moveDrop s q) := by
  grind only [moveDrop, moveNext, lanes_comparePtrs, lanes_fillHead, lanes_moveRelease, lanes_putStall, lanes_set, laneBlk, F.stall_OFFS]

/-! ### Words read from the yard -/

theorem lanes_yardLog (q code bank row spare region : Nat) (fails : List Nat) :
    LanesStand z (yardLog s q code bank row spare region fails) := by
  grind only [yardLog, logNext, lanes_update, lanes_stallOffer]

theorem lanes_yardDue (w port : Nat) : LanesStand z (yardDue s w port) := by
  have hdue := lanes_raiseYard (lanes_inc h F.yard_N_DUE 0 rfl) Bit.ydDue
  grind only [yardDue, lanes_yardLog, lanes_set, laneBlk, F.yard_DUE_ADDR, F.yard_DUE_PORT, F.yard_DUE_VALID]

theorem lanes_readWord (port w : Nat) : LanesStand z (readWord s port w).1 := by
  have htrack : ∀ t v, LanesStand z t → LanesStand z (track t v) := by
    grind only [track, lanes_yardLog, lanes_update]
  have hput : LanesStand z (putPlace s (s.loc w) (placeRead s (s.loc w)) 0) := lanes_update h
  have hflag := lanes_raiseYard (lanes_inc hput F.yard_N_CE 0 rfl) Bit.ydCe
  grind only [readWord, lanes_set, lanes_yardDue, laneBlk, F.yard_CE_ADDR, F.yard_CE_PORT, F.yard_CE_VALID]

theorem lanes_touch (port a n : Nat) : LanesStand z (touch s port a n) := by
  grind only [touch, lanes_readWord, lanes_foldl]

theorem lanes_readHead (port q : Nat) : LanesStand z (readHead s port q) := by
  grind only [readHead, lanes_fillHead, lanes_touch]

/-! ### A record released (R100, R223) -/

theorem lanes_releaseGranted (l : Nat) (g : Granted) : LanesStand z (releaseGranted s l g) := by
  have hnote : LanesStand z (noteRelease s l g) := by grind only [noteRelease, lanes_update]
  grind only [releaseGranted, lanes_readHead, lanes_moveDrop]

/-! ### A packet offered to the pixel unit (R107, R324, R325) -/

theorem lanes_writeSource (r : SrcRec) (slots : List Byte) : LanesStand z (writeSource s r slots) := by
  have hput : ∀ t p px, LanesStand z t → LanesStand z (putSourcePixel t r p px) := by
    grind only [putSourcePixel, writePixel, lanes_yardDue, lanes_poke]
  refine lanes_foldl _ (fun t j ht => ?_) _ h
  dsimp only
  split
  · exact ht
  · exact hput _ _ _ ht

theorem lanes_offerDmx (role : Nat) (slots : List Byte) : LanesStand z (offerDmx s role slots) := by
  have hignored : LanesStand z (srcIgnored s) := lanes_raise (lanes_inc h _ _ rfl) _ _ _ _ _ rfl
  have hoffer : ∀ t i, LanesStand z t → LanesStand z (offerSource t i slots) := fun t i ht => by
    unfold offerSource
    split
    · exact lanes_update (lanes_inc ht _ _ rfl)
    · exact lanes_writeSource ht _ slots
  unfold offerDmx
  split
  · exact h
  · split
    · exact hignored
    · exact lanes_foldl _ hoffer _ h

end

end Sys2Proof.Machine
end

section
/-! PROOF. A lane's transmitter registers (R118 to R123): its events counted and flagged, and what writing its fields leaves. -/

namespace Sys2Proof.Machine

/-! ### Transmitters beside the registers -/

theorem txLane_putTx_ne (s : State) {n k : Nat} (x : LaneTx) (h : k ≠ n) : (s.putTx n x).txLane k = s.txLane k :=
  tget_tput_ne _ h _ _ _

theorem txLane_of_onlyRegs {s t : State} (h : onlyRegs s t) (k : Nat) : t.txLane k = s.txLane k := by
  unfold onlyRegs at h
  rw [h]
  rfl

/-! ### Events counted and flagged (R122, R123) -/

/-- Count an event of the transmitter and set its flag. -/
def txEvent (s : State) (n : Nat) (f : Field) (bit : Nat) : State := raiseTx (s.inc f n) n bit

theorem txCounters_whole : ∀ f ∈ txCounters, f.blk = .laneTx ∧ f.fits ∧ f.width = 32 ∧ f.off < 4096 ∧ 0x38 ≤ f.off := by decide

theorem raiseTx_only (s : State) (n bit : Nat) : onlyRegs s (raiseTx s n bit) := raise_rest _ _ _ _ _ _

theorem raiseTx_keeps (s : State) {n : Nat} (hn : n < 65536) (bit : Nat) :
    keepsRegsBut (fieldsAt [F.tx_FLAGS] n) s (raiseTx s n bit) := raise_keeps s _ _ _ _ _ List.mem_cons_self hn (by decide)

theorem raiseTx_flagged (s : State) (n : Nat) {bit : Nat} (hb : bit < 10) :
    flagged F.tx_FLAGS F.tx_EVEN n bit n s (raiseTx s n bit) := raise_flagged s _ _ _ _ _ (by decide) hb (by decide)

theorem txEvent_only (s : State) (n : Nat) (f : Field) (bit : Nat) : onlyRegs s (txEvent s n f bit) :=
  onlyRegs_trans (t := s.inc f n) rfl (raiseTx_only _ n bit)

section

variable (s : State) {n : Nat} {f : Field} (hf : f ∈ txCounters) {bit : Nat}
include hf

theorem inc_txCounter : (s.inc f n).get f n = min (s.get f n + 1) 0xFFFFFFFF := by
  obtain ⟨-, hfit, hwide, -, -⟩ := txCounters_whole f hf
  have hinc := State.get_inc s f hfit n
  rwa [hwide] at hinc

theorem txEvent_keeps (hn : n < 65536) : keepsRegsBut (fieldsAt [f, F.tx_FLAGS] n) s (txEvent s n f bit) := by
  obtain ⟨-, -, -, hoff, -⟩ := txCounters_whole f hf
  exact keepsRegsBut_trans (keeps_set s f _ List.mem_cons_self hn (by omega)) (keeps_more (raiseTx_keeps _ hn bit) (by simp))

theorem txEvent_count : (txEvent s n f bit).get f n = min (s.get f n + 1) 0xFFFFFFFF := by
  obtain ⟨-, -, -, hoff, hlo⟩ := txCounters_whole f hf
  have hne : F.tx_FLAGS.off % 65536 ≠ f.off % 65536 := by
    rw [show F.tx_FLAGS.off = 0x30 from rfl]
    omega
  exact (raise_get_off _ _ _ _ _ _ f n hne).trans (inc_txCounter s hf)

theorem txEvent_flagged (hb : bit < 10) : flagged F.tx_FLAGS F.tx_EVEN n bit n s (txEvent s n f bit) := by
  obtain ⟨hblk, -, -, hoff, hlo⟩ := txCounters_whole f hf
  have hne : ∀ g : Field, g.off < 0x38 → f.off % 65536 ≠ g.off % 65536 := fun g hg => by omega
  exact flagged_after (raiseTx_flagged _ n hb) (get_inc_off s f _ n n (hne F.tx_FLAGS (by decide)))
    (get_inc_off s f _ n n (hne F.tx_EVEN (by decide))) rfl rfl (get_inc_block s f _ n 0 (by rw [hblk]; decide))

end

end Sys2Proof.Machine
end

section
/-! PROOF. DMX receivers (R106, R107, R120): a break seen, a packet that opens, ends or is given up. -/

namespace Sys2Proof.Machine

/-! ### A packet given up (R106) -/

theorem dropPacket_rxLane (s : State) (n : Nat) : (dropPacket s n).rxLane n = { s.rxLane n with dmxOpen := false, dmxSlots := [] } :=
  rxLane_putRx_self _ _ _

theorem dmxShort_eq (s : State) (n : Nat) : dmxShort s n = txEvent (dropPacket s n) n F.tx_N_DMX_SHORT Bit.txDmxShort := rfl

theorem dmxShort_keeps (s : State) {n : Nat} (hn : n < 65536) :
    keepsRegsBut (fieldsAt [F.tx_N_DMX_SHORT, F.tx_FLAGS] n) s (dmxShort s n) := by
  have hdrop : keepsRegsBut (fieldsAt [F.tx_N_DMX_SHORT, F.tx_FLAGS] n) s (dropPacket s n) := keepsRegsBut_of_regs rfl
  exact keepsRegsBut_trans hdrop (txEvent_keeps _ (by decide) hn)

theorem dmxShort_count (s : State) (n : Nat) :
    (dmxShort s n).get F.tx_N_DMX_SHORT n = min (s.get F.tx_N_DMX_SHORT n + 1) 0xFFFFFFFF :=
  txEvent_count (dropPacket s n) (by decide)

theorem dmxShort_closed (s : State) (n : Nat) : ((dmxShort s n).rxLane n).dmxOpen = false := by
  rw [dmxShort_eq, rxLane_of_onlyRegs (txEvent_only _ n _ _), dropPacket_rxLane]

/-! ### A packet ends (R106, R107) -/

/-- A packet with its start code is counted and kept as the last. -/
def packetKept (s : State) (n : Nat) : State :=
  (s.inc F.tx_DMX_PKTS n).putRx n { s.rxLane n with
    dmxOpen := false, dmxSlots := [], dmxLast := some (s.rxLane n).dmxSlots, dmxCount := ((s.rxLane n).dmxCount + 1) % 65536 }

theorem endPacket_drops {s : State} {n : Nat} (h : (s.rxLane n).dmxOpen = false ∨ (s.rxLane n).dmxSlots = []) :
    endPacket s n = dropPacket s n := by
  have hcond : (!(s.rxLane n).dmxOpen || (s.rxLane n).dmxSlots.isEmpty) = true := by
    obtain h | h := h <;> simp [h]
  rw [endPacket, if_pos hcond]

section

variable {s : State} {n : Nat} (hopen : (s.rxLane n).dmxOpen = true) (hslots : (s.rxLane n).dmxSlots ≠ [])
include hopen hslots

/-- Sending a packet on leaves the lanes as its count left them. -/
theorem endPacket_lanes : LanesStand (packetKept s n) (endPacket s n) := by
  have hcond : (!(s.rxLane n).dmxOpen || (s.rxLane n).dmxSlots.isEmpty) = false := by simp [hopen, hslots]
  have hemit : LanesStand (packetKept s n) (emitDmxr (packetKept s n) (s.get F.tx_ROLE n) (s.rxLane n).dmxCount
      (s.rxLane n).dmxStamp (s.rxLane n).dmxTs (s.rxLane n).dmxSlots) := by
    have hfeed : ∀ t bs, LanesStand (packetKept s n) t → LanesStand (packetKept s n)
        (feedSource t (s.get F.tx_ROLE n) bs (s.rxLane n).dmxStamp (s.rxLane n).dmxTs) := fun t bs ht => lanes_update ht
    have hfirst := hfeed _ (dmxrSentence (s.rxLane n).dmxCount 0 ((s.rxLane n).dmxSlots.take 400)) (LanesStand.refl _)
    unfold emitDmxr
    dsimp only
    split
    · exact hfirst
    · exact hfeed _ _ hfirst
  rw [endPacket, hcond, if_neg Bool.false_ne_true]
  grind only [packetKept, lanes_offerDmx, LanesStand.refl]

/-- With OUT 0 a packet is counted and kept, and goes nowhere. -/
theorem endPacket_unsent (hout : s.get F.tx_OUT n = 0) : endPacket s n = packetKept s n := by
  have hcond : (!(s.rxLane n).dmxOpen || (s.rxLane n).dmxSlots.isEmpty) = false := by simp [hopen, hslots]
  simp [endPacket, hcond, hout, packetKept]

end

/-- However a packet ends, of the lane's registers only DMX_PKTS moves. -/
theorem endPacket_get (s : State) {n : Nat} (hn : n < 65536) (f : Field) (hf : laneBlk f.blk = true)
    (hbeside : standsBeside [F.tx_DMX_PKTS] f = true) : (endPacket s n).get f n = s.get f n := by
  by_cases h : (s.rxLane n).dmxOpen = true ∧ (s.rxLane n).dmxSlots ≠ []
  · have hcount : keepsRegsBut (fieldsAt [F.tx_DMX_PKTS] n) s (packetKept s n) :=
      keeps_set s F.tx_DMX_PKTS _ (by decide) hn (by decide)
    exact ((endPacket_lanes h.1 h.2).get f hf n).trans (get_of_keeps hcount hn f hbeside)
  · rw [endPacket_drops (by simpa [or_iff_not_imp_left] using h)]
    rfl

/-- DMX_RX_PACKET_END. -/
theorem dmxRxPacketEnd_ends {s : State} {n : Nat} (hn : n < 65536) (hmode : laneMode s n = 5) (hopen : (s.rxLane n).dmxOpen = true) :
    ∃ t, exec (.dmxRxPacketEnd n) s = .next t ∧ (t.rxLane n).dmxOpen = false ∧ (t.rxLane n).dmxSlots = [] ∧
      ((s.rxLane n).dmxSlots = [] → t = { s with rx := t.rx }) ∧
      ((s.rxLane n).dmxSlots ≠ [] → t.get F.tx_DMX_PKTS n = min (s.get F.tx_DMX_PKTS n + 1) 0xFFFFFFFF ∧
        (t.rxLane n).dmxLast = some (s.rxLane n).dmxSlots ∧ (t.rxLane n).dmxCount = ((s.rxLane n).dmxCount + 1) % 65536 ∧
        (s.get F.tx_OUT n = 0 → t = { s with regs := t.regs, rx := t.rx } ∧ keepsRegsBut [(F.tx_DMX_PKTS, n)] s t)) := by
  refine ⟨endPacket s n, by simp [exec, execDmxRxPacketEnd, hmode, hopen], ?_⟩
  by_cases hslots : (s.rxLane n).dmxSlots = []
  · rw [endPacket_drops (Or.inr hslots), dropPacket_rxLane]
    exact ⟨rfl, rfl, fun _ => rfl, fun h => absurd hslots h⟩
  · have hlanes := endPacket_lanes hopen hslots
    have hlane : (endPacket s n).rxLane n = _ := (hlanes.rxLane n).trans (rxLane_putRx_self _ n _)
    rw [hlane]
    refine ⟨rfl, rfl, fun h => absurd h hslots, fun _ => ⟨?_, rfl, rfl, fun hout => ?_⟩⟩
    · exact (hlanes.get F.tx_DMX_PKTS rfl n).trans (inc_txCounter s (by decide))
    · rw [endPacket_unsent hopen hslots hout]
      exact ⟨rfl, keeps_set (fs := [F.tx_DMX_PKTS]) s F.tx_DMX_PKTS _ (by decide) hn (by decide)⟩

/-! ### A break (R106) -/

/-- The line has risen after a break: the receiver is armed. -/
def breakRise (s : State) (n : Nat) : State :=
  ((s.set F.rx_STATE n 3).set F.rx_LINE n 1).putRx n { s.rxLane n with confirmed := false }

/-- A silence that fell due inside the break is raised (R81). -/
def breakSeen (s : State) (n : Nat) : State := if (s.rxLane n).silentDue then raiseSilent (breakRise s n) n else breakRise s n

/-- The fields that a break moves before its length is judged. -/
def breakFields : List Field := [F.rx_STATE, F.rx_LINE, F.rx_SILENT, F.rx_SILENT_CNT, F.rx_FLAGS]

theorem raiseSilent_locked {s : State} {n : Nat} (hn : n < 65536) (hauto : autobaudOn s n = false) : raiseSilent s n = noteSilent s n := by
  obtain ⟨-, -, -, hkeep⟩ := noteSilent_reads hn s
  have hauto' : autobaudOn (noteSilent s n) n = false := by
    rw [autobaudOn_of_keeps hkeep hn (by decide) (by decide) (part_of_receiversFired (noteSilent_only s n)), hauto]
  simp only [noteSilent] at hauto'
  simp only [raiseSilent, hauto', Bool.not_false, if_true, noteSilent]

theorem breakRise_keeps (s : State) {n : Nat} (hn : n < 65536) : keepsRegsBut (fieldsAt breakFields n) s (breakRise s n) := by
  have hregs : (breakRise s n).regs = ((s.set F.rx_STATE n 3).set F.rx_LINE n 1).regs := rfl
  have hset := keepsRegsBut_trans (keeps_set (fs := breakFields) s F.rx_STATE 3 (by decide) hn (by decide))
    (keeps_set _ F.rx_LINE 1 (by decide) hn (by decide))
  exact keepsRegsBut_trans hset (keepsRegsBut_of_regs hregs)

theorem breakRise_reads (s : State) (n : Nat) : rxState (breakRise s n) n = 3 ∧ (breakRise s n).on F.rx_LINE n = true :=
  ⟨(State.get_set_beside _ F.rx_LINE F.rx_STATE n _ rfl rfl (by decide) (by decide)).trans
    (State.get_set_self s F.rx_STATE (by decide) n 3), on_set_one _ F.rx_LINE (by decide) (by decide) n⟩

/-- A DMX-RX lane has no lock to lose, so its silence moves no STATE. -/
theorem breakSeen_reads {s : State} {n : Nat} (hn : n < 65536) (hmode : laneMode s n = 5) :
    keepsRegsBut (fieldsAt breakFields n) s (breakSeen s n) ∧ rxState (breakSeen s n) n = 3 ∧
      (breakSeen s n).on F.rx_LINE n = true := by
  have hrise := breakRise_keeps s hn
  obtain ⟨hstate, hline⟩ := breakRise_reads s n
  unfold breakSeen
  split
  · have hauto : autobaudOn (breakRise s n) n = false := by
      rw [autobaudOn, laneMode_of_keeps hrise hn (by decide) rfl, hmode]
      simp
    obtain ⟨-, -, -, hkeep⟩ := noteSilent_reads hn (breakRise s n)
    rw [raiseSilent_locked hn hauto]
    exact ⟨keepsRegsBut_trans hrise (keeps_more hkeep (by decide)), (get_of_keeps hkeep hn F.rx_STATE (by decide)).trans hstate,
      (on_of_keeps hkeep hn F.rx_LINE (by decide)).trans hline⟩
  · exact ⟨hrise, hstate, hline⟩

theorem exec_dmxRxBreak {s : State} {n low : Nat} (mab : Nat) (e : EdgeAt) (hmode : laneMode s n = 5)
    (hst : rxState s n = 3 ∨ rxState s n = 4 ∨ rxState s n = 5) (hlow : dmxCharTime s n ≤ low) :
    exec (.dmxRxBreak n low mab e) s = .next (
      if low < breakMin s n then dmxShort (rxEvent (breakSeen s n) n F.rx_N_BREAK Bit.rxBreak) n
      else if mab < mabMin s n then dmxShort (endPacket (breakSeen s n) n) n
      else (endPacket (breakSeen s n) n).putRx n { (endPacket (breakSeen s n) n).rxLane n with
        dmxOpen := true, dmxSlots := [], dmxStamp := edgeStamp s e, dmxTs := s.tsAt (edgeStamp s e) }) := by
  have hst' : (rxState s n == 3 || rxState s n == 4 || rxState s n == 5) = true := by
    simpa [or_assoc] using hst
  have hlane : (breakRise s n).rxLane n = _ := rxLane_putRx_self _ n _
  have hseen : (if ((breakRise s n).rxLane n).silentDue then raiseSilent (breakRise s n) n else breakRise s n) = breakSeen s n := by
    rw [hlane, breakSeen]
  simp only [exec, execDmxRxBreak, hmode, hst', Nat.not_lt.2 hlow, bne_self_eq_false, Bool.not_true, Bool.or_self, decide_false,
    Bool.false_eq_true, if_false]
  rw [← hseen]
  split
  · rfl
  · split <;> rfl

section

variable {s : State} {n : Nat} (hn : n < 65536) (hmode : laneMode s n = 5)
include hn hmode

/-- A break shorter than BREAK_MIN. -/
theorem dmxBreak_short : let t := dmxShort (rxEvent (breakSeen s n) n F.rx_N_BREAK Bit.rxBreak) n
    rxState t n = 3 ∧ t.on F.rx_LINE n = true ∧ t.get F.rx_N_BREAK n = min (s.get F.rx_N_BREAK n + 1) 0xFFFFFFFF ∧
      t.get F.tx_N_DMX_SHORT n = min (s.get F.tx_N_DMX_SHORT n + 1) 0xFFFFFFFF ∧ (t.rxLane n).dmxOpen = false := by
  intro t
  obtain ⟨hseen, hstate, hline⟩ := breakSeen_reads hn hmode
  have hevent := rxEvent_keeps (breakSeen s n) (f := F.rx_N_BREAK) (by decide) (bit := Bit.rxBreak) hn
  have hshort := dmxShort_keeps (rxEvent (breakSeen s n) n F.rx_N_BREAK Bit.rxBreak) hn
  refine ⟨?_, ?_, ?_, ?_, dmxShort_closed _ n⟩
  · exact (get_of_keeps hshort hn F.rx_STATE (by decide)).trans ((get_of_keeps hevent hn F.rx_STATE (by decide)).trans hstate)
  · exact (on_of_keeps hshort hn F.rx_LINE (by decide)).trans ((on_of_keeps hevent hn F.rx_LINE (by decide)).trans hline)
  · refine (get_of_keeps hshort hn F.rx_N_BREAK (by decide)).trans ((rxEvent_count _ (by decide)).trans ?_)
    rw [get_of_keeps hseen hn F.rx_N_BREAK (by decide)]
    rfl
  · refine (dmxShort_count _ n).trans ?_
    rw [get_of_keeps hevent hn F.tx_N_DMX_SHORT (by decide), get_of_keeps hseen hn F.tx_N_DMX_SHORT (by decide)]

/-- After the packet before it has ended, STATE, LINE and the DMX_SHORT counter are as the break left them. -/
theorem endPacket_breakSeen : rxState (endPacket (breakSeen s n) n) n = 3 ∧ (endPacket (breakSeen s n) n).on F.rx_LINE n = true ∧
    (endPacket (breakSeen s n) n).get F.tx_N_DMX_SHORT n = s.get F.tx_N_DMX_SHORT n := by
  obtain ⟨hseen, hstate, hline⟩ := breakSeen_reads hn hmode
  refine ⟨(endPacket_get _ hn F.rx_STATE rfl (by decide)).trans hstate, ?_,
    (endPacket_get _ hn F.tx_N_DMX_SHORT rfl (by decide)).trans (get_of_keeps hseen hn _ (by decide))⟩
  rw [State.on, endPacket_get _ hn F.rx_LINE rfl (by decide)]
  exact hline

/-- A break of at least BREAK_MIN with a mark shorter than MAB_MIN. -/
theorem dmxBreak_badMark : let t := dmxShort (endPacket (breakSeen s n) n) n
    rxState t n = 3 ∧ t.on F.rx_LINE n = true ∧ (t.rxLane n).dmxOpen = false ∧
      t.get F.tx_N_DMX_SHORT n = min (s.get F.tx_N_DMX_SHORT n + 1) 0xFFFFFFFF := by
  intro t
  obtain ⟨hstate, hline, hcount⟩ := endPacket_breakSeen hn hmode
  have hshort := dmxShort_keeps (endPacket (breakSeen s n) n) hn
  refine ⟨(get_of_keeps hshort hn F.rx_STATE (by decide)).trans hstate, (on_of_keeps hshort hn F.rx_LINE (by decide)).trans hline,
    dmxShort_closed _ n, ?_⟩
  rw [← hcount]
  exact dmxShort_count _ n

end

/-- DMX_RX_BREAK, by the length of the break and then of the mark. -/
theorem dmxRxBreak_judged {s : State} {n : Nat} (hn : n < 65536) {low : Nat} (mab : Nat) (e : EdgeAt) (hmode : laneMode s n = 5)
    (hst : rxState s n = 3 ∨ rxState s n = 4 ∨ rxState s n = 5) (hlow : dmxCharTime s n ≤ low) :
    ∃ t, exec (.dmxRxBreak n low mab e) s = .next t ∧ rxState t n = 3 ∧ t.on F.rx_LINE n = true ∧
      (low < breakMin s n → t.get F.rx_N_BREAK n = min (s.get F.rx_N_BREAK n + 1) 0xFFFFFFFF ∧
        t.get F.tx_N_DMX_SHORT n = min (s.get F.tx_N_DMX_SHORT n + 1) 0xFFFFFFFF ∧ (t.rxLane n).dmxOpen = false) ∧
      (breakMin s n ≤ low → mabMin s n ≤ mab → (t.rxLane n).dmxOpen = true ∧ (t.rxLane n).dmxSlots = [] ∧
        (t.rxLane n).dmxStamp = edgeStamp s e) ∧
      (breakMin s n ≤ low → mab < mabMin s n → (t.rxLane n).dmxOpen = false ∧
        t.get F.tx_N_DMX_SHORT n = min (s.get F.tx_N_DMX_SHORT n + 1) 0xFFFFFFFF) := by
  refine ⟨_, exec_dmxRxBreak mab e hmode hst hlow, ?_⟩
  by_cases hbrk : low < breakMin s n
  · obtain ⟨hstate, hline, hcount⟩ := dmxBreak_short hn hmode
    rw [if_pos hbrk]
    exact ⟨hstate, hline, fun _ => hcount, fun h => absurd hbrk (Nat.not_lt.2 h), fun h => absurd hbrk (Nat.not_lt.2 h)⟩
  · rw [if_neg hbrk]
    by_cases hmab : mab < mabMin s n
    · obtain ⟨hstate, hline, hcount⟩ := dmxBreak_badMark hn hmode
      rw [if_pos hmab]
      exact ⟨hstate, hline, fun h => absurd h hbrk, fun _ h => absurd hmab (Nat.not_lt.2 h), fun _ _ => hcount⟩
    · obtain ⟨hstate, hline, -⟩ := endPacket_breakSeen hn hmode
      rw [if_neg hmab, rxLane_putRx_self]
      exact ⟨hstate, hline, fun h => absurd h hbrk, fun _ _ => ⟨rfl, rfl, rfl⟩, fun _ h => absurd h hmab⟩

end Sys2Proof.Machine
end

section
/-! PROOF. SENSE inputs (R109 to R112, R121): an edge counted, measured and recorded, a gate that overflows, a signal lost. -/

namespace Sys2Proof.Machine

/-! ### An edge seen (R109, R111) -/

/-- An edge is counted, and LINE follows it. -/
def edgeCounted (s : State) (n : Nat) (rising : Bool) : State := (s.inc F.tx_EDGES n).setB F.rx_LINE n rising

/-- A rising edge ends NO_SIGNAL. -/
def signalSeen (s : State) (n : Nat) (rising : Bool) : State :=
  if rising && (s.rxLane n).noSignal then (raiseTx s n Bit.txSignalBack).putRx n
    { (raiseTx s n Bit.txSignalBack).rxLane n with noSignal := false, gateOpen := false }
  else s

theorem edgeCounted_keeps (s : State) {n : Nat} (hn : n < 65536) (rising : Bool) :
    keepsRegsBut (fieldsAt [F.tx_EDGES, F.rx_LINE] n) s (edgeCounted s n rising) :=
  keepsRegsBut_trans (keeps_set s F.tx_EDGES (min (s.get F.tx_EDGES n + 1) (2 ^ F.tx_EDGES.width - 1)) (by decide) hn (by decide))
    (keeps_set _ F.rx_LINE (b2n rising) (by decide) hn (by decide))

theorem edgeCounted_reads (s : State) (n : Nat) (rising : Bool) :
    (edgeCounted s n rising).get F.tx_EDGES n = min (s.get F.tx_EDGES n + 1) 0xFFFFFFFF ∧
      (edgeCounted s n rising).on F.rx_LINE n = rising :=
  ⟨(get_set_block _ F.rx_LINE F.tx_EDGES n n _ (by decide)).trans (inc_txCounter s (by decide)),
    State.on_setB _ F.rx_LINE (by decide) (by decide) n rising⟩

theorem signalSeen_still {s : State} {n : Nat} (h : (s.rxLane n).noSignal = false) (rising : Bool) : signalSeen s n rising = s := by
  rw [signalSeen, h, Bool.and_false, if_neg Bool.false_ne_true]

theorem signalSeen_keeps (s : State) {n : Nat} (hn : n < 65536) (rising : Bool) :
    keepsRegsBut (fieldsAt [F.tx_FLAGS] n) s (signalSeen s n rising) := by
  unfold signalSeen
  split
  · exact keepsRegsBut_trans (raiseTx_keeps s hn _) (keepsRegsBut_of_regs rfl)
  · exact keepsRegsBut_refl _ s

/-- SIGNAL_BACK is latched and NO_SIGNAL is over. -/
theorem signalSeen_back {s : State} {n : Nat} (h : (s.rxLane n).noSignal = true) :
    ((signalSeen s n true).get F.tx_FLAGS n).testBit 7 = true ∧ ((signalSeen s n true).rxLane n).noSignal = false := by
  have hflag := flagged_testBit (raiseTx_flagged s n (bit := Bit.txSignalBack) (by decide))
  rw [signalSeen, h, Bool.and_self, if_pos rfl, rxLane_putRx_self]
  exact ⟨hflag, rfl⟩

/-! ### A gate (R110) -/

/-- The results of a gate. -/
def gateFields : List Field := [F.tx_PERIOD_SUM, F.tx_HIGH_SUM, F.tx_GATES]

theorem gateEnd_stands (s : State) (n period high : Nat) :
    (gateEnd s n period high).regs = (((s.set F.tx_PERIOD_SUM n period).set F.tx_HIGH_SUM n high).incWrap F.tx_GATES n).regs ∧
      (gateEnd s n period high).rx = s.rx := by
  unfold gateEnd
  dsimp only
  split <;> exact ⟨rfl, rfl⟩

theorem gateEnd_keeps (s : State) {n : Nat} (hn : n < 65536) (period high : Nat) :
    keepsRegsBut (fieldsAt gateFields n) s (gateEnd s n period high) := by
  have hset := keepsRegsBut_trans (keeps_set (fs := gateFields) s F.tx_PERIOD_SUM period (by decide) hn (by decide))
    (keeps_set _ F.tx_HIGH_SUM high (by decide) hn (by decide))
  have hcount := keeps_set (fs := gateFields) ((s.set F.tx_PERIOD_SUM n period).set F.tx_HIGH_SUM n high) F.tx_GATES
    (((s.set F.tx_PERIOD_SUM n period).set F.tx_HIGH_SUM n high).get F.tx_GATES n + 1) (by decide) hn (by decide)
  exact keepsRegsBut_trans (keepsRegsBut_trans hset hcount) (keepsRegsBut_of_regs (gateEnd_stands s n period high).1)

/-- PERIOD_SUM, HIGH_SUM and GATES are written together. -/
theorem gateEnd_reads (s : State) (n : Nat) {period high : Nat} (hperiod : period < 2 ^ 32) (hhigh : high < 2 ^ 32) :
    (gateEnd s n period high).get F.tx_PERIOD_SUM n = period ∧ (gateEnd s n period high).get F.tx_HIGH_SUM n = high ∧
      (gateEnd s n period high).get F.tx_GATES n = (s.get F.tx_GATES n + 1) % 2 ^ 32 := by
  have hget := State.get_congr (gateEnd_stands s n period high).1
  refine ⟨?_, ?_, ?_⟩
  · rw [hget, State.incWrap, State.get_set_off _ _ _ _ _ _ (by decide), State.get_set_off _ _ _ _ _ _ (by decide),
      State.get_set_self _ _ (by decide)]
    exact Nat.mod_eq_of_lt hperiod
  · rw [hget, State.incWrap, State.get_set_off _ _ _ _ _ _ (by decide), State.get_set_self _ _ (by decide)]
    exact Nat.mod_eq_of_lt hhigh
  · rw [hget, State.get_incWrap _ _ (by decide), State.get_set_off _ _ _ _ _ _ (by decide), State.get_set_off _ _ _ _ _ _ (by decide)]
    rfl

/-- A measured edge moves the gate's results at most, and never NO_SIGNAL. -/
theorem senseMeasure_stands (s : State) {n : Nat} (hn : n < 65536) (rising : Bool) (cycles : Nat) :
    keepsRegsBut (fieldsAt gateFields n) s (senseMeasure s n rising cycles) ∧
      ((senseMeasure s n rising cycles).rxLane n).noSignal = (s.rxLane n).noSignal := by
  have hput : ∀ x : LaneRx, x.noSignal = (s.rxLane n).noSignal →
      keepsRegsBut (fieldsAt gateFields n) s (s.putRx n x) ∧ ((s.putRx n x).rxLane n).noSignal = (s.rxLane n).noSignal :=
    fun x hx => ⟨keepsRegsBut_of_regs rfl, by rw [rxLane_putRx_self, hx]⟩
  unfold senseMeasure
  dsimp only
  split
  · exact hput _ rfl
  · split
    · split
      · exact hput _ rfl
      · exact ⟨keepsRegsBut_refl _ s, rfl⟩
    · split
      · obtain ⟨hkeep, hsig⟩ := hput (openGate { s.rxLane n with
          gateCycles := (s.rxLane n).gateCycles + cycles, gateHigh := rising,
          gateHighCycles := (s.rxLane n).gateHighCycles + (if (s.rxLane n).gateHigh = true then cycles else 0),
          gatePeriods := (s.rxLane n).gatePeriods + b2n rising }) rfl
        refine ⟨keepsRegsBut_trans hkeep (gateEnd_keeps _ hn _ _), ?_⟩
        rw [State.rxLane, (gateEnd_stands _ n _ _).2]
        exact hsig
      · exact hput _ rfl

/-- The rising edge that completes the gate. -/
theorem senseMeasure_completes {s : State} {n cycles : Nat} (hen : s.on F.tx_MEAS_EN n = true) (hopen : (s.rxLane n).gateOpen = true)
    (hlow : (s.rxLane n).gateHigh = false) (hlast : gateLen s n ≤ (s.rxLane n).gatePeriods + 1) :
    ∃ u, u.regs = s.regs ∧ senseMeasure s n true cycles =
      gateEnd u n ((s.rxLane n).gateCycles + cycles) (s.rxLane n).gateHighCycles := by
  refine ⟨s.putRx n (openGate { s.rxLane n with
    gateCycles := (s.rxLane n).gateCycles + cycles, gateHigh := true, gateHighCycles := (s.rxLane n).gateHighCycles,
    gatePeriods := (s.rxLane n).gatePeriods + 1 }), rfl, ?_⟩
  simp only [senseMeasure, hen, hopen, hlow, b2n, hlast, Bool.not_true, Bool.false_eq_true, if_false, if_true, decide_true, Bool.and_self,
    Nat.add_zero]

/-! ### An edge recorded (R112) -/

/-- A recorded edge goes to a stall: the lanes stand but for the time it was recorded. -/
theorem senseCapture_cases (s : State) (n : Nat) (rising : Bool) (stamp : Nat) : senseCapture s n rising stamp = s ∨
    LanesStand (s.putRx n { s.rxLane n with edgeRecorded := some stamp }) (senseCapture s n rising stamp) := by
  let u := s.putRx n { s.rxLane n with edgeRecorded := some stamp }
  have hoffer : LanesStand u (stallOffer { u with drawn := u.drawn + 1 } (s.get F.tx_CAPT_STALL n) (senseRecord s n rising stamp)) :=
    lanes_stallOffer (lanes_update (LanesStand.refl u)) _ _
  exact iteInduction (motive := fun t => t = s ∨ LanesStand u t) (fun _ => Or.inr hoffer) (fun _ => Or.inl rfl)

theorem senseCapture_get (s : State) (n : Nat) (rising : Bool) (stamp : Nat) (f : Field) (hf : laneBlk f.blk = true) :
    (senseCapture s n rising stamp).get f n = s.get f n := by
  obtain h | h := senseCapture_cases s n rising stamp
  · rw [h]
  · exact h.get f hf n

theorem senseCapture_noSignal (s : State) (n : Nat) (rising : Bool) (stamp : Nat) :
    ((senseCapture s n rising stamp).rxLane n).noSignal = (s.rxLane n).noSignal := by
  obtain h | h := senseCapture_cases s n rising stamp
  · rw [h]
  · rw [h.rxLane, rxLane_putRx_self]

theorem senseCapture_off {s : State} {n : Nat} (h : s.get F.tx_CAPT_EDGE n = 0) (rising : Bool) (stamp : Nat) :
    senseCapture s n rising stamp = s := by
  simp [senseCapture, h]

/-! ### SENSE_EDGE -/

/-- An edge up to its record. -/
def edgeMeasured (s : State) (n : Nat) (rising : Bool) (cycles : Nat) : State :=
  senseMeasure (signalSeen (edgeCounted s n rising) n rising) n rising cycles

section

variable {s : State} {n : Nat} (hn : n < 65536)

theorem exec_senseEdge (rising : Bool) (cycles : Nat) (e : EdgeAt) (hmode : laneMode s n = 9) :
    exec (.senseEdge n rising cycles e) s = .next (senseCapture (edgeMeasured s n rising cycles) n rising (edgeStamp s e)) := by
  simp only [exec, execSenseEdge, hmode, bne_self_eq_false, Bool.false_eq_true, if_false]
  rfl

include hn

/-- A field beside a gate's results and the flags reads after an edge as after its count. -/
theorem edgeMeasured_get (rising : Bool) (cycles : Nat) (f : Field) (hgate : standsBeside gateFields f = true)
    (hflag : standsBeside [F.tx_FLAGS] f = true) :
    (edgeMeasured s n rising cycles).get f n = (edgeCounted s n rising).get f n :=
  (get_of_keeps (senseMeasure_stands _ hn rising cycles).1 hn f hgate).trans (get_of_keeps (signalSeen_keeps _ hn rising) hn f hflag)

theorem edgeMeasured_back (cycles : Nat) (h : (s.rxLane n).noSignal = true) :
    ((edgeMeasured s n true cycles).get F.tx_FLAGS n).testBit 7 = true ∧
      ((edgeMeasured s n true cycles).rxLane n).noSignal = false := by
  obtain ⟨hflag, hsig⟩ := signalSeen_back (s := edgeCounted s n true) (n := n) h
  obtain ⟨hkeep, hstands⟩ := senseMeasure_stands (signalSeen (edgeCounted s n true) n true) hn true cycles
  refine ⟨?_, hstands.trans hsig⟩
  rw [edgeMeasured, get_of_keeps hkeep hn F.tx_FLAGS (by decide)]
  exact hflag

/-- With no measurement, no record and no signal lost, an edge is counted and LINE follows. -/
theorem edgeMeasured_idle (rising : Bool) (cycles : Nat) (hen : s.on F.tx_MEAS_EN n = false) (hsig : (s.rxLane n).noSignal = false) :
    edgeMeasured s n rising cycles = (edgeCounted s n rising).putRx n { s.rxLane n with gateOpen := false } := by
  have hen' : (edgeCounted s n rising).on F.tx_MEAS_EN n = false := (on_of_keeps (edgeCounted_keeps s hn rising) hn _ (by decide)).trans hen
  have hstill := signalSeen_still (s := edgeCounted s n rising) (n := n) hsig rising
  rw [edgeMeasured, hstill]
  simp only [senseMeasure, hen', Bool.not_false, if_true]
  rfl

/-- The edge that completes a gate. -/
theorem edgeMeasured_gate {cycles : Nat} (hen : s.on F.tx_MEAS_EN n = true) (hopen : (s.rxLane n).gateOpen = true)
    (hsig : (s.rxLane n).noSignal = false) (hlow : (s.rxLane n).gateHigh = false)
    (hlast : gateLen s n ≤ (s.rxLane n).gatePeriods + 1) (hperiod : (s.rxLane n).gateCycles + cycles < 2 ^ 32)
    (hhigh : (s.rxLane n).gateHighCycles < 2 ^ 32) :
    (edgeMeasured s n true cycles).get F.tx_PERIOD_SUM n = (s.rxLane n).gateCycles + cycles ∧
      (edgeMeasured s n true cycles).get F.tx_HIGH_SUM n = (s.rxLane n).gateHighCycles ∧
      (edgeMeasured s n true cycles).get F.tx_GATES n = (s.get F.tx_GATES n + 1) % 2 ^ 32 := by
  have hcount := edgeCounted_keeps s hn true
  have hen' : (edgeCounted s n true).on F.tx_MEAS_EN n = true := (on_of_keeps hcount hn _ (by decide)).trans hen
  have hlast' : gateLen (edgeCounted s n true) n ≤ (s.rxLane n).gatePeriods + 1 := by
    rwa [gateLen, get_of_keeps hcount hn F.tx_GATE (by decide)]
  obtain ⟨u, hregs, hend⟩ := senseMeasure_completes (s := edgeCounted s n true) (cycles := cycles) hen' hopen hlow hlast'
  have hgates : u.get F.tx_GATES n = s.get F.tx_GATES n := (State.get_congr hregs _ n).trans (get_of_keeps hcount hn _ (by decide))
  have hmeasured : edgeMeasured s n true cycles = gateEnd u n ((s.rxLane n).gateCycles + cycles) (s.rxLane n).gateHighCycles := by
    rw [edgeMeasured, signalSeen_still (s := edgeCounted s n true) (n := n) hsig]
    exact hend
  rw [hmeasured, ← hgates]
  exact gateEnd_reads u n hperiod hhigh

/-- SENSE_EDGE. -/
theorem senseEdge_measures (hmode : laneMode s n = 9) (rising : Bool) (cycles : Nat) (e : EdgeAt) :
    ∃ t, exec (.senseEdge n rising cycles e) s = .next t ∧
      t.get F.tx_EDGES n = min (s.get F.tx_EDGES n + 1) 0xFFFFFFFF ∧ t.on F.rx_LINE n = rising ∧
      (rising = true → (s.rxLane n).noSignal = true → (t.get F.tx_FLAGS n).testBit 7 = true ∧ (t.rxLane n).noSignal = false) ∧
      (s.on F.tx_MEAS_EN n = false → s.get F.tx_CAPT_EDGE n = 0 → (s.rxLane n).noSignal = false →
        t = { s with regs := t.regs, rx := t.rx } ∧ keepsRegsBut [(F.tx_EDGES, n), (F.rx_LINE, n)] s t) ∧
      (s.on F.tx_MEAS_EN n = true → (s.rxLane n).gateOpen = true → (s.rxLane n).noSignal = false → rising = true →
        max 1 (s.get F.tx_GATE n) ≤ (s.rxLane n).gatePeriods + 1 → (s.rxLane n).gateCycles + cycles < 2 ^ 32 →
        (s.rxLane n).gateHighCycles < 2 ^ 32 → (s.rxLane n).gateHigh = false →
        t.get F.tx_PERIOD_SUM n = (s.rxLane n).gateCycles + cycles ∧ t.get F.tx_HIGH_SUM n = (s.rxLane n).gateHighCycles ∧
        t.get F.tx_GATES n = (s.get F.tx_GATES n + 1) % 2 ^ 32) := by
  obtain ⟨hedges, hline⟩ := edgeCounted_reads s n rising
  have hget : ∀ f : Field, laneBlk f.blk = true → _ = (edgeMeasured s n rising cycles).get f n :=
    senseCapture_get (edgeMeasured s n rising cycles) n rising (edgeStamp s e)
  refine ⟨_, exec_senseEdge rising cycles e hmode, ?_, ?_, ?_, ?_, ?_⟩
  · rw [hget _ rfl, edgeMeasured_get hn rising cycles _ (by decide) (by decide), hedges]
  · rw [State.on, hget _ rfl, edgeMeasured_get hn rising cycles _ (by decide) (by decide)]
    exact hline
  · rintro rfl hlost
    obtain ⟨hflag, hsig⟩ := edgeMeasured_back hn cycles hlost
    rw [hget _ rfl, senseCapture_noSignal]
    exact ⟨hflag, hsig⟩
  · intro hen hcapt hsig
    have hidle := edgeMeasured_idle hn rising cycles hen hsig
    have hcapt' : (edgeMeasured s n rising cycles).get F.tx_CAPT_EDGE n = 0 := by
      rw [edgeMeasured_get hn rising cycles _ (by decide) (by decide), get_of_keeps (edgeCounted_keeps s hn rising) hn _ (by decide), hcapt]
    have hregs : (edgeMeasured s n rising cycles).regs = (edgeCounted s n rising).regs := by rw [hidle]; rfl
    rw [senseCapture_off hcapt']
    exact ⟨by rw [hidle]; rfl, keepsRegsBut_trans (edgeCounted_keeps s hn rising) (keepsRegsBut_of_regs hregs)⟩
  · rintro hen hopen hsig rfl hlast hperiod hhigh hlow
    rw [hget _ rfl, hget _ rfl, hget _ rfl]
    exact edgeMeasured_gate hn hen hopen hsig hlow hlast hperiod hhigh

/-! ### SENSE_OVF and NO_SIGNAL (R110, R111) -/

/-- SENSE_OVF. -/
theorem senseOvf_ends (hmode : laneMode s n = 9) (hen : s.on F.tx_MEAS_EN n = true) (hopen : (s.rxLane n).gateOpen = true) :
    ∃ t, exec (.senseOvf n) s = .next t ∧ t = { s with regs := t.regs, rx := t.rx, fired := t.fired } ∧
      t.get F.tx_PERIOD_SUM n = 0xFFFFFFFF ∧ flagged F.tx_FLAGS F.tx_EVEN n 5 n s t ∧ (t.rxLane n).gateOpen = false ∧
      keepsRegsBut [(F.tx_PERIOD_SUM, n), (F.tx_FLAGS, n)] s t := by
  let v := s.putRx n { s.rxLane n with gateOpen := false }
  let u := v.set F.tx_PERIOD_SUM n 0xFFFFFFFF
  have hput : keepsRegsBut (fieldsAt [F.tx_PERIOD_SUM] n) s v := keepsRegsBut_of_regs rfl
  have hset : keepsRegsBut (fieldsAt [F.tx_PERIOD_SUM] n) s u :=
    keepsRegsBut_trans hput (keeps_set v F.tx_PERIOD_SUM 0xFFFFFFFF (by decide) hn (by decide))
  have hraise := raiseTx_keeps u hn Bit.txSenseOvf
  have honly := raiseTx_only u n Bit.txSenseOvf
  have hlane : v.rxLane n = _ := rxLane_putRx_self s n _
  have hexec : exec (.senseOvf n) s = .next (raiseTx u n Bit.txSenseOvf) := by
    simp only [exec, execSenseOvf, hmode, hen, hopen, beq_self_eq_true, Bool.and_self, if_true, u, v]
  have hfired : receiversFired s u := rfl
  have hkeep : keepsRegsBut (fieldsAt [F.tx_PERIOD_SUM, F.tx_FLAGS] n) s (raiseTx u n Bit.txSenseOvf) :=
    keepsRegsBut_trans (keeps_more hset (by decide)) (keeps_more hraise (by decide))
  refine ⟨_, hexec, receiversFired_trans hfired (receiversFired_of_onlyRegs honly), ?_, ?_, ?_, hkeep⟩
  · exact (get_of_keeps hraise hn F.tx_PERIOD_SUM (by decide)).trans
      ((State.get_set_self v F.tx_PERIOD_SUM (by decide) n 0xFFFFFFFF).trans (Nat.mod_eq_of_lt (by decide)))
  · exact flagged_after (raiseTx_flagged u n (by decide)) (get_of_keeps hset hn _ (by decide)) (get_of_keeps hset hn _ (by decide))
      rfl rfl (get_of_keeps_block hset F.time_SERVO 0 (by decide) (by decide) (by decide))
  · rw [rxLane_of_onlyRegs honly]
    exact congrArg LaneRx.gateOpen hlane

/-- NO_SIGNAL. -/
theorem noSignal_latched (hmode : laneMode s n = 9) (hto : s.get F.rx_SILENT_TO n ≠ 0) (hsig : (s.rxLane n).noSignal = false) :
    ∃ t, exec (.noSignal n) s = .next t ∧ (t.rxLane n).noSignal = true ∧ (t.get F.tx_FLAGS n).testBit 6 = true ∧
      (s.shedUp 5 = false → t = { s with regs := t.regs, rx := t.rx, fired := t.fired } ∧
        flagged F.tx_FLAGS F.tx_EVEN n 6 n s t ∧ keepsRegsBut [(F.tx_FLAGS, n)] s t) := by
  let u := raiseTx (s.putRx n { s.rxLane n with noSignal := true }) n Bit.txNoSignal
  have honly := raiseTx_only (s.putRx n { s.rxLane n with noSignal := true }) n Bit.txNoSignal
  have hflag : flagged F.tx_FLAGS F.tx_EVEN n 6 n s u :=
    raiseTx_flagged (s.putRx n { s.rxLane n with noSignal := true }) n (bit := Bit.txNoSignal) (by decide)
  have hkeep : keepsRegsBut (fieldsAt [F.tx_FLAGS] n) s u :=
    keepsRegsBut_trans (t := s.putRx n _) (keepsRegsBut_of_regs rfl) (raiseTx_keeps _ hn _)
  have hlane : u.rxLane n = _ := (rxLane_of_onlyRegs honly n).trans (rxLane_putRx_self s n _)
  have hexec : exec (.noSignal n) s = .next (if u.part.hasPixel && u.shedUp 5 then senseLost u (u.get F.tx_ROLE n) else u) := by
    simp only [exec, execNoSignal, hmode, hsig, bne_iff_ne.2 hto, beq_self_eq_true, Bool.not_false, Bool.and_self, if_true, u]
  have hup : u.shedUp 5 = s.shedUp 5 := by
    rw [State.shedUp, State.shedUp, get_of_keeps_block hkeep F.pwr_UP 0 (by decide) (by decide) (by decide)]
  refine ⟨_, hexec, ?_⟩
  split
  · next hpix =>
    rw [Bool.and_eq_true, hup] at hpix
    exact ⟨congrArg LaneRx.noSignal hlane, flagged_testBit hflag, fun hdown => absurd hpix.2 (by rw [hdown]; exact Bool.false_ne_true)⟩
  · exact ⟨congrArg LaneRx.noSignal hlane, flagged_testBit hflag, fun _ =>
      ⟨receiversFired_trans (t := s.putRx n _) rfl (receiversFired_of_onlyRegs honly), hflag, hkeep⟩⟩

end

/-! ### The obligation -/

theorem breakMin_eq (s : State) (n : Nat) :
    breakMin s n = (if s.get F.tx_BREAK_MIN n = 0 then 88 else s.get F.tx_BREAK_MIN n) * 400 := by
  simp only [breakMin, beq_iff_eq]

theorem mabMin_eq (s : State) (n : Nat) : mabMin s n = (if s.get F.tx_MAB_MIN n = 0 then 8 else s.get F.tx_MAB_MIN n) * 400 := by
  simp only [mabMin, beq_iff_eq]

theorem dmxCharTime_eq (s : State) (n : Nat) : dmxCharTime s n = (2 + (if s.on F.rx_DATA7 n then 7 else 8) +
    (if s.get F.rx_PARITY n = 1 ∨ s.get F.rx_PARITY n = 2 then 1 else 0)) * 1600 := by
  simp only [dmxCharTime, parityOn, b2n, Bool.or_eq_true, beq_iff_eq]

/-- Settles O26, by the five rows in turn (R106 to R112). -/
theorem dmxReceiveAndSenseLanes : Obligations.DmxReceiveAndSenseLanes := by
  intro s n hn96
  have hn : n < 65536 := by omega
  refine ⟨fun low mab e hmode hst hlow => ?_, fun hmode hopen => dmxRxPacketEnd_ends hn hmode hopen,
    fun rising cycles e hmode => senseEdge_measures hn hmode rising cycles e,
    fun hmode hen hopen => senseOvf_ends hn hmode hen hopen, fun hmode hto hsig => noSignal_latched hn hmode hto hsig⟩
  rw [← dmxCharTime_eq] at hlow
  rw [← breakMin_eq, ← mabMin_eq]
  exact dmxRxBreak_judged hn mab e hmode hst hlow

end Sys2Proof.Machine
end

section
/-! PROOF. Listeners (R169 to R171, R223, R447): the record that a choice grants, and what a lane or a port does with it. -/

namespace Sys2Proof.Machine

/-! ### The choice (R171) -/

/-- Only bindings and what they left unbound may differ. -/
def bindingsOnly (s t : State) : Prop := t = { s with bindings := t.bindings, unbound := t.unbound }

/-- The listener's choice with its slot counted: class 0 takes no slot. -/
def slotTaken (s : State) (l c : Nat) : State :=
  let t : State := { s with unbound := tdrop s.unbound l }
  if c == 0 then t else setSlotG t l (slotG t l + 1)

/-- The head record of a stall, granted. -/
def grantOf (s : State) (q c : Nat) : Granted :=
  let rec0 := headRecord s q
  { q := q, cls := c, marker := fld rec0 4 20 4 == 3, source := fld rec0 4 0 16, seqn := u32 rec0 8, dup := flag rec0 0 19,
    bytes := rec0.take (24 + fld rec0 0 0 16) }

theorem slotTaken_only (s : State) (l c : Nat) : bindingsOnly s (slotTaken s l c) := by
  unfold slotTaken
  exact iteInduction (motive := bindingsOnly s) (fun _ => rfl) (fun _ => rfl)

/-- A stall's records are read beside what bindings left unbound. -/
theorem ringRead_unbound (s : State) (u : Tbl (List Nat)) (q p n : Nat) :
    ringRead { s with unbound := u } q p n = ringRead s q p n := by
  induction n generalizing p with
  | zero => rfl
  | succ n ih =>
    rw [ringRead, ringRead, ih]
    rfl

theorem headRecord_unbound (s : State) (u : Tbl (List Nat)) (q : Nat) : headRecord { s with unbound := u } q = headRecord s q := by
  simp only [headRecord, recordAtRd, ringRead_unbound]
  rfl

theorem chooseRecord_grants {s : State} {l c q : Nat} (hbound : tget s.unbound l [] = []) (hclass : grantClass s l = some c)
    (hfind : (bound s l).find? (fun e => e.2 == c) = some (q, c)) :
    chooseRecord s l = (slotTaken s l c, some (grantOf s q c)) := by
  have hdrop : dropUnbound s l = { s with unbound := tdrop s.unbound l } := by
    simp only [dropUnbound, hbound, List.foldl_nil]
  have hclass' : grantClass { s with unbound := tdrop s.unbound l } l = some c := hclass
  have hfind' : (bound { s with unbound := tdrop s.unbound l } l).find? (fun e => e.2 == c) = some (q, c) := hfind
  simp only [chooseRecord, hdrop, hclass', hfind', headRecord_unbound]
  rfl

/-! ### A lane takes its record (R98, R99, R101) -/

/-- Only transmitters may differ. -/
def txOnly (s t : State) : Prop := t = { s with tx := t.tx }

/-- On a half-duplex lane the receiver ignores its line; on any other it stands. -/
theorem guardRx_off {s : State} {n : Nat} (h : laneMode s n ≠ 3) : guardRx s n = s := by
  rw [guardRx, if_pos (by simpa using h)]

theorem raiseDe_tx {s : State} {n : Nat} (h : laneMode s n ≠ 3) : raiseDe s n = (takeTxBaud s n).putTx n
    { (takeTxBaud s n).txLane n with de := true, phase := .lead, pos := 0, collided := false } := by
  have hoff : guardRx (takeTxBaud s n) n = takeTxBaud s n := guardRx_off h
  rw [raiseDe, hoff]

/-- From `s` to `t` lane `n`'s transmitter has become `y`, and nothing else has changed. -/
def becomes (s : State) (n : Nat) (y : LaneTx) (t : State) : Prop := txOnly s t ∧ t.txLane n = y ∧ ∀ k, k ≠ n → t.txLane k = s.txLane k

theorem becomes_putTx (s : State) (n : Nat) (y : LaneTx) : becomes s n y (s.putTx n y) :=
  ⟨rfl, txLane_putTx s n y, fun _ hk => txLane_putTx_ne s y hk⟩

theorem becomes.put {s t : State} {n : Nat} {x : LaneTx} (h : becomes s n x t) (y : LaneTx) : becomes s n y (t.putTx n y) := by
  obtain ⟨honly, -, hothers⟩ := h
  refine ⟨?_, txLane_putTx t n y, fun k hk => (txLane_putTx_ne t y hk).trans (hothers k hk)⟩
  unfold txOnly at honly ⊢
  rw [honly]
  rfl

/-- A lane's transmitter with a record granted. -/
def withRecord (x : LaneTx) (g : Granted) : LaneTx := { x with granted := some g, pos := 0, tries := 0, collided := false }

section

variable {s : State} {n : Nat} (g : Granted)

/-- With DE still high the record waits for its first start bit. -/
theorem startRecord_next (hde : (s.txLane n).de = true) :
    becomes s n { withRecord (s.txLane n) g with phase := .next } (startRecord s n g) := by
  have hput := becomes_putTx s n (withRecord (s.txLane n) g)
  rw [startRecord, if_pos hde]
  have hlane : (s.putTx n (withRecord (s.txLane n) g)).txLane n = _ := hput.2.1
  rw [← withRecord, hlane]
  exact hput.put _

/-- A half-duplex lane waits for its turn. -/
theorem startRecord_waits (hde : ¬ (s.txLane n).de = true) (hmode : laneMode s n = 3) :
    becomes s n { withRecord (s.txLane n) g with phase := .waiting } (startRecord s n g) := by
  have hput := becomes_putTx s n (withRecord (s.txLane n) g)
  have hlane : (s.putTx n (withRecord (s.txLane n) g)).txLane n = _ := hput.2.1
  rw [startRecord, if_neg hde, if_pos (by simp [hmode]), ← withRecord, hlane]
  exact hput.put _

/-- Else DE rises, at the rate now written. -/
theorem startRecord_leads (hde : ¬ (s.txLane n).de = true) (hmode : laneMode s n ≠ 3) :
    becomes s n { withRecord (s.txLane n) g with de := true, phase := .lead, baud := baudPeriod (s.reg (F.tx_DIV_INT.addr n)) }
      (startRecord s n g) := by
  have hput := becomes_putTx s n (withRecord (s.txLane n) g)
  have hlane : (s.putTx n (withRecord (s.txLane n) g)).txLane n = _ := hput.2.1
  have hbaud := hput.put { withRecord (s.txLane n) g with baud := baudPeriod (s.reg (F.tx_DIV_INT.addr n)) }
  have htake : takeTxBaud (s.putTx n (withRecord (s.txLane n) g)) n = (s.putTx n (withRecord (s.txLane n) g)).putTx n
      { withRecord (s.txLane n) g with baud := baudPeriod (s.reg (F.tx_DIV_INT.addr n)) } := by
    rw [takeTxBaud, hlane]
    rfl
  have hrise : raiseDe (s.putTx n (withRecord (s.txLane n) g)) n = _ := raiseDe_tx hmode
  rw [startRecord, if_neg hde, if_neg (by simpa using hmode), ← withRecord, hrise, htake, hbaud.2.1]
  exact hbaud.put _

/-- The three ways of a record on a sentence lane. -/
theorem startRecord_starts (hmode : laneMode s n = 2 ∨ laneMode s n = 3) :
    let x := s.txLane n
    let t := startRecord s n g
    txOnly s t ∧ (t.txLane n).phase = (if x.de = true then .next else if laneMode s n = 3 then .waiting else .lead) ∧
      (t.txLane n).de = decide (x.de = true ∨ laneMode s n = 2) ∧ (t.txLane n).granted = some g ∧
      ∀ k, k ≠ n → t.txLane k = s.txLane k := by
  intro x t
  by_cases hde : (s.txLane n).de = true
  · obtain ⟨honly, hlane, hothers⟩ := startRecord_next (s := s) (n := n) g hde
    exact ⟨honly, by rw [hlane, if_pos hde], by rw [hlane]; simp [withRecord, x, hde], by rw [hlane]; rfl, hothers⟩
  · obtain h2 | h3 := hmode
    · obtain ⟨honly, hlane, hothers⟩ := startRecord_leads (s := s) (n := n) g hde (by rw [h2]; decide)
      exact ⟨honly, by rw [hlane, if_neg hde, h2]; rfl, by rw [hlane, h2]; simp, by rw [hlane]; rfl, hothers⟩
    · obtain ⟨honly, hlane, hothers⟩ := startRecord_waits (s := s) (n := n) g hde h3
      exact ⟨honly, by rw [hlane, if_neg hde, h3]; rfl, by rw [hlane, h3]; simp [withRecord, x, hde], by rw [hlane]; rfl, hothers⟩

end

/-! ### LISTENER_GRANT -/

section

variable {s : State} {l c q : Nat} (hbound : tget s.unbound l [] = []) (hclass : grantClass s l = some c)
  (hfind : (bound s l).find? (fun e => e.2 == c) = some (q, c))
include hbound hclass hfind

theorem exec_listenerGrant_lane {n : Nat} (hl : l < 96) (hrole : roleLane s l = some n) (hmode : laneMode s n = 2 ∨ laneMode s n = 3)
    (hfree : (s.txLane n).granted = none) (hmove : (s.txLane n).moveTo = none) (hpend : s.on F.tx_PENDING n = false)
    (hup : upstream s = true) (hstop : grantsStopped s = false) (hbyp : bypassed s n = false)
    (hphase : (s.txLane n).phase = .idle ∨ (s.txLane n).phase = .tail) (hkind : fld (headRecord s q) 4 20 4 ≠ 3) :
    exec (.listenerGrant l) s = .next (startRecord (slotTaken s l c) n (grantOf s q c)) := by
  have hserves : servesListener (laneMode s n) = true := by
    obtain h | h := hmode <;> rw [h] <;> rfl
  have hdmx : (laneMode s n == 4) = false := by
    obtain h | h := hmode <;> rw [h] <;> rfl
  have hmarker : (grantOf s q c).marker = false := by simpa [grantOf] using hkind
  have hphase' : (decide ((s.txLane n).phase = .idle) || decide ((s.txLane n).phase = .tail)) = true := by simpa using hphase
  simp only [exec, execListenerGrant, hl, if_true, hrole, laneGrant, hserves, hfree, hmove, hpend, hup, hstop, hbyp, hphase', hdmx,
    chooseRecord_grants hbound hclass hfind, hmarker, Option.isSome_none, Bool.not_true, Bool.or_self, Bool.false_eq_true, if_false]

/-- On a lane. -/
theorem listenerGrant_lane {n : Nat} (hl : l < 96) (hrole : roleLane s l = some n) (hmode : laneMode s n = 2 ∨ laneMode s n = 3)
    (hfree : (s.txLane n).granted = none) (hmove : (s.txLane n).moveTo = none) (hpend : s.on F.tx_PENDING n = false)
    (hup : upstream s = true) (hstop : grantsStopped s = false) (hbyp : bypassed s n = false)
    (hphase : (s.txLane n).phase = .idle ∨ (s.txLane n).phase = .tail) (hkind : fld (headRecord s q) 4 20 4 ≠ 3) :
    ∃ t, exec (.listenerGrant l) s = .next t ∧ t = { s with tx := t.tx, bindings := t.bindings, unbound := t.unbound } ∧
      (t.txLane n).phase = (if (s.txLane n).de = true then .next else if laneMode s n = 3 then .waiting else .lead) ∧
      (t.txLane n).de = decide ((s.txLane n).de = true ∨ laneMode s n = 2) ∧
      ((t.txLane n).granted.map (fun g => (g.q, g.cls, g.bytes))) =
        some (q, c, (headRecord s q).take (24 + fld (headRecord s q) 0 0 16)) ∧ (∀ k, k ≠ n → t.txLane k = s.txLane k) := by
  have honly := slotTaken_only s l c
  unfold bindingsOnly at honly
  have hlane : ∀ k, (slotTaken s l c).txLane k = s.txLane k := fun k => by
    rw [honly]
    rfl
  have hsame : laneMode (slotTaken s l c) n = laneMode s n := by
    rw [honly]
    rfl
  obtain ⟨hrest, hnext, hde, hgranted, hothers⟩ := startRecord_starts (s := slotTaken s l c) (grantOf s q c) (by rw [hsame]; exact hmode)
  rw [hsame, hlane] at hnext hde
  refine ⟨_, exec_listenerGrant_lane hbound hclass hfind hl hrole hmode hfree hmove hpend hup hstop hbyp hphase hkind, ?_, hnext, hde, ?_,
    fun k hk => (hothers k hk).trans (hlane k)⟩
  · unfold txOnly at hrest
    rw [hrest, honly]
  · rw [hgranted]
    rfl

/-- On a port. -/
theorem listenerGrant_port {p : Nat} (hl : l = 96 + p) (hready : portReady s p = true) :
    ∃ t, exec (.listenerGrant l) s = .next t ∧ t = { s with eth := t.eth, bindings := t.bindings, unbound := t.unbound } ∧
      (t.ethPort p).sending = true ∧
      (t.ethPort p).out.map (fun d => (d.ip, d.udp, d.payload)) = (s.ethPort p).out.map (fun d => (d.ip, d.udp, d.payload)) ++
        [(s.reg (F.eth_DEST_IP.addr p), s.get F.eth_DEST_UDP p, (headRecord s q).take (24 + fld (headRecord s q) 0 0 16))] := by
  have honly := slotTaken_only s l c
  unfold bindingsOnly at honly
  let d : Dgram := { ip := (slotTaken s l c).reg (F.eth_DEST_IP.addr p), udp := (slotTaken s l c).get F.eth_DEST_UDP p,
                     payload := (grantOf s q c).bytes }
  let x : EthPort := { (slotTaken s l c).ethPort p with
    out := ((slotTaken s l c).ethPort p).out ++ [d], granted := some (grantOf s q c), sending := true, sentListener := true }
  have hexec : exec (.listenerGrant l) s = .next ((slotTaken s l c).putEth p x) := by
    have hport : ¬ l < 96 := by omega
    have hindex : l - 96 = p := by omega
    simp only [exec, execListenerGrant, hport, if_false, portGrant, hindex, hready, chooseRecord_grants hbound hclass hfind, Bool.not_true,
      Bool.false_eq_true]
    rfl
  have hself : ((slotTaken s l c).putEth p x).ethPort p = x := tget_tput_self _ _ _ _
  have hreg : ∀ r, (slotTaken s l c).reg r = s.reg r := fun r => by
    rw [honly]
    rfl
  have hout : (slotTaken s l c).ethPort p = s.ethPort p := by
    rw [honly]
    rfl
  have hd : (d.ip, d.udp, d.payload) = (s.reg (F.eth_DEST_IP.addr p), s.get F.eth_DEST_UDP p,
      (headRecord s q).take (24 + fld (headRecord s q) 0 0 16)) := by
    simp only [d, State.get, hreg]
    rfl
  refine ⟨_, hexec, ?_, ?_, ?_⟩
  · rw [honly]
    rfl
  · rw [hself]
  · rw [hself]
    simp only [x, hout, List.map_append, List.map_cons, List.map_nil, hd]

end

end Sys2Proof.Machine
end

section
/-! PROOF. Sending (R96 to R105): a lane's lead, characters, tail, collisions, back-off and echo guard, and DMX packets. -/

namespace Sys2Proof.Machine

/-! ### The transmitter written twice -/

theorem tins_tins {α : Type} (t : Tbl α) (k : Nat) (v w : α) : tins (tins t k v) k w = tins t k w := by
  induction t with
  | nil => simp [tins]
  | cons e r ih =>
    obtain hlt | rfl | hgt := lt_trichotomy k e.1
    · simp [tins, hlt]
    · simp [tins]
    · simp [tins, ih, Nat.lt_asymm hgt, Nat.ne_of_gt hgt]

/-- Of two writes of a transmitter in turn the second stands. -/
theorem putTx_putTx (s : State) (n : Nat) {x y : LaneTx} (hx : x ≠ {}) (hy : y ≠ {}) : (s.putTx n x).putTx n y = s.putTx n y := by
  simp only [State.putTx, tput, hx, hy, if_false, tins_tins]

theorem ne_default_of_phase {x : LaneTx} (h : x.phase ≠ .idle) : x ≠ {} := fun e => h (by rw [e])

/-! ### What may differ -/

/-- Only registers, transmitters and firings may differ. -/
def transmittersFired (s t : State) : Prop := t = { s with regs := t.regs, fired := t.fired, tx := t.tx }

theorem transmittersFired_of_onlyRegs {s t : State} (h : onlyRegs s t) : transmittersFired s t := by
  unfold onlyRegs at h
  unfold transmittersFired
  rw [h]

theorem transmittersFired_putTx {s t : State} (h : transmittersFired s t) (n : Nat) (x : LaneTx) :
    transmittersFired s (t.putTx n x) := by
  unfold transmittersFired at *
  rw [h]
  rfl

/-! ### A record given up (R100, R223) -/

theorem ungrant_txLane (s : State) (n : Nat) : (ungrant s n).txLane n =
    { s.txLane n with granted := none, pos := 0, tries := 0, collided := false } := txLane_putTx _ _ _

/-- A lane that has finished with its record holds none, and no lane's registers or receiver have moved. -/
theorem dropRecord_stands (s : State) (n : Nat) : LanesStand (ungrant s n) (dropRecord s n) := by
  unfold dropRecord
  dsimp only
  split
  · next hnone =>
    refine ⟨fun _ _ => rfl, rfl, fun k hk => ?_⟩
    by_cases hkn : k = n
    · rw [hkn, hnone]
    · rwa [ungrant, txLane_putTx_ne s _ hkn] at hk
  · exact lanes_releaseGranted (LanesStand.refl _) _ _

theorem dropRecord_get (s : State) (n : Nat) (f : Field) (hf : laneBlk f.blk = true) (i : Nat) :
    (dropRecord s n).get f i = s.get f i := (dropRecord_stands s n).get f hf i

theorem dropRecord_free (s : State) (n : Nat) : ((dropRecord s n).txLane n).granted = none :=
  (dropRecord_stands s n).free n (by rw [ungrant_txLane])

/-! ### A collision (R103) -/

/-- A collision counted and flagged. -/
def collisionSeen (s : State) (n : Nat) : State := txEvent s n F.tx_N_COLLISION Bit.txCollision

theorem collisionSeen_txLane (s : State) (n : Nat) : (collisionSeen s n).txLane n = s.txLane n :=
  txLane_of_onlyRegs (txEvent_only s n _ _) n

section

variable {s : State} {n : Nat}

/-- Below RETRY the record is kept for another try. -/
theorem collide_again (h : (s.txLane n).tries < s.get F.tx_RETRY n) : collide s n = (collisionSeen s n).putTx n
    { s.txLane n with tries := (s.txLane n).tries + 1, collided := true, pos := 0 } := by
  have hlane := collisionSeen_txLane s n
  rw [collisionSeen, txEvent] at hlane
  simp only [collide, hlane, Nat.not_le.2 h, if_false]
  rfl

/-- After RETRY further attempts it is dropped. -/
theorem collide_drops (h : s.get F.tx_RETRY n ≤ (s.txLane n).tries) :
    collide s n = txEvent (dropRecord (collisionSeen s n) n) n F.tx_N_TX_DROP Bit.txDrop := by
  have hlane := collisionSeen_txLane s n
  rw [collisionSeen, txEvent] at hlane
  simp only [collide, hlane, h, if_true]
  rfl

theorem collide_again_count (h : (s.txLane n).tries < s.get F.tx_RETRY n) :
    (collide s n).get F.tx_N_COLLISION n = min (s.get F.tx_N_COLLISION n + 1) 0xFFFFFFFF ∧
      (collide s n).txLane n = { s.txLane n with tries := (s.txLane n).tries + 1, collided := true, pos := 0 } := by
  rw [collide_again h]
  exact ⟨txEvent_count s (by decide), txLane_putTx _ n _⟩

theorem collide_drops_count (hn : n < 65536) (h : s.get F.tx_RETRY n ≤ (s.txLane n).tries) :
    (collide s n).get F.tx_N_COLLISION n = min (s.get F.tx_N_COLLISION n + 1) 0xFFFFFFFF ∧
      (collide s n).get F.tx_N_TX_DROP n = min (s.get F.tx_N_TX_DROP n + 1) 0xFFFFFFFF ∧
      ((collide s n).txLane n).granted = none := by
  have hseen : keepsRegsBut _ s (collisionSeen s n) := txEvent_keeps s (f := F.tx_N_COLLISION) (by decide) hn
  have hdrop := txEvent_keeps (dropRecord (collisionSeen s n) n) (f := F.tx_N_TX_DROP) (by decide) (bit := Bit.txDrop) hn
  rw [collide_drops h]
  refine ⟨?_, ?_, ?_⟩
  · rw [get_of_keeps hdrop hn _ (by decide), dropRecord_get _ _ _ rfl]
    exact txEvent_count s (by decide)
  · rw [txEvent_count _ (by decide), dropRecord_get _ _ _ rfl, get_of_keeps hseen hn _ (by decide)]
  · rw [txLane_of_onlyRegs (txEvent_only _ n _ _)]
    exact dropRecord_free _ n

end

/-! ### DE falls (R98) -/

theorem deFall_plain {s : State} {n : Nat} (hpend : s.on F.tx_PENDING n = false) (hmove : (s.txLane n).moveTo = none) :
    deFall s n = s.putTx n { s.txLane n with de := false, phase := if (s.txLane n).collided = true then .backoff else .idle } := by
  simp [deFall, hpend, hmove]

/-! ### HDX_TURN_READY (R101, R102) -/

section

variable {s : State} {n : Nat}

/-- The receiver ignores its line until the echo guard ends. -/
theorem guardRx_hdx (hmode : laneMode s n = 3) (hdue : (s.rxLane n).silentDue = false) :
    guardRx s n = (s.putRx n { s.rxLane n with ignoring := true, confirmed := false }).set F.rx_STATE n 1 := by
  have hmode' : (laneMode s n != 3) = false := by
    rw [hmode]
    rfl
  have hdue' : ¬ (s.rxLane n).silentDue = true := by
    rw [hdue]
    decide
  simp only [guardRx, hmode', Bool.false_eq_true, if_false]
  rw [if_neg hdue']

/-- A lane guarded at the rate now written. -/
def guarded (s : State) (n : Nat) : State :=
  ((takeTxBaud s n).putRx n { s.rxLane n with ignoring := true, confirmed := false }).set F.rx_STATE n 1

/-- A lane in its lead, at the rate now written. -/
def leading (s : State) (n : Nat) : LaneTx :=
  { s.txLane n with de := true, phase := .lead, pos := 0, collided := false, baud := baudPeriod (s.reg ⟨.laneTx, n, 8⟩) }

theorem takeTxBaud_txLane (s : State) (n : Nat) :
    (takeTxBaud s n).txLane n = { s.txLane n with baud := baudPeriod (s.reg ⟨.laneTx, n, 8⟩) } := txLane_putTx s n _

theorem raiseDe_hdx (hmode : laneMode s n = 3) (hdue : (s.rxLane n).silentDue = false) :
    raiseDe s n = (guarded s n).putTx n (leading s n) := by
  have hguard : guardRx (takeTxBaud s n) n = guarded s n := guardRx_hdx (s := takeTxBaud s n) hmode hdue
  have hlane : (guarded s n).txLane n = _ := takeTxBaud_txLane s n
  rw [raiseDe, hguard, hlane]
  rfl

/-- Only registers, transmitters and receivers may differ. -/
def lanesOnly (s t : State) : Prop := t = { s with regs := t.regs, tx := t.tx, rx := t.rx }

theorem lanesOnly_trans {s t u : State} (h : lanesOnly s t) (k : lanesOnly t u) : lanesOnly s u := by
  unfold lanesOnly at *
  rw [k, h]

theorem guarded_only (s : State) (n : Nat) : lanesOnly s (guarded s n) := by
  have hput : ∀ (u : State) x, lanesOnly u (u.putRx n x) := fun _ _ => rfl
  have hset : ∀ u : State, lanesOnly u (u.set F.rx_STATE n 1) := fun _ => rfl
  exact lanesOnly_trans (lanesOnly_trans (t := takeTxBaud s n) rfl (hput _ _)) (hset _)

theorem guarded_regs (s : State) (n : Nat) : (guarded s n).regs = (s.set F.rx_STATE n 1).regs := rfl

theorem guarded_rxLane (s : State) (n : Nat) :
    (guarded s n).rxLane n = { s.rxLane n with ignoring := true, confirmed := false } := rxLane_putRx_self (takeTxBaud s n) n _

theorem raiseDe_hdx_reads (hn : n < 65536) (hmode : laneMode s n = 3) (hdue : (s.rxLane n).silentDue = false) :
    lanesOnly s (raiseDe s n) ∧ (raiseDe s n).txLane n = leading s n ∧ ((raiseDe s n).rxLane n).ignoring = true ∧
      rxState (raiseDe s n) n = 1 ∧ keepsRegsBut (fieldsAt [F.rx_STATE] n) s (raiseDe s n) := by
  have hregs : ((guarded s n).putTx n (leading s n)).regs = (s.set F.rx_STATE n 1).regs := guarded_regs s n
  have hset : keepsRegsBut (fieldsAt [F.rx_STATE] n) s (s.set F.rx_STATE n 1) := keeps_set s F.rx_STATE 1 (by decide) hn (by decide)
  rw [raiseDe_hdx hmode hdue]
  exact ⟨lanesOnly_trans (guarded_only s n) rfl, txLane_putTx _ n _, congrArg LaneRx.ignoring (guarded_rxLane s n),
    (State.get_congr hregs _ n).trans (State.get_set_self s F.rx_STATE (by decide) n 1),
    keepsRegsBut_trans hset (keepsRegsBut_of_regs hregs)⟩

/-- HDX_TURN_READY. -/
theorem hdxTurnReady_rises (hn : n < 65536) (hmode : laneMode s n = 3) (hphase : (s.txLane n).phase = .waiting) (hst : rxState s n ≠ 4)
    (hopen : laneOpen s n = false) (hup : upstream s = true) (hdue : (s.rxLane n).silentDue = false) :
    ∃ t, exec (.hdxTurnReady n) s = .next t ∧ t = { s with regs := t.regs, tx := t.tx, rx := t.rx } ∧ (t.txLane n).de = true ∧
      (t.txLane n).phase = .lead ∧ (t.txLane n).baud = baudPeriod (s.reg ⟨.laneTx, n, 8⟩) ∧ (t.rxLane n).ignoring = true ∧
      rxState t n = 1 ∧ keepsRegsBut [(F.rx_STATE, n)] s t := by
  have hexec : exec (.hdxTurnReady n) s = .next (raiseDe s n) := by
    simp only [exec, execHdxTurnReady, hmode, hphase, bne_iff_ne.2 hst, hopen, hup, beq_self_eq_true, decide_true, Bool.not_false,
      Bool.and_self, if_true]
  obtain ⟨honly, hlane, hign, hstate, hkeep⟩ := raiseDe_hdx_reads hn hmode hdue
  exact ⟨_, hexec, honly, by rw [hlane, leading], by rw [hlane, leading], by rw [hlane, leading], hign, hstate, hkeep⟩

/-! ### TX_LEAD_END (R96, R98, R99) -/

theorem txLeadEnd_next (hup : s.laneUp n = true) (hphase : (s.txLane n).phase = .next) :
    ∃ t, exec (.txLeadEnd n) s = .next t ∧ t = { s with tx := t.tx } ∧
      t.txLane n = { s.txLane n with phase := .sending, pos := 0, baud := baudPeriod (s.reg ⟨.laneTx, n, 8⟩) } := by
  refine ⟨(takeTxBaud s n).putTx n { (takeTxBaud s n).txLane n with phase := .sending, pos := 0 }, ?_, rfl, ?_⟩
  · simp [exec, execTxLeadEnd, hup, hphase]
  · rw [txLane_putTx, takeTxBaud_txLane]

/-! ### TX_CHARACTER_END (R97, R100, R103) -/

theorem exec_txCharacterEnd (e : Echo) (hup : s.laneUp n = true) (hmode : laneMode s n ≠ 4) (hphase : (s.txLane n).phase = .sending) :
    exec (.txCharacterEnd n e) s = .next (sentenceCharEnd s n e) := by
  simp [exec, execTxCharacterEnd, hup, hmode, hphase]

theorem noteItem_twin (s : State) (lane item source key value : Nat) :
    noteItem s lane item source key value = { s with twin := (noteItem s lane item source key value).twin } := by
  unfold noteItem
  dsimp only
  split <;> rfl

/-- A character driven onto the line. -/
def charDriven (s : State) (n : Nat) (g : Granted) : State :=
  s.putTx n { s.txLane n with driven := sentBits s n g.body (s.txLane n).pos }

section

variable {g : Granted} (hg : (s.txLane n).granted = some g)
include hg

/-- A character that has been sent: a collision, the next one, or the last. -/
theorem sentenceCharEnd_eq (e : Echo) : sentenceCharEnd s n e =
    if laneMode s n == 3 && s.on F.tx_ECHO_CHECK n && echoBad s n (byteAt g.body (s.txLane n).pos).toNat e then
      (collide (charDriven s n g) n).putTx n { (collide (charDriven s n g) n).txLane n with phase := .tail }
    else if (s.txLane n).pos + 1 < g.body.length then
      (charDriven s n g).putTx n { (charDriven s n g).txLane n with pos := (s.txLane n).pos + 1 }
    else
      (noteItem ((dropRecord (charDriven s n g) n).inc F.tx_SENT n) n 0 g.source g.seqn (crc32c g.body)).putTx n
        { (noteItem ((dropRecord (charDriven s n g) n).inc F.tx_SENT n) n 0 g.source g.seqn (crc32c g.body)).txLane n with
          phase := .tail } := by
  unfold sentenceCharEnd
  dsimp only
  split
  · next hnone =>
    rw [hg] at hnone
    cases hnone
  · next held hheld =>
    rw [hg] at hheld
    cases hheld
    rfl

/-- The next character follows. -/
theorem sentenceCharEnd_next (e : Echo)
    (hbad : (laneMode s n == 3 && s.on F.tx_ECHO_CHECK n && echoBad s n (byteAt g.body (s.txLane n).pos).toNat e) = false)
    (hmore : (s.txLane n).pos + 1 < g.body.length) :
    sentenceCharEnd s n e = s.putTx n { s.txLane n with
      pos := (s.txLane n).pos + 1, driven := sentBits s n g.body (s.txLane n).pos } := by
  have hheld : ∀ x : LaneTx, x.granted = (s.txLane n).granted → x ≠ {} := fun x hx e => by
    rw [e, hg] at hx
    cases hx
  have hdriven : (charDriven s n g).txLane n = _ := txLane_putTx s n _
  rw [sentenceCharEnd_eq hg, hbad, if_neg Bool.false_ne_true, if_pos hmore, hdriven]
  exact putTx_putTx s n (hheld _ rfl) (hheld _ rfl)

/-- The last character: the record is sent and released. -/
theorem sentenceCharEnd_last (e : Echo)
    (hbad : (laneMode s n == 3 && s.on F.tx_ECHO_CHECK n && echoBad s n (byteAt g.body (s.txLane n).pos).toNat e) = false)
    (hlast : g.body.length ≤ (s.txLane n).pos + 1) :
    let t := sentenceCharEnd s n e
    t.get F.tx_SENT n = min (s.get F.tx_SENT n + 1) 0xFFFFFFFF ∧ (t.txLane n).granted = none ∧ (t.txLane n).phase = .tail := by
  intro t
  let u := (dropRecord (charDriven s n g) n).inc F.tx_SENT n
  let v := noteItem u n 0 g.source g.seqn (crc32c g.body)
  have ht : t = v.putTx n { v.txLane n with phase := .tail } := by
    simp only [t, sentenceCharEnd_eq hg, hbad, Nat.not_lt.2 hlast, Bool.false_eq_true, if_false, v, u]
  have hitem : v = { u with twin := v.twin } := noteItem_twin _ _ _ _ _ _
  have hsent : v.get F.tx_SENT n = u.get F.tx_SENT n := State.get_congr (by rw [hitem]) _ n
  have hlane : v.txLane n = (dropRecord (charDriven s n g) n).txLane n := by
    rw [hitem]
    rfl
  have hcount : t.get F.tx_SENT n = v.get F.tx_SENT n := State.get_congr (by rw [ht]; rfl) _ n
  refine ⟨?_, ?_, ?_⟩
  · rw [hcount, hsent, inc_txCounter _ (by decide), dropRecord_get _ _ _ rfl]
    rfl
  · rw [ht, txLane_putTx, hlane]
    exact dropRecord_free _ n
  · rw [ht, txLane_putTx]

/-- A bad echo under ECHO_CHECK is a collision. -/
theorem sentenceCharEnd_collides (hn : n < 65536) (e : Echo)
    (hbad : (laneMode s n == 3 && s.on F.tx_ECHO_CHECK n && echoBad s n (byteAt g.body (s.txLane n).pos).toNat e) = true) :
    let x := s.txLane n
    let t := sentenceCharEnd s n e
    (t.txLane n).phase = .tail ∧ t.get F.tx_N_COLLISION n = min (s.get F.tx_N_COLLISION n + 1) 0xFFFFFFFF ∧
      (x.tries < s.get F.tx_RETRY n → (t.txLane n).granted = some g ∧ (t.txLane n).tries = x.tries + 1 ∧
        (t.txLane n).collided = true) ∧
      (s.get F.tx_RETRY n ≤ x.tries → (t.txLane n).granted = none ∧
        t.get F.tx_N_TX_DROP n = min (s.get F.tx_N_TX_DROP n + 1) 0xFFFFFFFF) := by
  intro x t
  let u := collide (charDriven s n g) n
  have ht : t = u.putTx n { u.txLane n with phase := .tail } := by
    simp only [t, sentenceCharEnd_eq hg, hbad, if_true, u]
  have hget : ∀ f, t.get f n = u.get f n := fun f => State.get_congr (by rw [ht]; rfl) f n
  have hlane : t.txLane n = { u.txLane n with phase := .tail } := by rw [ht, txLane_putTx]
  have hdriven : (charDriven s n g).txLane n = _ := txLane_putTx s n _
  by_cases hagain : x.tries < s.get F.tx_RETRY n
  · obtain ⟨hcount, hkept⟩ := collide_again_count (s := charDriven s n g) (n := n) (by rw [hdriven]; exact hagain)
    have hlane' : t.txLane n = _ := hlane.trans (congrArg (fun y : LaneTx => { y with phase := .tail }) (hkept.trans (by rw [hdriven])))
    rw [hlane', hget]
    exact ⟨rfl, hcount, fun _ => ⟨hg, rfl, rfl⟩, fun h => absurd hagain (Nat.not_lt.2 h)⟩
  · obtain ⟨hcount, hdropped, hfree⟩ := collide_drops_count (s := charDriven s n g) hn (by rw [hdriven]; exact Nat.not_lt.1 hagain)
    rw [hlane, hget, hget]
    exact ⟨rfl, hcount, fun h => absurd h hagain, fun _ => ⟨hfree, hdropped⟩⟩

end

/-! ### DMX packets (R104, R105) -/

/-- The last slot of a packet has been sent. -/
def packetSent (s : State) (n : Nat) : State :=
  (s.putTx n { s.txLane n with
    pos := 0, dmxRunning := false,
    driven := charBits false 0 2 0 (tget (s.txLane n).dmxImage (s.txLane n).pos 0).toNat }).inc F.tx_DMX_PKTS n

theorem packetSent_reads (hn : n < 65536) : onlyTransmitters s (packetSent s n) ∧ ((packetSent s n).txLane n).dmxRunning = false ∧
    (packetSent s n).get F.tx_DMX_PKTS n = min (s.get F.tx_DMX_PKTS n + 1) 0xFFFFFFFF ∧
    keepsRegsBut (fieldsAt [F.tx_DMX_PKTS] n) s (packetSent s n) := by
  have hset : keepsRegsBut (fieldsAt [F.tx_DMX_PKTS] n) s (s.inc F.tx_DMX_PKTS n) :=
    keeps_set s F.tx_DMX_PKTS _ (by decide) hn (by decide)
  exact ⟨rfl, congrArg LaneTx.dmxRunning (txLane_putTx s n _), inc_txCounter s (by decide), hset⟩

theorem dmxSlotEnd_more (h : (s.txLane n).pos + 1 < dmxLen s n) : dmxSlotEnd s n = s.putTx n { s.txLane n with
    pos := (s.txLane n).pos + 1, driven := charBits false 0 2 0 (tget (s.txLane n).dmxImage (s.txLane n).pos 0).toNat } := by
  rw [dmxSlotEnd, if_pos h]

theorem dmxSlotEnd_last (h : ¬ (s.txLane n).pos + 1 < dmxLen s n) : dmxSlotEnd s n =
    noteItem (packetSent s n) n 1 0 (s.txLane n).dmxSeq (crc32c (dmxSlotsOf s n)) := by
  rw [dmxSlotEnd, if_neg h, packetSent]

/-- A slot of a packet, or its last. -/
theorem txCharacterEnd_dmx (hn : n < 65536) (e : Echo) (hmode : laneMode s n = 4) (hrun : (s.txLane n).dmxRunning = true) :
    let x := s.txLane n
    ∃ t, exec (.txCharacterEnd n e) s = .next t ∧
      (x.pos < min 512 (s.get F.tx_DMX_SLOTS n) → t = s.putTx n
        { x with pos := x.pos + 1, driven := charBits false 0 2 0 (tget x.dmxImage x.pos 0).toNat }) ∧
      (min 512 (s.get F.tx_DMX_SLOTS n) ≤ x.pos → (t.txLane n).dmxRunning = false ∧
        t.get F.tx_DMX_PKTS n = min (s.get F.tx_DMX_PKTS n + 1) 0xFFFFFFFF ∧
        t = { s with regs := t.regs, tx := t.tx, twin := t.twin } ∧ keepsRegsBut [(F.tx_DMX_PKTS, n)] s t) := by
  intro x
  have hexec : exec (.txCharacterEnd n e) s = .next (dmxSlotEnd s n) := by simp [exec, execTxCharacterEnd, hmode, hrun]
  refine ⟨_, hexec, fun hmore => dmxSlotEnd_more (Nat.succ_lt_succ hmore), fun hlast => ?_⟩
  have hpos : ¬ (s.txLane n).pos + 1 < dmxLen s n := fun h => absurd (Nat.lt_of_succ_lt_succ h) (Nat.not_lt.2 hlast)
  obtain ⟨honly, hdone, hcount, hkeep⟩ := packetSent_reads (s := s) hn
  rw [dmxSlotEnd_last hpos, noteItem_twin]
  refine ⟨hdone, hcount, ?_, hkeep⟩
  unfold onlyTransmitters at honly
  generalize noteItem _ _ _ _ _ _ = v
  generalize packetSent s n = u at honly ⊢
  rw [honly]

/-- A packet starts from the next image. -/
theorem dmxBreak_starts (hmode : laneMode s n = 4) (hrun : (s.txLane n).dmxRunning = false) (hphase : (s.txLane n).phase = .idle)
    (hmove : (s.txLane n).moveTo = none) (hpend : s.on F.tx_PENDING n = false) (hstop : grantsStopped s = false)
    (hsync : s.on F.tx_DMX_SYNC_TICK n = false ∨ (s.txLane n).tickDue = true) :
    exec (.dmxBreak n) s = .next (s.putTx n { s.txLane n with
      dmxRunning := true, pos := 0, de := true, dmxImage := (s.txLane n).dmxNext, dmxSeq := (s.txLane n).dmxNextSeq,
      tickDue := false }) := by
  have hsync' : (!s.on F.tx_DMX_SYNC_TICK n || (s.txLane n).tickDue) = true := by simpa using hsync
  simp only [exec, execDmxBreak, hmode, hrun, hphase, hmove, hpend, hstop, hsync', beq_self_eq_true, decide_true, Option.isNone_none,
    Bool.not_false, Bool.and_self, if_true]

/-! ### LEAD_COLLISION and ECHO_GUARD_END (R102, R103) -/

/-- A collision in the lead, with tries left: DE falls at once and the lane backs off. -/
theorem leadCollision_backsOff (hn : n < 65536) (hmode : laneMode s n = 3) (hecho : s.on F.tx_ECHO_CHECK n = true)
    (hphase : (s.txLane n).phase = .lead) (hagain : (s.txLane n).tries < s.get F.tx_RETRY n) (hmove : (s.txLane n).moveTo = none)
    (hpend : s.on F.tx_PENDING n = false) :
    ∃ t, exec (.leadCollision n) s = .next t ∧ t = { s with regs := t.regs, fired := t.fired, tx := t.tx } ∧
      t.get F.tx_N_COLLISION n = min (s.get F.tx_N_COLLISION n + 1) 0xFFFFFFFF ∧ flagged F.tx_FLAGS F.tx_EVEN n 0 n s t ∧
      t.txLane n = { s.txLane n with
        tries := (s.txLane n).tries + 1, collided := true, pos := 0, de := false, phase := .backoff } ∧
      keepsRegsBut [(F.tx_N_COLLISION, n), (F.tx_FLAGS, n)] s t := by
  have hexec : exec (.leadCollision n) s = .next (deFall (collide s n) n) := by
    simp only [exec, execLeadCollision, hmode, hecho, hphase, beq_self_eq_true, decide_true, Bool.and_self, if_true]
  obtain ⟨hcount, hlane⟩ := collide_again_count hagain
  have hseen : keepsRegsBut (fieldsAt [F.tx_N_COLLISION, F.tx_FLAGS] n) s (collisionSeen s n) := txEvent_keeps s (by decide) hn
  have hagain' := collide_again hagain
  have hregs : (collide s n).regs = (collisionSeen s n).regs := by rw [hagain']; rfl
  have hpend' : (collide s n).on F.tx_PENDING n = false := by
    rw [State.on, State.get_congr hregs, get_of_keeps hseen hn F.tx_PENDING (by decide)]
    exact hpend
  have hfall := deFall_plain hpend' (by rw [hlane]; exact hmove)
  rw [hlane] at hfall
  have hflag : flagged F.tx_FLAGS F.tx_EVEN n 0 n s (collisionSeen s n) := txEvent_flagged s (by decide) (by decide)
  have hfired : (collide s n).fired = (collisionSeen s n).fired := by rw [hagain']; rfl
  refine ⟨_, hexec, ?_⟩
  rw [hfall]
  refine ⟨?_, hcount, flagged_before hflag (State.get_congr hregs _ n) hfired, txLane_putTx _ n _,
    keepsRegsBut_trans hseen (keepsRegsBut_of_regs hregs)⟩
  rw [hagain']
  exact transmittersFired_putTx (transmittersFired_putTx (transmittersFired_of_onlyRegs (txEvent_only s n _ _)) n _) n _

/-- The receiver of a half-duplex lane waits to re-arm, or for its stuck line. -/
theorem echoGuardEnd_waits (hn : n < 65536) (hmode : laneMode s n = 3) (hign : (s.rxLane n).ignoring = true)
    (hde : (s.txLane n).de = false) :
    ∃ t, exec (.echoGuardEnd n) s = .next t ∧ t = { s with regs := t.regs, rx := t.rx } ∧
      t.rxLane n = { s.rxLane n with ignoring := false } ∧
      rxState t n = (if s.on F.rx_STUCK n then (if s.on F.rx_LINE n then 7 else 6) else 1) ∧ keepsRegsBut [(F.rx_STATE, n)] s t := by
  let st := if s.on F.rx_STUCK n then (if s.on F.rx_LINE n then 7 else 6) else 1
  let u := s.putRx n { s.rxLane n with ignoring := false }
  have hexec : exec (.echoGuardEnd n) s = .next (u.set F.rx_STATE n st) := by
    simp only [exec, execEchoGuardEnd, hmode, hign, hde, beq_self_eq_true, Bool.not_false, Bool.and_self, if_true]
    rfl
  have hst : st < 8 := by
    simp only [st]
    split
    · split <;> decide
    · decide
  have hkeep : keepsRegsBut (fieldsAt [F.rx_STATE] n) s (s.set F.rx_STATE n st) := keeps_set s F.rx_STATE st (by decide) hn (by decide)
  refine ⟨_, hexec, rfl, rxLane_putRx_self s n _, ?_, hkeep⟩
  exact (State.get_set_self u F.rx_STATE (by decide) n st).trans (Nat.mod_eq_of_lt hst)

end

/-! ### The obligation -/

/-- Settles O27, row by row (R96 to R105, R171, R223). -/
theorem transmittersGrantSendAndRetry : Obligations.TransmittersGrantSendAndRetry := by
  intro s n hn96 hup x
  have hn : n < 65536 := by omega
  refine ⟨fun l q c hl hrole hmode hfree hmove hpend hupst hstop hbyp hphase hbound hclass hfind hkind => ?_,
    fun hmode hphase hst hopen hupst hdue => hdxTurnReady_rises hn hmode hphase hst hopen hupst hdue, fun hphase => ?_,
    fun hphase => txLeadEnd_next hup hphase, fun e g hmode hphase hg => ?_, fun e hmode hrun => txCharacterEnd_dmx hn e hmode hrun,
    fun hphase hmove hpend => ?_, fun hmode hecho hphase hagain hmove hpend =>
      leadCollision_backsOff hn hmode hecho hphase hagain hmove hpend, fun hphase => ?_,
    fun hmode hign hde => echoGuardEnd_waits hn hmode hign hde,
    fun hmode hrun hphase hmove hpend hstop hsync => dmxBreak_starts hmode hrun hphase hmove hpend hstop hsync,
    fun p q c _ hready hbound hclass hfind => listenerGrant_port hbound hclass hfind rfl hready⟩
  · exact listenerGrant_lane hbound hclass hfind hl hrole hmode hfree hmove hpend hupst hstop hbyp
      (hphase.imp And.left And.left) hkind
  · simp [exec, execTxLeadEnd, hup, hphase, x]
  · have hexec := exec_txCharacterEnd e hup hmode hphase
    refine ⟨fun hbad hmore => ?_, fun hbad hlast => ⟨_, hexec, sentenceCharEnd_last hg e hbad hlast⟩,
      fun hbad => ⟨_, hexec, sentenceCharEnd_collides hg hn e hbad⟩⟩
    rw [hexec, sentenceCharEnd_next hg e hbad hmore]
  · have hexec : exec (.deTailEnd n) s = .next (deFall s n) := by
      simp only [exec, execDeTailEnd, hup, hphase, decide_true, Bool.and_self, if_true, x]
    rw [hexec, deFall_plain hpend hmove]
  · simp [exec, execBackoffEnd, hup, hphase, x]

end Sys2Proof.Machine
end

section
/-! PROOF. A lane leaves its mode (R82, R94, R365) and enters another (R71, R80, R94, R105). -/

namespace Sys2Proof.Machine

/-! ### What stands of the transmitters -/

/-- From `s` to `t` the transmitters' registers, the waiting commands and every transmitter but lane `n`'s stand. -/
structure TransmittersBut (n : Nat) (s t : State) : Prop where
  reg : ∀ r : RegAddr, r.blk = .laneTx → t.reg r = s.reg r
  tx : ∀ k, k ≠ n → t.txLane k = s.txLane k
  waits : t.waits = s.waits

namespace TransmittersBut

variable {n : Nat} {s t u : State}

theorem refl (n : Nat) (s : State) : TransmittersBut n s s := ⟨fun _ _ => rfl, fun _ _ => rfl, rfl⟩

theorem trans (h : TransmittersBut n s t) (k : TransmittersBut n t u) : TransmittersBut n s u :=
  ⟨fun r hr => (k.reg r hr).trans (h.reg r hr), fun j hj => (k.tx j hj).trans (h.tx j hj), k.waits.trans h.waits⟩

theorem get (h : TransmittersBut n s t) (f : Field) (hf : f.blk = .laneTx) (i : Nat) : t.get f i = s.get f i :=
  get_of_reg (h.reg (f.addr i) hf)

theorem on (h : TransmittersBut n s t) (f : Field) (hf : f.blk = .laneTx) (i : Nat) : t.on f i = s.on f i := by
  rw [State.on, State.on, h.get f hf i]

/-- A write of a field of another block. -/
theorem set (h : TransmittersBut n s t) (f : Field) (i v : Nat) (hf : f.blk ≠ .laneTx) : TransmittersBut n s (t.set f i v) :=
  h.trans ⟨fun r hr => reg_setReg_blk t (r := f.addr i) (by rw [hr]; exact hf) _, fun _ _ => rfl, rfl⟩

theorem putTx (h : TransmittersBut n s t) (x : LaneTx) : TransmittersBut n s (t.putTx n x) :=
  h.trans ⟨fun _ _ => rfl, fun _ hk => txLane_putTx_ne t x hk, rfl⟩

theorem putRx (h : TransmittersBut n s t) (k : Nat) (x : LaneRx) : TransmittersBut n s (t.putRx k x) :=
  h.trans ⟨fun _ _ => rfl, fun _ _ => rfl, rfl⟩

theorem putEnc (h : TransmittersBut n s t) (k : Nat) (x : EncLane) : TransmittersBut n s (t.putEnc k x) :=
  h.trans ⟨fun _ _ => rfl, fun _ _ => rfl, rfl⟩

end TransmittersBut

/-! ### A mode left -/

/-- An open sentence of the lane's role is discarded and counted (R82, R107). -/
def sentenceLeft (s : State) (n : Nat) : State :=
  if receives (laneMode s n) && laneOpen s n then
    dropRest (roleCause (rxEvent s n F.rx_N_FRAGMENT Bit.rxFragment) n 6) n
  else s

/-- A transmitter that does nothing. -/
def txStopped (x : LaneTx) : LaneTx := { x with phase := .idle, de := false, dmxRunning := false, tickDue := false, collided := false }

/-- The receiver is OFF and its packet or gate in progress is gone. -/
def receiverLeft (s : State) (n : Nat) : State :=
  ((s.putRx n { s.rxLane n with
    ignoring := false, silentDue := false, heard := false, confirmed := false, dmxOpen := false, dmxSlots := [],
    gateOpen := false, noSignal := false }).set F.rx_STATE n 0).set F.rx_STUCK n 0

/-- Receiver and transmitter stop. -/
def laneLeft (s : State) (n : Nat) : State := (receiverLeft s n).putTx n (txStopped ((receiverLeft s n).txLane n))

/-- The lane's encoder stops sending (R365). -/
def encLeft (s : State) (n : Nat) : State :=
  (s.putEnc n { s.encLane n with
    frames := [], idleUntil := 0, phase := .idle, segs := [], sent := [], cut := false, holdStop := false, h := 0, hNext := none,
    active := false, period := 0 }).set F.enc_SENDING n 0

theorem leaveMode_eq (s : State) (n : Nat) : leaveMode s n =
    if pixelMode (laneMode s n) then encLeft (laneLeft (sentenceLeft s n) n) n else laneLeft (sentenceLeft s n) n := by
  delta leaveMode
  extract_lets m s1 x s2 s3 src s4 e
  have hleft : s4 = laneLeft (sentenceLeft s n) n := rfl
  rw [← hleft]
  rfl

theorem tx_of_regsOnly {s t : State} (h : regsOnly s t) : t.tx = s.tx := by
  unfold regsOnly at h
  rw [h]

/-- Discarding a source's open sentence leaves the transmitters. -/
theorem discardOpen_transmitters (s : State) (src : Nat) (restart : Bool) :
    (∀ r : RegAddr, r.blk = .laneTx → (discardOpen s src restart).reg r = s.reg r) ∧ (discardOpen s src restart).tx = s.tx := by
  unfold discardOpen
  dsimp only
  split
  · exact ⟨fun _ _ => rfl, rfl⟩
  · next x _ =>
    have hcount := tx_of_regsOnly (countDiscard_only s x restart)
    refine ⟨fun r hr => ?_, (tx_of_regsOnly (freeSentence_only _ x)).trans hcount⟩
    rw [freeSentence_reg _ x (Or.inl (by rw [hr]; decide)) (by rw [hr]; decide)]
    exact countDiscard_reg s x restart (by rw [hr]; decide)

theorem roleCause_transmitters (s : State) (n c : Nat) :
    (∀ r : RegAddr, r.blk = .laneTx → (roleCause s n c).reg r = s.reg r) ∧ (roleCause s n c).tx = s.tx := by
  have hcause : ∀ src, (∀ r : RegAddr, r.blk = .laneTx → (laneCause s src c).reg r = s.reg r) ∧ (laneCause s src c).tx = s.tx := by
    intro src
    unfold laneCause
    dsimp only
    split
    · exact ⟨fun _ _ => rfl, rfl⟩
    · next x _ =>
      exact iteInduction (motive := fun t : State => (∀ r : RegAddr, r.blk = .laneTx → t.reg r = s.reg r) ∧ t.tx = s.tx)
        (fun _ => discardOpen_transmitters _ src false) (fun _ => ⟨fun _ _ => rfl, rfl⟩)
  unfold roleCause
  split
  · exact hcause _
  · exact ⟨fun _ _ => rfl, rfl⟩

theorem sentenceLeft_transmitters (s : State) (n : Nat) :
    (∀ r : RegAddr, r.blk = .laneTx → (sentenceLeft s n).reg r = s.reg r) ∧ (sentenceLeft s n).tx = s.tx := by
  unfold sentenceLeft
  split
  · obtain ⟨hreg, htx⟩ := roleCause_transmitters (rxEvent s n F.rx_N_FRAGMENT Bit.rxFragment) n 6
    have hother : Blk.laneRx ≠ Blk.laneTx := by decide
    have hevent := rxEvent_only s n F.rx_N_FRAGMENT Bit.rxFragment
    refine ⟨fun r hr => (hreg r hr).trans ?_, htx.trans ?_⟩
    · have hraise : (rxEvent s n F.rx_N_FRAGMENT Bit.rxFragment).reg r = (s.inc F.rx_N_FRAGMENT n).reg r := by
        rw [rxEvent, raiseRx, raise_reg]
        split
        · rfl
        · exact reg_setReg_blk _ (r := F.rx_FLAGS.addr n) (by rw [hr]; exact hother) _
      exact hraise.trans (reg_setReg_blk s (r := F.rx_N_FRAGMENT.addr n) (by rw [hr]; exact hother) _)
    · unfold onlyRegs at hevent
      rw [hevent]
  · exact ⟨fun _ _ => rfl, rfl⟩

theorem receiverLeft_txLane (s : State) (n : Nat) : (receiverLeft s n).txLane n = s.txLane n := rfl

theorem receiverLeft_state (s : State) (n : Nat) : rxState (receiverLeft s n) n = 0 :=
  (State.get_set_beside _ F.rx_STUCK F.rx_STATE n _ rfl rfl (by decide) (by decide)).trans (State.get_set_self _ F.rx_STATE (by decide) n 0)

theorem encLeft_txLane (s : State) (n : Nat) : (encLeft s n).txLane n = s.txLane n := rfl

theorem encLeft_state (s : State) (n : Nat) : rxState (encLeft s n) n = rxState s n :=
  get_set_block _ F.enc_SENDING F.rx_STATE n n _ (by decide)

theorem sentenceLeft_closed {s : State} {n : Nat} (h : laneOpen s n = false) : sentenceLeft s n = s := by
  rw [sentenceLeft, h, Bool.and_false, if_neg Bool.false_ne_true]

/-- What a lane that leaves its mode has: its transmitter off and its receiver OFF. -/
theorem leaveMode_reads (s : State) (n : Nat) :
    (leaveMode s n).txLane n = txStopped (s.txLane n) ∧ rxState (leaveMode s n) n = 0 := by
  have htx : (sentenceLeft s n).txLane n = s.txLane n :=
    congrArg (fun m => tget m n ({} : LaneTx)) (sentenceLeft_transmitters s n).2
  have hlane : (laneLeft (sentenceLeft s n) n).txLane n = txStopped (s.txLane n) := by
    rw [laneLeft, txLane_putTx, receiverLeft_txLane, htx]
  have hstate : rxState (laneLeft (sentenceLeft s n) n) n = 0 := receiverLeft_state (sentenceLeft s n) n
  rw [leaveMode_eq]
  split
  · exact ⟨(encLeft_txLane _ n).trans hlane, (encLeft_state _ n).trans hstate⟩
  · exact ⟨hlane, hstate⟩

/-- A lane that leaves its mode leaves the other transmitters and all their registers. -/
theorem leaveMode_transmitters (s : State) (n : Nat) : TransmittersBut n s (leaveMode s n) := by
  have hwaits := (steady_leaveMode (Steady.refl s) n).waits
  obtain ⟨hreg, htx⟩ := sentenceLeft_transmitters s n
  have hleft : TransmittersBut n (sentenceLeft s n) (laneLeft (sentenceLeft s n) n) :=
    ((((TransmittersBut.refl n _).putRx n _).set F.rx_STATE n 0 (by decide)).set F.rx_STUCK n 0 (by decide)).putTx _
  have henc (u : State) : TransmittersBut n u (encLeft u n) := by
    unfold encLeft
    exact ((TransmittersBut.refl n u).putEnc n _).set F.enc_SENDING n 0 (by decide)
  have hall : TransmittersBut n (sentenceLeft s n) (leaveMode s n) := by
    rw [leaveMode_eq]
    split
    · exact hleft.trans (henc _)
    · exact hleft
  exact ⟨fun r hr => (hall.reg r hr).trans (hreg r hr), fun k hk => (hall.tx k hk).trans (congrArg (fun m => tget m k ({} : LaneTx)) htx), hwaits⟩

/-- Only the lanes' parts, the encoders and the firings may differ. -/
def modesOnly (s t : State) : Prop := t = { s with regs := t.regs, fired := t.fired, rx := t.rx, tx := t.tx, enc := t.enc }

theorem modesOnly_trans {s t u : State} (h : modesOnly s t) (k : modesOnly t u) : modesOnly s u := by
  unfold modesOnly at *
  rw [k, h]

theorem modesOnly_set (s : State) (f : Field) (i v : Nat) : modesOnly s (s.set f i v) := rfl

theorem modesOnly_putTx (s : State) (n : Nat) (x : LaneTx) : modesOnly s (s.putTx n x) := rfl

theorem modesOnly_putRx (s : State) (n : Nat) (x : LaneRx) : modesOnly s (s.putRx n x) := rfl

theorem modesOnly_putEnc (s : State) (n : Nat) (x : EncLane) : modesOnly s (s.putEnc n x) := rfl

theorem leaveMode_only {s : State} {n : Nat} (h : laneOpen s n = false) : modesOnly s (leaveMode s n) := by
  have hleft : modesOnly s (laneLeft s n) :=
    modesOnly_trans (modesOnly_trans (modesOnly_trans (modesOnly_putRx s n _) (modesOnly_set _ _ _ _)) (modesOnly_set _ _ _ _))
      (modesOnly_putTx _ n _)
  rw [leaveMode_eq, sentenceLeft_closed h]
  split
  · exact modesOnly_trans hleft (modesOnly_trans (modesOnly_putEnc _ n _) (modesOnly_set _ _ _ _))
  · exact hleft

/-! ### A mode entered (R71, R80, R94, R105) -/

/-- The mode that comes into force: OFF for 10 to 15, and for a pixel mode where the variant has none. -/
def modeInForce (s : State) (mode : Nat) : Nat := if mode < 10 ∧ (s.part.hasPixel = true ∨ pixelMode mode = false) then mode else 0

theorem modeInForce_lt (s : State) (mode : Nat) : modeInForce s mode < 16 := by
  unfold modeInForce
  split
  · next h => omega
  · decide

/-- A lane with mode `m` in force and nothing pending. -/
def modeTaken (s : State) (n m : Nat) : State := ((leaveMode s n).set F.tx_ACTIVE n m).set F.tx_PENDING n 0

/-- A receive mode waits for its re-arm with no lock. -/
def receiverWaits (s : State) (n m : Nat) : State := if receives m then dropLock (s.set F.rx_STATE n 1) n else s

/-- A DMX-TX lane raises DE for good. -/
def dmxRaises (s : State) (n m : Nat) : State := if m == 4 then s.putTx n { s.txLane n with de := true } else s

theorem enterMode_eq (s : State) (n mode : Nat) : enterMode s n mode =
    raiseTx (dmxRaises (receiverWaits (modeTaken s n (modeInForce s mode)) n (modeInForce s mode)) n (modeInForce s mode)) n
      Bit.txModeDone := by
  have hm : (if (mode < 10 && (s.part.hasPixel || !pixelMode mode)) = true then mode else 0) = modeInForce s mode := by
    simp only [modeInForce, Bool.and_eq_true, decide_eq_true_eq, Bool.or_eq_true, Bool.not_eq_true']
  simp only [enterMode, hm]
  rfl

section

variable (s : State) (n m : Nat)

theorem receiverWaits_transmitters : TransmittersBut n s (receiverWaits s n m) ∧ (receiverWaits s n m).tx = s.tx := by
  unfold receiverWaits dropLock
  split
  · exact ⟨(((TransmittersBut.refl n s).set F.rx_STATE n 1 (by decide)).set F.rx_LOCKED n 0 (by decide)).set F.rx_LOCKED_KEY n 0
      (by decide), rfl⟩
  · exact ⟨TransmittersBut.refl n s, rfl⟩

theorem receiverWaits_state (h : rxState s n = 0) : rxState (receiverWaits s n m) n = if receives m = true then 1 else 0 := by
  unfold receiverWaits dropLock
  split
  · exact (State.get_set_off _ F.rx_LOCKED_KEY F.rx_STATE n n _ (by decide)).trans
      ((State.get_set_off _ F.rx_LOCKED F.rx_STATE n n _ (by decide)).trans (State.get_set_self s F.rx_STATE (by decide) n 1))
  · exact h

theorem dmxRaises_transmitters : TransmittersBut n s (dmxRaises s n m) ∧ (dmxRaises s n m).regs = s.regs := by
  unfold dmxRaises
  split
  · exact ⟨(TransmittersBut.refl n s).putTx _, rfl⟩
  · exact ⟨TransmittersBut.refl n s, rfl⟩

theorem dmxRaises_txLane : (dmxRaises s n m).txLane n = { s.txLane n with de := (m == 4) || (s.txLane n).de } := by
  unfold dmxRaises
  split
  · next h => rw [txLane_putTx, h, Bool.true_or]
  · next h => rw [Bool.eq_false_iff.2 h, Bool.false_or]

theorem modeTaken_reads (hm : m < 16) : (modeTaken s n m).get F.tx_ACTIVE n = m ∧ (modeTaken s n m).on F.tx_PENDING n = false ∧
    (modeTaken s n m).txLane n = txStopped (s.txLane n) ∧ rxState (modeTaken s n m) n = 0 := by
  obtain ⟨hlane, hstate⟩ := leaveMode_reads s n
  refine ⟨?_, on_set_zero _ F.tx_PENDING (by decide) (by decide) n, hlane, ?_⟩
  · exact (State.get_set_beside _ F.tx_PENDING F.tx_ACTIVE n _ rfl rfl (by decide) (by decide)).trans
      ((State.get_set_self _ F.tx_ACTIVE (by decide) n m).trans (Nat.mod_eq_of_lt hm))
  · exact (get_set_block _ F.tx_PENDING F.rx_STATE n n _ (by decide)).trans
      ((get_set_block _ F.tx_ACTIVE F.rx_STATE n n _ (by decide)).trans hstate)

end

/-- A mode comes into force. -/
theorem enterMode_enters (s : State) {n : Nat} (hn : n < 65536) (mode : Nat) :
    let m := modeInForce s mode
    let t := enterMode s n mode
    t.get F.tx_ACTIVE n = m ∧ t.on F.tx_PENDING n = false ∧ (t.get F.tx_FLAGS n).testBit 8 = true ∧
      rxState t n = (if receives m = true then 1 else 0) ∧ t.txLane n = { txStopped (s.txLane n) with de := m == 4 } ∧
      (laneOpen s n = false → modesOnly s t) := by
  intro m t
  obtain ⟨hactive, hpend, hlane, hstate⟩ := modeTaken_reads s n m (modeInForce_lt s mode)
  obtain ⟨hwait, hwaitTx⟩ := receiverWaits_transmitters (modeTaken s n m) n m
  let u := dmxRaises (receiverWaits (modeTaken s n m) n m) n m
  obtain ⟨hraise, hregs⟩ := dmxRaises_transmitters (receiverWaits (modeTaken s n m) n m) n m
  have ht : t = raiseTx u n Bit.txModeDone := enterMode_eq s n mode
  have hkeep : keepsRegsBut (fieldsAt [F.tx_FLAGS] n) u t := by
    rw [ht]
    exact raiseTx_keeps u hn _
  have hchain := hwait.trans hraise
  refine ⟨?_, ?_, ?_, ?_, ?_, fun hopen => ?_⟩
  · rw [get_of_keeps hkeep hn _ (by decide), hchain.get _ rfl, hactive]
  · rw [on_of_keeps hkeep hn _ (by decide), hchain.on _ rfl, hpend]
  · rw [ht]
    exact flagged_testBit (raiseTx_flagged u n (bit := Bit.txModeDone) (by decide))
  · rw [rxState, get_of_keeps hkeep hn _ (by decide), State.get_congr hregs]
    exact receiverWaits_state _ n m hstate
  · have hwaitLane : (receiverWaits (modeTaken s n m) n m).txLane n = txStopped (s.txLane n) := by
      rw [State.txLane, hwaitTx]
      exact hlane
    rw [ht, txLane_of_onlyRegs (raiseTx_only u n _), dmxRaises_txLane, hwaitLane]
    simp [txStopped]
  · have htaken : modesOnly s (modeTaken s n m) :=
      modesOnly_trans (modesOnly_trans (leaveMode_only hopen) (modesOnly_set _ _ _ _)) (modesOnly_set _ _ _ _)
    have hwaits : modesOnly (modeTaken s n m) (receiverWaits (modeTaken s n m) n m) := iteInduction
      (motive := modesOnly (modeTaken s n m)) (fun _ => modesOnly_trans (modesOnly_set _ _ _ _)
        (modesOnly_trans (modesOnly_set _ _ _ _) (modesOnly_set _ _ _ _))) (fun _ => rfl)
    have hdmx : modesOnly (receiverWaits (modeTaken s n m) n m) u :=
      iteInduction (motive := modesOnly _) (fun _ => modesOnly_putTx _ n _) (fun _ => rfl)
    have hdone : modesOnly u t := by
      have honly := raiseTx_only u n Bit.txModeDone
      unfold onlyRegs at honly
      unfold modesOnly
      rw [ht, honly]
    exact modesOnly_trans htaken (modesOnly_trans hwaits (modesOnly_trans hdmx hdone))

end Sys2Proof.Machine
end

section
/-! PROOF. A mode is written and put into force, a sentence in progress is kept or given up (R94, R95, R113). -/

namespace Sys2Proof.Machine

section

variable {s : State} {n m : Nat}

/-! ### LANE_MODE_WRITE (R94, R113) -/

theorem laneModeWrite_paddock (hup : s.laneUp n = true) (hpad : s.on F.tx_PADDOCK n = true) : exec (.laneModeWrite n m) s = .next s := by
  rw [exec, execLaneModeWrite, if_pos hup, writeMode, if_pos hpad]

/-- The mode in force cancels a pending one. -/
theorem writeMode_inForce (hn : n < 65536) (hpad : s.on F.tx_PADDOCK n = false) (hactive : m = s.get F.tx_ACTIVE n) :
    flagged F.tx_FLAGS F.tx_EVEN n 8 n s (writeMode s n m) ∧
      keepsRegsBut (fieldsAt [F.tx_MODE, F.tx_PENDING, F.tx_FLAGS] n) s (writeMode s n m) := by
  have hwrite : writeMode s n m = raiseTx ((s.set F.tx_MODE n m).set F.tx_PENDING n 0) n Bit.txModeDone := by
    rw [writeMode, if_neg (by rw [hpad]; exact Bool.false_ne_true), if_pos (beq_iff_eq.2 hactive)]
  have hlater : ∀ f : Field, f.off % 65536 ≠ 0 → ((s.set F.tx_MODE n m).set F.tx_PENDING n 0).get f n = s.get f n := fun f hf =>
    (State.get_set_off _ F.tx_PENDING f n n 0 hf.symm).trans (State.get_set_off s F.tx_MODE f n n m hf.symm)
  have hservo : ((s.set F.tx_MODE n m).set F.tx_PENDING n 0).get F.time_SERVO 0 = s.get F.time_SERVO 0 :=
    (get_set_block _ F.tx_PENDING F.time_SERVO n 0 0 (by decide)).trans (get_set_block s F.tx_MODE F.time_SERVO n 0 m (by decide))
  rw [hwrite]
  refine ⟨flagged_after (raiseTx_flagged _ n (by decide)) (hlater _ (by decide)) (hlater _ (by decide)) rfl rfl hservo, ?_⟩
  exact keepsRegsBut_trans (keepsRegsBut_trans (keeps_set s F.tx_MODE m (by decide) hn (by decide))
    (keeps_set _ F.tx_PENDING 0 (by decide) hn (by decide))) (keeps_more (raiseTx_keeps _ hn _) (by decide))

/-- Any other mode is pending. -/
theorem writeMode_pends (hn : n < 65536) (hpad : s.on F.tx_PADDOCK n = false) (hactive : m ≠ s.get F.tx_ACTIVE n) :
    writeMode s n m = { s with regs := (writeMode s n m).regs } ∧
      keepsRegsBut (fieldsAt [F.tx_MODE, F.tx_PENDING] n) s (writeMode s n m) := by
  have hwrite : writeMode s n m = (s.set F.tx_MODE n m).set F.tx_PENDING n 1 := by
    rw [writeMode, if_neg (by rw [hpad]; exact Bool.false_ne_true), if_neg (fun h => hactive (beq_iff_eq.1 h))]
  rw [hwrite]
  exact ⟨rfl, keepsRegsBut_trans (keeps_set s F.tx_MODE m (by decide) hn (by decide))
    (keeps_set _ F.tx_PENDING 1 (by decide) hn (by decide))⟩

theorem laneModeWrite_takes (hn : n < 65536) (hup : s.laneUp n = true) (hm : m < 16) (hpad : s.on F.tx_PADDOCK n = false) :
    ∃ t, exec (.laneModeWrite n m) s = .next t ∧ t.get F.tx_MODE n = m ∧
      (m = s.get F.tx_ACTIVE n → onlyRegs s t ∧ t.on F.tx_PENDING n = false ∧ flagged F.tx_FLAGS F.tx_EVEN n 8 n s t ∧
        keepsRegsBut [(F.tx_MODE, n), (F.tx_PENDING, n), (F.tx_FLAGS, n)] s t) ∧
      (m ≠ s.get F.tx_ACTIVE n → t = { s with regs := t.regs } ∧ t.on F.tx_PENDING n = true ∧
        keepsRegsBut [(F.tx_MODE, n), (F.tx_PENDING, n)] s t) := by
  obtain ⟨hmode, hpend⟩ := writeMode_mode s n m hm hpad
  have hexec : exec (.laneModeWrite n m) s = .next (writeMode s n m) := by rw [exec, execLaneModeWrite, if_pos hup]
  refine ⟨_, hexec, hmode, fun h => ?_, fun h => ?_⟩
  · obtain ⟨hflag, hkeep⟩ := writeMode_inForce hn hpad h
    exact ⟨writeMode_onlyRegs s n m, hpend.trans (decide_eq_false (not_not.2 h)), hflag, hkeep⟩
  · obtain ⟨honly, hkeep⟩ := writeMode_pends hn hpad h
    exact ⟨honly, hpend.trans (decide_eq_true h), hkeep⟩

/-! ### LANE_MODE_BOUNDARY with a mode pending (R94, R95) -/

variable (hup : s.laneUp n = true)
include hup

theorem exec_laneModeBoundary : exec (.laneModeBoundary n) s = .next (reachBoundary s n) := by
  rw [exec, execLaneModeBoundary, if_pos hup]

theorem laneModeBoundary_nothing (hpend : s.on F.tx_PENDING n = false) (hmove : (s.txLane n).moveTo = none) :
    exec (.laneModeBoundary n) s = .next s := by
  rw [exec_laneModeBoundary hup, reachBoundary, hpend, hmove]
  rfl

/-- A lane between sentences, its pins its own, reaches its boundary at once. -/
theorem laneModeBoundary_idle (hsome : s.on F.tx_PENDING n = true ∨ (s.txLane n).moveTo.isSome = true)
    (hphase : (s.txLane n).phase = .idle) (hde : laneMode s n = 4 → (s.txLane n).de = false) :
    exec (.laneModeBoundary n) s = .next (atBoundary (ungrant s n) n) := by
  have hdriven : (laneMode s n == 4 && (s.txLane n).de) = false := by
    by_cases h : laneMode s n = 4
    · rw [hde h, Bool.and_false]
    · rw [beq_false_of_ne h, Bool.false_and]
  have hwaits : (!(s.on F.tx_PENDING n || (s.txLane n).moveTo.isSome)) = false := by
    rw [Bool.not_eq_false', Bool.or_eq_true]
    exact hsome
  simp only [exec_laneModeBoundary hup, reachBoundary, hwaits, hphase, hdriven, if_false, Bool.false_eq_true]

/-- Between sentences a pending mode is in force at once. -/
theorem laneModeBoundary_enters (hn : n < 65536) (hpend : s.on F.tx_PENDING n = true) (hmove : (s.txLane n).moveTo = none)
    (hphase : (s.txLane n).phase = .idle) (hde : laneMode s n = 4 → (s.txLane n).de = false) :
    let m := modeInForce s (s.get F.tx_MODE n)
    ∃ t, exec (.laneModeBoundary n) s = .next t ∧ t.get F.tx_ACTIVE n = m ∧ t.on F.tx_PENDING n = false ∧
      (t.get F.tx_FLAGS n).testBit 8 = true ∧ rxState t n = (if m = 1 ∨ m = 3 ∨ m = 5 then 1 else 0) ∧
      (t.txLane n).phase = .idle ∧ (t.txLane n).de = decide (m = 4) ∧ (t.txLane n).granted = none ∧
      (laneOpen s n = false → t = { s with regs := t.regs, fired := t.fired, rx := t.rx, tx := t.tx, enc := t.enc }) := by
  intro m
  have hstay : ((ungrant s n).txLane n).moveTo = none := by rw [ungrant_txLane, hmove]
  have hboundary : atBoundary (ungrant s n) n = enterMode (ungrant s n) n (s.get F.tx_MODE n) := by
    rw [atBoundary, hstay]
    exact if_pos hpend
  have hreceives : (receives m = true) ↔ (m = 1 ∨ m = 3 ∨ m = 5) := by
    rw [receives, Bool.or_eq_true, Bool.or_eq_true, beq_iff_eq, beq_iff_eq, beq_iff_eq, or_assoc]
  obtain ⟨hactive, hnone, hdone, hstate, hlane, honly⟩ := enterMode_enters (ungrant s n) hn (s.get F.tx_MODE n)
  rw [← hboundary] at hactive hnone hdone hstate hlane honly
  refine ⟨_, laneModeBoundary_idle hup (Or.inl hpend) hphase hde, hactive, hnone, hdone, hstate.trans (if_congr hreceives rfl rfl), ?_, ?_,
    ?_, fun h => modesOnly_trans (modesOnly_putTx s n _) (honly h)⟩
  · rw [hlane, txStopped]
  · rw [hlane, txStopped]
    exact Bool.beq_eq_decide_eq m 4
  · rw [hlane, txStopped, ungrant_txLane]

/-! ### LANE_MODE_BOUNDARY with a record granted (R94, R95) -/

/-- Before the first start bit the record stays at the head of its stall and the tail runs. -/
theorem laneModeBoundary_ungrants (hpend : s.on F.tx_PENDING n = true) (hphase : (s.txLane n).phase = .lead ∨ (s.txLane n).phase = .next) :
    exec (.laneModeBoundary n) s = .next
      (s.putTx n { s.txLane n with granted := none, pos := 0, tries := 0, collided := false, phase := .tail }) := by
  have hbusy : (s.txLane n).phase ≠ .idle := by
    obtain h | h := hphase <;> rw [h] <;> decide
  have hback : (ungrant s n).putTx n { (ungrant s n).txLane n with phase := .tail } =
      s.putTx n { s.txLane n with granted := none, pos := 0, tries := 0, collided := false, phase := .tail } := by
    rw [ungrant_txLane]
    exact putTx_putTx s n (ne_default_of_phase hbusy) (ne_default_of_phase fun h : TxPhase.tail = .idle => nomatch h)
  have hreach : reachBoundary s n = (ungrant s n).putTx n { (ungrant s n).txLane n with phase := .tail } := by
    obtain h | h := hphase <;> simp only [reachBoundary, hpend, h, Bool.true_or, Bool.not_true, Bool.false_eq_true, if_false]
  rw [exec_laneModeBoundary hup, hreach, hback]

theorem laneModeBoundary_sending (hpend : s.on F.tx_PENDING n = true) (hmove : (s.txLane n).moveTo = none)
    (hphase : (s.txLane n).phase = .sending) :
    exec (.laneModeBoundary n) s = .next (if s.on F.tx_DRAIN n = true then s else cutSentence s n) := by
  simp only [exec_laneModeBoundary hup, reachBoundary, hpend, hmove, hphase, Bool.true_or, Bool.not_true, Bool.false_eq_true, if_false,
    Option.isNone_none, Bool.true_and]

/-- With DRAIN 0 the record is given up and counted. -/
theorem laneModeBoundary_aborts (hpend : s.on F.tx_PENDING n = true) (hmove : (s.txLane n).moveTo = none)
    (hphase : (s.txLane n).phase = .sending) (hdrain : s.on F.tx_DRAIN n = false) :
    ∃ t, exec (.laneModeBoundary n) s = .next t ∧ (t.txLane n).phase = .tail ∧ (t.txLane n).granted = none ∧
      t.get F.tx_N_TX_ABORT n = min (s.get F.tx_N_TX_ABORT n + 1) 0xFFFFFFFF ∧ (t.get F.tx_FLAGS n).testBit 2 = true := by
  let u := txEvent (dropRecord s n) n F.tx_N_TX_ABORT Bit.txAbort
  have hcut : cutSentence s n = u.putTx n { u.txLane n with phase := .tail } := by
    simp only [cutSentence, hmove, Option.isSome_none, Bool.false_eq_true, if_false]
    rfl
  have hcounter : F.tx_N_TX_ABORT ∈ txCounters := by decide
  have hcount := txEvent_count (dropRecord s n) (n := n) hcounter (bit := Bit.txAbort)
  have hflag := txEvent_flagged (dropRecord s n) (n := n) hcounter (bit := Bit.txAbort) (by decide)
  rw [dropRecord_get s n F.tx_N_TX_ABORT rfl] at hcount
  have hgone : (u.txLane n).granted = none := by
    rw [txLane_of_onlyRegs (txEvent_only (dropRecord s n) n F.tx_N_TX_ABORT Bit.txAbort), dropRecord_free]
  refine ⟨u.putTx n { u.txLane n with phase := .tail }, ?_, ?_, ?_, hcount, flagged_testBit hflag⟩
  · rw [laneModeBoundary_sending hup hpend hmove hphase, if_neg (by rw [hdrain]; exact Bool.false_ne_true), hcut]
  · rw [txLane_putTx]
  · rw [txLane_putTx, hgone]

end

end Sys2Proof.Machine
end

section
/-! PROOF. A role moves from one lane to another (R113, R114, R115). -/

namespace Sys2Proof.Machine

/-! ### What stands of one transmitter -/

/-- From `s` to `t` lane `n`'s transmitter, its registers and the waiting commands stand. -/
structure TransmitterStands (n : Nat) (s t : State) : Prop where
  get : ∀ f : Field, f.blk = .laneTx → f.off < 65536 → t.get f n = s.get f n
  tx : t.txLane n = s.txLane n
  waits : t.waits = s.waits

theorem TransmitterStands.trans {n : Nat} {s t u : State} (h : TransmitterStands n s t) (k : TransmitterStands n t u) :
    TransmitterStands n s u :=
  ⟨fun f hf ho => (k.get f hf ho).trans (h.get f hf ho), k.tx.trans h.tx, k.waits.trans h.waits⟩

/-- A write of a register of another lane. -/
theorem TransmitterStands.set {n k : Nat} {s t : State} (h : TransmitterStands n s t) (hne : n ≠ k) (hn : n < 65536) (hk : k < 65536)
    (f : Field) (hf : f.off < 65536) (v : Nat) : TransmitterStands n s (t.set f k v) :=
  h.trans ⟨fun g _ hg => State.get_set_inst t f g k n v hk hn hne.symm hf hg, rfl, rfl⟩

theorem TransmittersBut.stands {k n : Nat} {s t : State} (h : TransmittersBut k s t) (hne : n ≠ k) : TransmitterStands n s t :=
  ⟨fun f hf _ => h.get f hf n, h.tx n hne, h.waits⟩

/-! ### The stages of a move -/

/-- The configuration registers of a role, on the new lane too. -/
def roleConfigured (s : State) (old new : Nat) : State := roleRegs.foldl (fun t e => copyRegs t old new e) s

/-- The DMX images and the staged colours of `s` are the new lane's in `t`. -/
def roleHeld (s t : State) (old new : Nat) : State :=
  let s2 := t.putTx new { t.txLane new with dmxImage := (s.txLane old).dmxImage, dmxNext := (s.txLane old).dmxNext,
                                              granted := none, phase := .idle, parked := none, moveTo := none }
  { s2 with stagedEnc := match tget s.stagedEnc old [] with
              | [] => s2.stagedEnc
              | w => tput (tdrop s2.stagedEnc old) new w [] }

/-- The configuration, the DMX images and the staged colours of a role go to the new lane (R114). -/
def roleCopied (s : State) (old new : Nat) : State := roleHeld s (roleConfigured s old new) old new

/-- The old lane stops, with nothing of its role left. -/
def oldLaneStops (s : State) (old : Nat) : State :=
  (leaveMode s old).putTx old { (leaveMode s old).txLane old with granted := none, moveTo := none, dmxImage := [], dmxNext := [] }

/-- The old lane is OFF with role 127. -/
def oldLaneOff (s : State) (old : Nat) : State :=
  (((s.set F.tx_ACTIVE old 0).set F.tx_MODE old 0).set F.tx_PENDING old 0).set F.tx_ROLE old 127

/-- The new lane leaves the paddock with the role and its mode. -/
def newLaneTakes (s : State) (new role mode want : Nat) (pend : Bool) : State :=
  ((((s.set F.tx_PADDOCK new 0).set F.tx_ROLE new role).set F.tx_ACTIVE new mode).set F.tx_MODE new want).setB F.tx_PENDING new pend

/-- The new lane runs its mode, with its own rates, and its ring shows the role's level. -/
def newLaneRuns (s : State) (new role mode : Nat) : State :=
  ringShow (dmxRaises (receiverWaits (takeBaud (takeTxBaud s new) new) new mode) new mode) role

/-- ROLE_MOVED on both lanes. -/
def bothRaise (s : State) (old new : Nat) : State := raiseTx (raiseTx s old Bit.txRoleMoved) new Bit.txRoleMoved

/-- A move up to the flags it sets. -/
def roleMoved (s : State) (old new : Nat) : State :=
  newLaneRuns (newLaneTakes (oldLaneOff (oldLaneStops (roleCopied s old new) old) old) new (s.get F.tx_ROLE old) (s.get F.tx_ACTIVE old)
    (s.get F.tx_MODE old) (s.on F.tx_PENDING old)) new (s.get F.tx_ROLE old) (s.get F.tx_ACTIVE old)

theorem completeMove_eq (s : State) (old new : Nat) : completeMove s old new = bothRaise (roleMoved s old new) old new := by
  delta completeMove
  extract_lets role mode pend want s1 src2 s2 s3 src4 s4 s5 s6 s7 s8 s9 src10 s10 s11
  have hcopied : s3 = roleCopied s old new := rfl
  have hstops : s4 = oldLaneStops s3 old := rfl
  have htakes : s7 = newLaneTakes (oldLaneOff s4 old) new role mode want pend := rfl
  have hruns : s11 = newLaneRuns s7 new role mode := rfl
  rw [hruns, htakes, hstops, hcopied]
  rfl

/-! ### The old lane -/

theorem copyRegs_only (s : State) (a b : Nat) (e : Blk × Nat × Nat) : regsOnly s (copyRegs s a b e) := by
  have hfold (l : List Nat) (t : State) (h : regsOnly s t) :
      regsOnly s (l.foldl (fun t k => t.setReg ⟨e.1, b, e.2.1 + 4 * k⟩ (s.reg ⟨e.1, a, e.2.1 + 4 * k⟩)) t) := by
    induction l generalizing t with
    | nil => exact h
    | cons k l ih => exact ih _ (regsOnly_trans h rfl)
  exact hfold _ s rfl

theorem roleHeld_waits (s t : State) (old new : Nat) : (roleHeld s t old new).waits = t.waits := rfl

theorem roleCopied_waits (s : State) (old new : Nat) : (roleCopied s old new).waits = s.waits := by
  have hfold (l : List (Blk × Nat × Nat)) (t : State) (h : regsOnly s t) : regsOnly s (l.foldl (fun t e => copyRegs t old new e) t) := by
    induction l generalizing t with
    | nil => exact h
    | cons e l ih => exact ih _ (regsOnly_trans h (copyRegs_only t old new e))
  have honly := hfold roleRegs s rfl
  unfold regsOnly at honly
  rw [roleCopied, roleHeld_waits, roleConfigured, honly]

theorem oldLaneStops_reads (s : State) (old : Nat) :
    (oldLaneStops s old).waits = s.waits ∧ ((oldLaneStops s old).txLane old).moveTo = none := by
  refine ⟨(leaveMode_transmitters s old).waits, ?_⟩
  rw [oldLaneStops, txLane_putTx]

theorem oldLaneOff_rest (s : State) (old : Nat) : (oldLaneOff s old).waits = s.waits ∧ (oldLaneOff s old).tx = s.tx := ⟨rfl, rfl⟩

theorem oldLaneOff_reads (s : State) (old : Nat) :
    (oldLaneOff s old).get F.tx_ROLE old = 127 ∧ (oldLaneOff s old).get F.tx_ACTIVE old = 0 := by
  refine ⟨State.get_set_self _ F.tx_ROLE (by decide) old 127, ?_⟩
  exact (State.get_set_beside _ F.tx_ROLE F.tx_ACTIVE old _ rfl rfl (by decide) (by decide)).trans
    ((State.get_set_beside _ F.tx_PENDING F.tx_ACTIVE old _ rfl rfl (by decide) (by decide)).trans
      ((State.get_set_beside _ F.tx_MODE F.tx_ACTIVE old _ rfl rfl (by decide) (by decide)).trans
        (State.get_set_self s F.tx_ACTIVE (by decide) old 0)))

/-! ### The new lane -/

section

variable (s : State) {old new : Nat}

theorem newLaneTakes_stands (hne : old ≠ new) (hold : old < 65536) (hnew : new < 65536) (role mode want : Nat) (pend : Bool) :
    TransmitterStands old s (newLaneTakes s new role mode want pend) := by
  have hset {t : State} (h : TransmitterStands old s t) (f : Field) (hf : f.off < 65536) (v : Nat) :
      TransmitterStands old s (t.set f new v) := h.set hne hold hnew f hf v
  have hpaddock := hset ⟨fun _ _ _ => rfl, rfl, rfl⟩ F.tx_PADDOCK (by decide) 0
  have hactive := hset (hset hpaddock F.tx_ROLE (by decide) role) F.tx_ACTIVE (by decide) mode
  exact hset (hset hactive F.tx_MODE (by decide) want) F.tx_PENDING (by decide) _

theorem newLaneTakes_reads {role mode : Nat} (want : Nat) (pend : Bool) (hrole : role < 128) (hmode : mode < 16) :
    (newLaneTakes s new role mode want pend).get F.tx_ROLE new = role ∧
      (newLaneTakes s new role mode want pend).get F.tx_ACTIVE new = mode ∧
      (newLaneTakes s new role mode want pend).on F.tx_PADDOCK new = false := by
  have hlast (t : State) (g : Field) (hblk : F.tx_MODE.blk = g.blk) (hoff : F.tx_MODE.off = g.off) (hfit : g.fits)
      (hm : F.tx_MODE.lo + F.tx_MODE.width ≤ g.lo ∨ g.lo + g.width ≤ F.tx_MODE.lo)
      (hp : F.tx_PENDING.lo + F.tx_PENDING.width ≤ g.lo ∨ g.lo + g.width ≤ F.tx_PENDING.lo) :
      ((t.set F.tx_MODE new want).setB F.tx_PENDING new pend).get g new = t.get g new :=
    (State.get_set_beside _ F.tx_PENDING g new _ hblk hoff hfit hp).trans (State.get_set_beside t F.tx_MODE g new _ hblk hoff hfit hm)
  refine ⟨?_, ?_, ?_⟩
  · rw [newLaneTakes, hlast _ F.tx_ROLE rfl rfl (by decide) (by decide) (by decide),
      State.get_set_beside _ F.tx_ACTIVE F.tx_ROLE new _ rfl rfl (by decide) (by decide), State.get_set_self _ F.tx_ROLE (by decide)]
    exact Nat.mod_eq_of_lt hrole
  · rw [newLaneTakes, hlast _ F.tx_ACTIVE rfl rfl (by decide) (by decide) (by decide), State.get_set_self _ F.tx_ACTIVE (by decide)]
    exact Nat.mod_eq_of_lt hmode
  · rw [State.on, newLaneTakes, hlast _ F.tx_PADDOCK rfl rfl (by decide) (by decide) (by decide),
      State.get_set_beside _ F.tx_ACTIVE F.tx_PADDOCK new _ rfl rfl (by decide) (by decide),
      State.get_set_beside _ F.tx_ROLE F.tx_PADDOCK new _ rfl rfl (by decide) (by decide), State.get_set_self _ F.tx_PADDOCK (by decide)]
    rfl

theorem ringShow_transmitters (n role : Nat) : TransmittersBut n s (ringShow s role) := by
  have honly := ringShow_only s role
  refine ⟨fun r hr => ringShow_reg s role (Or.inl (by rw [hr]; decide)),
    fun k _ => congrArg (fun m => tget m k ({} : LaneTx)) (tx_of_regsOnly honly), ?_⟩
  unfold regsOnly at honly
  rw [honly]

theorem newLaneRuns_transmitters (new role mode : Nat) : TransmittersBut new s (newLaneRuns s new role mode) := by
  have hrates : TransmittersBut new s (takeBaud (takeTxBaud s new) new) := ((TransmittersBut.refl new s).putTx _).putRx new _
  exact hrates.trans ((receiverWaits_transmitters _ new mode).1.trans
    ((dmxRaises_transmitters _ new mode).1.trans (ringShow_transmitters _ new role)))

/-! ### The flags -/

theorem bothRaise_get (f : Field) (hf : f.off = 0) (i : Nat) : (bothRaise s old new).get f i = s.get f i :=
  (raise_get_off _ _ _ _ _ _ f i (by rw [hf]; decide)).trans (raise_get_off _ _ _ _ _ _ f i (by rw [hf]; decide))

theorem bothRaise_only : onlyRegs s (bothRaise s old new) := onlyRegs_trans (raiseTx_only s old _) (raiseTx_only _ new _)

theorem bothRaise_flags (hne : old ≠ new) (hold : old < 65536) (hnew : new < 65536) :
    ((bothRaise s old new).get F.tx_FLAGS old).testBit 9 = true ∧ ((bothRaise s old new).get F.tx_FLAGS new).testBit 9 = true := by
  have hlater := (laneStep_raise (raiseTx s old Bit.txRoleMoved) F.tx_FLAGS F.tx_EVEN new Bit.txRoleMoved new hnew (by decide)
    (Or.inr rfl)).sameAt hne
  have hfirst := flagged_testBit (raiseTx_flagged s old (bit := Bit.txRoleMoved) (by decide))
  have hsecond := flagged_testBit (raiseTx_flagged (raiseTx s old Bit.txRoleMoved) new (bit := Bit.txRoleMoved) (by decide))
  refine ⟨?_, hsecond⟩
  rw [bothRaise, raiseTx, hlater.get F.tx_FLAGS hold (by decide)]
  exact hfirst

/-! ### The move -/

/-- The new lane has the role and the mode, the old one is OFF with role 127, and the waiting commands stand. -/
theorem completeMove_moves (hne : old ≠ new) (hold : old < 65536) (hnew : new < 65536) :
    let t := completeMove s old new
    t.waits = s.waits ∧ t.get F.tx_ROLE new = s.get F.tx_ROLE old ∧ t.get F.tx_ACTIVE new = s.get F.tx_ACTIVE old ∧
      t.on F.tx_PADDOCK new = false ∧ t.get F.tx_ROLE old = 127 ∧ t.get F.tx_ACTIVE old = 0 ∧ (t.txLane old).moveTo = none ∧
      (t.get F.tx_FLAGS old).testBit 9 = true ∧ (t.get F.tx_FLAGS new).testBit 9 = true := by
  intro t
  let off := oldLaneOff (oldLaneStops (roleCopied s old new) old) old
  let taken := newLaneTakes off new (s.get F.tx_ROLE old) (s.get F.tx_ACTIVE old) (s.get F.tx_MODE old) (s.on F.tx_PENDING old)
  obtain ⟨hwaits, hmove⟩ := oldLaneStops_reads (roleCopied s old new) old
  obtain ⟨hoffWaits, hoffTx⟩ := oldLaneOff_rest (oldLaneStops (roleCopied s old new) old) old
  obtain ⟨hrole127, hactive0⟩ := oldLaneOff_reads (oldLaneStops (roleCopied s old new) old) old
  obtain ⟨hrole, hactive, hpad⟩ := newLaneTakes_reads (new := new) off (s.get F.tx_MODE old) (s.on F.tx_PENDING old)
    (get_lt s F.tx_ROLE old) (get_lt s F.tx_ACTIVE old)
  have hruns : TransmittersBut new taken (roleMoved s old new) := newLaneRuns_transmitters _ _ _ _
  have hstands : TransmitterStands old off (roleMoved s old new) :=
    (newLaneTakes_stands off hne hold hnew _ _ _ _).trans (hruns.stands hne)
  have ht : t = bothRaise (roleMoved s old new) old new := completeMove_eq s old new
  clear_value t
  subst ht
  have honly := bothRaise_only (roleMoved s old new) (old := old) (new := new)
  have hget := bothRaise_get (roleMoved s old new) (old := old) (new := new)
  obtain ⟨hflagOld, hflagNew⟩ := bothRaise_flags (roleMoved s old new) hne hold hnew
  refine ⟨?_, ?_, ?_, ?_, ?_, ?_, ?_, hflagOld, hflagNew⟩
  · have hlast : (bothRaise (roleMoved s old new) old new).waits = (roleMoved s old new).waits := by
      unfold onlyRegs at honly
      rw [honly]
    exact hlast.trans (hstands.waits.trans (hoffWaits.trans <| hwaits.trans (roleCopied_waits s old new)))
  · exact (hget _ rfl new).trans ((hruns.get _ rfl new).trans hrole)
  · exact (hget _ rfl new).trans ((hruns.get _ rfl new).trans hactive)
  · rw [State.on, hget _ rfl new, hruns.get _ rfl new]
    exact hpad
  · exact (hget _ rfl old).trans ((hstands.get _ rfl (by decide)).trans hrole127)
  · exact (hget _ rfl old).trans ((hstands.get _ rfl (by decide)).trans hactive0)
  · have hlane : off.txLane old = (oldLaneStops (roleCopied s old new) old).txLane old :=
      congrArg (fun m => tget m old ({} : LaneTx)) hoffTx
    rw [txLane_of_onlyRegs honly, hstands.tx, hlane]
    exact hmove

end

/-- Where no waiting command is picked, none answers. -/
theorem answerWaits_none {s : State} {p : WaitFor → Bool} (h : ∀ w ∈ s.waits, p w.on = false) (g : Bool)
    (out : State → Wait → Nat × List Byte) : answerWaits s p g out = s := by
  have hpicked : s.waits.filter (fun w => p w.on) = [] := List.filter_eq_nil_iff.2 fun w hw => by rw [h w hw]; exact Bool.false_ne_true
  have hkept : s.waits.filter (fun w => !p w.on) = s.waits := List.filter_eq_self.2 fun w hw => by rw [h w hw]; rfl
  simp only [answerWaits, hpicked, hkept, List.foldl_nil]

theorem laneModeBoundary_moves {s : State} {n k : Nat} (hup : s.laneUp n = true) (hn : n < 65536) (hk : k < 65536)
    (hmove : (s.txLane n).moveTo = some k) (hne : k ≠ n) (hphase : (s.txLane n).phase = .idle)
    (hde : laneMode s n = 4 → (s.txLane n).de = false) (hwaits : ∀ w ∈ s.waits, ∀ a, w.on ≠ .roleMove n a) :
    exec (.laneModeBoundary n) s = .next (completeMove (ungrant s n) n k) := by
  have hstay : ((ungrant s n).txLane n).moveTo = some k := by rw [ungrant_txLane, hmove]
  have hsame : (completeMove (ungrant s n) n k).waits = s.waits := (completeMove_moves (ungrant s n) hne.symm hn hk).1
  rw [laneModeBoundary_idle hup (Or.inr (by rw [hmove]; rfl)) hphase hde, atBoundary, hstay]
  refine congrArg _ (answerWaits_none (fun w hw => ?_) _ _)
  rw [hsame] at hw
  split
  · next l a h => exact beq_false_of_ne fun e => hwaits w hw a (e ▸ h)
  · rfl

/-! ### The obligation -/

/-- Settles O28: a mode written, a mode that comes into force, a sentence in progress, a role that moves. -/
theorem laneModesChangeAtTheirBoundary : Obligations.LaneModesChangeAtTheirBoundary := by
  intro s n hn96 hup x
  have hn : n < 65536 := by omega
  refine ⟨fun m hm => ⟨laneModeWrite_paddock hup, laneModeWrite_takes hn hup hm⟩, laneModeBoundary_nothing hup,
    laneModeBoundary_enters hup hn, fun hpend _ hphase => laneModeBoundary_ungrants hup hpend hphase,
    fun hpend hmove hphase hdrain => ?_, laneModeBoundary_aborts hup,
    fun k hmove hk hne hphase hde hwaits => ?_⟩
  · rw [laneModeBoundary_sending hup hpend hmove hphase, if_pos hdrain]
  · have hk : k < 65536 := by omega
    obtain ⟨-, hmoved⟩ := completeMove_moves (ungrant s n) hne.symm hn hk
    exact ⟨_, laneModeBoundary_moves hup hn hk hmove hne hphase hde hwaits, hmoved⟩

end Sys2Proof.Machine
end

section
/-! PROOF. What a record offered to a stall leaves alone (R219 to R228): every register but the stalls'. -/

namespace Sys2Proof.Machine

/-- Every register but the stalls' reads in `s` as in `z`. -/
def BesideStalls (z s : State) : Prop := ∀ r : RegAddr, r.blk ≠ .stall → s.reg r = z.reg r

theorem BesideStalls.refl (s : State) : BesideStalls s s := fun _ _ => rfl

theorem BesideStalls.get {z s : State} (h : BesideStalls z s) (f : Field) (hf : f.blk ≠ .stall) (i : Nat) : s.get f i = z.get f i :=
  get_of_reg (h (f.addr i) hf)

section

variable {z s : State} (h : BesideStalls z s)
include h

theorem BesideStalls.of_regs {t : State} (hr : t.regs = s.regs) : BesideStalls z t := fun q hq => by
  rw [State.reg, hr]
  exact h q hq

theorem besideStalls_set (f : Field) (i v : Nat) (hf : f.blk = .stall) : BesideStalls z (s.set f i v) := fun q hq =>
  (reg_setReg_blk s (r := f.addr i) (fun e => hq (e.symm.trans hf)) _).trans (h q hq)

theorem besideStalls_inc (f : Field) (i : Nat) (hf : f.blk = .stall) : BesideStalls z (s.inc f i) := besideStalls_set h f i _ hf

theorem besideStalls_incWrap (f : Field) (i : Nat) (hf : f.blk = .stall) : BesideStalls z (s.incWrap f i) :=
  besideStalls_set h f i _ hf

theorem besideStalls_raiseStall (q bit : Nat) : BesideStalls z (raiseStall s q bit) := fun r hr => by
  rw [raiseStall, raise_reg]
  split
  · exact h r hr
  · exact besideStalls_set h F.stall_FLAGS q _ rfl r hr

theorem besideStalls_putStall (q : Nat) (x : Stall) : BesideStalls z (s.putStall q x) := h.of_regs rfl

theorem besideStalls_wmCheck (q before : Nat) : BesideStalls z (wmCheck s q before) := by
  unfold wmCheck
  dsimp only
  split
  · exact besideStalls_raiseStall (besideStalls_incWrap h F.stall_WM_CROSS q rfl) q _
  · exact h

theorem besideStalls_ringWrite (q p : Nat) (bs : List Byte) : BesideStalls z (ringWrite s q p bs) := fun r hr => by
  rw [ringWrite, State.poke_reg, State.poke_reg]
  exact h r hr

theorem besideStalls_stallPut (q : Nat) (rec : List Byte) : BesideStalls z (stallPut s q rec) :=
  besideStalls_wmCheck (besideStalls_raiseStall (besideStalls_incWrap (besideStalls_putStall (besideStalls_ringWrite h q _ rec) q _)
    F.stall_RECORDS q rfl) q _) q _

theorem besideStalls_discardOldest (q : Nat) : BesideStalls z (discardOldest s q) := by
  unfold discardOldest
  dsimp only
  split
  · exact h
  · exact besideStalls_wmCheck (besideStalls_raiseStall (besideStalls_inc (besideStalls_putStall h q _) F.stall_LOST q rfl) q _) q _

theorem besideStalls_discardFor (q n k : Nat) : BesideStalls z (discardFor s q n k) := by
  induction k generalizing s with
  | zero => exact h
  | succ k ih =>
    unfold discardFor
    split
    · exact ih (besideStalls_discardOldest h q)
    · exact h

theorem besideStalls_makeRoom (q n : Nat) : BesideStalls z (makeRoom s q n) := by
  have hroom := besideStalls_discardFor h q n (s.stall q).lens.length
  unfold makeRoom
  dsimp only
  split
  · exact hroom
  · exact (besideStalls_raiseStall (besideStalls_set (besideStalls_incWrap (besideStalls_putStall hroom q _) F.stall_OVTK q rfl)
      F.stall_OFFS q 0 rfl) q _).of_regs rfl

theorem besideStalls_comparePtrs (q : Nat) (f : State → State) (hf : BesideStalls z (f s)) : BesideStalls z (comparePtrs s q f) := by
  unfold comparePtrs startReset
  split
  · exact hf
  · dsimp only
    split
    · exact besideStalls_putStall h q _
    · exact besideStalls_putStall (besideStalls_inc h F.stall_RESETS q rfl) q _

theorem besideStalls_stallOffer (q : Nat) (rec : List Byte) : BesideStalls z (stallOffer s q rec) := by
  have hlost : ∀ bit, BesideStalls z (raiseStall (s.inc F.stall_LOST q) q bit) :=
    besideStalls_raiseStall (besideStalls_inc h F.stall_LOST q rfl) q
  unfold stallOffer
  split_ifs
  · exact h
  · exact hlost _
  · exact h
  · exact hlost _
  · exact hlost _
  · exact besideStalls_comparePtrs h q _ (besideStalls_stallPut (besideStalls_set h F.stall_GRANTED q _ rfl) q rec)
  · exact besideStalls_comparePtrs h q _ (besideStalls_stallPut (besideStalls_makeRoom h q _) q rec)

end

end Sys2Proof.Machine
end

section
/-! PROOF. Checks of a command in turn (R472), source checks (R125), and the words of a body (R488, R489). -/

namespace Sys2Proof.Machine

/-! ### Checks in turn (R472) -/

theorem firstFail_fails {bad : Bool} (hbad : bad = true) (s : State) (st : Nat) (l : List (Bool × Nat)) (f : State → CmdOut) :
    firstFail s ((bad, st) :: l) f = no s st := by rw [firstFail_cons, if_pos hbad]

theorem firstFail_passes {bad : Bool} (hbad : bad = false) (s : State) (st : Nat) (l : List (Bool × Nat)) (f : State → CmdOut) :
    firstFail s ((bad, st) :: l) f = firstFail s l f := by
  rw [firstFail_cons, hbad]
  rfl

/-- Checks that all pass leave the verdict to those after them. -/
theorem firstFail_append {checks : List (Bool × Nat)} (h : ∀ c ∈ checks, c.1 = false) (s : State) (l : List (Bool × Nat))
    (f : State → CmdOut) : firstFail s (checks ++ l) f = firstFail s l f := by
  induction checks with
  | nil => rfl
  | cons c checks ih =>
    obtain ⟨hc, hrest⟩ := List.forall_mem_cons.1 h
    exact (firstFail_passes hc s c.2 _ f).trans (ih hrest)

/-- A wrong LENGTH is the answer where no object named is absent (R472, R488). -/
theorem lengthCheck_fails {bad : Bool} (hbad : bad = true) (s : State) {out : CmdOut} (h : wrongLength s out = no s St.badLength) :
    lengthCheck bad s out = no s St.badLength := by rw [lengthCheck, if_pos hbad, h]

theorem lengthCheck_passes {bad : Bool} (hbad : bad = false) (s : State) (out : CmdOut) : lengthCheck bad s out = out := by
  rw [lengthCheck, hbad]
  rfl

/-! ### Sources (R125) -/

/-- A source of any part is one of the PLV-9664. -/
theorem sourceExists_of_hasSource {p : Part} {n : Nat} (h : p.hasSource n = true) : sourceExists n = true := by
  have hlanes := lanes_le p
  have hports : p.ports ≤ Part.plv9664.ports := by cases p <;> decide
  have hmost : Part.plv9664.lanes = 96 := rfl
  simp only [sourceExists, Part.hasSource, Bool.or_eq_true, Bool.and_eq_true, decide_eq_true_eq, beq_iff_eq] at h ⊢
  omega

theorem hasSource_lt {p : Part} {n : Nat} (h : p.hasSource n = true) : n < 65536 := by
  have hlanes := lanes_le p
  have hports : p.ports ≤ Part.plv9664.ports := by cases p <;> decide
  have hmost : Part.plv9664.ports = 2 := rfl
  simp only [Part.hasSource, Bool.or_eq_true, Bool.and_eq_true, decide_eq_true_eq, beq_iff_eq] at h
  omega

/-- Sources that this part has pass both checks. -/
theorem sourceChecks_pass {s : State} {ids : List Nat} (h : ∀ n ∈ ids, s.part.hasSource n = true) :
    ∀ c ∈ sourceChecks s ids, c.1 = false := by
  have hfit : ids.any (fun n => sourceExists n && !s.part.hasSource n) = false := by
    rw [List.any_eq_false]
    intro n hn
    rw [h n hn, Bool.not_true, Bool.and_false]
    decide
  have hexist : ids.any (fun n => !sourceExists n) = false := by
    rw [List.any_eq_false]
    intro n hn
    rw [sourceExists_of_hasSource (h n hn)]
    decide
  rw [sourceChecks, hfit, hexist]
  simp

/-! ### Words of a body -/

theorem ofLe_lt (l : List Byte) : ofLe l < 256 ^ l.length := by
  induction l with
  | nil => decide
  | cons b l ih =>
    have hb := b.isLt
    rw [ofLe, List.length_cons, Nat.pow_succ]
    omega

theorem u32_lt (b : List Byte) (o : Nat) : u32 b o < 2 ^ 32 := by
  have hlen : (slice b o 4).length ≤ 4 := List.length_take_le _ _
  exact Nat.lt_of_lt_of_le (ofLe_lt _) (Nat.pow_le_pow_right (by decide) hlen)

theorem bodyWord_toNat (r : Req) (o : Nat) : (bodyWord r o).toNat = u32 r.body o := by
  rw [bodyWord, BitVec.toNat_ofNat, Nat.mod_eq_of_lt (u32_lt _ _)]

/-- A list without repetitions is what is left of it once repetitions go. -/
theorem eraseDups_of_nodup {α : Type} [BEq α] [LawfulBEq α] {l : List α} (h : l.Nodup) : l.eraseDups = l := by
  induction l with
  | nil => rfl
  | cons a l ih =>
    obtain ⟨ha, hl⟩ := List.nodup_cons.1 h
    have hkeep : l.filter (fun b => !b == a) = l :=
      List.filter_eq_self.2 fun b hb => by simpa using fun e : b = a => ha (e ▸ hb)
    rw [List.eraseDups_cons, hkeep, ih hl]

end Sys2Proof.Machine
end

section
/-! PROOF. The voter commands (R195 to R197, R206, R207): a judge that leaves or returns, and the voter's configuration. -/

namespace Sys2Proof.Machine

/-! ### What a judge's change flags and logs (R204, R208) -/

theorem besideStalls_logJudge (s : State) (outcome j : Nat) : BesideStalls s (logJudge s outcome j) :=
  besideStalls_stallOffer (BesideStalls.refl s) 241 _

/-- Flagging and logging a judge's change leave the voter's registers but FLAGS. -/
theorem get_logJudge (s : State) (bit outcome j : Nat) (f : Field) (hf : f.blk = .vote)
    (ho : F.vote_FLAGS.off % 65536 ≠ f.off % 65536) : (logJudge (raiseVote s bit) outcome j).get f 0 = s.get f 0 :=
  ((besideStalls_logJudge _ outcome j).get f (by rw [hf]; decide) 0).trans (raise_get_off s F.vote_FLAGS F.vote_EVEN 0 bit _ f 0 ho)

theorem logJudge_flag (s : State) {bit : Nat} (hb : bit < 8) (outcome j : Nat) :
    ((logJudge (raiseVote s bit) outcome j).get F.vote_FLAGS 0).testBit bit = true := by
  rw [(besideStalls_logJudge _ outcome j).get F.vote_FLAGS (by decide) 0]
  exact flagged_testBit (raise_flagged s F.vote_FLAGS F.vote_EVEN 0 bit (180 + bit) (by decide) hb (by decide))

/-! ### A judge leaves (R196) -/

/-- The voter's state word after judge `j` has left, before the flag and the log. -/
def judgeLeft (s : State) (j : Nat) : State :=
  ((s.set F.vote_IN 0 (judgesIn s &&& (7 - 2 ^ j))).set F.vote_OUT_JUDGE 0 j).set F.vote_DEGRADED 0 1

theorem judgeOut_eq (s : State) (j : Nat) : judgeOut s j =
    logJudge (raiseVote { judgeLeft s j with agreeRun := tput (judgeLeft s j).agreeRun j 0 0 } Bit.vtDegradedSet) 4 j := rfl

/-- The mask of every judge but `j`. -/
theorem testBit_judges_but {j : Nat} (hj : j < 3) (k : Nat) : (7 - 2 ^ j).testBit k = (decide (k < 3) && decide (k ≠ j)) := by
  by_cases hk : k < 3
  · interval_cases j <;> interval_cases k <;> decide
  · have hlt : 7 - 2 ^ j < 2 ^ 3 := Nat.lt_of_le_of_lt (Nat.sub_le _ _) (by decide)
    rw [testBit_ge hlt (Nat.le_of_not_lt hk), decide_eq_false hk, Bool.false_and]

theorem judgeLeft_in {s : State} {j : Nat} (hj : j < 3) (k : Nat) :
    ((judgeLeft s j).get F.vote_IN 0).testBit k = ((s.get F.vote_IN 0).testBit k && decide (k < 3) && decide (k ≠ j)) := by
  have hin : (judgeLeft s j).get F.vote_IN 0 = (judgesIn s &&& (7 - 2 ^ j)) % 2 ^ 3 := calc
    (judgeLeft s j).get F.vote_IN 0
      = ((s.set F.vote_IN 0 (judgesIn s &&& (7 - 2 ^ j))).set F.vote_OUT_JUDGE 0 j).get F.vote_IN 0 :=
        State.get_set_beside _ F.vote_DEGRADED F.vote_IN 0 1 rfl rfl (by decide) (by decide)
    _ = (s.set F.vote_IN 0 (judgesIn s &&& (7 - 2 ^ j))).get F.vote_IN 0 :=
        State.get_set_beside _ F.vote_OUT_JUDGE F.vote_IN 0 j rfl rfl (by decide) (by decide)
    _ = (judgesIn s &&& (7 - 2 ^ j)) % 2 ^ 3 := State.get_set_self s F.vote_IN (by decide) 0 _
  rw [hin, Nat.testBit_mod_two_pow, Nat.testBit_and, testBit_judges_but hj, judgesIn]
  cases decide (k < 3) <;> simp

theorem judgeLeft_outJudge {s : State} {j : Nat} (hj : j < 3) : (judgeLeft s j).get F.vote_OUT_JUDGE 0 = j := calc
  (judgeLeft s j).get F.vote_OUT_JUDGE 0
    = ((s.set F.vote_IN 0 (judgesIn s &&& (7 - 2 ^ j))).set F.vote_OUT_JUDGE 0 j).get F.vote_OUT_JUDGE 0 :=
      State.get_set_beside _ F.vote_DEGRADED F.vote_OUT_JUDGE 0 1 rfl rfl (by decide) (by decide)
  _ = j % 2 ^ 2 := State.get_set_self _ F.vote_OUT_JUDGE (by decide) 0 j
  _ = j := Nat.mod_eq_of_lt (by omega)

theorem judgeLeft_degraded (s : State) (j : Nat) : (judgeLeft s j).on F.vote_DEGRADED 0 = true :=
  State.on_setB _ F.vote_DEGRADED (by decide) (by decide) 0 true

theorem judgeOut_leaves (s : State) {j : Nat} (hj : j < 3) :
    (judgeOut s j).get F.vote_OUT_JUDGE 0 = j ∧ (judgeOut s j).on F.vote_DEGRADED 0 = true ∧
      ((judgeOut s j).get F.vote_IN 0).testBit j = false ∧
      (∀ k, k < 3 → k ≠ j → ((judgeOut s j).get F.vote_IN 0).testBit k = (s.get F.vote_IN 0).testBit k) ∧
      ((judgeOut s j).get F.vote_FLAGS 0).testBit 4 = true := by
  have hget : ∀ f : Field, f.blk = .vote → F.vote_FLAGS.off % 65536 ≠ f.off % 65536 →
      (judgeOut s j).get f 0 = (judgeLeft s j).get f 0 :=
    fun f hf ho => by
      rw [judgeOut_eq, get_logJudge _ _ 4 j f hf ho]
      exact State.get_congr rfl f 0
  rw [State.on, hget F.vote_OUT_JUDGE rfl (by decide), hget F.vote_DEGRADED rfl (by decide), hget F.vote_IN rfl (by decide)]
  refine ⟨judgeLeft_outJudge hj, judgeLeft_degraded s j, ?_, fun k hk hne => ?_, logJudge_flag _ (by decide) 4 j⟩
  · rw [judgeLeft_in hj, decide_eq_false (not_not.2 rfl), Bool.and_false]
  · rw [judgeLeft_in hj, decide_eq_true hk, decide_eq_true hne, Bool.and_true, Bool.and_true]

/-! ### A judge returns (R197) -/

/-- The voter's state word once the judge that was out has joined, but for SUSPECT. -/
def judgeJoins (s : State) : State :=
  (((s.set F.vote_IN 0 (judgesIn s ||| 2 ^ s.get F.vote_OUT_JUDGE 0)).set F.vote_OUT_JUDGE 0 3).set F.vote_DEGRADED 0 0).set
    F.vote_PENDING_IN 0 0

/-- The voter's registers after the judge that was out has joined, before the flag and the log. -/
def judgeBack (s : State) : State :=
  ((judgeJoins s).set (scoreField (s.get F.vote_OUT_JUDGE 0)) 0 0).set F.vote_SUSPECT 0
    ((judgeJoins s).get F.vote_SUSPECT 0 &&& (7 - 2 ^ s.get F.vote_OUT_JUDGE 0))

theorem judgeJoined_eq (s : State) : judgeJoined s =
    logJudge (raiseVote { judgeBack s with agreeRun := tput (judgeBack s).agreeRun (s.get F.vote_OUT_JUDGE 0) 0 0 } Bit.vtDegradedClear) 5
      (s.get F.vote_OUT_JUDGE 0) := rfl

theorem scoreField_whole (j : Nat) : (scoreField j).blk = .vote ∧ (scoreField j).off = 0x30 ∧ (scoreField j).fits := by
  unfold scoreField
  split <;> decide

/-- A field of the voter's state word but SUSPECT stands while the score and SUSPECT are written. -/
theorem judgeBack_get (s : State) (f : Field) (hblk : f.blk = .vote) (hoff : f.off = 4) (hf : f.fits)
    (hs : F.vote_SUSPECT.lo + F.vote_SUSPECT.width ≤ f.lo ∨ f.lo + f.width ≤ F.vote_SUSPECT.lo) :
    (judgeBack s).get f 0 = (judgeJoins s).get f 0 := by
  obtain ⟨-, hscore, -⟩ := scoreField_whole (s.get F.vote_OUT_JUDGE 0)
  exact (State.get_set_beside _ F.vote_SUSPECT f 0 _ hblk.symm hoff.symm hf hs).trans
    (State.get_set_off _ _ f 0 0 0 (by rw [hscore, hoff]; decide))

theorem judgeBack_in (s : State) (hj : s.get F.vote_OUT_JUDGE 0 < 3) :
    ((judgeBack s).get F.vote_IN 0).testBit (s.get F.vote_OUT_JUDGE 0) = true := by
  have hin : (judgeBack s).get F.vote_IN 0 = (judgesIn s ||| 2 ^ s.get F.vote_OUT_JUDGE 0) % 2 ^ 3 := by
    rw [judgeBack_get s F.vote_IN rfl rfl (by decide) (by decide), judgeJoins,
      State.get_set_beside _ F.vote_PENDING_IN F.vote_IN 0 0 rfl rfl (by decide) (by decide),
      State.get_set_beside _ F.vote_DEGRADED F.vote_IN 0 0 rfl rfl (by decide) (by decide),
      State.get_set_beside _ F.vote_OUT_JUDGE F.vote_IN 0 3 rfl rfl (by decide) (by decide)]
    exact State.get_set_self s F.vote_IN (by decide) 0 _
  rw [hin, Nat.testBit_mod_two_pow, Nat.testBit_or, Nat.testBit_two_pow_self, Bool.or_true, decide_eq_true hj]
  rfl

theorem judgeBack_outJudge (s : State) : (judgeBack s).get F.vote_OUT_JUDGE 0 = 3 := by
  rw [judgeBack_get s F.vote_OUT_JUDGE rfl rfl (by decide) (by decide), judgeJoins,
    State.get_set_beside _ F.vote_PENDING_IN F.vote_OUT_JUDGE 0 0 rfl rfl (by decide) (by decide),
    State.get_set_beside _ F.vote_DEGRADED F.vote_OUT_JUDGE 0 0 rfl rfl (by decide) (by decide)]
  exact State.get_set_self _ F.vote_OUT_JUDGE (by decide) 0 3

theorem judgeBack_pendingIn (s : State) : (judgeBack s).on F.vote_PENDING_IN 0 = false := by
  rw [State.on, judgeBack_get s F.vote_PENDING_IN rfl rfl (by decide) (by decide)]
  exact State.on_setB _ F.vote_PENDING_IN (by decide) (by decide) 0 false

theorem judgeBack_score (s : State) : (judgeBack s).get (scoreField (s.get F.vote_OUT_JUDGE 0)) 0 = 0 := by
  obtain ⟨-, hoff, hfits⟩ := scoreField_whole (s.get F.vote_OUT_JUDGE 0)
  exact (State.get_set_off _ F.vote_SUSPECT _ 0 0 _ (by rw [hoff]; decide)).trans
    ((State.get_set_self _ _ hfits 0 0).trans (Nat.zero_mod _))

theorem judgeBack_autoOut (s : State) : (judgeBack s).get F.vote_AUTO_OUT 0 = s.get F.vote_AUTO_OUT 0 := by
  obtain ⟨-, hoff, -⟩ := scoreField_whole (s.get F.vote_OUT_JUDGE 0)
  have hword : ∀ (t : State) (g : Field) v, g.off % 65536 ≠ 0 → (t.set g 0 v).get F.vote_AUTO_OUT 0 = t.get F.vote_AUTO_OUT 0 :=
    fun t g v hg => State.get_set_off t g _ 0 0 v hg
  exact (hword _ F.vote_SUSPECT _ (by decide)).trans ((hword _ (scoreField _) 0 (by rw [hoff]; decide)).trans
    ((hword _ F.vote_PENDING_IN 0 (by decide)).trans ((hword _ F.vote_DEGRADED 0 (by decide)).trans
      ((hword _ F.vote_OUT_JUDGE 3 (by decide)).trans (hword s F.vote_IN _ (by decide))))))

theorem judgeJoined_returns (s : State) (hj : s.get F.vote_OUT_JUDGE 0 < 3) :
    ((judgeJoined s).get F.vote_IN 0).testBit (s.get F.vote_OUT_JUDGE 0) = true ∧ (judgeJoined s).get F.vote_OUT_JUDGE 0 = 3 ∧
      (judgeJoined s).on F.vote_PENDING_IN 0 = false ∧ (judgeJoined s).get (scoreField (s.get F.vote_OUT_JUDGE 0)) 0 = 0 ∧
      (judgeJoined s).on F.vote_AUTO_OUT 0 = s.on F.vote_AUTO_OUT 0 := by
  have hget : ∀ f : Field, f.blk = .vote → F.vote_FLAGS.off % 65536 ≠ f.off % 65536 →
      (judgeJoined s).get f 0 = (judgeBack s).get f 0 :=
    fun f hf ho => by
      rw [judgeJoined_eq, get_logJudge _ _ 5 _ f hf ho]
      exact State.get_congr rfl f 0
  obtain ⟨hblk, hoff, -⟩ := scoreField_whole (s.get F.vote_OUT_JUDGE 0)
  rw [State.on, State.on, State.on, hget F.vote_IN rfl (by decide), hget F.vote_OUT_JUDGE rfl (by decide),
    hget F.vote_PENDING_IN rfl (by decide), hget _ hblk (by rw [hoff]; decide), hget F.vote_AUTO_OUT rfl (by decide)]
  exact ⟨judgeBack_in s hj, judgeBack_outJudge s, judgeBack_pendingIn s, judgeBack_score s,
    congrArg (· == 1) (judgeBack_autoOut s)⟩

/-- A return that has begun, with no sentence to vote and none open. -/
def returnBegun (s : State) : State := { s.set F.vote_PENDING_IN 0 1 with ballots := [], srcs := [] }

/-- With nothing left to vote and nothing open, the judge joins at once. -/
theorem judgeIn_idle {s : State} (hballots : s.ballots = []) (hsrcs : s.srcs = []) : judgeIn s = judgeJoined (returnBegun s) := by
  simp [judgeIn, preRemains, returnBegun, hballots, hsrcs]

/-- Firmware takes no judge out while AUTO_OUT is 0 or none is suspect (R195). -/
theorem autoOut_idle {s : State} (h : s.on F.vote_AUTO_OUT 0 = false ∨ s.get F.vote_SUSPECT 0 = 0) : autoOut s = s := by
  obtain h | h := h
  · simp [autoOut, autoOutN, h]
  · have hnone : (List.range 3).find? (fun j => (s.get F.vote_SUSPECT 0).testBit j) = none := by simp [h]
    simp [autoOut, autoOutN, hnone]

/-! ### VOTE_JUDGE_OUT and VOTE_JUDGE_IN -/

theorem judge_lt {b : List Byte} (hj : fld b 0 0 2 ≠ 3) : fld b 0 0 2 < 3 := by
  have : fld b 0 0 2 < 2 ^ 2 := Nat.mod_lt _ (by decide)
  omega

section

variable {r : Req} {s : State} (htakes : takes s r = true) (hlen : r.body.length = 4)
include htakes hlen

theorem voteJudgeOut_exec : exec (.voteJudgeOut r) s = .next (finish 0x0310 false r none false (firstFail s
    [(fld r.body 0 0 2 == 3, St.badArg), (s.get F.vote_OUT_JUDGE 0 != 3 || !s.shedUp 3, St.state)]
    (fun u => ok (judgeOut u (fld r.body 0 0 2)) []))) := by
  rw [exec, execVoteJudgeOut, cmdRow_taken htakes, cmdJudgeOut, sized_of hlen]

theorem voteJudgeIn_exec : exec (.voteJudgeIn r) s = .next (finish 0x0311 false r none false (firstFail s
    [(fld r.body 0 0 2 == 3, St.badArg),
      (s.get F.vote_OUT_JUDGE 0 != fld r.body 0 0 2 || s.on F.vote_PENDING_IN 0 || !s.shedUp 3, St.state)]
    (fun u => ok (autoOut (judgeIn u)) []))) := by
  rw [exec, execVoteJudgeIn, cmdRow_taken htakes, cmdJudgeIn, sized_of hlen]

theorem voteJudge_noJudge (hj : fld r.body 0 0 2 = 3) : exec (.voteJudgeOut r) s = .next (refusedWith 0x0310 4 r s) ∧
    exec (.voteJudgeIn r) s = .next (refusedWith 0x0311 4 r s) := by
  have h3 := beq_iff_eq.2 hj
  rw [voteJudgeOut_exec htakes hlen, voteJudgeIn_exec htakes hlen, firstFail_fails h3, firstFail_fails h3, finish_no, finish_no]
  exact ⟨rfl, rfl⟩

section

variable (hj : fld r.body 0 0 2 ≠ 3)
include hj

theorem voteJudgeOut_refused (hout : s.get F.vote_OUT_JUDGE 0 ≠ 3 ∨ s.shedUp 3 = false) :
    exec (.voteJudgeOut r) s = .next (refusedWith 0x0310 9 r s) := by
  have hbad : (s.get F.vote_OUT_JUDGE 0 != 3 || !s.shedUp 3) = true := by simpa using hout
  rw [voteJudgeOut_exec htakes hlen, firstFail_passes (beq_eq_false_iff_ne.2 hj), firstFail_fails hbad, finish_no]
  rfl

theorem voteJudgeOut_leaves (hin : s.get F.vote_OUT_JUDGE 0 = 3) (hup : s.shedUp 3 = true) :
    exec (.voteJudgeOut r) s = .next (answered 0x0310 false r (judgeOut s (fld r.body 0 0 2)) []) := by
  have hgood : (s.get F.vote_OUT_JUDGE 0 != 3 || !s.shedUp 3) = false := by simp [hin, hup]
  rw [voteJudgeOut_exec htakes hlen, firstFail_passes (beq_eq_false_iff_ne.2 hj), firstFail_passes hgood, firstFail_nil, finish_ok]

theorem voteJudgeIn_refused (hout : s.get F.vote_OUT_JUDGE 0 ≠ fld r.body 0 0 2) :
    exec (.voteJudgeIn r) s = .next (refusedWith 0x0311 9 r s) := by
  have hbad : (s.get F.vote_OUT_JUDGE 0 != fld r.body 0 0 2 || s.on F.vote_PENDING_IN 0 || !s.shedUp 3) = true := by simp [hout]
  rw [voteJudgeIn_exec htakes hlen, firstFail_passes (beq_eq_false_iff_ne.2 hj), firstFail_fails hbad, finish_no]
  rfl

theorem voteJudgeIn_returns (hup : s.shedUp 3 = true) (hout : s.get F.vote_OUT_JUDGE 0 = fld r.body 0 0 2)
    (hpend : s.on F.vote_PENDING_IN 0 = false) (hballots : s.ballots = []) (hsrcs : s.srcs = [])
    (hauto : s.on F.vote_AUTO_OUT 0 = false) :
    ∃ t, exec (.voteJudgeIn r) s = .next (answered 0x0311 false r t []) ∧ (t.get F.vote_IN 0).testBit (fld r.body 0 0 2) = true ∧
      t.get F.vote_OUT_JUDGE 0 = 3 ∧ t.on F.vote_PENDING_IN 0 = false ∧ t.get (scoreField (fld r.body 0 0 2)) 0 = 0 := by
  have hpending : (returnBegun s).get F.vote_OUT_JUDGE 0 = fld r.body 0 0 2 :=
    (State.get_set_beside s F.vote_PENDING_IN F.vote_OUT_JUDGE 0 1 rfl rfl (by decide) (by decide)).trans hout
  have hstill : (returnBegun s).on F.vote_AUTO_OUT 0 = s.on F.vote_AUTO_OUT 0 :=
    congrArg (· == 1) (State.get_set_off s F.vote_PENDING_IN F.vote_AUTO_OUT 0 0 1 (by decide))
  obtain ⟨hin, hnone, hdone, hscore, hquiet⟩ := judgeJoined_returns (returnBegun s) (by rw [hpending]; exact judge_lt hj)
  rw [hpending] at hin hscore
  refine ⟨judgeJoined (returnBegun s), ?_, hin, hnone, hdone, hscore⟩
  have hgood : (s.get F.vote_OUT_JUDGE 0 != fld r.body 0 0 2 || s.on F.vote_PENDING_IN 0 || !s.shedUp 3) = false := by
    simp [hout, hpend, hup]
  rw [voteJudgeIn_exec htakes hlen, firstFail_passes (beq_eq_false_iff_ne.2 hj), firstFail_passes hgood, firstFail_nil, finish_ok,
    judgeIn_idle hballots hsrcs, autoOut_idle (Or.inl ((hquiet.trans hstill).trans hauto))]

end

end

end Sys2Proof.Machine
end

section
/-! PROOF. VOTE_CFG_SET and VOTE_STATUS_GET (R206, R207, R499): the settings and override types as they are written. -/

namespace Sys2Proof.Machine

/-! ### The words written -/

/-- The voter's settings and its four types from a body. -/
def setVoter (r : Req) (s : State) : State := putRegs (putReg s .vote 0 0 (bodyWord r 0)) .vote 0 0x40 (bodyWords r 4 8)

theorem setVoter_only (r : Req) (s : State) : regsOnly s (setVoter r s) :=
  regsOnly_trans (t := putReg s .vote 0 0 (bodyWord r 0)) rfl (putRegs_only _ _ _ _ _)

/-- Below the types the registers are those that the settings' word leaves. -/
theorem setVoter_below (r : Req) (s : State) (b : Blk) (i : Nat) {o : Nat} (ho : o < 0x40) :
    (setVoter r s).reg ⟨b, i, o⟩ = (putReg s .vote 0 0 (bodyWord r 0)).reg ⟨b, i, o⟩ :=
  putRegs_reg_below .vote 0 0x40 _ _ b i o ho (by rw [bodyWords_length]; decide)

/-- The settings' fields. -/
def voterSettings : List Field := [F.vote_SUSPECT_N, F.vote_AUTO_OUT, F.vote_EGRESS_LATCH, F.vote_OVR_EN]

/-- A field of the settings takes the body's bits. -/
theorem setVoter_get (r : Req) (s : State) (f : Field) (hf : f ∈ voterSettings) :
    (setVoter r s).get f 0 = fld r.body 0 f.lo f.width := by
  have hwhole : ∀ f ∈ voterSettings, f.blk = .vote ∧ f.off = 0 ∧ f.fits ∧
      ∀ k, k < f.width → (regMask (f.addr 0) (fun a => a == .rw)).getLsbD (f.lo + k) = true := by decide
  obtain ⟨hblk, hoff, hfits, hrw⟩ := hwhole f hf
  have hput := get_putReg s f 0 (u32 r.body 0) hfits hrw
  rw [hblk, hoff] at hput
  exact (get_of_reg (setVoter_below r s f.blk 0 (by rw [hoff]; decide))).trans hput

theorem setVoter_type (r : Req) (s : State) {k : Nat} (hk : k < 8) :
    ((setVoter r s).reg ⟨.vote, 0, 0x40 + 4 * k⟩).toNat = u32 r.body (4 + 4 * k) := by
  have hall : ∀ k, k < 8 → regMask ⟨.vote, 0, 0x40 + 4 * k⟩ (fun a => a == .rw) = BitVec.allOnes 32 := by decide
  have hlen : k < (bodyWords r 4 8).length := by rw [bodyWords_length]; exact hk
  have hword := putRegs_puts .vote 0 0x40 (bodyWords r 4 8) (putReg s .vote 0 0 (bodyWord r 0))
    (by rw [bodyWords_length]; decide) k hlen
  rw [rwWritten, hall k hk, BitVec.and_allOnes, BitVec.not_allOnes, BitVec.and_zero, BitVec.zero_or, bodyWords_get] at hword
  rw [setVoter, hword]
  exact bodyWord_toNat r (4 + 4 * k)

/-- A register of another block stands. -/
theorem putRegs_reg_block (b : Blk) (n o : Nat) (ws : List Word) (s : State) {q : RegAddr} (hq : b ≠ q.blk) :
    (putRegs s b n o ws).reg q = s.reg q := by
  induction ws generalizing s o with
  | nil => rfl
  | cons w ws ih =>
    rw [putRegs, ih]
    exact reg_setReg_blk s (r := ⟨b, n, o⟩) hq _

theorem setVoter_others (r : Req) (s : State) :
    keepsRegsOutside (fun q => q.blk == .vote && (q.off == 0 || decide (0x40 ≤ q.off))) s (setVoter r s) := by
  intro q hq hout
  by_cases hblk : q.blk = .vote
  · obtain ⟨hzero, hlow⟩ : q.off ≠ 0 ∧ q.off < 0x40 := by simpa [hblk] using hout
    exact (setVoter_below r s q.blk q.inst hlow).trans (reg_putReg_off _ _ _ _ _ _ _ _ (by omega))
  · exact (putRegs_reg_block .vote 0 0x40 _ _ (Ne.symm hblk)).trans (reg_setReg_blk s (r := ⟨.vote, 0, 0⟩) (Ne.symm hblk) _)

/-! ### The checks of VOTE_CFG_SET (R206, R207) -/

/-- The four override types that a body carries. -/
def bodyTypes (r : Req) : List (List Byte) := (List.range 4).map (fun k => (r.body.drop (4 + 8 * k)).take 8)

/-- Those of a mask's overrides. -/
def enabledTypes (r : Req) : List (List Byte) :=
  ((List.range 4).filter (fun k => (fld r.body 0 6 4).testBit k)).map (fun k => (bodyTypes r).getD k [])

/-- Some of the types, in their order. -/
theorem enabledTypes_sublist (r : Req) : (enabledTypes r).Sublist (bodyTypes r) := by
  have hall : (List.range 4).map (fun k => (bodyTypes r).getD k []) = bodyTypes r := by
    simp [bodyTypes, List.range_succ]
  have hsub := (List.filter_sublist (l := List.range 4) (p := fun k => (fld r.body 0 6 4).testBit k)).map
    (fun k => (bodyTypes r).getD k [])
  rwa [hall] at hsub

section

variable {r : Req} {s : State} (htakes : takes s r = true) (hlen : r.body.length = 36)
include htakes hlen

theorem voteCfgSet_exec : exec (.voteCfgSet r) s = .next (finish 0x0312 true r none false (firstFail s
    [(!(bodyTypes r).all typeOk, St.badArg), ((enabledTypes r).eraseDups.length != (enabledTypes r).length, St.badArg)]
    (fun u => ok (autoOut (setVoter r u)) []))) := by
  rw [exec, execVoteCfgSet, cmdRow_taken htakes, cmdVoteCfgSet, sized_of hlen]
  rfl

theorem voteCfgSet_badType (hbad : (bodyTypes r).all typeOk = false) : exec (.voteCfgSet r) s = .next (refusedWith 0x0312 4 r s) := by
  rw [voteCfgSet_exec htakes hlen, firstFail_fails (by rw [hbad]; rfl), finish_no]
  rfl

theorem voteCfgSet_done (hgood : (bodyTypes r).all typeOk = true) (hnodup : (bodyTypes r).Nodup)
    (hquiet : flag r.body 0 4 = false ∨ s.get F.vote_SUSPECT 0 = 0) :
    exec (.voteCfgSet r) s = .next (answered 0x0312 true r (setVoter r s) []) := by
  have hfirst : (!(bodyTypes r).all typeOk) = false := by rw [hgood]; rfl
  have hsecond : ((enabledTypes r).eraseDups.length != (enabledTypes r).length) = false := by
    rw [eraseDups_of_nodup (hnodup.sublist (enabledTypes_sublist r)), bne_self_eq_false]
  have hidle : (setVoter r s).on F.vote_AUTO_OUT 0 = false ∨ (setVoter r s).get F.vote_SUSPECT 0 = 0 := by
    refine hquiet.imp (fun h => ?_) (fun h => ?_)
    · rw [State.on, setVoter_get r s F.vote_AUTO_OUT (by decide)]
      exact h
    · refine (get_of_reg (setVoter_others r s _ (by decide) (by decide))).trans h
  rw [voteCfgSet_exec htakes hlen, firstFail_passes hfirst, firstFail_passes hsecond, firstFail_nil, finish_ok, autoOut_idle hidle]

end

theorem voteStatusGet_answers {r : Req} {s : State} (htakes : takes s r = true) (hlen : r.body.length = 0) :
    exec (.voteStatusGet r) s = .next (answered 0x0313 false r s
      (readWords s .vote 0 4 1 ++ readWords s .vote 0 0x30 1 ++ readWords s .vote 0 8 1 ++ readWords s .vote 0 0x10 8)) := by
  rw [exec, execVoteStatusGet, cmdRow_taken htakes, cmdVoteStatusGet, sized_of hlen, finish_ok]

end Sys2Proof.Machine
end

section
/-! PROOF. PARSE_SET and PARSE_STATUS_GET (R153, R499): one word put into the settings of each source named. -/

namespace Sys2Proof.Machine

/-! ### One word for every source -/

/-- A word put into PARSE_CFG of each source. -/
def setParsers (w : Word) (ids : List Nat) (s : State) : State := ids.foldl (fun v n => putReg v .parse n 0 w) s

/-- With CNT_CLR and SEQ_CLR 0 only the settings are written. -/
theorem writeParseCfg_plain (s : State) (src : Nat) {w : Word} (hcnt : w.toNat.testBit 4 = false) (hseq : w.toNat.testBit 5 = false) :
    writeParseCfg s src w = putReg s .parse src 0 w := by
  simp only [writeParseCfg, hcnt, hseq, Bool.false_eq_true, if_false]

theorem setParsers_only (w : Word) (ids : List Nat) (s : State) : regsOnly s (setParsers w ids s) := by
  induction ids generalizing s with
  | nil => exact regsOnly_refl s
  | cons n ids ih => exact regsOnly_trans (t := putReg s .parse n 0 w) rfl (ih _)

/-- A register that is no listed source's PARSE_CFG stands. -/
theorem setParsers_reg (w : Word) {ids : List Nat} (hids : ∀ n ∈ ids, n < 65536) (s : State) {q : RegAddr}
    (hq : q.inst < 65536 ∧ q.off < 65536) (hout : ∀ n ∈ ids, q ≠ ⟨.parse, n, 0⟩) : (setParsers w ids s).reg q = s.reg q := by
  induction ids generalizing s with
  | nil => rfl
  | cons n ids ih =>
    obtain ⟨hn, hrest⟩ := List.forall_mem_cons.1 hids
    obtain ⟨hne, hout⟩ := List.forall_mem_cons.1 hout
    exact (ih hrest (putReg s .parse n 0 w) hout).trans
      (State.reg_setReg_ne s hn (by decide : 0 < 65536) hq.1 hq.2 hne _)

/-- The settings that a word gives a source listed. -/
theorem setParsers_get (v : Nat) {ids : List Nat} (hids : ∀ n ∈ ids, n < 65536) (s : State) {f : Field}
    (hf : f ∈ [F.parse_NMEA_EN, F.parse_LONG_EN, F.parse_CK_OPTIONAL, F.parse_HEX_LOWER]) {n : Nat} (hn : n ∈ ids) :
    (setParsers (BitVec.ofNat 32 v) ids s).get f n = bits v f.lo f.width := by
  have hwhole : ∀ f ∈ [F.parse_NMEA_EN, F.parse_LONG_EN, F.parse_CK_OPTIONAL, F.parse_HEX_LOWER], f.blk = .parse ∧ f.off = 0 ∧
      f.fits ∧ ∀ k, k < f.width → (regMask ⟨.parse, 0, 0⟩ (fun a => a == .rw)).getLsbD (f.lo + k) = true := by decide
  obtain ⟨hblk, hoff, hfits, hrw⟩ := hwhole f hf
  have haddr : ∀ m, f.addr m = ⟨.parse, m, 0⟩ := fun m => by rw [Field.addr, hblk, hoff]
  induction ids generalizing s with
  | nil => cases hn
  | cons m ids ih =>
    obtain ⟨hm, hrest⟩ := List.forall_mem_cons.1 hids
    by_cases hlater : n ∈ ids
    · exact ih hrest (putReg s .parse m 0 (BitVec.ofNat 32 v)) hlater
    · obtain rfl : n = m := (List.mem_cons.1 hn).resolve_right hlater
      have hput := get_putReg s f n v hfits (by rw [haddr]; exact hrw)
      rw [hblk, hoff] at hput
      refine (get_of_reg (setParsers_reg _ hrest (putReg s .parse n 0 _) ?_ fun k hk => ?_)).trans hput
      · rw [haddr]
        exact ⟨hm, (by decide : 0 < 65536)⟩
      · rw [haddr]
        exact fun e => hlater (by rw [show n = k from congrArg RegAddr.inst e]; exact hk)

/-- Of a part's sources only their PARSE_CFG moves. -/
theorem setParsers_others (w : Word) {ids : List Nat} (hids : ∀ n ∈ ids, n < 65536) (s : State) :
    keepsRegsOutside (fun q => q.blk == .parse && q.off == 0 && ids.contains q.inst) s (setParsers w ids s) := by
  intro q hq hout
  refine setParsers_reg w hids s (wfReg_size hq) fun n hn e => ?_
  subst e
  simp [hn] at hout

/-! ### The commands -/

section

variable {r : Req} {s : State} (htakes : takes s r = true)
include htakes

theorem parseSet_empty (hlen : r.body.length = 8) (hcount : rangeCount r.body = 0) :
    exec (.parseSet r) s = .next (answered 0x030C false r s []) := by
  have hnone : (rangeOf r.body).isEmpty = true := by rw [rangeOf, hcount]; rfl
  rw [exec, execParseSet, cmdRow_taken htakes, cmdParseSet, sized_of hlen, if_pos hnone, finish_okSame]

theorem parseSet_done (hlen : r.body.length = 8) (hcount : 0 < rangeCount r.body)
    (hids : ∀ n ∈ rangeOf r.body, s.part.hasSource n = true ∧ n / 4096 = rangeFirst r.body / 4096)
    (hcnt : flag r.body 4 4 = false) (hseq : flag r.body 4 5 = false) :
    exec (.parseSet r) s = .next (answered 0x030C true r (setParsers (bodyWord r 4) (rangeOf r.body) s) []) := by
  have hsome : (rangeOf r.body).isEmpty = false := by
    rw [List.isEmpty_eq_false_iff, ← List.length_pos_iff, rangeOf, List.length_map, List.length_range]
    exact hcount
  have hone : (rangeOf r.body).any (fun n => n / 4096 != rangeFirst r.body / 4096) = false := by
    rw [List.any_eq_false]
    intro n hn
    rw [(hids n hn).2, bne_self_eq_false]
    decide
  have hbit : ∀ b, flag r.body 4 b = false → (bodyWord r 4).toNat.testBit b = false := fun b hb => by
    rw [bodyWord_toNat, Nat.testBit_eq_decide_div_mod_eq]
    exact hb
  have hfold : (rangeOf r.body).foldl (fun v n => writeParseCfg v n (bodyWord r 4)) s = setParsers (bodyWord r 4) (rangeOf r.body) s :=
    congrArg (fun g : State → Nat → State => (rangeOf r.body).foldl g s)
      (funext fun v => funext fun n => writeParseCfg_plain v n (hbit 4 hcnt) (hbit 5 hseq))
  rw [exec, execParseSet, cmdRow_taken htakes, cmdParseSet, sized_of hlen]
  dsimp only
  rw [hsome, if_neg Bool.false_ne_true, firstFail_append (sourceChecks_pass fun n hn => (hids n hn).1), firstFail_passes hone,
    firstFail_nil, finish_ok, hfold]

theorem parseSet_sets (hlen : r.body.length = 8) (hcount : 0 < rangeCount r.body)
    (hids : ∀ n ∈ rangeOf r.body, s.part.hasSource n = true ∧ n / 4096 = rangeFirst r.body / 4096)
    (hcnt : flag r.body 4 4 = false) (hseq : flag r.body 4 5 = false) :
    ∃ t, exec (.parseSet r) s = .next (answered 0x030C true r t []) ∧ t = { s with regs := t.regs } ∧
      (∀ n ∈ rangeOf r.body, t.get F.parse_NMEA_EN n = fld r.body 4 0 1 ∧ t.get F.parse_LONG_EN n = fld r.body 4 1 1 ∧
        t.get F.parse_CK_OPTIONAL n = fld r.body 4 2 1 ∧ t.get F.parse_HEX_LOWER n = fld r.body 4 3 1) ∧
      keepsRegsOutside (fun q => q.blk == .parse && q.off == 0 && (rangeOf r.body).contains q.inst) s t := by
  have hsize : ∀ n ∈ rangeOf r.body, n < 65536 := fun n hn => hasSource_lt (hids n hn).1
  refine ⟨_, parseSet_done htakes hlen hcount hids hcnt hseq, setParsers_only _ _ s, fun n hn => ⟨?_, ?_, ?_, ?_⟩,
    setParsers_others _ hsize s⟩
  · exact setParsers_get _ hsize s (f := F.parse_NMEA_EN) (by decide) hn
  · exact setParsers_get _ hsize s (f := F.parse_LONG_EN) (by decide) hn
  · exact setParsers_get _ hsize s (f := F.parse_CK_OPTIONAL) (by decide) hn
  · exact setParsers_get _ hsize s (f := F.parse_HEX_LOWER) (by decide) hn

theorem parseStatusGet_answers (hlen : r.body.length = 4) (hsrc : s.part.hasSource (fld r.body 0 0 16) = true) :
    exec (.parseStatusGet r) s = .next (answered 0x030D false r s (readWords s .parse (fld r.body 0 0 16) 0 15)) := by
  have hpass : ∀ c ∈ sourceChecks s [fld r.body 0 0 16], c.1 = false := sourceChecks_pass (by simpa using hsrc)
  rw [exec, execParseStatusGet, cmdRow_taken htakes, cmdParseStatusGet, sized_of hlen]
  exact congrArg _ ((congrArg _ (firstFail_pass hpass s _)).trans (finish_ok _ _ _ _ _))

end

end Sys2Proof.Machine
end

section
/-! PROOF. ROUTER_ELIGIBLE_SET (R156, R501): the set replaced, joined or reduced, and its refusals. -/

namespace Sys2Proof.Machine

/-- The sources that a body names. -/
def bodySources (r : Req) : List Nat := (List.range (rangeCount r.body)).map (fun i => u16 r.body (4 + 2 * i))

/-- The eligible set that a body asks for. -/
def eligibleAfter (r : Req) (s : State) : List Nat := newEligible s (fld r.body 0 0 2) (bodySources r)

/-- A body's LENGTH is not that of its sources, or they are more than 48. -/
def sourcesMisfit (r : Req) : Bool :=
  decide (48 < rangeCount r.body) || r.body.length != 4 + (2 * rangeCount r.body + 3) / 4 * 4

/-- Operation 0 replaces the set, 1 joins it, 2 takes from it. -/
theorem mem_newEligible (s : State) (op : Nat) (ids : List Nat) (n : Nat) : n ∈ newEligible s op ids ↔
    (if op = 0 then n ∈ ids else if op = 1 then n ∈ s.eligible ∨ n ∈ ids else n ∈ s.eligible ∧ n ∉ ids) := by
  unfold newEligible
  by_cases h0 : op = 0
  · simp [h0]
  · by_cases h1 : op = 1
    · simp only [h1, Nat.reduceBEq, Bool.false_eq_true, if_false, beq_self_eq_true, if_true, Nat.one_ne_zero, List.mem_append,
        List.mem_filter, List.mem_eraseDups, List.contains_eq_mem, Bool.not_eq_true', decide_eq_false_iff_not]
      tauto
    · simp [h0, h1]

section

variable {r : Req} {s : State} (htakes : takes s r = true) (hids : ∀ n ∈ bodySources r, s.part.hasSource n = true)
include htakes hids

theorem routerEligibleSet_exec : exec (.routerEligibleSet r) s = .next (finish 0x0306 true r none false
    (lengthCheck (sourcesMisfit r) s (firstFail s
      [(fld r.body 0 0 2 == 3, St.badArg), (decide (48 < (eligibleAfter r s).length), St.noSpace),
        (!(eligibleAfter r s).isEmpty && !s.shedUp 3, St.state)]
      (fun t => ok { t with eligible := eligibleAfter r s } (le 4 (eligibleAfter r s).length))))) := by
  have hsources : ∀ (l : List (Bool × Nat)) (f : State → CmdOut),
      firstFail s (sourceChecks s (bodySources r) ++ l) f = firstFail s l f := firstFail_append (sourceChecks_pass hids) s
  rw [exec, execRouterEligibleSet, cmdRow_taken htakes, ← hsources]
  rfl

theorem routerEligibleSet_badLength (hbad : sourcesMisfit r = true) :
    exec (.routerEligibleSet r) s = .next (refusedWith 0x0306 3 r s) := by
  rw [routerEligibleSet_exec htakes hids, lengthCheck_fails hbad, finish_no]
  · rfl
  · simp only [firstFail_cons, firstFail_nil]
    split_ifs <;> rfl

section

variable (hfit : sourcesMisfit r = false)
include hfit

theorem routerEligibleSet_badOp (hop : fld r.body 0 0 2 = 3) : exec (.routerEligibleSet r) s = .next (refusedWith 0x0306 4 r s) := by
  rw [routerEligibleSet_exec htakes hids, lengthCheck_passes hfit, firstFail_fails (beq_iff_eq.2 hop), finish_no]
  rfl

theorem routerEligibleSet_noSpace (hop : fld r.body 0 0 2 ≠ 3) (hbig : 48 < (eligibleAfter r s).length) :
    exec (.routerEligibleSet r) s = .next (refusedWith 0x0306 5 r s) := by
  rw [routerEligibleSet_exec htakes hids, lengthCheck_passes hfit, firstFail_passes (beq_eq_false_iff_ne.2 hop),
    firstFail_fails (decide_eq_true hbig), finish_no]
  rfl

theorem routerEligibleSet_done (hop : fld r.body 0 0 2 ≠ 3) (hsmall : (eligibleAfter r s).length ≤ 48)
    (hup : s.shedUp 3 = true) : exec (.routerEligibleSet r) s =
      .next (answered 0x0306 true r { s with eligible := eligibleAfter r s }
        (le 4 (eligibleAfter r s).length)) := by
  have hstate : (!(eligibleAfter r s).isEmpty && !s.shedUp 3) = false := by rw [hup, Bool.not_true, Bool.and_false]
  rw [routerEligibleSet_exec htakes hids, lengthCheck_passes hfit, firstFail_passes (beq_eq_false_iff_ne.2 hop),
    firstFail_passes (decide_eq_false (Nat.not_lt.2 hsmall)), firstFail_passes hstate, firstFail_nil, finish_ok]

end

end

end Sys2Proof.Machine
end

section
/-! PROOF. ROUTER_BIND (R169, R230, R231): the words a listener's binding holds, and the stalls that it reads. -/

namespace Sys2Proof.Machine

/-! ### A binding's stalls (R169) -/

/-- The stalls of two words: one for each class that the second enables. -/
def wordStalls (v0 v1 : Nat) : List Nat := (List.range 4).filterMap (fun c => if v1.testBit c then some (bits v0 (8 * c) 8) else none)

theorem boundStalls_words (w0 w1 : Word) : (boundStalls [w0, w1]).map (·.1) = wordStalls w0.toNat w1.toNat := by
  simp only [boundStalls, wordStalls, List.map_filterMap, List.getD_cons_zero, List.getD_cons_succ]
  refine List.filterMap_congr fun c _ => ?_
  split <;> rfl

/-- Only the four enables of the second word count. -/
theorem wordStalls_enables (v0 v1 : Nat) : wordStalls v0 (v1 &&& 0xF) = wordStalls v0 v1 := by
  refine List.filterMap_congr fun c hc => ?_
  have hbit : (v1 &&& 0xF).testBit c = v1.testBit c := by
    rw [Nat.testBit_and, show (0xF : Nat) = 2 ^ 4 - 1 from rfl, Nat.testBit_two_pow_sub_one, decide_eq_true (List.mem_range.1 hc),
      Bool.and_true]
  rw [hbit]

theorem wordStalls_lt {v0 v1 q : Nat} (hq : q ∈ wordStalls v0 v1) : q < 256 := by
  obtain ⟨c, -, hc⟩ := List.mem_filterMap.1 hq
  split at hc
  · cases hc
    exact Nat.mod_lt _ (by decide)
  · cases hc

theorem bodyWords_pair (r : Req) : bodyWords r 4 2 = [bodyWord r 4, bodyWord r 8] := by
  simp [bodyWords, toWords, bodyWord, u32, slice, List.range_succ]

/-! ### Stalls bound (R230, R231) -/

/-- The registers of the stalls listed that a binding writes. -/
abbrev readerFields (qs : List Nat) : List (Field × Nat) := qs.flatMap (fun q => [(F.stall_READER, q), (F.stall_STATE, q)])

/-- From `s` to `t` the stalls listed have got a listener as their reader and run; the rest stands. -/
structure StallsBound (qs : List Nat) (s t : State) : Prop where
  rest : t = { s with regs := t.regs, stalls := t.stalls }
  heads : ∀ k, t.stall k = { s.stall k with head := (t.stall k).head }
  others : ∀ k, k ∉ qs → t.stall k = s.stall k
  reads : ∀ q ∈ qs, t.get F.stall_READER q = 3 ∧ (stallOn s q = true → t.get F.stall_STATE q = 2)
  keeps : keepsRegsBut (readerFields qs) s t

/-- The registers of a stall that is not bound stand, and so do other blocks'. -/
theorem StallsBound.get {qs : List Nat} {s t : State} (h : StallsBound qs s t) (f : Field) {k : Nat} (hk : k < 65536)
    (hf : (f.off % 4 == 0 && decide (f.off < 4096)) = true) (hout : f.blk = .stall → k ∉ qs) : t.get f k = s.get f k := by
  simp only [Bool.and_eq_true, beq_iff_eq, decide_eq_true_eq] at hf
  refine get_of_reg (reg_of_keeps h.keeps (by simp [wfReg, Field.addr, hf, hk]) fun e he heq => ?_)
  obtain ⟨q, hq, hfield⟩ := List.mem_flatMap.1 he
  have hname : e.1.blk = .stall ∧ e.2 = q := by
    simp only [List.mem_cons, List.not_mem_nil, or_false] at hfield
    obtain rfl | rfl := hfield <;> exact ⟨rfl, rfl⟩
  have hblk : e.1.blk = f.blk := congrArg RegAddr.blk heq
  have hinst : e.2 = k := congrArg RegAddr.inst heq
  rw [hname.2] at hinst
  exact hout (hblk.symm.trans hname.1) (hinst ▸ hq)

theorem StallsBound.stallOn {qs : List Nat} {s t : State} (h : StallsBound qs s t) {k : Nat} (hk : k < 65536) (hout : k ∉ qs) :
    stallOn t k = stallOn s k := by
  rw [Machine.stallOn, Machine.stallOn, State.shedUp, State.shedUp, h.get F.stall_SIZE_LOG2 hk rfl (fun _ => hout),
    h.get F.pwr_UP (by decide) rfl (fun e => absurd e (by decide))]

theorem StallsBound.nil (s : State) : StallsBound [] s s :=
  ⟨rfl, fun _ => rfl, fun _ _ => rfl, fun _ h => absurd h List.not_mem_nil, keepsRegsBut_refl _ s⟩

theorem StallsBound.cons {q : Nat} {qs : List Nat} {s t u : State} (hs : StallsBound [q] s t) (ht : StallsBound qs t u) (hq : q ∉ qs)
    (hlt : ∀ k ∈ q :: qs, k < 65536) : StallsBound (q :: qs) s u := by
  have hq16 := hlt q List.mem_cons_self
  refine ⟨by rw [ht.rest, hs.rest], fun k => by rw [ht.heads k, hs.heads k], fun k hk => ?_, fun k hk => ?_, ?_⟩
  · obtain ⟨hne, hout⟩ := not_or.1 (mt List.mem_cons.2 hk)
    rw [ht.others k hout, hs.others k (mt List.mem_singleton.1 hne)]
  · obtain rfl | hk := List.mem_cons.1 hk
    · rw [ht.get F.stall_READER hq16 rfl (fun _ => hq), ht.get F.stall_STATE hq16 rfl (fun _ => hq)]
      exact hs.reads k List.mem_cons_self
    · have hne : k ∉ [q] := mt List.mem_singleton.1 fun e => hq (e ▸ hk)
      rw [← hs.stallOn (hlt k (List.mem_cons_of_mem q hk)) hne]
      exact ht.reads k hk
  · exact keepsRegsBut_trans (keepsRegsBut_mono hs.keeps fun e he => List.mem_append_left _ (by simpa using he))
      (keepsRegsBut_mono ht.keeps fun e he => List.mem_append_right _ he)

/-! ### One stall -/

/-- READER 3 for a stall, and RUN. -/
def bindStall (s : State) (q : Nat) : State := runStall (setReader s q 3) q

theorem stall_setReader_self (s : State) (q r : Nat) :
    (setReader s q r).stall q = { s.stall q with head := ((setReader s q r).stall q).head } := by
  have hfill : (setReader s q r).stall q = _ := tget_tput_self s.stalls q _ _
  rw [hfill]
  rfl

theorem stall_setReader_ne (s : State) {q k : Nat} (r : Nat) (h : k ≠ q) : (setReader s q r).stall k = s.stall k :=
  tget_tput_ne _ h _ _ _

theorem runStall_only (s : State) (q : Nat) : regsOnly s (runStall s q) := by
  unfold runStall
  split <;> rfl

theorem stall_of_regsOnly {s t : State} (h : regsOnly s t) (k : Nat) : t.stall k = s.stall k := by
  unfold regsOnly at h
  rw [h]
  rfl

theorem runStall_reader (s : State) (q : Nat) : (runStall s q).get F.stall_READER q = s.get F.stall_READER q := by
  unfold runStall
  split
  · exact State.get_set_off s F.stall_STATE F.stall_READER q q 2 (by decide)
  · rfl

theorem runStall_runs {s : State} {q : Nat} (h : stallOn s q = true) : (runStall s q).get F.stall_STATE q = 2 := by
  unfold runStall
  split
  · exact State.get_set_self s F.stall_STATE (by decide) q 2
  · next hrun => simpa [h] using hrun

theorem setReader_stallOn (s : State) {q : Nat} (r : Nat) : stallOn (setReader s q r) q = stallOn s q := by
  have hsize : (setReader s q r).get F.stall_SIZE_LOG2 q = s.get F.stall_SIZE_LOG2 q :=
    State.get_set_beside s F.stall_READER F.stall_SIZE_LOG2 q r rfl rfl (by decide) (by decide)
  have hup : (setReader s q r).get F.pwr_UP 0 = s.get F.pwr_UP 0 := get_set_block s F.stall_READER F.pwr_UP q 0 r (by decide)
  rw [stallOn, stallOn, State.shedUp, State.shedUp, hsize, hup]

theorem bindStall_bound (s : State) {q : Nat} (hq : q < 65536) : StallsBound [q] s (bindStall s q) := by
  have hrun := runStall_only (setReader s q 3) q
  have hstall : ∀ k, (bindStall s q).stall k = (setReader s q 3).stall k := stall_of_regsOnly hrun
  refine ⟨?_, fun k => ?_, fun k hk => ?_, fun k hk => ?_, ?_⟩
  · unfold regsOnly at hrun
    rw [bindStall, hrun]
    rfl
  · by_cases hk : k = q
    · rw [hstall, hk]
      exact stall_setReader_self s q 3
    · rw [hstall, stall_setReader_ne s 3 hk]
  · rw [hstall, stall_setReader_ne s 3 (mt List.mem_singleton.2 hk)]
  · obtain rfl := List.mem_singleton.1 hk
    refine ⟨(runStall_reader _ k).trans (State.get_set_self s F.stall_READER (by decide) k 3), fun hon => ?_⟩
    exact runStall_runs ((setReader_stallOn s 3).trans hon)
  · have hread : keepsRegsBut (readerFields [q]) s (setReader s q 3) :=
      keepsRegsBut_set s F.stall_READER q 3 (by simp) hq (by decide)
    refine keepsRegsBut_trans hread ?_
    unfold bindStall runStall
    split
    · exact keepsRegsBut_set _ F.stall_STATE q 2 (by simp) hq (by decide)
    · exact keepsRegsBut_refl _ _

theorem bindStalls_bound {qs : List Nat} (hnodup : qs.Nodup) (hlt : ∀ q ∈ qs, q < 65536) (s : State) :
    StallsBound qs s (qs.foldl bindStall s) := by
  induction qs generalizing s with
  | nil => exact StallsBound.nil s
  | cons q qs ih =>
    obtain ⟨hq, hrest⟩ := List.nodup_cons.1 hnodup
    obtain ⟨hq16, hlt16⟩ := List.forall_mem_cons.1 hlt
    exact (bindStall_bound s hq16).cons (ih hrest hlt16 (bindStall s q)) hq hlt

/-- A listener's binding is its two words, and the stalls it names are bound. -/
theorem bindListener_eq (s : State) (l : Nat) (w0 w1 : Word) : ∃ left, bindListener s l w0 w1 =
    (wordStalls w0.toNat w1.toNat).foldl bindStall { s with bindings := tput s.bindings l [w0, w1 &&& 0xF] [0, 0], unbound := left } := by
  have hstalls : (boundStalls [w0, w1 &&& 0xF]).map (·.1) = wordStalls w0.toNat w1.toNat := by
    rw [boundStalls_words, BitVec.toNat_and]
    exact wordStalls_enables _ _
  rw [← hstalls]
  exact ⟨_, rfl⟩

/-- What a binding of distinct stalls leaves: its words as written, other listeners' bindings, and its stalls bound. -/
theorem bindListener_binds (s : State) (l : Nat) (w0 w1 : Word) (hnodup : (wordStalls w0.toNat w1.toNat).Nodup) :
    ∃ bindings unbound,
      StallsBound (wordStalls w0.toNat w1.toNat) { s with bindings := bindings, unbound := unbound } (bindListener s l w0 w1) ∧
      (bindListener s l w0 w1).binding l = [w0, w1 &&& 0xF] ∧ ∀ k, k ≠ l → (bindListener s l w0 w1).binding k = s.binding k := by
  obtain ⟨left, hbind⟩ := bindListener_eq s l w0 w1
  have hbound := bindStalls_bound hnodup (fun q hq => Nat.lt_trans (wordStalls_lt hq) (by decide))
    { s with bindings := tput s.bindings l [w0, w1 &&& 0xF] [0, 0], unbound := left }
  rw [← hbind] at hbound
  have hkeep : (bindListener s l w0 w1).bindings = tput s.bindings l [w0, w1 &&& 0xF] [0, 0] := by rw [hbound.rest]
  refine ⟨_, left, hbound, ?_, fun k hk => ?_⟩
  · rw [State.binding, hkeep, tget_tput_self]
  · rw [State.binding, hkeep, tget_tput_ne _ hk]
    rfl

/-! ### The command -/

/-- The stalls that a body names. -/
def bodyStalls (r : Req) : List Nat := wordStalls (u32 r.body 4) (u32 r.body 8)

section

variable {r : Req} {s : State} (htakes : takes s r = true) (hlen : r.body.length = 12)
include htakes hlen

theorem routerBind_exec : exec (.routerBind r) s = .next (finish 0x0307 true r none false (firstFail s
    [(listenerAbsent s (fld r.body 0 0 7), St.notFitted), (decide (98 ≤ fld r.body 0 0 7), St.badArg),
      ((bodyStalls r).any (fun q => decide (240 ≤ q)) || (bodyStalls r).eraseDups.length != (bodyStalls r).length ||
        (bodyStalls r).any (boundElsewhere s (fld r.body 0 0 7)), St.badArg),
      ((bodyStalls r).any (fun q => [1, 2, 4].contains (s.get F.stall_READER q)), St.state)]
    (fun u => ok (bindListener u (fld r.body 0 0 7) (bodyWord r 4) (bodyWord r 8)) []))) := by
  have hstalls : (boundStalls [bodyWord r 4, bodyWord r 8]).map (·.1) = bodyStalls r := by
    rw [boundStalls_words, bodyWord_toNat, bodyWord_toNat, bodyStalls]
  rw [exec, execRouterBind, cmdRow_taken htakes, cmdBind, sized_of hlen, bodyWords_pair]
  dsimp only
  rw [hstalls]
  rfl

theorem routerBind_noListener (hl : 98 ≤ fld r.body 0 0 7) : exec (.routerBind r) s = .next (refusedWith 0x0307 4 r s) := by
  have hthere : listenerAbsent s (fld r.body 0 0 7) = false := by simp [listenerAbsent]; omega
  rw [routerBind_exec htakes hlen, firstFail_passes hthere, firstFail_fails (decide_eq_true hl), finish_no]
  rfl

theorem routerBind_notFitted (hl : (s.part.lanes ≤ fld r.body 0 0 7 ∧ fld r.body 0 0 7 < 96) ∨
    (96 + s.part.ports ≤ fld r.body 0 0 7 ∧ fld r.body 0 0 7 < 98)) : exec (.routerBind r) s = .next (refusedWith 0x0307 7 r s) := by
  have habsent : listenerAbsent s (fld r.body 0 0 7) = true := by simpa [listenerAbsent] using hl
  rw [routerBind_exec htakes hlen, firstFail_fails habsent, finish_no]
  rfl

section

variable (hl : fld r.body 0 0 7 < s.part.lanes ∨ (96 ≤ fld r.body 0 0 7 ∧ fld r.body 0 0 7 < 96 + s.part.ports))
include hl

omit htakes hlen in
/-- A fitted listener passes the checks on its number. -/
theorem listener_fitted : listenerAbsent s (fld r.body 0 0 7) = false ∧ decide (98 ≤ fld r.body 0 0 7) = false := by
  have hlanes := lanes_le s.part
  have hports : s.part.ports ≤ 2 := by cases s.part <;> decide
  constructor
  · simp [listenerAbsent]
    omega
  · exact decide_eq_false (by omega)

theorem routerBind_hubStall (hq : ∃ q ∈ bodyStalls r, 240 ≤ q) : exec (.routerBind r) s = .next (refusedWith 0x0307 4 r s) := by
  obtain ⟨hthere, hnumber⟩ := listener_fitted hl
  have hhub : (bodyStalls r).any (fun q => decide (240 ≤ q)) = true := by simpa using hq
  rw [routerBind_exec htakes hlen, firstFail_passes hthere, firstFail_passes hnumber,
    firstFail_fails (by rw [hhub, Bool.true_or, Bool.true_or]), finish_no]
  rfl

theorem routerBind_done (hqs : ∀ q ∈ bodyStalls r, q < 240 ∧ boundElsewhere s (fld r.body 0 0 7) q = false ∧
    s.get F.stall_READER q ∉ [1, 2, 4]) (hnodup : (bodyStalls r).Nodup) : exec (.routerBind r) s =
      .next (answered 0x0307 true r (bindListener s (fld r.body 0 0 7) (bodyWord r 4) (bodyWord r 8)) []) := by
  obtain ⟨hthere, hnumber⟩ := listener_fitted hl
  have hhub : (bodyStalls r).any (fun q => decide (240 ≤ q)) = false :=
    List.any_eq_false.2 fun q hq => by simpa using (hqs q hq).1
  have helse : (bodyStalls r).any (boundElsewhere s (fld r.body 0 0 7)) = false :=
    List.any_eq_false.2 fun q hq => by rw [(hqs q hq).2.1]; decide
  have hread : (bodyStalls r).any (fun q => [1, 2, 4].contains (s.get F.stall_READER q)) = false :=
    List.any_eq_false.2 fun q hq => by simpa using (hqs q hq).2.2
  rw [routerBind_exec htakes hlen, firstFail_passes hthere, firstFail_passes hnumber,
    firstFail_passes (by rw [hhub, helse, eraseDups_of_nodup hnodup, bne_self_eq_false]; rfl), firstFail_passes hread, firstFail_nil,
    finish_ok]

theorem routerBind_binds (hqs : ∀ q ∈ bodyStalls r, q < 240 ∧ boundElsewhere s (fld r.body 0 0 7) q = false ∧
    s.get F.stall_READER q ∉ [1, 2, 4]) (hnodup : (bodyStalls r).Nodup) :
    ∃ t, exec (.routerBind r) s = .next (answered 0x0307 true r t []) ∧
      t = { s with regs := t.regs, bindings := t.bindings, unbound := t.unbound, stalls := t.stalls } ∧
      (∀ k, t.stall k = { s.stall k with head := (t.stall k).head }) ∧ (∀ k, k ∉ bodyStalls r → t.stall k = s.stall k) ∧
      (t.binding (fld r.body 0 0 7)).getD 0 0 = BitVec.ofNat 32 (u32 r.body 4) ∧
      (boundStalls (t.binding (fld r.body 0 0 7))).map (·.1) = bodyStalls r ∧
      (∀ k, k ≠ fld r.body 0 0 7 → t.binding k = s.binding k) ∧
      (∀ q ∈ bodyStalls r, t.get F.stall_READER q = 3 ∧ (stallOn s q = true → t.get F.stall_STATE q = 2)) ∧
      keepsRegsBut (readerFields (bodyStalls r)) s t := by
  have hwords : wordStalls (bodyWord r 4).toNat (bodyWord r 8).toNat = bodyStalls r := by
    rw [bodyWord_toNat, bodyWord_toNat, bodyStalls]
  obtain ⟨_, _, hbound, hown, hothers⟩ := bindListener_binds s (fld r.body 0 0 7) (bodyWord r 4) (bodyWord r 8) (by rwa [hwords])
  rw [hwords] at hbound
  refine ⟨_, routerBind_done htakes hlen hl hqs hnodup, ?_, hbound.heads, hbound.others, ?_, ?_, hothers, hbound.reads, hbound.keeps⟩
  · rw [hbound.rest]
  · rw [hown]
    rfl
  · rw [hown, boundStalls_words, BitVec.toNat_and]
    exact (wordStalls_enables _ _).trans hwords

end

end

end Sys2Proof.Machine
end

section
/-! PROOF. ROUTER_SENTENCE_SEND (R124, R500): a body of a wrong length, and the host's sentence that opens in the parser. -/

namespace Sys2Proof.Machine

/-! ### A source that is no lane role (R91, R126) -/

theorem ringShow_notRole (s : State) {src : Nat} (h : isRole src = false) : ringShow s src = s := by
  rw [ringShow, h]
  rfl

/-- A byte without a place of its own takes none where the source has no ring. -/
theorem stageLast_notRole (s : State) {src : Nat} (h : isRole src = false) (before : Nat) {i : InByte} (hspot : i.spot = none) :
    stageLast s src before i = s := by
  unfold stageLast
  dsimp only
  split
  · rfl
  · split
    · rfl
    · split
      · next hsome => rw [hspot] at hsome; cases hsome
      · rw [if_neg (by rw [h]; decide)]
      · rfl

/-- A sentence of such a source opens in its context alone. -/
theorem openedAt_notRole (s : State) {src : Nat} (h : isRole src = false) {i : InByte} (hspot : i.spot = none) :
    openedAt s src i = s.putSource src { s.source src with
      sent := some (opening s src i), idx := if i.tsSrc == 1 then (s.source src).idx + 1 else 0 } := by
  rw [openedAt, stageLast_notRole _ h 0 hspot, openSentence]
  exact ringShow_notRole _ h

theorem discardOpen_none {s : State} {src : Nat} (hsent : (s.source src).sent = none) (restart : Bool) :
    discardOpen s src restart = s := by
  rw [discardOpen]
  simp only [hsent]

/-- A start character that reaches such a source with no sentence open. -/
theorem parserTake_fresh {s : State} {src : Nat} (h : isRole src = false) {i : InByte} (hspot : i.spot = none) (hlast : i.last = false)
    (hsent : (s.source src).sent = none) (hstart : isStart (s.reg (F.parse_NMEA_EN.addr src)) i.data = true) :
    parserTake s src i false false = s.putSource src { s.source src with
      sent := some (opening s src i), idx := if i.tsSrc == 1 then (s.source src).idx + 1 else 0 } := by
  have hopens : isStart (startCfg s src) i.data = true := by
    rw [startCfg, hsent]
    exact hstart
  rw [parserTake_opens hlast hopens, discardOpen_none hsent, openedAt_notRole s h hspot]

/-! ### The host's turn (R500) -/

/-- A byte of a host sentence as it reaches the parser. -/
def hostByte (s : State) (b : Byte) : InByte := { data := b, stamp := s.stamp, tsSrc := 2 }

/-- A host sentence's command, before and after its sentence has begun. -/
def sentenceWait (r : Req) (begun : Bool) : Wait := { entry := none, opcode := 0x0301, req := r, on := .sentence begun }

/-- One host sentence's command waits, and no other command. -/
def sentenceWaiting (r : Req) (begun : Bool) (s : State) : State := { s with waits := [sentenceWait r begun] }

theorem hostNext_due (r : Req) {s : State} (hcmds : s.cmds = []) : hostNext (sentenceWaiting r false s) = some (sentenceWait r false) := by
  simp [hostNext, hostBusy, sentenceWaiting, sentenceWait, hcmds]

/-- The sentence that the host's first byte opens. -/
def hostOpening (r : Req) (s : State) : Sentence := opening (sentenceWaiting r true s) 0x2000 (hostByte s (byteAt r.body 0))

/-- The parser has the host's first byte. -/
def hostBegun (r : Req) (s : State) : State :=
  (sentenceWaiting r true s).putSource 0x2000 { s.source 0x2000 with sent := some (hostOpening r s), idx := 0 }

/-- The parser has the host's first byte, and the rest wait at its entry. -/
def hostStarted (r : Req) (s : State) : State :=
  (hostBegun r s).putSource 0x2000 { s.source 0x2000 with
    sent := some (hostOpening r s), idx := 0, input := (s.source 0x2000).input ++ (r.body.map (hostByte s)).drop 1 }

theorem startHostSentence_due {r : Req} {s : State} (hcmds : s.cmds = []) (hup : s.shedUp 2 = true)
    (hsent : (s.source 0x2000).sent = none) (hsound : hostSentenceOk (s.reg (F.parse_NMEA_EN.addr 0x2000)) r.body = true) :
    startHostSentence (sentenceWaiting r false s) 1 = hostStarted r s := by
  have hstart : isStart (s.reg (F.parse_NMEA_EN.addr 0x2000)) (byteAt r.body 0) = true := by
    simp only [hostSentenceOk, Bool.and_eq_true] at hsound
    exact hsound.1.1.1
  have htake : parserTake (sentenceWaiting r true s) hostSource (hostByte s (byteAt r.body 0)) false false = hostBegun r s :=
    parserTake_fresh (s := sentenceWaiting r true s) (src := 0x2000) (i := hostByte s (byteAt r.body 0)) (by decide) rfl rfl hsent hstart
  have hdrop : dropWait (sentenceWaiting r false s) (sentenceWait r false) = { s with waits := [] } := by
    simp [dropWait, sentenceWaiting]
  have hdown : ¬ (!(sentenceWaiting r false s).shedUp 2) = true := by
    rw [show (sentenceWaiting r false s).shedUp 2 = s.shedUp 2 from rfl, hup]
    decide
  have hgood : ¬ (!hostSentenceOk ((sentenceWaiting r false s).reg (F.parse_NMEA_EN.addr hostSource)) (sentenceWait r false).req.body) =
      true := by
    rw [show hostSentenceOk ((sentenceWaiting r false s).reg (F.parse_NMEA_EN.addr hostSource)) (sentenceWait r false).req.body =
      hostSentenceOk (s.reg (F.parse_NMEA_EN.addr 0x2000)) r.body from rfl, hsound]
    decide
  have hsource : (hostBegun r s).source hostSource = { s.source 0x2000 with sent := some (hostOpening r s), idx := 0 } :=
    source_putSource_self _ _ _
  rw [startHostSentence, hostNext_due r hcmds]
  dsimp only
  rw [if_neg hdown, if_neg hgood, hdrop]
  refine (congrArg (fun u : State => u.putSource hostSource { u.source hostSource with
    sent := (u.source hostSource).sent.map (fun x => { x with mbox := none })
    input := (u.source hostSource).input ++ (r.body.map (hostByte s)).drop 1 }) htake).trans ?_
  dsimp only
  rw [hsource]
  rfl

theorem hostStarted_source (r : Req) (s : State) : (hostStarted r s).source 0x2000 = { s.source 0x2000 with
    sent := some (hostOpening r s), idx := 0, input := (s.source 0x2000).input ++ (r.body.map (hostByte s)).drop 1 } :=
  source_putSource_self _ _ _

/-- The bytes after the first wait as they were sent. -/
theorem hostStarted_input (r : Req) {s : State} (hinput : (s.source 0x2000).input = []) :
    ((hostStarted r s).source 0x2000).input.map (·.data) = r.body.drop 1 := by
  have hdata : (fun i : InByte => i.data) ∘ hostByte s = id := rfl
  rw [hostStarted_source, hinput]
  simp only [List.nil_append, List.map_drop, List.map_map, hdata, List.map_id]

/-! ### The command -/

/-- A refusal makes no command wait. -/
theorem refusedWith_waits (op st : Nat) (r : Req) (s : State) : (refusedWith op st r s).waits = s.waits := by
  rw [refusedWith, respond]
  split
  · rfl
  · exact (steady_post (Steady.refl s) _ _ _ _).waits

section

variable {r : Req} {s : State} (htakes : takes s r = true) (hwaits : s.waits = [])
include htakes hwaits

theorem routerSentenceSend_badLength (hlen : r.body.length < 8 ∨ 496 < r.body.length) :
    exec (.routerSentenceSend r) s = .next (refusedWith 0x0301 3 r s) := by
  have hsize : (decide (r.body.length < 8) || decide (496 < r.body.length)) = true := by simpa using hlen
  have hrefused : finish 0x0301 false r none false (cmdSentenceSend r s) = refusedWith 0x0301 3 r s := by
    rw [cmdSentenceSend, if_pos hsize, finish_no]
    rfl
  rw [exec, execRouterSentenceSend, cmdRow_taken htakes, hrefused, startSentences, refusedWith_waits, hwaits]
  rfl

theorem routerSentenceSend_starts (hlo : 8 ≤ r.body.length) (hhi : r.body.length ≤ 496) (hcmds : s.cmds = []) (hup : s.shedUp 2 = true)
    (hsent : (s.source 0x2000).sent = none) (hsound : hostSentenceOk (s.reg (F.parse_NMEA_EN.addr 0x2000)) r.body = true) :
    exec (.routerSentenceSend r) s = .next (hostStarted r s) := by
  have hsize : ¬ (decide (r.body.length < 8) || decide (496 < r.body.length)) = true := by simp; omega
  have hwaiting : finish 0x0301 false r none false (cmdSentenceSend r s) = sentenceWaiting r false s := by
    rw [cmdSentenceSend, if_neg hsize, finish, hwaits]
    rfl
  rw [exec, execRouterSentenceSend, cmdRow_taken htakes, hwaiting, startSentences, ← startHostSentence_due hcmds hup hsent hsound]
  rfl

end

end Sys2Proof.Machine
end

section
/-! PROOF. The sources, the listeners, the host's sentences, the parser's and the voter's settings, command by command. -/

namespace Sys2Proof.Machine

/-- Settles O52: ROUTER_ELIGIBLE_SET, ROUTER_BIND, ROUTER_SENTENCE_SEND, the parser's and the voter's commands, each by its own
outcomes. -/
theorem sourcesListenersAndJudgesAreSet : Obligations.SourcesListenersAndJudgesAreSet := by
  intro r s htakes
  refine ⟨⟨fun hids hbad => ?_, fun hcount hlen hids => ?_⟩, fun hlen => ?_, fun hlen hwaits =>
    routerSentenceSend_badLength htakes hwaits hlen, fun hlo hhi hwaits hcmds hup hsent hinput hsound => ?_, fun hlen => ?_,
    parseStatusGet_answers htakes, fun hlen => ?_, fun hlen => ?_, voteStatusGet_answers htakes⟩
  · exact routerEligibleSet_badLength htakes hids (by simpa [sourcesMisfit] using hbad)
  · have hfit : sourcesMisfit r = false := by simp [sourcesMisfit, hlen, hcount]
    exact ⟨routerEligibleSet_badOp htakes hids hfit, routerEligibleSet_noSpace htakes hids hfit, fun hop hsmall hup =>
      ⟨_, routerEligibleSet_done htakes hids hfit hop hsmall hup, rfl, mem_newEligible s _ _⟩⟩
  · exact ⟨routerBind_noListener htakes hlen, routerBind_notFitted htakes hlen, fun hl =>
      ⟨routerBind_hubStall htakes hlen hl, routerBind_binds htakes hlen hl⟩⟩
  · exact ⟨_, hostOpening r s, routerSentenceSend_starts htakes hwaits hlo hhi hcmds hup hsent hsound,
      congrArg Source.sent (hostStarted_source r s), rfl, rfl, rfl, rfl, hostStarted_input r hinput, rfl, rfl⟩
  · exact ⟨parseSet_empty htakes hlen, parseSet_sets htakes hlen⟩
  · refine ⟨voteJudge_noJudge htakes hlen, voteJudgeOut_refused htakes hlen, fun hj hin hup => ?_,
      voteJudgeIn_returns htakes hlen, voteJudgeIn_refused htakes hlen⟩
    exact ⟨_, voteJudgeOut_leaves htakes hlen hj hin hup, judgeOut_leaves s (judge_lt hj)⟩
  · refine ⟨voteCfgSet_badType htakes hlen, fun hgood hnodup hquiet => ⟨_, voteCfgSet_done htakes hlen hgood hnodup hquiet,
      setVoter_only r s, ?_, ?_, ?_, ?_, fun k => setVoter_type r s, setVoter_others r s⟩⟩
    · exact setVoter_get r s F.vote_SUSPECT_N (by decide)
    · exact setVoter_get r s F.vote_AUTO_OUT (by decide)
    · exact setVoter_get r s F.vote_EGRESS_LATCH (by decide)
    · exact setVoter_get r s F.vote_OVR_EN (by decide)

end Sys2Proof.Machine
end

section
/-! PROOF. Consecutive objects of a sparse table written in one run, and the copy of a table that such a run leaves alone (R157, R176). -/

namespace Sys2Proof.Machine

/-- `n` objects from number `base`, each as `f` gives it. -/
def putRun {α : Type} [DecidableEq α] (d : α) (base n : Nat) (f : Nat → α) (t : Tbl α) : Tbl α :=
  (List.range n).foldl (fun u i => tput u (base + i) (f i) d) t

theorem putRun_succ {α : Type} [DecidableEq α] (d : α) (base n : Nat) (f : Nat → α) (t : Tbl α) :
    putRun d base (n + 1) f t = tput (putRun d base n f t) (base + n) (f n) d := by
  rw [putRun, List.range_succ, List.foldl_append]
  rfl

theorem tget_putRun {α : Type} [DecidableEq α] (d : α) (base n : Nat) (f : Nat → α) (t : Tbl α) (k : Nat) :
    tget (putRun d base n f t) k d = if base ≤ k ∧ k < base + n then f (k - base) else tget t k d := by
  induction n with
  | zero => rw [if_neg (by omega)]; rfl
  | succ n ih =>
    rw [putRun_succ]
    by_cases hlast : k = base + n
    · rw [hlast, tget_tput_self, if_pos (by omega), Nat.add_sub_cancel_left]
    · rw [tget_tput_ne _ hlast, ih]
      exact if_congr (by omega) rfl rfl

/-- A run into copy `1 - a` of a table of two copies, `m` objects each: it holds the objects written, and every other object of
both copies stands. -/
structure CopyWritten {α : Type} (d : α) (m a first n : Nat) (f : Nat → α) (t u : Tbl α) : Prop where
  written : ∀ i, i < n → tget u (m * (1 - a) + (first + i)) d = f i
  active : ∀ k, k < m → tget u (m * a + k) d = tget t (m * a + k) d
  outside : ∀ k, k < m → (k < first ∨ first + n ≤ k) → tget u (m * (1 - a) + k) d = tget t (m * (1 - a) + k) d

theorem putRun_copyWritten {α : Type} [DecidableEq α] (d : α) {m a first n : Nat} (ha : a < 2) (hfit : first + n ≤ m) (f : Nat → α)
    (t : Tbl α) : CopyWritten d m a first n f t (putRun d (m * (1 - a) + first) n f t) := by
  refine ⟨fun i hi => ?_, fun k hk => ?_, fun k hk hout => ?_⟩
  · rw [tget_putRun, if_pos (by omega)]
    congr 1
    omega
  · obtain rfl | rfl : a = 0 ∨ a = 1 := by omega
    · rw [tget_putRun, if_neg (by omega)]
    · rw [tget_putRun, if_neg (by omega)]
  · rw [tget_putRun, if_neg (by omega)]

end Sys2Proof.Machine
end

section
/-! PROOF. Router table writes (R157 to R165, R176, R499): their checks in turn, and the records that the inactive copy then holds. -/

namespace Sys2Proof.Machine

/-! ### The checks of a table write (R176, R472, R489) -/

/-- The status of a table write whose records name something absent, or are bad ones. -/
def recordFault (absent bad : Bool) : Option Nat := if absent then some St.notFitted else if bad then some St.badArg else none

/-- A table write, or a commit, that waits for the copyback or behind a commit. -/
def heldBack (r : Req) (s : State) (op : Nat) : State :=
  { s with waits := s.waits ++ [{ entry := none, opcode := op, req := r, on := .held }] }

/-- The outcomes of a table write, check by check; `good` says what holds of the state written. -/
def WriteOutcomes (r : Req) (s : State) (out : Host.Outcome State Fault Refusal) (op size most total : Nat) (fault : Option Nat)
    (good : State → Prop) : Prop :=
  (fault = some 7 → out = .next (refusedWith op 7 r s)) ∧
  (fault ≠ some 7 → (most < rangeCount r.body ∨ r.body.length ≠ 4 + 4 * size * rangeCount r.body) →
    out = .next (refusedWith op 3 r s)) ∧
  (fault ≠ some 7 → rangeCount r.body ≤ most → r.body.length = 4 + 4 * size * rangeCount r.body →
    (rangeCount r.body = 0 → out = .next (answered op false r s [])) ∧
    (0 < rangeCount r.body → total < rangeFirst r.body + rangeCount r.body → out = .next (refusedWith op 4 r s)) ∧
    (0 < rangeCount r.body → rangeFirst r.body + rangeCount r.body ≤ total →
      (∀ st, fault = some st → out = .next (refusedWith op st r s)) ∧
      (fault = none → tablesHeld s = true → out = .next (heldBack r s op)) ∧
      (fault = none → tablesHeld s = false → ∃ t, out = .next (answered op true r t []) ∧ good t)))

/-- A range past the end of a table that is fitted whole. -/
theorem withRange_past {s : State} {b : List Byte} {total : Nat} (hcount : 0 < rangeCount b)
    (hpast : total < rangeFirst b + rangeCount b) (f : List Nat → State → CmdOut) : withRange s b total total f = no s St.badArg := by
  have hsome : (rangeCount b == 0) = false := beq_eq_false_iff_ne.2 (by omega)
  have hfitted : (decide (rangeFirst b < total) && decide (total < min (rangeFirst b + rangeCount b) total)) = false := by
    rw [decide_eq_false (by omega : ¬ total < min (rangeFirst b + rangeCount b) total), Bool.and_false]
  simp only [withRange, hsome, hfitted, decide_eq_true hpast, Bool.false_eq_true, if_false, if_true]

theorem withRange_none {s : State} {b : List Byte} (hcount : rangeCount b = 0) (total fitted : Nat) (f : List Nat → State → CmdOut) :
    withRange s b total fitted f = okSame s [] := by
  simp only [withRange, hcount, beq_self_eq_true, if_true]

/-- A range of a table fitted whole names nothing absent, so a LENGTH that is not the row's is the answer. -/
theorem wrongLength_withRange {s : State} {b : List Byte} {total : Nat} {f : List Nat → State → CmdOut}
    (hf : wrongLength s (f (rangeOf b) s) = no s St.badLength) : wrongLength s (withRange s b total total f) = no s St.badLength := by
  obtain hcount | hcount := Nat.eq_zero_or_pos (rangeCount b)
  · rw [withRange_none hcount]
    rfl
  · obtain hpast | hfit := Nat.lt_or_ge total (rangeFirst b + rangeCount b)
    · rw [withRange_past hcount hpast]
      rfl
    · rw [withRange_of hcount hfit (Nat.le_refl total), hf]

/-- The state in which a table write has put its records. -/
def tableWritten (r : Req) (s : State) (size : Nat) (put : State → Nat → List Word → State) : State :=
  { ((rangeOf r.body).zip (recordsOf r size)).foldl (fun v e => put v e.1 e.2) s with routerStaged := true }

section

variable {r : Req} {s : State} {size most total : Nat} {absent : List (List Word) → Bool}
  {checks : List (List Word) → List (Bool × Nat)} {bad : Bool} {put : State → Nat → List Word → State}

theorem tableWrite_absent (habsent : absent (recordsOf r size) = true) :
    tableWrite r s size most total absent checks put = no s St.notFitted := by
  rw [tableWrite, habsent]
  rfl

variable (hthere : absent (recordsOf r size) = false)
include hthere

/-- What a table write whose records name nothing absent comes to within its table. -/
theorem tableWrite_there : tableWrite r s size most total absent checks put =
    lengthCheck (decide (most < rangeCount r.body) || r.body.length != 4 + 4 * size * rangeCount r.body) s
      (withRange s r.body total total (fun ids t => firstFail t (checks (recordsOf r size)) (fun u =>
        if tablesHeld u then .wait u .held
        else ok { (ids.zip (recordsOf r size)).foldl (fun v e => put v e.1 e.2) u with routerStaged := true } []))) := by
  rw [tableWrite, hthere]
  rfl

variable (hchecks : ∀ f, firstFail s (checks (recordsOf r size)) f = if bad then no s St.badArg else f s)

include hchecks in
theorem tableWrite_badLength (hbad : most < rangeCount r.body ∨ r.body.length ≠ 4 + 4 * size * rangeCount r.body) :
    tableWrite r s size most total absent checks put = no s St.badLength := by
  have hlength : (decide (most < rangeCount r.body) || r.body.length != 4 + 4 * size * rangeCount r.body) = true := by
    simpa using hbad
  rw [tableWrite_there hthere]
  refine lengthCheck_fails hlength s (wrongLength_withRange ?_)
  rw [hchecks]
  split_ifs <;> rfl

variable (hmost : rangeCount r.body ≤ most) (hlength : r.body.length = 4 + 4 * size * rangeCount r.body)
include hmost hlength

theorem tableWrite_sized : tableWrite r s size most total absent checks put =
    withRange s r.body total total (fun ids t => firstFail t (checks (recordsOf r size)) (fun u =>
      if tablesHeld u then .wait u .held
      else ok { (ids.zip (recordsOf r size)).foldl (fun v e => put v e.1 e.2) u with routerStaged := true } [])) := by
  have hfit : (decide (most < rangeCount r.body) || r.body.length != 4 + 4 * size * rangeCount r.body) = false := by
    simp [hlength, hmost]
  rw [tableWrite_there hthere, lengthCheck_passes hfit]

include hchecks in
theorem tableWrite_within (hcount : 0 < rangeCount r.body) (hfit : rangeFirst r.body + rangeCount r.body ≤ total) :
    tableWrite r s size most total absent checks put = if bad then no s St.badArg else
      if tablesHeld s then .wait s .held else ok (tableWritten r s size put) [] := by
  rw [tableWrite_sized hthere hmost hlength, withRange_of hcount hfit (Nat.le_refl total), hchecks]
  rfl

end

/-- Every table write goes through its checks in the order of R472. -/
theorem tableWrite_outcomes {r : Req} {s : State} (op size most total : Nat) {absent : List (List Word) → Bool}
    {checks : List (List Word) → List (Bool × Nat)} {bad : Bool} {put : State → Nat → List Word → State}
    (hchecks : ∀ f, firstFail s (checks (recordsOf r size)) f = if bad then no s St.badArg else f s) {good : State → Prop}
    (hgood : rangeFirst r.body + rangeCount r.body ≤ total → good (tableWritten r s size put)) :
    WriteOutcomes r s (.next (finish op true r none false (tableWrite r s size most total absent checks put))) op size most total
      (recordFault (absent (recordsOf r size)) bad) good := by
  cases hthere : absent (recordsOf r size) with
  | true =>
    rw [tableWrite_absent hthere, finish_no]
    exact ⟨fun _ => rfl, fun h => absurd rfl h, fun h => absurd rfl h⟩
  | false =>
    refine ⟨fun h => ?_, fun _ hbad => ?_, fun _ hmost hlength => ⟨fun hnone => ?_, fun hcount hpast => ?_, fun hcount hfit => ?_⟩⟩
    · cases bad <;> cases h
    · rw [tableWrite_badLength hthere hchecks hbad, finish_no]
      rfl
    · rw [tableWrite_sized hthere hmost hlength, withRange_none hnone, finish_okSame]
    · rw [tableWrite_sized hthere hmost hlength, withRange_past hcount hpast, finish_no]
      rfl
    · rw [tableWrite_within hthere hchecks hmost hlength hcount hfit]
      cases bad with
      | true =>
        rw [if_pos rfl, finish_no]
        exact ⟨fun st h => (Option.some.inj h) ▸ rfl, fun h => absurd h (Option.some_ne_none _), fun h => absurd h (Option.some_ne_none _)⟩
      | false =>
        rw [if_neg Bool.false_ne_true]
        refine ⟨fun st h => absurd h (Option.some_ne_none st).symm, fun _ hheld => ?_, fun _ hfree => ⟨_, ?_, hgood hfit⟩⟩
        · rw [if_pos hheld]
          rfl
        · rw [hfree, if_neg Bool.false_ne_true, finish_ok]

/-! ### The records written (R157, R158, R160, R165) -/

theorem zip_records (r : Req) (size : Nat) : (rangeOf r.body).zip (recordsOf r size) =
    (List.range (rangeCount r.body)).map (fun i => (rangeFirst r.body + i, bodyWords r (4 + 4 * size * i) size)) := by
  rw [rangeOf, recordsOf, List.zip_map']

theorem rtActive_lt (s : State) : s.rtActive < 2 := get_lt s F.router_ACTIVE 0

/-- Records put one after another into a table's inactive copy, whose number no put moves. -/
theorem tableWritten_run {α : Type} [DecidableEq α] (r : Req) (s : State) (size m : Nat) (d : α) (clean : List Word → α)
    {table : State → Tbl α} {withTable : State → Tbl α → State} {put : State → Nat → List Word → State}
    (hput : ∀ t n w, put t n w = withTable t (tput (table t) (m * t.rtInactive + n) (clean w) d))
    (hself : withTable s (table s) = s) (htable : ∀ l, table (withTable s l) = l)
    (hagain : ∀ l k, withTable (withTable s l) k = withTable s k) (hcopy : ∀ l, (withTable s l).rtInactive = s.rtInactive) :
    tableWritten r s size put = { withTable s (putRun d (m * (1 - s.rtActive) + rangeFirst r.body) (rangeCount r.body)
      (fun i => clean (bodyWords r (4 + 4 * size * i) size)) (table s)) with routerStaged := true } := by
  have hrun : ∀ n, ((List.range n).map (fun i => (rangeFirst r.body + i, bodyWords r (4 + 4 * size * i) size))).foldl
      (fun v e => put v e.1 e.2) s = withTable s (putRun d (m * s.rtInactive + rangeFirst r.body) n
        (fun i => clean (bodyWords r (4 + 4 * size * i) size)) (table s)) := fun n => by
    induction n with
    | zero => exact hself.symm
    | succ n ih =>
      rw [List.range_succ, List.map_append, List.foldl_append, ih, putRun_succ, Nat.add_assoc]
      exact (hput ..).trans (by rw [htable, hagain, hcopy])
  rw [tableWritten, zip_records, hrun]
  rfl

/-- A table whose records pass unchecked, and one with a check of its own. -/
theorem noChecks (s : State) (f : State → CmdOut) : firstFail s [] f = if false = true then no s St.badArg else f s := rfl

theorem oneCheck (s : State) (bad : Bool) (f : State → CmdOut) :
    firstFail s [(bad, St.badArg)] f = if bad = true then no s St.badArg else f s := rfl

section

variable {r : Req} {s : State} (htakes : takes s r = true)
include htakes

theorem routerEntryWrite_outcomes : WriteOutcomes r s (exec (.routerEntryWrite r) s) 0x0302 14 8 4096 none (fun t =>
    t = { s with entries := t.entries, routerStaged := true } ∧
    (∀ i, i < rangeCount r.body →
      t.entry s.rtInactive (rangeFirst r.body + i) = entryClean (bodyWords r (4 + 56 * i) 14)) ∧
    (∀ n, n < 4096 → t.entry s.rtActive n = s.entry s.rtActive n ∧
      ((n < rangeFirst r.body ∨ rangeFirst r.body + rangeCount r.body ≤ n) → t.entry s.rtInactive n = s.entry s.rtInactive n))) := by
  rw [exec, execRouterEntryWrite, cmdRow_taken htakes]
  refine tableWrite_outcomes 0x0302 14 8 4096 (absent := fun _ => false) (checks := fun _ => []) (noChecks s) fun hfit => ?_
  rw [tableWritten_run r s 14 4096 entry0 entryClean (put := fun t n w => t.putEntry t.rtInactive n (entryClean w)) (table := State.entries)
    (withTable := fun t l => { t with entries := l }) (fun _ _ _ => rfl) rfl (fun _ => rfl) (fun _ _ => rfl) (fun _ => rfl)]
  have h := putRun_copyWritten entry0 (rtActive_lt s) hfit (fun i => entryClean (bodyWords r (4 + 4 * 14 * i) 14)) s.entries
  exact ⟨rfl, h.written, fun n hn => ⟨h.active n hn, h.outside n hn⟩⟩

theorem routerActionWrite_outcomes : WriteOutcomes r s (exec (.routerActionWrite r) s) 0x0303 4 30 4096
    (recordFault ((recordsOf r 4).any (hookAbsent s)) ((recordsOf r 4).any actionBad)) (fun t =>
    t = { s with actions := t.actions, routerStaged := true } ∧
    (∀ i, i < rangeCount r.body →
      t.action s.rtInactive (rangeFirst r.body + i) = actionClean (bodyWords r (4 + 16 * i) 4)) ∧
    (∀ n, n < 4096 → t.action s.rtActive n = s.action s.rtActive n ∧
      ((n < rangeFirst r.body ∨ rangeFirst r.body + rangeCount r.body ≤ n) → t.action s.rtInactive n = s.action s.rtInactive n))) := by
  rw [exec, execRouterActionWrite, cmdRow_taken htakes]
  refine tableWrite_outcomes 0x0303 4 30 4096 (oneCheck s _) fun hfit => ?_
  rw [tableWritten_run r s 4 4096 action0 actionClean (put := fun t n w => t.putAction t.rtInactive n (actionClean w)) (table := State.actions)
    (withTable := fun t l => { t with actions := l }) (fun _ _ _ => rfl) rfl (fun _ => rfl) (fun _ _ => rfl) (fun _ => rfl)]
  have h := putRun_copyWritten action0 (rtActive_lt s) hfit (fun i => actionClean (bodyWords r (4 + 4 * 4 * i) 4)) s.actions
  exact ⟨rfl, h.written, fun n hn => ⟨h.active n hn, h.outside n hn⟩⟩

theorem routerGroupWrite_outcomes : WriteOutcomes r s (exec (.routerGroupWrite r) s) 0x0304 8 15 1024
    (recordFault false ((recordsOf r 8).any (groupBad s))) (fun t =>
    t = { s with groups := t.groups, routerStaged := true } ∧
    (∀ i, i < rangeCount r.body →
      t.group s.rtInactive (rangeFirst r.body + i) = groupClean (bodyWords r (4 + 32 * i) 8)) ∧
    (∀ n, n < 1024 → t.group s.rtActive n = s.group s.rtActive n ∧
      ((n < rangeFirst r.body ∨ rangeFirst r.body + rangeCount r.body ≤ n) → t.group s.rtInactive n = s.group s.rtInactive n))) := by
  rw [exec, execRouterGroupWrite, cmdRow_taken htakes]
  refine tableWrite_outcomes 0x0304 8 15 1024 (oneCheck s _) fun hfit => ?_
  rw [tableWritten_run r s 8 1024 group0 groupClean (put := fun t n w => t.putGroup t.rtInactive n (groupClean w)) (table := State.groups)
    (withTable := fun t l => { t with groups := l }) (fun _ _ _ => rfl) rfl (fun _ => rfl) (fun _ _ => rfl) (fun _ => rfl)]
  have h := putRun_copyWritten group0 (rtActive_lt s) hfit (fun i => groupClean (bodyWords r (4 + 4 * 8 * i) 8)) s.groups
  exact ⟨rfl, h.written, fun n hn => ⟨h.active n hn, h.outside n hn⟩⟩

/-! ### ROUTER_COMMIT and ROUTER_STATUS_GET (R176, R177, R499) -/

theorem routerCommit_exec (hlen : r.body.length = 0) : exec (.routerCommit r) s = .next (if tablesHeld s then heldBack r s 0x0305 else
    { s with commitAsked := true, waits := s.waits ++ [{ entry := none, opcode := 0x0305, req := r, on := .routerSwap }] }) := by
  rw [exec, execRouterCommit, cmdRow_taken htakes, cmdRouterCommit, sized_of hlen]
  split <;> rfl

theorem routerStatusGet_answers (hlen : r.body.length = 0) : exec (.routerStatusGet r) s =
    .next (answered 0x0309 false r s (readWords s .router 0 4 2 ++ readWords s .router 0 0x10 13)) := by
  rw [exec, execRouterStatusGet, cmdRow_taken htakes, cmdRouterStatusGet, sized_of hlen, finish_ok]

/-! ### ROUTER_READ and ROUTER_HITS_GET (R188, R499) -/

/-- Objects of a table that ROUTER_READ names, and how many one response holds. -/
def readTotal (table : Nat) : Nat := if table ≤ 1 then 4096 else if table == 2 then 1024 else 98

def readMost (table : Nat) : Nat := if table == 0 then 8 else if table == 1 then 30 else if table == 2 then 15 else 61

/-- One record as ROUTER_READ answers it. -/
def readRecord (s : State) (table copy n : Nat) : List Byte :=
  if table == 0 then recordBytes (s.entry copy n) 14
  else if table == 1 then recordBytes (s.action copy n) 4
  else if table == 2 then recordBytes (s.group copy n) 8
  else recordBytes (s.binding n) 2

omit htakes in
theorem rangeOf_length (b : List Byte) : (rangeOf b).length = rangeCount b := by rw [rangeOf, List.length_map, List.length_range]

/-- A range within its table whose objects are fitted is read. -/
theorem routerRead_answers (hlen : r.body.length = 8) {table : Nat} (htable : fld r.body 0 0 2 = table)
    (hthere : (table == 3 && (rangeOf (r.body.drop 4)).any (listenerAbsent s)) = false) (hcount : 0 < rangeCount (r.body.drop 4))
    (hmost : rangeCount (r.body.drop 4) ≤ readMost table)
    (hfit : rangeFirst (r.body.drop 4) + rangeCount (r.body.drop 4) ≤ readTotal table) :
    exec (.routerRead r) s = .next (answered 0x0308 false r s ((rangeOf (r.body.drop 4)).flatMap
      (readRecord s table (if flag r.body 0 2 then s.rtInactive else s.rtActive)))) := by
  have hroom : decide (readMost table < (rangeOf (r.body.drop 4)).length) = false := by
    rw [rangeOf_length]
    exact decide_eq_false (Nat.not_lt.2 hmost)
  have hread : cmdRouterRead r s = withRange s (r.body.drop 4) (readTotal table) (readTotal table) (fun ids u =>
      firstFail u [(decide (readMost table < ids.length), St.badArg)] (fun v =>
        ok v (ids.flatMap (readRecord v table (if flag r.body 0 2 then s.rtInactive else s.rtActive))))) := by
    rw [cmdRouterRead, htable]
    dsimp only
    rw [hthere, sized_of hlen]
    rfl
  rw [exec, execRouterRead, cmdRow_taken htakes, hread, withRange_of hcount hfit (Nat.le_refl _), firstFail_passes hroom,
    firstFail_nil, finish_ok]

section

variable (hlen : r.body.length = 4) (hcount : 0 < rangeCount r.body) (hfit : rangeFirst r.body + rangeCount r.body ≤ 4096)
include hlen hcount hfit

theorem routerHitsGet_exec : exec (.routerHitsGet r) s = .next (finish 0x030A false r none false (if 123 < rangeCount r.body then
    no s St.badArg else ok s ((rangeOf r.body).flatMap (fun n => le 4 (tget s.hits n 0))))) := by
  rw [exec, execRouterHitsGet, cmdRow_taken htakes, cmdHitsGet, sized_of hlen, withRange_of hcount hfit (Nat.le_refl 4096),
    rangeOf_length]

theorem routerHitsGet_tooMany (hmany : 123 < rangeCount r.body) : exec (.routerHitsGet r) s = .next (refusedWith 0x030A 4 r s) := by
  rw [routerHitsGet_exec htakes hlen hcount hfit, if_pos hmany, finish_no]
  rfl

theorem routerHitsGet_answers (hfew : rangeCount r.body ≤ 123) : exec (.routerHitsGet r) s = .next (answered 0x030A false r s
    ((List.range (rangeCount r.body)).flatMap (fun i => le 4 (tget s.hits (rangeFirst r.body + i) 0)))) := by
  rw [routerHitsGet_exec htakes hlen hcount hfit, if_neg (Nat.not_lt.2 hfew), finish_ok, rangeOf, List.flatMap_map]

end

end

/-- Listeners that a fitted lane's number names are there. -/
theorem laneListeners_there {s : State} {b : List Byte} (hfit : rangeFirst b + rangeCount b ≤ s.part.lanes) :
    (rangeOf b).any (listenerAbsent s) = false := by
  have hlanes := lanes_le s.part
  rw [List.any_eq_false]
  intro n hn
  obtain ⟨i, hi, rfl⟩ := List.mem_map.1 hn
  have := List.mem_range.1 hi
  simp [listenerAbsent]
  omega

/-- Settles O51: the three table writes by their checks in turn and the run of records into the inactive copy; the commit and the
reads by their outcomes. -/
theorem routerTableCommandsWriteTheInactiveCopy : Obligations.RouterTableCommandsWriteTheInactiveCopy := by
  intro r s htakes
  refine ⟨by simp [tablesHeld], routerEntryWrite_outcomes htakes, routerActionWrite_outcomes htakes, routerGroupWrite_outcomes htakes,
    fun hlen => ⟨fun hheld => ?_, fun hfree => ?_, routerStatusGet_answers htakes hlen⟩, fun hlen => ⟨?_, ?_, ?_, ?_⟩,
    fun hlen => ⟨routerHitsGet_tooMany htakes hlen, routerHitsGet_answers htakes hlen⟩⟩
  · rw [routerCommit_exec htakes hlen, if_pos hheld]
    rfl
  · rw [routerCommit_exec htakes hlen, hfree]
    rfl
  · exact fun htable hcount hmost hfit => routerRead_answers (table := 0) htakes hlen htable rfl hcount hmost hfit
  · exact fun htable hcount hmost hfit => routerRead_answers (table := 1) htakes hlen htable rfl hcount hmost hfit
  · exact fun htable hcount hmost hfit => routerRead_answers (table := 2) htakes hlen htable rfl hcount hmost hfit
  · intro htable hcount hmost hfit
    have hlanes := lanes_le s.part
    exact routerRead_answers (table := 3) htakes hlen htable (laneListeners_there hfit) hcount hmost
      (hfit.trans (hlanes.trans (by decide)))

end Sys2Proof.Machine
end

section
/-! PROOF. Pixel commands (R506, R507): what they write, stage, latch and refuse. -/

namespace Sys2Proof.Machine

theorem fld_lt (b : List Byte) (o lo w : Nat) : fld b o lo w < 2 ^ w := Nat.mod_lt _ (Nat.two_pow_pos w)

/-! ### What the commands write, latch and stage -/

/-- RUN and SRC as written, START_DELAY staged. -/
def cfgStaged (r : Req) (s : State) : State :=
  { ((s.set F.pixel_RUN 0 (fld r.body 0 0 1)).set F.pixel_SRC 0 (fld r.body 0 1 1)) with stagedDelay := some (fld r.body 4 0 16) }

theorem cfgStaged_run (r : Req) (s : State) : (cfgStaged r s).get F.pixel_RUN 0 = fld r.body 0 0 1 :=
  ((s.set F.pixel_RUN 0 (fld r.body 0 0 1)).get_set_beside F.pixel_SRC F.pixel_RUN 0 _ rfl rfl (by decide) (by decide)).trans
    ((s.get_set_self F.pixel_RUN (by decide) 0 _).trans (Nat.mod_eq_of_lt (fld_lt ..)))

theorem cfgStaged_src (r : Req) (s : State) : (cfgStaged r s).get F.pixel_SRC 0 = fld r.body 0 1 1 :=
  ((s.set F.pixel_RUN 0 (fld r.body 0 0 1)).get_set_self F.pixel_SRC (by decide) 0 _).trans (Nat.mod_eq_of_lt (fld_lt ..))

theorem cfgStaged_keeps (r : Req) (s : State) : keepsRegsBut [(F.pixel_RUN, 0), (F.pixel_SRC, 0)] s (cfgStaged r s) :=
  keepsRegsBut_trans (keepsRegsBut_set s F.pixel_RUN 0 _ (by simp) (by decide) (by decide))
    (keepsRegsBut_set (s.set F.pixel_RUN 0 (fld r.body 0 0 1)) F.pixel_SRC 0 _ (by simp) (by decide) (by decide))

/-- A PIXEL_COMMIT that waits: for the copyback or for its tick. -/
def commitWaits (r : Req) (s : State) (on : WaitFor) : State :=
  { s with waits := s.waits ++ [{ entry := none, opcode := 0x0607, req := r, on := on }] }

/-- The latch of one entry (R339): a cue's level or the master's. -/
def levelLatch (r : Req) (i : Nat) : Latch :=
  if flag r.body (4 + 4 * i) 24 then { kind := 2, target := fld r.body (4 + 4 * i) 16 8, value := fld r.body (4 + 4 * i) 0 16 }
  else { kind := 1, target := 0, value := fld r.body (4 + 4 * i) 0 16 }

/-- Values latched in turn stand in that order behind those latched before. -/
theorem latchValues_eq (f : Nat → Latch) (n : Nat) (s : State) :
    (List.range n).foldl (fun t i => latchValue t (f i)) s = { s with latches := s.latches ++ (List.range n).map f } := by
  induction n with
  | zero => simp
  | succ n ih =>
    rw [List.range_succ, List.foldl_append, ih, List.map_append, ← List.append_assoc]
    rfl

/-- Any of the fields that PIXEL_ENC_SET checks is outside its range. -/
theorem encBad_iff (b : List Byte) : encBad b = true ↔
    (fld b 8 0 12 < 4 ∨ fld b 8 16 12 < fld b 8 0 12 + 4 ∨ fld b 0xC 0 12 < fld b 8 16 12 + 4 ∨ fld b 0xC 0 12 < 125 ∨
      95 < fld b 4 9 7 ∨ fld b 0x10 0 8 < 8 ∨ 32 < fld b 0x10 8 6 ∨ 8 < fld b 0x10 16 4 ∨ 64 < fld b 0x18 0 7 ∨
      fld b 0x1C 0 24 < 100000) := by
  simp only [encBad, Bool.or_eq_true, decide_eq_true_eq, or_assoc]

/-- A lane's eight encoder words, staged. -/
def stageEnc (r : Req) (s : State) (n : Nat) : State := { s with stagedEnc := tput s.stagedEnc n (bodyWords r 4 8) [] }

/-- The size that entry `i` gives its group. -/
def sizeGiven (r : Req) (i : Nat) : Nat := (byteAt r.body (4 + i)).toNat % 128

/-- The sizes of a body, staged. -/
def groupsStaged (r : Req) (s : State) : State :=
  { s with stagedGroup := putRun 0 (rangeFirst r.body) (rangeCount r.body) (sizeGiven r) s.stagedGroup }

theorem stageGroups_eq (r : Req) (s : State) : ((rangeOf r.body).zip ((List.range (rangeCount r.body)).map (sizeGiven r))).foldl
    (fun v e => { v with stagedGroup := tput v.stagedGroup e.1 e.2 0 }) s = groupsStaged r s := by
  rw [rangeOf, List.zip_map', List.foldl_map, groupsStaged]
  generalize rangeCount r.body = n
  induction n with
  | zero => rfl
  | succ n ih =>
    rw [List.range_succ, List.foldl_append, ih, putRun_succ]
    rfl

/-- The words that PIXEL_STATUS_GET answers for a lane. -/
def pixelStatus (s : State) (n : Nat) : List Byte :=
  readWords s .pixel 0 4 2 ++ readWords s .encGlobal 0 4 1 ++ readWords s .pixel 0 0x10 8 ++ readWords s .encLane n 0x20 6

/-! ### The pipeline (R506) -/

section

variable {r : Req} {s : State} (htakes : takes s r = true) (op : Nat) (g : Bool) (f : Req → State → CmdOut)
include htakes

theorem pixelRow_unfitted (hpix : s.part.hasPixel = false) : cmdRow op g (pixFit s) f r s = refusedWith op 7 r s := by
  rw [pixFit, hpix]
  exact cmdRow_unfitted htakes op g f

theorem pixelRow_fitted (hpix : s.part.hasPixel = true) : cmdRow op g (pixFit s) f r s = finish op g r none false (f r s) := by
  rw [pixFit, hpix]
  exact cmdRow_taken htakes op g f

end

section

variable {r : Req} {s : State} (htakes : takes s r = true) (hpix : s.part.hasPixel = true)
include htakes hpix

/-! ### PIXEL_CFG_SET (R344) -/

theorem pixelCfgSet_notReady (hlen : r.body.length = 8) (hrun : flag r.body 0 0 = true) (hready : s.tablesReady = false) :
    exec (.pixelCfgSet r) s = .next (refusedWith 0x0605 9 r s) := by
  have hbad : (flag r.body 0 0 && !s.tablesReady) = true := by rw [hrun, hready]; rfl
  rw [exec, execPixelCfgSet, pixelRow_fitted htakes _ _ _ hpix, cmdPixelCfgSet, sized_of hlen, firstFail_fails hbad, finish_no]
  rfl

theorem pixelCfgSet_stages (hlen : r.body.length = 8) (hgood : flag r.body 0 0 = false ∨ s.tablesReady = true) :
    exec (.pixelCfgSet r) s = .next (answered 0x0605 true r (cfgStaged r s) []) := by
  have hpass : (flag r.body 0 0 && !s.tablesReady) = false := by
    obtain h | h := hgood <;> rw [h]
    · rfl
    · exact Bool.and_false _
  rw [exec, execPixelCfgSet, pixelRow_fitted htakes _ _ _ hpix, cmdPixelCfgSet, sized_of hlen, firstFail_passes hpass, firstFail_nil,
    finish_ok]
  rfl

/-! ### PIXEL_COMMIT (R342) -/

theorem pixelCommit_exec (hlen : r.body.length = 0) : exec (.pixelCommit r) s = .next (finish 0x0607 true r none false
    (afterCopyback s (fun u => if commitOk u then .wait (u.set F.pixel_COMMIT_PENDING 0 1) .pixelCommit else no u St.badArg))) := by
  rw [exec, execPixelCommit, pixelRow_fitted htakes _ _ _ hpix, cmdPixelCommit, sized_of hlen]

theorem pixelCommit_held (hlen : r.body.length = 0) (hcopy : s.on F.pixel_COPYBACK 0 = true) :
    exec (.pixelCommit r) s = .next (commitWaits r s .held) := by
  rw [pixelCommit_exec htakes hpix hlen, afterCopyback, if_pos hcopy]
  rfl

theorem pixelCommit_unfit (hlen : r.body.length = 0) (hcopy : s.on F.pixel_COPYBACK 0 = false) (hok : commitOk s = false) :
    exec (.pixelCommit r) s = .next (refusedWith 0x0607 4 r s) := by
  rw [pixelCommit_exec htakes hpix hlen, afterCopyback, hcopy, if_neg Bool.false_ne_true, hok, if_neg Bool.false_ne_true, finish_no]
  rfl

theorem pixelCommit_pends (hlen : r.body.length = 0) (hcopy : s.on F.pixel_COPYBACK 0 = false) (hok : commitOk s = true) :
    exec (.pixelCommit r) s = .next (commitWaits r (s.set F.pixel_COMMIT_PENDING 0 1) .pixelCommit) := by
  rw [pixelCommit_exec htakes hpix hlen, afterCopyback, hcopy, if_neg Bool.false_ne_true, if_pos hok]
  rfl

/-! ### PIXEL_LEVEL_SET (R174, R339) -/

theorem pixelLevelSet_badLength (hbad : 123 < u32 r.body 0 ∨ r.body.length ≠ 4 + 4 * u32 r.body 0) :
    exec (.pixelLevelSet r) s = .next (refusedWith 0x0608 3 r s) := by
  have hcheck : (decide (123 < u32 r.body 0) || r.body.length != 4 + 4 * u32 r.body 0) = true := by simpa using hbad
  rw [exec, execPixelLevelSet, pixelRow_fitted htakes _ _ _ hpix, cmdLevelSet]
  simp only [hcheck, if_true, finish_no]
  rfl

theorem pixelLevelSet_latches (hcount : u32 r.body 0 ≤ 123) (hlen : r.body.length = 4 + 4 * u32 r.body 0) :
    exec (.pixelLevelSet r) s = .next (answered 0x0608 false r
      { s with latches := s.latches ++ (List.range (u32 r.body 0)).map (levelLatch r) } []) := by
  have hcheck : (decide (123 < u32 r.body 0) || r.body.length != 4 + 4 * u32 r.body 0) = false := by
    simp [hlen]
    omega
  rw [exec, execPixelLevelSet, pixelRow_fitted htakes _ _ _ hpix, cmdLevelSet, ← latchValues_eq, ← finish_ok]
  simp only [hcheck, Bool.false_eq_true, if_false]
  rfl

/-! ### PIXEL_ZONE_INPUT (R334, R507) -/

theorem pixelZoneInput_badLength (hbad : 41 < u32 r.body 0 ∨ r.body.length ≠ 4 + 12 * u32 r.body 0) :
    exec (.pixelZoneInput r) s = .next (refusedWith 0x0609 3 r s) := by
  have hcheck : (decide (41 < u32 r.body 0) || r.body.length != 4 + 12 * u32 r.body 0) = true := by simpa using hbad
  rw [exec, execPixelZoneInput, pixelRow_fitted htakes _ _ _ hpix, cmdZoneInput]
  simp only [hcheck, if_true, finish_no]
  rfl

section

variable (hcount : u32 r.body 0 = 1) (hlen : r.body.length = 16)
include hcount hlen

/-- One entry is checked against its zone and takes effect. -/
theorem pixelZoneInput_one : exec (.pixelZoneInput r) s = .next (if zoneInputBad s r.body 4 then refusedWith 0x0609 4 r s
    else answered 0x0609 false r (zoneInput s r.body 4) []) := by
  have hone : cmdZoneInput r s = firstFail s [(zoneInputBad s r.body 4, St.badArg)] (fun t => ok (zoneInput t r.body 4) []) := by
    simp only [cmdZoneInput, hcount, hlen]
    simp
  rw [exec, execPixelZoneInput, pixelRow_fitted htakes _ _ _ hpix, hone, firstFail_cons, firstFail_nil]
  split
  · rw [finish_no]
    rfl
  · rw [finish_ok]

theorem pixelZoneInput_badTemp (hkind : flag r.body 4 16 = false) (hzone : fld (zoneRec s (fld r.body 4 0 10)) 0 0 2 ≠ 3) :
    exec (.pixelZoneInput r) s = .next (refusedWith 0x0609 4 r s) := by
  have hbad : zoneInputBad s r.body 4 = true := by simp [zoneInputBad, hkind, hzone]
  rw [pixelZoneInput_one htakes hpix hcount hlen, if_pos hbad]

theorem pixelZoneInput_temp (hkind : flag r.body 4 16 = false) (hzone : fld (zoneRec s (fld r.body 4 0 10)) 0 0 2 = 3) :
    exec (.pixelZoneInput r) s = .next (answered 0x0609 false r (s.putZone (fld r.body 4 0 10)
      { s.zone (fld r.body 4 0 10) with fwTemp := some (sx 16 (u16 r.body 8)), fwTempAge := 0 }) []) := by
  have hgood : ¬ zoneInputBad s r.body 4 = true := by simp [zoneInputBad, hkind, hzone]
  rw [pixelZoneInput_one htakes hpix hcount hlen, if_neg hgood, zoneInput, hkind]
  rfl

theorem pixelZoneInput_badLight (hkind : flag r.body 4 16 = true) (hzone : fld (zoneRec s (fld r.body 4 0 10)) 0 10 2 ≠ 2) :
    exec (.pixelZoneInput r) s = .next (refusedWith 0x0609 4 r s) := by
  have hbad : zoneInputBad s r.body 4 = true := by simp [zoneInputBad, hkind, hzone]
  rw [pixelZoneInput_one htakes hpix hcount hlen, if_pos hbad]

theorem pixelZoneInput_light (hkind : flag r.body 4 16 = true) (hzone : fld (zoneRec s (fld r.body 4 0 10)) 0 10 2 = 2) :
    exec (.pixelZoneInput r) s = .next (answered 0x0609 false r (s.putZone (fld r.body 4 0 10) { s.zone (fld r.body 4 0 10) with
      fwLight := [u16 r.body 8, u16 r.body 10, u16 r.body 12, u16 r.body 14].take
        (if flag (zoneRec s (fld r.body 4 0 10)) 0 18 then 4 else 1)
      fwLightAge := 0 }) []) := by
  have hgood : ¬ zoneInputBad s r.body 4 = true := by simp [zoneInputBad, hkind, hzone]
  rw [pixelZoneInput_one htakes hpix hcount hlen, if_neg hgood, zoneInput, hkind]
  cases hemitter : flag (zoneRec s (fld r.body 4 0 10)) 0 18 <;> simp [perEmitter, hzone, hemitter]

end

/-! ### PIXEL_ENC_SET (R353, R367 to R369) -/

section

variable (hlen : r.body.length = 36) (hcount : rangeCount r.body = 1) (hfit : rangeFirst r.body < s.part.lanes)
include hlen hcount hfit

theorem pixelEncSet_exec : exec (.pixelEncSet r) s = .next (finish 0x060A true r none false (firstFail s
    [(encBad r.body, St.badArg), (roleParked s (rangeFirst r.body), St.state)]
    (fun u => ok (onRoles (stageEnc r) [rangeFirst r.body] u) []))) := by
  have hone : rangeOf r.body = [rangeFirst r.body] := by simp [rangeOf, hcount]
  rw [exec, execPixelEncSet, pixelRow_fitted htakes _ _ _ hpix, cmdEncSet, sized_of hlen, roleRange,
    withRange_of (by omega) (by omega) (lanes_le_max s.part), hone]
  simp only [List.any_cons, List.any_nil, Bool.or_false]
  rfl

theorem pixelEncSet_badWord (hbad : encBad r.body = true) : exec (.pixelEncSet r) s = .next (refusedWith 0x060A 4 r s) := by
  rw [pixelEncSet_exec htakes hpix hlen hcount hfit, firstFail_fails hbad, finish_no]
  rfl

theorem pixelEncSet_parked (hgood : encBad r.body = false) (hparked : roleParked s (rangeFirst r.body) = true) :
    exec (.pixelEncSet r) s = .next (refusedWith 0x060A 9 r s) := by
  rw [pixelEncSet_exec htakes hpix hlen hcount hfit, firstFail_passes hgood, firstFail_fails hparked, finish_no]
  rfl

theorem pixelEncSet_stages (hgood : encBad r.body = false) (hparked : roleParked s (rangeFirst r.body) = false) {n : Nat}
    (hlane : roleLane s (rangeFirst r.body) = some n) :
    exec (.pixelEncSet r) s = .next (answered 0x060A true r (stageEnc r s n) []) := by
  have hrun : onRoles (stageEnc r) [rangeFirst r.body] s = stageEnc r s n := by
    rw [onRoles_cons, hlane]
    rfl
  rw [pixelEncSet_exec htakes hpix hlen hcount hfit, firstFail_passes hgood, firstFail_passes hparked, firstFail_nil, hrun, finish_ok]

end

/-! ### PIXEL_GROUP_SET (R371) -/

section

variable (hlen : r.body.length = 4 + (rangeCount r.body + 3) / 4 * 4) (hcount : 0 < rangeCount r.body)
  (hfit : rangeFirst r.body + rangeCount r.body ≤ 64)
include hlen hcount hfit

theorem pixelGroupSet_exec : exec (.pixelGroupSet r) s = .next (finish 0x060B true r none false (firstFail s
    [((rangeOf r.body).contains 0, St.badArg),
      (((List.range (rangeCount r.body)).map (sizeGiven r)).any (fun z => z == 0 || decide (96 < z)), St.badArg)]
    (fun u => ok (groupsStaged r u) []))) := by
  have hlength : ¬ (r.body.length != 4 + (rangeCount r.body + 3) / 4 * 4) = true := by simp [hlen]
  rw [exec, execPixelGroupSet, pixelRow_fitted htakes _ _ _ hpix, cmdGroupSet]
  simp only [hlength, Bool.false_eq_true, if_false, withRange_of hcount hfit (Nat.le_refl 64)]
  simp only [← stageGroups_eq]
  rfl

theorem pixelGroupSet_bad (hbad : rangeFirst r.body = 0 ∨ ∃ i, i < rangeCount r.body ∧ (sizeGiven r i = 0 ∨ 96 < sizeGiven r i)) :
    exec (.pixelGroupSet r) s = .next (refusedWith 0x060B 4 r s) := by
  rw [pixelGroupSet_exec htakes hpix hlen hcount hfit]
  by_cases hzero : (rangeOf r.body).contains 0 = true
  · rw [firstFail_fails hzero, finish_no]
    rfl
  · have hfirst : rangeFirst r.body ≠ 0 := fun h => hzero (by simp [rangeOf, h, hcount])
    have hsize : ((List.range (rangeCount r.body)).map (sizeGiven r)).any (fun z => z == 0 || decide (96 < z)) = true := by
      obtain ⟨i, hi, hbad⟩ := hbad.resolve_left hfirst
      exact List.any_eq_true.2 ⟨sizeGiven r i, List.mem_map.2 ⟨i, List.mem_range.2 hi, rfl⟩, by simpa using hbad⟩
    rw [firstFail_passes (Bool.eq_false_iff.2 hzero), firstFail_fails hsize, finish_no]
    rfl

theorem pixelGroupSet_stages (hfirst : 0 < rangeFirst r.body)
    (hsizes : ∀ i, i < rangeCount r.body → 1 ≤ sizeGiven r i ∧ sizeGiven r i ≤ 96) :
    exec (.pixelGroupSet r) s = .next (answered 0x060B true r (groupsStaged r s) []) := by
  have hzero : (rangeOf r.body).contains 0 = false := by
    simp [rangeOf]
    omega
  have hsize : ((List.range (rangeCount r.body)).map (sizeGiven r)).any (fun z => z == 0 || decide (96 < z)) = false := by
    rw [List.any_map, List.any_eq_false]
    intro i hi
    have := hsizes i (List.mem_range.1 hi)
    simp
    omega
  rw [pixelGroupSet_exec htakes hpix hlen hcount hfit, firstFail_passes hzero, firstFail_passes hsize, firstFail_nil, finish_ok]

end

/-! ### PIXEL_STATUS_GET -/

section

variable (hlen : r.body.length = 4)
include hlen

theorem pixelStatusGet_exec : exec (.pixelStatusGet r) s = .next (finish 0x060C false r none false (firstFail s
    [(decide (s.part.lanes ≤ fld r.body 0 0 7) && decide (fld r.body 0 0 7 < 96), St.notFitted),
      (decide (96 ≤ fld r.body 0 0 7), St.badArg)] (fun u => ok u (pixelStatus u (fld r.body 0 0 7))))) := by
  rw [exec, execPixelStatusGet, pixelRow_fitted htakes _ _ _ hpix, cmdPixelStatusGet, sized_of hlen]
  rfl

theorem pixelStatusGet_absent (habsent : s.part.lanes ≤ fld r.body 0 0 7) (hlane : fld r.body 0 0 7 < 96) :
    exec (.pixelStatusGet r) s = .next (refusedWith 0x060C 7 r s) := by
  rw [pixelStatusGet_exec htakes hpix hlen, firstFail_fails (by rw [decide_eq_true habsent, decide_eq_true hlane]; rfl), finish_no]
  rfl

theorem pixelStatusGet_noLane (hlane : 96 ≤ fld r.body 0 0 7) : exec (.pixelStatusGet r) s = .next (refusedWith 0x060C 4 r s) := by
  have hthere : (decide (s.part.lanes ≤ fld r.body 0 0 7) && decide (fld r.body 0 0 7 < 96)) = false := by
    rw [decide_eq_false (Nat.not_lt.2 hlane), Bool.and_false]
  rw [pixelStatusGet_exec htakes hpix hlen, firstFail_passes hthere, firstFail_fails (decide_eq_true hlane), finish_no]
  rfl

theorem pixelStatusGet_answers (hfitted : fld r.body 0 0 7 < s.part.lanes) :
    exec (.pixelStatusGet r) s = .next (answered 0x060C false r s (pixelStatus s (fld r.body 0 0 7))) := by
  have hlanes := lanes_le s.part
  have hthere : (decide (s.part.lanes ≤ fld r.body 0 0 7) && decide (fld r.body 0 0 7 < 96)) = false := by
    rw [decide_eq_false (Nat.not_le.2 hfitted), Bool.false_and]
  rw [pixelStatusGet_exec htakes hpix hlen, firstFail_passes hthere, firstFail_passes (decide_eq_false (by omega)), firstFail_nil,
    finish_ok]

end

end

/-- Settles O54: each pixel command by its own outcomes; on a part without the pipeline they all end at check 5 of R472. -/
theorem pixelSettingsLevelsAndCommit : Obligations.PixelSettingsLevelsAndCommit := by
  intro r s htakes
  refine ⟨fun hpix => ?_, fun hpix => ⟨fun hlen => ⟨pixelCfgSet_notReady htakes hpix hlen, fun hgood => ?_⟩,
    fun hlen => ⟨pixelCommit_held htakes hpix hlen, pixelCommit_unfit htakes hpix hlen, fun hcopy hok => ?_⟩,
    ⟨pixelLevelSet_badLength htakes hpix, pixelLevelSet_latches htakes hpix⟩,
    ⟨pixelZoneInput_badLength htakes hpix, fun hcount hlen => ⟨pixelZoneInput_badTemp htakes hpix hcount hlen,
      pixelZoneInput_temp htakes hpix hcount hlen, pixelZoneInput_badLight htakes hpix hcount hlen,
      pixelZoneInput_light htakes hpix hcount hlen⟩⟩,
    fun hlen hcount hfit => ?_, fun hlen hcount hfit => ⟨pixelGroupSet_bad htakes hpix hlen hcount hfit, fun hfirst hsizes => ?_⟩,
    fun hlen => ⟨pixelStatusGet_absent htakes hpix hlen, pixelStatusGet_noLane htakes hpix hlen,
      pixelStatusGet_answers htakes hpix hlen⟩⟩⟩
  · have hrow : ∀ op g f, Host.Outcome.next (cmdRow op g (pixFit s) f r s) =
        (.next (refusedWith op 7 r s) : Host.Outcome State Fault Refusal) :=
      fun op g f => congrArg _ (pixelRow_unfitted htakes op g f hpix)
    exact ⟨hrow .., hrow .., hrow .., hrow .., hrow .., hrow .., hrow .., hrow .., hrow .., hrow .., hrow .., hrow ..⟩
  · exact ⟨_, pixelCfgSet_stages htakes hpix hlen hgood, rfl, cfgStaged_run r s, cfgStaged_src r s, cfgStaged_keeps r s⟩
  · exact ⟨_, pixelCommit_pends htakes hpix hlen hcopy hok, rfl, on_set_one s F.pixel_COMMIT_PENDING (by decide) (by decide) 0,
      keepsRegsBut_set s F.pixel_COMMIT_PENDING 0 1 List.mem_cons_self (by decide) (by decide)⟩
  · refine ⟨fun hbad => pixelEncSet_badWord htakes hpix hlen hcount hfit ((encBad_iff _).2 hbad), fun hgood => ?_,
      fun n hgood hparked hlane => ?_⟩
    · exact pixelEncSet_parked htakes hpix hlen hcount hfit (Bool.eq_false_iff.2 (mt (encBad_iff _).1 hgood))
    · exact ⟨_, pixelEncSet_stages htakes hpix hlen hcount hfit (Bool.eq_false_iff.2 (mt (encBad_iff _).1 hgood)) hparked hlane, rfl,
        tget_tput_self s.stagedEnc n (bodyWords r 4 8) [], fun k hk => tget_tput_ne s.stagedEnc hk (bodyWords r 4 8) [] []⟩
  · refine ⟨_, pixelGroupSet_stages htakes hpix hlen hcount hfit hfirst hsizes, rfl, fun i hi => ?_, fun g hout => ?_⟩
    · rw [groupsStaged, tget_putRun, if_pos (by omega), Nat.add_sub_cancel_left]
      rfl
    · rw [groupsStaged, tget_putRun, if_neg (by omega)]

end Sys2Proof.Machine
end

section
/-! PROOF. Router counters, flags and hits (R186 to R188): what each moves, and what showing a staging ring leaves of them. -/

namespace Sys2Proof.Machine

/-! ### Steps of the router's registers -/

/-- Registers and firings alone may differ, and the router's registers stand but for those of the fields listed. -/
structure RouterStep (fs : List Field) (s t : State) : Prop where
  only : onlyRegs s t
  get : ∀ g : Field, g.blk = .router → (∀ f ∈ fs, f.off % 65536 ≠ g.off % 65536) → t.get g 0 = s.get g 0

theorem RouterStep.mono {fs gs : List Field} {s t : State} (h : RouterStep fs s t) (hsub : fs ⊆ gs) : RouterStep gs s t :=
  ⟨h.only, fun g hg hgs => h.get g hg fun f hf => hgs f (hsub hf)⟩

theorem RouterStep.trans {fs : List Field} {s t u : State} (h : RouterStep fs s t) (k : RouterStep fs t u) : RouterStep fs s u :=
  ⟨onlyRegs_trans h.only k.only, fun g hg hfs => (k.get g hg hfs).trans (h.get g hg hfs)⟩

theorem raiseRouter_step (s : State) (bit : Nat) : RouterStep [F.router_FLAGS] s (raiseRouter s bit) :=
  ⟨raise_rest .., fun g _ hg => raise_get_off _ _ _ _ _ _ g 0 (hg _ List.mem_cons_self)⟩

theorem routerInc_step (s : State) (f : Field) : RouterStep [f, F.router_FLAGS] s (routerInc s f) := by
  have hinc : RouterStep [f, F.router_FLAGS] s (s.inc f 0) :=
    ⟨rfl, fun g _ hg => get_inc_off s f g 0 0 (hg _ List.mem_cons_self)⟩
  unfold routerInc
  dsimp only
  split
  · exact hinc.trans ((raiseRouter_step _ _).mono (by simp))
  · exact hinc

/-- A router counter holds at its maximum. -/
theorem routerInc_counts (s : State) (f : Field) (hfit : f.fits) (hwidth : f.width = 32) (hoff : 8 ≠ f.off % 65536) :
    (routerInc s f).get f 0 = min (s.get f 0 + 1) 0xFFFFFFFF := by
  have hcount := State.get_inc s f hfit 0
  rw [hwidth] at hcount
  unfold routerInc
  dsimp only
  split
  · exact (raise_get_off _ F.router_FLAGS F.router_EVEN 0 _ _ f 0 hoff).trans hcount
  · exact hcount

theorem raiseRouter_latches (s : State) {bit : Nat} (hbit : bit < 8) : ((raiseRouter s bit).get F.router_FLAGS 0).testBit bit = true :=
  flagged_testBit (raise_flagged s F.router_FLAGS F.router_EVEN 0 bit _ (by decide) hbit (by decide))

theorem ringShow_router (s : State) (src : Nat) : RouterStep [] s (ringShow s src) := by
  refine ⟨?_, fun g hg _ => get_of_reg (ringShow_reg s src (Or.inl (by rw [show (g.addr 0).blk = g.blk from rfl, hg]; decide)))⟩
  have honly := ringShow_only s src
  unfold regsOnly at honly
  rw [honly]
  rfl

theorem countHit_step (s : State) (n : Nat) :
    RouterStep [F.router_FLAGS] { s with hits := tput s.hits n (min (tget s.hits n 0 + 1) 0xFFFFFFFF) 0 } (countHit s n) := by
  unfold countHit
  dsimp only
  split
  · exact raiseRouter_step _ _
  · exact ⟨rfl, fun _ _ _ => rfl⟩

/-- What stands beside registers and firings. -/
theorem RouterStep.routerQ {fs : List Field} {s t : State} (h : RouterStep fs s t) : t.routerQ = s.routerQ := by
  rw [h.only]

theorem RouterStep.hits {fs : List Field} {s t : State} (h : RouterStep fs s t) : t.hits = s.hits := by
  rw [h.only]

theorem RouterStep.stalls {fs : List Field} {s t : State} (h : RouterStep fs s t) : t.stalls = s.stalls := by
  rw [h.only]

/-- Entry `n` has a hit more in `t` than in `s`, up to the maximum, and no other entry has. -/
def HitOnce (n : Nat) (s t : State) : Prop :=
  ∀ k, tget t.hits k 0 = if k = n then min (tget s.hits k 0 + 1) 0xFFFFFFFF else tget s.hits k 0

theorem countHit_once (s : State) (n : Nat) : HitOnce n s (countHit s n) := fun k => by
  rw [(countHit_step s n).hits]
  split
  · next h => rw [h, tget_tput_self]
  · next h => exact tget_tput_ne _ h _ _ _

theorem HitOnce.congr {n : Nat} {s s' t t' : State} (h : HitOnce n s t) (hs : s'.hits = s.hits) (ht : t'.hits = t.hits) :
    HitOnce n s' t' := fun k => by
  rw [ht, hs]
  exact h k

end Sys2Proof.Machine
end

section
/-! PROOF. CLASSIFY (R155 to R167, R188): the sentence that leaves its source, and the four ends of a classification. -/

namespace Sys2Proof.Machine

/-- The state in which the first closed sentence of a source that is not eligible has left its list. -/
def sentenceTaken (s : State) (src : Nat) (x : Sentence) (rest : List Sentence) : State :=
  { s.putSource src { s.source src with
      closed := rest, lastNext := (x.seqn + 1) % 4294967296, lastTs := x.stamp, lastIdx := x.idx } with lastOther := some src }

/-- The sentence taken is counted. -/
def sentenceCounted (s : State) (src : Nat) (x : Sentence) (rest : List Sentence) : State :=
  routerInc (sentenceTaken s src x rest) F.router_CLASSIFIED

/-- What every classification of a source's first sentence leaves. -/
structure Classified (s : State) (src : Nat) (rest : List Sentence) (t : State) : Prop where
  closed : (t.source src).closed = rest
  counted : t.get F.router_CLASSIFIED 0 = min (s.get F.router_CLASSIFIED 0 + 1) 0xFFFFFFFF
  voterQ : t.voterQ = s.voterQ
  stalls : t.stalls = s.stalls
  others : ∀ k, k ≠ src → t.source k = s.source k

theorem sentenceCounted_classified (s : State) (src : Nat) (x : Sentence) (rest : List Sentence) :
    Classified s src rest (sentenceCounted s src x rest) := by
  have honly : onlyRegs (sentenceTaken s src x rest) (sentenceCounted s src x rest) := (routerInc_step _ _).only
  have hsource : ∀ k, (sentenceCounted s src x rest).source k = (sentenceTaken s src x rest).source k := fun k => by
    rw [honly]
    rfl
  refine ⟨?_, routerInc_counts _ F.router_CLASSIFIED (by decide) rfl (by decide), ?_, ?_, fun k hk => ?_⟩
  · rw [hsource]
    exact congrArg Source.closed (source_putSource_self s src _)
  · rw [honly]
    rfl
  · rw [honly]
    rfl
  · rw [hsource]
    exact source_putSource_ne s _ hk

section

variable {s t u : State} {src : Nat} {rest : List Sentence} (h : Classified s src rest t)
include h

theorem Classified.step {fs : List Field} (k : RouterStep fs t u)
    (hfs : ∀ f ∈ fs, f.off % 65536 ≠ F.router_CLASSIFIED.off % 65536) : Classified s src rest u := by
  have hsource : ∀ n, u.source n = t.source n := fun n => by
    rw [k.only]
    rfl
  refine ⟨?_, (k.get F.router_CLASSIFIED rfl hfs).trans h.counted, ?_, k.stalls.trans h.stalls, fun n hn => ?_⟩
  · rw [hsource]
    exact h.closed
  · rw [k.only]
    exact h.voterQ
  · rw [hsource]
    exact h.others n hn

theorem Classified.hit (n : Nat) : Classified s src rest (countHit t n) := by
  have hhits : Classified s src rest { t with hits := tput t.hits n (min (tget t.hits n 0 + 1) 0xFFFFFFFF) 0 } :=
    ⟨h.closed, h.counted, h.voterQ, h.stalls, h.others⟩
  exact hhits.step (countHit_step t n) (by decide)

theorem Classified.queue (l : List Enqueue) : Classified s src rest { t with routerQ := l } :=
  ⟨h.closed, h.counted, h.voterQ, h.stalls, h.others⟩

end

section

variable {s : State} {src : Nat} {x : Sentence} {rest : List Sentence} (hup2 : s.shedUp 2 = true) (hup4 : s.shedUp 4 = true)
include hup2 hup4

theorem classify_nothing (hchoice : chooseSource s = none) (f : Transient) : exec (.classify f) s = .next s := by
  rw [exec, execClassify, upstream, hup2, hup4, classifyNext, hchoice]
  rfl

variable (hchoice : chooseSource s = some src) (hclosed : (s.source src).closed = x :: rest)
  (hcap : x.cap = none) (helig : s.eligible = [])
include hchoice hclosed hcap helig

/-- The choice takes the sentence from its source, and the tables in force say what becomes of it. -/
theorem classify_applies : exec (.classify .none) s =
    .next (applyAction (sentenceTaken s src x rest) x (lookup s s.rtActive x)) := by
  have hother : s.eligible.contains src = false := by rw [helig]; rfl
  rw [exec, execClassify, upstream, hup2, hup4, classifyNext, hchoice]
  simp only [hclosed, hother, Bool.false_eq_true, if_false, Bool.and_self, if_true, classifySentence, hcap, Option.getD_none]
  rfl

end

end Sys2Proof.Machine
end

section
/-! PROOF. The ends of a classification (R159, R162 to R167): missed, dropped, with an empty group, queued for its stalls. -/

namespace Sys2Proof.Machine

/-! ### The steps of an action (R162 to R164) -/

theorem toJudges_none {s : State} (helig : s.eligible = []) (x : Sentence) (dropped : Bool) : toJudges s x dropped = s := by
  have hnone : judgesTake s x = false := by rw [judgesTake, helig]; rfl
  rw [toJudges, hnone, if_neg Bool.false_ne_true]

theorem runHook_none (s : State) (x : Sentence) (target : Nat) : runHook s x 0 target = s := rfl

theorem dropStep_notForwarded {c : Captured} (hforward : c.verdict.forward = false) (s : State) (x : Sentence) :
    dropStep s x c = (s, some (F.router_DROPPED, none)) := by
  rw [dropStep, hforward]
  rfl

/-- A sound sentence of classes 1 to 3 that its action forwards, undecimated and unlimited, passes. -/
theorem dropStep_passes {c : Captured} {x : Sentence} (hforward : c.verdict.forward = true) (hclass : c.verdict.cls ≠ 0)
    (hbad : x.bad = false) (hdecim : wfld c.action 0 16 16 < 2) (hrate : wfld c.action 1 0 20 = 0) (s : State) :
    dropStep s x c = (s, none) := by
  simp [dropStep, hforward, hclass, hbad, decimate, hdecim, bucket, hrate]

theorem RouterStep.eligible {fs : List Field} {s t : State} (h : RouterStep fs s t) : t.eligible = s.eligible := by
  rw [h.only]

theorem countHit_eligible (s : State) (n : Nat) : (countHit s n).eligible = s.eligible := (countHit_step s n).eligible

/-- Freeing a sentence shows its ring's level, with what a classification captured or without. -/
theorem freeSentence_captured (s : State) {x : Sentence} (hmbox : x.mbox = none) (c : Captured) :
    freeSentence s { x with cap := some c } = ringShow s x.source := freeSentence_plain s (x := { x with cap := some c }) hmbox

/-- A sentence ends with a counter, a flag of the router and its staging bytes freed. -/
def endFlagged (s : State) (f : Field) (bit src : Nat) : State := ringShow (raiseRouter (routerInc s f) bit) src

/-- A sentence ends with a counter of the router and its staging bytes freed. -/
def endCounted (s : State) (f : Field) (src : Nat) : State := ringShow (routerInc s f) src

section

variable {s : State} {x : Sentence} {c : Captured} (helig : s.eligible = []) (hmbox : x.mbox = none)
include helig hmbox

theorem applyAction_misses (hmiss : c.verdict.miss = true) : applyAction s x c =
    endFlagged (routerInc s F.router_CLASSIFIED) F.router_MISS Bit.rtMiss x.source := by
  have hnone : (raiseRouter (routerInc (routerInc s F.router_CLASSIFIED) F.router_MISS) Bit.rtMiss).eligible = [] := by
    rw [(raiseRouter_step _ _).eligible, (routerInc_step _ _).eligible, (routerInc_step _ _).eligible, helig]
  simp only [applyAction, hmiss, if_true]
  rw [toJudges_none hnone]
  exact freeSentence_captured _ hmbox c

variable (hhit : c.verdict.miss = false) (hhook : c.verdict.hookKind = 0)
include hhit hhook

theorem applyAction_drops (hforward : c.verdict.forward = false) : applyAction s x c =
    endCounted (countHit (routerInc s F.router_CLASSIFIED) c.verdict.entry) F.router_DROPPED x.source := by
  have hnone : (routerInc (countHit (routerInc s F.router_CLASSIFIED) c.verdict.entry) F.router_DROPPED).eligible = [] := by
    rw [(routerInc_step _ _).eligible, countHit_eligible, (routerInc_step _ _).eligible, helig]
  simp only [applyAction, hhit, hhook, runHook_none, ite_self, dropStep_notForwarded hforward, Bool.false_eq_true, if_false]
  rw [toJudges_none hnone]
  exact freeSentence_captured _ hmbox c

variable (hforward : c.verdict.forward = true) (hclass : c.verdict.cls ≠ 0) (hbad : x.bad = false)
  (hdecim : wfld c.action 0 16 16 < 2) (hrate : wfld c.action 1 0 20 = 0)
include hforward hclass hbad hdecim hrate

omit hmbox in
/-- A sentence that passes goes on to the stalls of its group. -/
theorem applyAction_passes : applyAction s x c =
    enqueueCopies (countHit (routerInc s F.router_CLASSIFIED) c.verdict.entry) { x with cap := some c } c := by
  have hnone : (countHit (routerInc s F.router_CLASSIFIED) c.verdict.entry).eligible = [] := by
    rw [countHit_eligible, (routerInc_step _ _).eligible, helig]
  have hpass := dropStep_passes (x := { x with cap := some c }) hforward hclass hbad hdecim hrate
  simp only [applyAction, hhit, hhook, runHook_none, ite_self, hpass, Bool.false_eq_true, if_false, beq_iff_eq, hclass,
    toJudges_none hnone]

theorem applyAction_emptyGroup (hstalls : c.stalls = []) : applyAction s x c =
    endFlagged (countHit (routerInc s F.router_CLASSIFIED) c.verdict.entry) F.router_EMPTY_GROUP Bit.rtEmptyGroup x.source := by
  rw [applyAction_passes helig hhit hhook hforward hclass hbad hdecim hrate, enqueueCopies, hstalls, List.isEmpty_nil, if_pos rfl]
  exact freeSentence_captured _ hmbox c

omit hmbox in
theorem applyAction_queues (hstalls : c.stalls ≠ []) : applyAction s x c =
    { countHit (routerInc s F.router_CLASSIFIED) c.verdict.entry with
      routerQ := (countHit (routerInc s F.router_CLASSIFIED) c.verdict.entry).routerQ ++
        [{ sent := { x with cap := some c }, verdict := c.verdict, stalls := c.stalls }] } := by
  have hsome : ¬ c.stalls.isEmpty = true := by simpa using hstalls
  rw [applyAction_passes helig hhit hhook hforward hclass hbad hdecim hrate, enqueueCopies, if_neg hsome]

end

/-! ### What an end moves (R187, R188) -/

theorem endFlagged_step (s : State) (f : Field) (bit src : Nat) : RouterStep [f, F.router_FLAGS] s (endFlagged s f bit src) :=
  ((routerInc_step s f).trans ((raiseRouter_step _ bit).mono (by simp))).trans ((ringShow_router _ src).mono (by simp))

theorem endCounted_step (s : State) (f : Field) (src : Nat) : RouterStep [f, F.router_FLAGS] s (endCounted s f src) :=
  (routerInc_step s f).trans ((ringShow_router _ src).mono (by simp))

theorem endFlagged_latches (s : State) (f : Field) {bit : Nat} (hbit : bit < 8) (src : Nat) :
    ((endFlagged s f bit src).get F.router_FLAGS 0).testBit bit = true := by
  rw [endFlagged, (ringShow_router _ src).get F.router_FLAGS rfl (by simp)]
  exact raiseRouter_latches _ hbit

section

variable (s : State) (f : Field) (hblk : f.blk = .router) (hfit : f.fits) (hwidth : f.width = 32) (hoff : 8 ≠ f.off % 65536) (src : Nat)
include hblk hfit hwidth hoff

theorem endFlagged_counts (bit : Nat) : (endFlagged s f bit src).get f 0 = min (s.get f 0 + 1) 0xFFFFFFFF := by
  rw [endFlagged, (ringShow_router _ src).get f hblk (by simp), (raiseRouter_step _ bit).get f hblk (List.forall_mem_singleton.2 hoff),
    routerInc_counts s f hfit hwidth hoff]

theorem endCounted_counts : (endCounted s f src).get f 0 = min (s.get f 0 + 1) 0xFFFFFFFF := by
  rw [endCounted, (ringShow_router _ src).get f hblk (by simp), routerInc_counts s f hfit hwidth hoff]

end

/-- A sentence counted leaves the router's other counters. -/
theorem sentenceCounted_get (s : State) (src : Nat) (x : Sentence) (rest : List Sentence) (g : Field) (hg : g.blk = .router)
    (hoff : 0x10 ≠ g.off % 65536 ∧ 8 ≠ g.off % 65536) : (sentenceCounted s src x rest).get g 0 = s.get g 0 :=
  (routerInc_step (sentenceTaken s src x rest) F.router_CLASSIFIED).get g hg
    (List.forall_mem_cons.2 ⟨hoff.1, List.forall_mem_singleton.2 hoff.2⟩)

theorem countHit_get (s : State) (n : Nat) (g : Field) (hg : g.blk = .router) (hoff : 8 ≠ g.off % 65536) :
    (countHit s n).get g 0 = s.get g 0 := (countHit_step s n).get g hg (List.forall_mem_singleton.2 hoff)

theorem sentenceCounted_hits (s : State) (src : Nat) (x : Sentence) (rest : List Sentence) :
    (sentenceCounted s src x rest).hits = s.hits := (routerInc_step _ _).hits

theorem sentenceCounted_routerQ (s : State) (src : Nat) (x : Sentence) (rest : List Sentence) :
    (sentenceCounted s src x rest).routerQ = s.routerQ := (routerInc_step _ _).routerQ

/-- The sentence taken, counted and with a hit of entry `n`. -/
def sentenceHit (s : State) (src : Nat) (x : Sentence) (rest : List Sentence) (n : Nat) : State :=
  countHit (sentenceCounted s src x rest) n

section

variable (s : State) (src : Nat) (x : Sentence) (rest : List Sentence) (n : Nat)

theorem sentenceHit_once : HitOnce n s (sentenceHit s src x rest n) :=
  (countHit_once (sentenceCounted s src x rest) n).congr (sentenceCounted_hits s src x rest).symm rfl

theorem sentenceHit_routerQ : (sentenceHit s src x rest n).routerQ = s.routerQ :=
  (countHit_step _ n).routerQ.trans (sentenceCounted_routerQ s src x rest)

theorem sentenceHit_get (g : Field) (hg : g.blk = .router) (hoff : 0x10 ≠ g.off % 65536 ∧ 8 ≠ g.off % 65536) :
    (sentenceHit s src x rest n).get g 0 = s.get g 0 :=
  (countHit_get _ n g hg hoff.2).trans (sentenceCounted_get s src x rest g hg hoff)

theorem sentenceHit_classified : Classified s src rest (sentenceHit s src x rest n) := (sentenceCounted_classified s src x rest).hit n

end

/-! ### CLASSIFY -/

section

variable {s : State} {src : Nat} {x : Sentence} {rest : List Sentence} (hup2 : s.shedUp 2 = true) (hup4 : s.shedUp 4 = true)
  (hchoice : chooseSource s = some src) (hclosed : (s.source src).closed = x :: rest)
  (hcap : x.cap = none) (hmbox : x.mbox = none) (helig : s.eligible = [])
include hup2 hup4 hchoice hclosed hcap hmbox helig

theorem classify_misses (hmiss : (lookup s s.rtActive x).verdict.miss = true) : ∃ t, exec (.classify .none) s = .next t ∧
    Classified s src rest t ∧ t.hits = s.hits ∧ t.routerQ = s.routerQ ∧
    t.get F.router_MISS 0 = min (s.get F.router_MISS 0 + 1) 0xFFFFFFFF ∧ (t.get F.router_FLAGS 0).testBit 0 = true := by
  have hstep := endFlagged_step (sentenceCounted s src x rest) F.router_MISS Bit.rtMiss x.source
  refine ⟨_, (classify_applies hup2 hup4 hchoice hclosed hcap helig).trans
    (congrArg _ (applyAction_misses (s := sentenceTaken s src x rest) helig hmbox hmiss)),
    (sentenceCounted_classified s src x rest).step hstep (by decide), hstep.hits.trans (sentenceCounted_hits ..),
    hstep.routerQ.trans (sentenceCounted_routerQ ..), ?_, endFlagged_latches _ _ (by decide) _⟩
  exact (endFlagged_counts _ F.router_MISS rfl (by decide) rfl (by decide) _ _).trans
    (congrArg (fun n => min (n + 1) 0xFFFFFFFF) (sentenceCounted_get s src x rest F.router_MISS rfl (by decide)))

variable (hhit : (lookup s s.rtActive x).verdict.miss = false) (hhook : (lookup s s.rtActive x).verdict.hookKind = 0)
include hhit hhook

theorem classify_drops (hforward : (lookup s s.rtActive x).verdict.forward = false) : ∃ t, exec (.classify .none) s = .next t ∧
    Classified s src rest t ∧ HitOnce (lookup s s.rtActive x).verdict.entry s t ∧ t.routerQ = s.routerQ ∧
    t.get F.router_DROPPED 0 = min (s.get F.router_DROPPED 0 + 1) 0xFFFFFFFF := by
  have hstep := endCounted_step (sentenceHit s src x rest (lookup s s.rtActive x).verdict.entry) F.router_DROPPED x.source
  refine ⟨_, (classify_applies hup2 hup4 hchoice hclosed hcap helig).trans
    (congrArg _ (applyAction_drops (s := sentenceTaken s src x rest) helig hmbox hhit hhook hforward)),
    (sentenceHit_classified s src x rest _).step hstep (by decide), (sentenceHit_once s src x rest _).congr rfl hstep.hits,
    hstep.routerQ.trans (sentenceHit_routerQ ..), ?_⟩
  exact (endCounted_counts _ F.router_DROPPED rfl (by decide) rfl (by decide) _).trans
    (congrArg (fun n => min (n + 1) 0xFFFFFFFF) (sentenceHit_get s src x rest _ F.router_DROPPED rfl (by decide)))

variable (hforward : (lookup s s.rtActive x).verdict.forward = true) (hclass : (lookup s s.rtActive x).verdict.cls ≠ 0)
  (hbad : x.bad = false) (hdecim : wfld (lookup s s.rtActive x).action 0 16 16 < 2)
  (hrate : wfld (lookup s s.rtActive x).action 1 0 20 = 0)
include hforward hclass hbad hdecim hrate

theorem classify_emptyGroup (hstalls : (lookup s s.rtActive x).stalls = []) : ∃ t, exec (.classify .none) s = .next t ∧
    Classified s src rest t ∧ HitOnce (lookup s s.rtActive x).verdict.entry s t ∧ t.routerQ = s.routerQ ∧
    (t.get F.router_FLAGS 0).testBit 3 = true ∧
    t.get F.router_EMPTY_GROUP 0 = min (s.get F.router_EMPTY_GROUP 0 + 1) 0xFFFFFFFF := by
  have hstep := endFlagged_step (sentenceHit s src x rest (lookup s s.rtActive x).verdict.entry) F.router_EMPTY_GROUP
    Bit.rtEmptyGroup x.source
  refine ⟨_, (classify_applies hup2 hup4 hchoice hclosed hcap helig).trans (congrArg _ (applyAction_emptyGroup
      (s := sentenceTaken s src x rest) helig hmbox hhit hhook hforward hclass hbad hdecim hrate hstalls)),
    (sentenceHit_classified s src x rest _).step hstep (by decide), (sentenceHit_once s src x rest _).congr rfl hstep.hits,
    hstep.routerQ.trans (sentenceHit_routerQ ..),
    endFlagged_latches _ _ (by decide) _, ?_⟩
  exact (endFlagged_counts _ F.router_EMPTY_GROUP rfl (by decide) rfl (by decide) _ _).trans
    (congrArg (fun n => min (n + 1) 0xFFFFFFFF) (sentenceHit_get s src x rest _ F.router_EMPTY_GROUP rfl (by decide)))

omit hmbox in
theorem classify_queues (hstalls : (lookup s s.rtActive x).stalls ≠ []) : ∃ t, exec (.classify .none) s = .next t ∧
    Classified s src rest t ∧ HitOnce (lookup s s.rtActive x).verdict.entry s t ∧
    t.routerQ = s.routerQ ++ [{ sent := { x with cap := some (lookup s s.rtActive x) }, verdict := (lookup s s.rtActive x).verdict,
                                stalls := (lookup s s.rtActive x).stalls }] :=
  ⟨_, (classify_applies hup2 hup4 hchoice hclosed hcap helig).trans (congrArg _ (applyAction_queues
      (s := sentenceTaken s src x rest) helig hhit hhook hforward hclass hbad hdecim hrate hstalls)),
    (sentenceHit_classified s src x rest _).queue _, (sentenceHit_once s src x rest _).congr rfl rfl,
    congrArg (· ++ _) (sentenceHit_routerQ s src x rest _)⟩

end

end Sys2Proof.Machine
end

section
/-! PROOF. ENQUEUE_COPY (R147, R148, R166, R167): one copy of the queue's first sentence, written into its stall or abandoned. -/

namespace Sys2Proof.Machine

/-! ### A record with room (R219, R220, R222) -/

theorem makeRoom_room {s : State} {q n : Nat} (hroom : n ≤ stallFree s q) : makeRoom s q n = s := by
  have hstay : ∀ k, discardFor s q n k = s := fun k => by
    cases k with
    | zero => rfl
    | succ k => rw [discardFor, if_neg (Nat.not_lt.2 hroom)]
  simp only [makeRoom, hstay, decide_true, Bool.or_true, if_true]

/-- Only the stall written moves. -/
theorem stallPut_others (s : State) (q : Nat) (rec : List Byte) {k : Nat} (hk : k ≠ q) : (stallPut s q rec).stall k = s.stall k := by
  have hstalls : (stallPut s q rec).stalls = (stallWritten s q rec).stalls := by
    rw [stallPut_eq, wmCheck_rest, raiseStall, raise_rest]
    rfl
  rw [State.stall, hstalls, stallWritten, ringWrite_rest]
  exact tget_tput_ne _ hk _ _ _

/-- A stall of a mode that gives no credit has room for a record of `n` bytes and takes it. -/
structure HasRoom (s : State) (q n : Nat) : Prop where
  up : s.shedUp 4 = true
  allocated : s.get F.stall_SIZE_LOG2 q ≠ 0
  running : (s.stall q).reset = none
  agree : mismatchOf (s.stall q) = 0
  mode : s.on F.stall_MODE q = false
  size : n ≤ stallSize s q
  free : n ≤ stallFree s q

theorem stallOffer_room {s : State} {q : Nat} {rec : List Byte} (h : HasRoom s q rec.length) : stallOffer s q rec = stallPut s q rec := by
  have hsize : ¬ stallSize s q < rec.length := Nat.not_lt.2 h.size
  simp [stallOffer, h.up, h.allocated, h.running, h.mode, hsize, comparePtrs, h.agree, makeRoom_room h.free]

theorem stallTakes_room {s : State} {q n : Nat} (h : HasRoom s q n) : stallTakes s q n = true := by
  simp [stallTakes, stallOn, h.allocated, h.up, h.size, h.running, h.mode]

/-! ### The copy in hand (R166, R167) -/

theorem copyRecord_length (e : Enqueue) : (copyRecord e).length = recordSize e.sent.bytes.length := by
  rw [copyRecord, sentenceRecord, mkRecord_length, pad8, List.length_append, List.length_replicate, recordSize]
  omega

theorem writeCopy_resetting {s : State} {q : Nat} (hreset : (s.stall q).reset ≠ none) (e : Enqueue) (voter : Bool) :
    writeCopy s e voter q = abandonCopy s := by
  rw [writeCopy, if_pos (Option.isSome_iff_ne_none.2 hreset)]

theorem writeCopy_room {s : State} {q : Nat} {e : Enqueue} (h : HasRoom s q (copyRecord e).length) :
    writeCopy s e false q = routerInc (stallPut s q (copyRecord e)) F.router_COPIES := by
  have hafter : ((stallPut s q (copyRecord e)).stall q).reset = none := by
    rw [stallPut_stall]
    exact h.running
  simp [writeCopy, h.running, stallOffer_room h, hafter, stallTakes_room h]

/-- What is left of a sentence once the copy for its first stall is made. -/
def copiesLeft (e : Enqueue) (rest : List Nat) : Option Enqueue := if rest.isEmpty then none else some { e with stalls := rest }

section

variable {s : State} {e : Enqueue} {q : Nat} {rest : List Nat} (hup2 : s.shedUp 2 = true) (hup4 : s.shedUp 4 = true)
  (hyard : s.yardErr = []) (hcopy : e.sent.spots.length = e.sent.bytes.length → e.sent.spots.map s.yardByte = e.sent.bytes)
  (hvoter : s.voterQ = []) (hqueue : s.routerQ = [e]) (hrerun : e.rerun = false) (hstalls : e.stalls = q :: rest)
include hup2 hup4 hyard hcopy hvoter hqueue hrerun hstalls

/-- The only sentence queued has its turn, and its staging copy reads as it was stored. -/
theorem enqueueCopy_writes : exec (.enqueueCopy e.sent.source .none) s =
    .next (copyEnd { writeCopy s e false q with routerQ := (copiesLeft e rest).toList } e (copiesLeft e rest)) := by
  have hheld : heldByRerun s e = false := by simp [heldByRerun, hqueue, hvoter, hrerun]
  have hready : routerReady s e.sent.source = some ([], e, []) := by
    rw [routerReady, hqueue, routerTurn, if_pos (beq_self_eq_true _)]
    simp [hheld]
  have hstep : copyStep s e false .none = (writeCopy s e false q, copiesLeft e rest) := by
    rw [copyStep, readStaging_clean hyard _ hcopy]
    simp only [copyFrom, hstalls]
    rfl
  have hwritten : enqueueCopy s e.sent.source .none =
      copyEnd { writeCopy s e false q with routerQ := (copiesLeft e rest).toList } e (copiesLeft e rest) := by
    simp only [enqueueCopy, hready, hstep, List.nil_append, List.append_nil]
  rw [exec, execEnqueueCopy, upstream, hup2, hup4, hwritten]
  rfl

end

/-- A finished sentence frees its bytes; the router's registers and the stalls stand, and the queue. -/
theorem copyEnd_step (s : State) {e : Enqueue} (hmbox : e.sent.mbox = none) (left : Option Enqueue) :
    RouterStep [] s (copyEnd s e left) := by
  rw [copyEnd, freeSentence_plain _ hmbox]
  split
  · exact ⟨rfl, fun _ _ _ => rfl⟩
  · exact ringShow_router _ _

theorem abandonCopy_step (s : State) : RouterStep [F.router_COPY_ABANDONED, F.router_FLAGS] s (abandonCopy s) :=
  (routerInc_step s _).trans ((raiseRouter_step _ _).mono (by simp))

theorem abandonCopy_counts (s : State) :
    (abandonCopy s).get F.router_COPY_ABANDONED 0 = min (s.get F.router_COPY_ABANDONED 0 + 1) 0xFFFFFFFF := by
  rw [abandonCopy, (raiseRouter_step _ _).get F.router_COPY_ABANDONED rfl (by decide)]
  exact routerInc_counts s _ (by decide) rfl (by decide)

theorem copiesLeft_toList (e : Enqueue) (rest : List Nat) :
    (copiesLeft e rest).toList = if rest = [] then [] else [{ e with stalls := rest }] := by
  cases rest <;> rfl

section

variable {s : State} {e : Enqueue} {q : Nat} {rest : List Nat} (hup2 : s.shedUp 2 = true) (hup4 : s.shedUp 4 = true)
  (hyard : s.yardErr = []) (hcopy : e.sent.spots.length = e.sent.bytes.length → e.sent.spots.map s.yardByte = e.sent.bytes)
  (hvoter : s.voterQ = []) (hqueue : s.routerQ = [e]) (hrerun : e.rerun = false) (hstalls : e.stalls = q :: rest)
  (hmbox : e.sent.mbox = none)
include hup2 hup4 hyard hcopy hvoter hqueue hrerun hstalls hmbox

theorem enqueueCopy_abandons (hreset : (s.stall q).reset ≠ none) : ∃ t, exec (.enqueueCopy e.sent.source .none) s = .next t ∧
    t.routerQ = (if rest = [] then [] else [{ e with stalls := rest }]) ∧ t.stalls = s.stalls ∧
    t.get F.router_COPY_ABANDONED 0 = min (s.get F.router_COPY_ABANDONED 0 + 1) 0xFFFFFFFF ∧
    (t.get F.router_FLAGS 0).testBit 4 = true := by
  have hexec := enqueueCopy_writes hup2 hup4 hyard hcopy hvoter hqueue hrerun hstalls
  rw [writeCopy_resetting hreset] at hexec
  have hend := copyEnd_step { abandonCopy s with routerQ := (copiesLeft e rest).toList } hmbox (copiesLeft e rest)
  refine ⟨_, hexec, hend.routerQ.trans (copiesLeft_toList e rest), hend.stalls.trans (abandonCopy_step s).stalls, ?_, ?_⟩
  · rw [hend.get F.router_COPY_ABANDONED rfl (by simp)]
    exact abandonCopy_counts s
  · rw [hend.get F.router_FLAGS rfl (by simp)]
    exact raiseRouter_latches _ (by decide)

theorem enqueueCopy_fills (hroom : HasRoom s q (recordSize e.sent.bytes.length)) :
    ∃ t, exec (.enqueueCopy e.sent.source .none) s = .next t ∧
      t.routerQ = (if rest = [] then [] else [{ e with stalls := rest }]) ∧ t.stall q = stallFilled s q (copyRecord e) ∧
      (∀ k, k ≠ q → t.stall k = s.stall k) ∧ t.get F.router_COPIES 0 = min (s.get F.router_COPIES 0 + 1) 0xFFFFFFFF := by
  have hexec := enqueueCopy_writes hup2 hup4 hyard hcopy hvoter hqueue hrerun hstalls
  rw [writeCopy_room (by rwa [copyRecord_length])] at hexec
  have hcount := routerInc_step (stallPut s q (copyRecord e)) F.router_COPIES
  have hend := copyEnd_step { routerInc (stallPut s q (copyRecord e)) F.router_COPIES with routerQ := (copiesLeft e rest).toList }
    hmbox (copiesLeft e rest)
  have hstalls := hend.stalls.trans hcount.stalls
  have hstall : ∀ k, tget _ k {} = (stallPut s q (copyRecord e)).stall k := fun k => congrArg (fun m => tget m k ({} : Stall)) hstalls
  have hcopies : (stallPut s q (copyRecord e)).get F.router_COPIES 0 = s.get F.router_COPIES 0 :=
    (besideStalls_stallPut (BesideStalls.refl s) q _).get F.router_COPIES (by decide) 0
  refine ⟨_, hexec, hend.routerQ.trans (copiesLeft_toList e rest), (hstall q).trans (stallPut_stall s q _),
    fun k hk => (hstall k).trans (stallPut_others s q _ hk), ?_⟩
  rw [hend.get F.router_COPIES rfl (by simp), ← hcopies]
  exact routerInc_counts _ F.router_COPIES (by decide) rfl (by decide)

end

end Sys2Proof.Machine
end

section
/-! PROOF. ROUTER_SWAP (R176 to R178, R263): the copies exchanged, and firmware's protect ranges behind them. -/

namespace Sys2Proof.Machine

/-! ### What a swap moves -/

/-- A swap beside its registers: actions that differ start afresh, and nothing is asked for or staged any more. -/
def swapCleared (s : State) : State := { s with acts := freshActs s, commitAsked := false, sweepDue := false, routerStaged := false }

/-- The copies exchanged, the copyback begun. -/
def copiesExchanged (s : State) : State := ((swapCleared s).set F.router_ACTIVE 0 s.rtInactive).set F.router_COPYBACK 0 1

/-- The swap counted and flagged, before the protect ranges follow. -/
def swapFlagged (s : State) : State := raiseRouter (routerInc (copiesExchanged s) F.router_SWAPS) Bit.rtSwapDone

theorem onlyRegs_set (s : State) (f : Field) (i v : Nat) : onlyRegs s (s.set f i v) := rfl

theorem swapFlagged_only (s : State) : onlyRegs (swapCleared s) (swapFlagged s) :=
  onlyRegs_trans (onlyRegs_trans (onlyRegs_trans (onlyRegs_set _ F.router_ACTIVE 0 _) (onlyRegs_set _ F.router_COPYBACK 0 1))
    (routerInc_step _ F.router_SWAPS).only) (raiseRouter_step _ _).only

theorem raiseRouter_reg (s : State) (bit : Nat) {r : RegAddr} (hr : r.blk ≠ .router) : (raiseRouter s bit).reg r = s.reg r := by
  rw [raiseRouter, raise_reg]
  split
  · rfl
  · exact reg_setReg_blk s (r := F.router_FLAGS.addr 0) (Ne.symm hr) _

theorem routerInc_reg (s : State) {f : Field} (hf : f.blk = .router) {r : RegAddr} (hr : r.blk ≠ .router) :
    (routerInc s f).reg r = s.reg r := by
  have hinc := reg_inc_block s f 0 (r := r) (by rw [hf]; exact hr)
  unfold routerInc
  dsimp only
  split
  · exact (raiseRouter_reg _ _ hr).trans hinc
  · exact hinc

theorem swapFlagged_reg (s : State) {r : RegAddr} (hr : r.blk ≠ .router) : (swapFlagged s).reg r = s.reg r :=
  (raiseRouter_reg _ _ hr).trans ((routerInc_reg _ rfl hr).trans
    ((reg_setReg_blk _ (r := F.router_COPYBACK.addr 0) (Ne.symm hr) _).trans
      (reg_setReg_blk (swapCleared s) (r := F.router_ACTIVE.addr 0) (Ne.symm hr) _)))

/-- A router field at another offset than the counter and the flags reads as right after the exchange. -/
theorem swapFlagged_get (s : State) (g : Field) (hg : g.blk = .router) (hoff : 0x40 ≠ g.off % 65536 ∧ 8 ≠ g.off % 65536) :
    (swapFlagged s).get g 0 = (copiesExchanged s).get g 0 :=
  ((raiseRouter_step _ _).get g hg (List.forall_mem_singleton.2 hoff.2)).trans
    ((routerInc_step _ F.router_SWAPS).get g hg (List.forall_mem_cons.2 ⟨hoff.1, List.forall_mem_singleton.2 hoff.2⟩))

theorem swapFlagged_active (s : State) : (swapFlagged s).get F.router_ACTIVE 0 = 1 - s.get F.router_ACTIVE 0 := by
  rw [swapFlagged_get s F.router_ACTIVE rfl (by decide), copiesExchanged,
    State.get_set_beside _ F.router_COPYBACK F.router_ACTIVE 0 _ rfl rfl (by decide) (by decide), State.get_set_self _ _ (by decide)]
  exact Nat.mod_eq_of_lt (Nat.lt_of_le_of_lt (Nat.sub_le ..) (by decide))

theorem swapFlagged_copyback (s : State) : (swapFlagged s).on F.router_COPYBACK 0 = true := by
  rw [State.on, swapFlagged_get s F.router_COPYBACK rfl (by decide)]
  exact on_set_one _ F.router_COPYBACK (by decide) (by decide) 0

theorem swapFlagged_swaps (s : State) : (swapFlagged s).get F.router_SWAPS 0 = min (s.get F.router_SWAPS 0 + 1) 0xFFFFFFFF := by
  have hswaps : (copiesExchanged s).get F.router_SWAPS 0 = s.get F.router_SWAPS 0 :=
    (State.get_set_off _ F.router_COPYBACK F.router_SWAPS 0 0 _ (by decide)).trans
      (State.get_set_off (swapCleared s) F.router_ACTIVE F.router_SWAPS 0 0 _ (by decide))
  rw [swapFlagged, (raiseRouter_step _ _).get F.router_SWAPS rfl (by decide), ← hswaps]
  exact routerInc_counts _ F.router_SWAPS (by decide) rfl (by decide)

/-! ### The protect ranges (R263) -/

/-- Of the registers only the yard's may differ, and free values may have been drawn. -/
structure YardStep (s t : State) : Prop where
  only : t = { s with regs := t.regs, drawn := t.drawn }
  reg : ∀ r : RegAddr, r.blk ≠ .yard → t.reg r = s.reg r

theorem YardStep.refl (s : State) : YardStep s s := ⟨rfl, fun _ _ => rfl⟩

theorem YardStep.trans {s t u : State} (h : YardStep s t) (k : YardStep t u) : YardStep s u :=
  ⟨by rw [k.only, h.only], fun r hr => (k.reg r hr).trans (h.reg r hr)⟩

theorem yardStep_set (s : State) (f : Field) (hf : f.blk = .yard) (v : Nat) : YardStep s (s.set f 0 v) :=
  ⟨rfl, fun _ hr => reg_setReg_blk s (r := f.addr 0) (fun e => hr (e.symm.trans hf)) _⟩

theorem yardStep_drawn (s : State) (n : Nat) : YardStep s { s with drawn := n } := ⟨rfl, fun _ _ => rfl⟩

theorem YardStep.get {s t : State} (h : YardStep s t) (g : Field) (hg : g.blk = .router) : t.get g 0 = s.get g 0 :=
  get_of_reg (h.reg (g.addr 0) (by rw [show (g.addr 0).blk = g.blk from rfl, hg]; decide))

theorem protectTables_sets (s : State) : ∃ a b c d, protectTables s =
    { (((s.set F.yard_PROT_BASE 0 a).set F.yard_PROT_LIMIT 0 b).set (F.yard_PROT_BASE.at 8) 0 c).set (F.yard_PROT_LIMIT.at 8) 0 d with
      drawn := s.drawn + 2 } := ⟨_, _, _, _, rfl⟩

theorem protectTables_step (s : State) : YardStep s (protectTables s) := by
  obtain ⟨a, b, c, d, heq⟩ := protectTables_sets s
  rw [heq]
  exact ((((yardStep_set s F.yard_PROT_BASE rfl a).trans (yardStep_set _ F.yard_PROT_LIMIT rfl b)).trans
    (yardStep_set _ (F.yard_PROT_BASE.at 8) rfl c)).trans (yardStep_set _ (F.yard_PROT_LIMIT.at 8) rfl d)).trans (yardStep_drawn _ _)

theorem swapTables_step (s : State) : YardStep (swapFlagged s) (swapTables s) := by
  have hswap : swapTables s = if (swapFlagged s).running then protectTables (swapFlagged s) else swapFlagged s := rfl
  rw [hswap]
  split
  · exact protectTables_step _
  · exact YardStep.refl _

/-! ### ROUTER_SWAP -/

/-- What a swap leaves of the state. -/
theorem swapTables_rest (s : State) : swapTables s = { s with
    regs := (swapTables s).regs, fired := (swapTables s).fired, acts := (swapTables s).acts, drawn := (swapTables s).drawn,
    commitAsked := false, sweepDue := false, routerStaged := false } := by
  have hyard := (swapTables_step s).only
  have hswap := swapFlagged_only s
  generalize swapTables s = t at *
  generalize swapFlagged s = u at *
  rw [hyard, hswap]
  rfl

theorem swapTables_acts (s : State) : (swapTables s).acts = freshActs s := by
  rw [(swapTables_step s).only, swapFlagged_only s]
  rfl

theorem routerSwap_notDue {s : State} (hdue : swapDue s = false) : exec .routerSwap s = .next s := by
  rw [exec, execRouterSwap, hdue]
  rfl

theorem switchRouter_idle {s : State} (hmode : s.modeWait = none) : switchRouter s = s := by
  rw [switchRouter, hmode]

/-- A commit asked for, that no command waits for and no mode switch either, exchanges the copies and no more. -/
theorem routerSwap_swaps {s : State} (hup2 : s.shedUp 2 = true) (hup4 : s.shedUp 4 = true) (hasked : s.commitAsked = true)
    (hcopy : s.on F.router_COPYBACK 0 = false) (hwaits : s.waits = []) (hmode : s.modeWait = none) :
    exec .routerSwap s = .next (swapTables s) := by
  have hnone : (swapTables s).waits = [] := by rw [swapTables_rest, hwaits]
  have hidle : (swapTables s).modeWait = none := by rw [swapTables_rest, hmode]
  rw [exec, execRouterSwap, swapDue, hasked, upstream, hup2, hup4, hcopy]
  simp only [answerWaits_none (fun w hw => absurd hw (by rw [hnone]; exact List.not_mem_nil)), switchRouter_idle hidle]
  rfl

/-- An action that stands in both copies keeps its decimation and its bucket (R178). -/
theorem swapTables_sameAction {s : State} {n : Nat} (hsame : s.action 0 n = s.action 1 n) :
    tget (swapTables s).acts n {} = tget s.acts n {} := by
  rw [swapTables_acts, freshActs, tget_filter s.acts (fun k => s.action 0 k == s.action 1 k), if_pos (beq_iff_eq.2 hsame)]

theorem swapTables_keeps (s : State) : keepsRegsOutside (fun q => q.blk == .router || q.blk == .yard) s (swapTables s) := by
  intro r _ hr
  simp only [Bool.or_eq_false_iff, beq_eq_false_iff_ne] at hr
  exact ((swapTables_step s).reg r hr.2).trans (swapFlagged_reg s hr.1)

end Sys2Proof.Machine
end

section
/-! PROOF. ROUTER_COPYBACK_DONE (R176): the inactive copy made equal to the one in force. -/

namespace Sys2Proof.Machine

/-! ### A table written from a list -/

theorem wfFrom_above {α : Type} [DecidableEq α] {d : α} {t : Tbl α} {b : Nat} (h : tblWfFrom d b t = true) : ∀ e ∈ t, b ≤ e.1 := by
  induction t generalizing b with
  | nil => exact fun e he => absurd he List.not_mem_nil
  | cons e t ih =>
    simp only [tblWfFrom, Bool.and_eq_true, decide_eq_true_eq] at h
    exact List.forall_mem_cons.2 ⟨h.1.1, fun x hx => Nat.le_of_succ_le ((Nat.succ_le_succ h.1.1).trans (ih h.2 x hx))⟩

section

variable {α : Type} [DecidableEq α] (d : α) (g : Nat → Nat)

/-- Each entry of a list put at a number of its own. -/
def putEach (l u : Tbl α) : Tbl α := l.foldl (fun u e => tput u (g e.1) e.2 d) u

theorem tget_putEach_apart (l u : Tbl α) {k : Nat} (h : ∀ e ∈ l, g e.1 ≠ k) : tget (putEach d g l u) k d = tget u k d := by
  induction l generalizing u with
  | nil => rfl
  | cons e l ih =>
    obtain ⟨he, hl⟩ := List.forall_mem_cons.1 h
    exact (ih _ hl).trans (tget_tput_ne u (Ne.symm he) e.2 d d)

/-- Where a listed number alone goes, its value stands after the run. -/
theorem tget_putEach {l : Tbl α} {b : Nat} (hwf : tblWfFrom d b l = true) (u : Tbl α) {j : Nat} (hinj : ∀ e ∈ l, g e.1 = g j → e.1 = j)
    (hnone : tget u (g j) d = d) : tget (putEach d g l u) (g j) d = tget l j d := by
  induction l generalizing u b with
  | nil => exact hnone
  | cons e l ih =>
    obtain ⟨a, v⟩ := e
    simp only [tblWfFrom, Bool.and_eq_true] at hwf
    obtain ⟨ha, hl⟩ := List.forall_mem_cons.1 hinj
    by_cases hj : a = j
    · have hlater : ∀ e ∈ l, g e.1 ≠ g j := fun e he heq => by
        have habove := wfFrom_above hwf.2 e he
        have := hl e he heq
        omega
      rw [tget, if_pos hj, ← hj]
      exact (tget_putEach_apart d g l _ (hj ▸ hlater)).trans (tget_tput_self u (g a) v d)
    · rw [tget, if_neg hj]
      exact ih hwf.2 _ hl ((tget_tput_ne u (fun h => hj (ha h.symm)) v d d).trans hnone)

end

/-! ### One copy over the other -/

/-- The numbers of the other copy that the entries of copy `a` go to. -/
def otherCopy (n a k : Nat) : Nat := n * (1 - a) + k % n

theorem copyTable_eq {n a : Nat} (t : Tbl (List Word)) (d : List Word) : copyTable n a t d =
    putEach d (otherCopy n a) (t.filter (fun e => e.1 / n == a)) (t.filter (fun e => e.1 / n == a)) := rfl

section

variable {n a : Nat} (ha : a < 2) (t : Tbl (List Word)) (d : List Word) {k : Nat} (hk : k < n)
include ha hk

omit ha in
theorem copy_number : (n * a + k) / n = a ∧ (n * a + k) % n = k := by
  have hn : 0 < n := by omega
  exact ⟨by rw [Nat.mul_add_div hn, Nat.div_eq_of_lt hk, Nat.add_zero], by rw [Nat.mul_add_mod, Nat.mod_eq_of_lt hk]⟩

theorem copyTable_active : tget (copyTable n a t d) (n * a + k) d = tget t (n * a + k) d := by
  have hkept := tget_filter t (fun j => j / n == a) (n * a + k) d
  rw [if_pos (beq_iff_eq.2 (copy_number hk).1)] at hkept
  have hapart : ∀ e ∈ t.filter (fun e => e.1 / n == a), otherCopy n a e.1 ≠ n * a + k := fun e _ heq => by
    have hmod : e.1 % n < n := Nat.mod_lt _ (by omega)
    have hcopy := congrArg (· / n) heq
    simp only [otherCopy, Nat.mul_add_div (show 0 < n by omega), Nat.div_eq_of_lt hmod, Nat.div_eq_of_lt hk] at hcopy
    omega
  rw [copyTable_eq, tget_putEach_apart _ _ _ _ hapart, hkept]

theorem copyTable_inactive (hwf : tblWf d t = true) :
    tget (copyTable n a t d) (n * (1 - a) + k) d = tget t (n * a + k) d := by
  have hplace : otherCopy n a (n * a + k) = n * (1 - a) + k := by rw [otherCopy, (copy_number hk).2]
  have hkept := tget_filter t (fun j => j / n == a) (n * a + k) d
  rw [if_pos (beq_iff_eq.2 (copy_number hk).1)] at hkept
  have hnone := tget_filter t (fun j => j / n == a) (n * (1 - a) + k) d
  rw [(copy_number (a := 1 - a) hk).1, if_neg (by rw [beq_iff_eq]; omega)] at hnone
  have hinj : ∀ e ∈ t.filter (fun e => e.1 / n == a), otherCopy n a e.1 = otherCopy n a (n * a + k) → e.1 = n * a + k := by
    intro e he heq
    have hcopy : e.1 / n = a := by simpa using (List.mem_filter.1 he).2
    have hmod : e.1 % n = k := Nat.add_left_cancel (heq.trans hplace)
    rw [← Nat.div_add_mod e.1 n, hcopy, hmod]
  rw [← hplace] at hnone ⊢
  rw [copyTable_eq, tget_putEach d _ (filter_wfFrom d _ hwf) _ hinj hnone, hkept]

end

/-! ### ROUTER_COPYBACK_DONE -/

theorem rerunHeld_none {s : State} (hwaits : s.waits = []) : rerunHeld s = s := by
  rw [rerunHeld, hwaits, List.filter_nil, List.filter_nil, List.foldl_nil]
  cases s
  simp_all

theorem routerCopybackDone_levels {s : State} (hcopy : s.on F.router_COPYBACK 0 = true) (hrun : s.running = true) (hwaits : s.waits = []) :
    exec .routerCopybackDone s = .next (levelTables s) := by
  have hlevel : (levelTables s).waits = [] := hwaits
  rw [exec, execRouterCopybackDone, hcopy, hrun]
  simp only [rerunHeld_none hlevel, hlevel]
  rfl

theorem levelTables_active (s : State) : (levelTables s).rtActive = s.rtActive :=
  s.get_set_beside F.router_COPYBACK F.router_ACTIVE 0 0 rfl rfl (by decide) (by decide)

end Sys2Proof.Machine
end

section
/-! PROOF. The router's classification, copies and tables (R155 to R167, R176, R188): the four parts of the statement. -/

namespace Sys2Proof.Machine

/-- The entries, actions and groups after a copyback, in the copy in force and in the other. -/
theorem levelTables_copies (s : State) :
    (∀ n, n < 4096 → (levelTables s).entry (levelTables s).rtActive n = s.entry s.rtActive n ∧
      (levelTables s).action (levelTables s).rtActive n = s.action s.rtActive n ∧
      (tblWf entry0 s.entries = true → (levelTables s).entry (levelTables s).rtInactive n = s.entry s.rtActive n) ∧
      (tblWf action0 s.actions = true → (levelTables s).action (levelTables s).rtInactive n = s.action s.rtActive n)) ∧
    (∀ n, n < 1024 → (levelTables s).group (levelTables s).rtActive n = s.group s.rtActive n ∧
      (tblWf group0 s.groups = true → (levelTables s).group (levelTables s).rtInactive n = s.group s.rtActive n)) := by
  have hinactive : (levelTables s).rtInactive = 1 - s.rtActive := congrArg (1 - ·) (levelTables_active s)
  rw [levelTables_active, hinactive]
  exact ⟨fun n hn => ⟨copyTable_active (rtActive_lt s) s.entries entry0 hn, copyTable_active (rtActive_lt s) s.actions action0 hn,
      copyTable_inactive (rtActive_lt s) s.entries entry0 hn, copyTable_inactive (rtActive_lt s) s.actions action0 hn⟩,
    fun n hn => ⟨copyTable_active (rtActive_lt s) s.groups group0 hn, copyTable_inactive (rtActive_lt s) s.groups group0 hn⟩⟩

/-- A swap's copy, copyback, counter and flag, behind the protect ranges as before them. -/
theorem swapTables_shows (s : State) : (swapTables s).get F.router_ACTIVE 0 = 1 - s.get F.router_ACTIVE 0 ∧
    (swapTables s).on F.router_COPYBACK 0 = true ∧ (swapTables s).get F.router_SWAPS 0 = min (s.get F.router_SWAPS 0 + 1) 0xFFFFFFFF ∧
    ((swapTables s).get F.router_FLAGS 0).testBit 6 = true := by
  have hyard := swapTables_step s
  refine ⟨(hyard.get _ rfl).trans (swapFlagged_active s), ?_, (hyard.get _ rfl).trans (swapFlagged_swaps s), ?_⟩
  · rw [State.on, hyard.get _ rfl]
    exact swapFlagged_copyback s
  · rw [hyard.get _ rfl]
    exact raiseRouter_latches _ (by decide)

/-- A classification that ends in `y`, by its parts. -/
theorem classified_parts {s : State} {src : Nat} {rest : List Sentence} {y : State → Prop}
    (h : ∃ t, exec (.classify .none) s = .next t ∧ Classified s src rest t ∧ y t) :
    ∃ t, exec (.classify .none) s = .next t ∧ (t.source src).closed = rest ∧
      t.get F.router_CLASSIFIED 0 = min (s.get F.router_CLASSIFIED 0 + 1) 0xFFFFFFFF ∧ t.voterQ = s.voterQ ∧
      t.stalls = s.stalls ∧ (∀ k, k ≠ src → t.source k = s.source k) ∧ y t := by
  obtain ⟨t, hexec, htaken, hend⟩ := h
  exact ⟨t, hexec, htaken.closed, htaken.counted, htaken.voterQ, htaken.stalls, htaken.others, hend⟩

/-- Settles O49: a classification ends missed, dropped, with an empty group or queued, each end over the sentence taken
and counted; a copy is abandoned or fills its stall; a swap and a copyback by what they leave of each copy. -/
theorem classificationAppliesTheFirstMatchingEntry : Obligations.ClassificationAppliesTheFirstMatchingEntry := by
  intro s hup2 hup4
  refine ⟨fun f hchoice => classify_nothing hup2 hup4 hchoice f, ?_, ?_, routerSwap_notDue, ?_, ?_⟩
  case refine_1 =>
    intro src x rest hchoice hclosed _ hcap hmbox helig
    exact ⟨fun hmiss => classified_parts (classify_misses hup2 hup4 hchoice hclosed hcap hmbox helig hmiss),
      fun hhit hforward hhook =>
        classified_parts (classify_drops hup2 hup4 hchoice hclosed hcap hmbox helig hhit hhook hforward),
      fun hhit hforward hclass hbad hhook hdecim hrate =>
        ⟨fun hstalls => classified_parts (classify_emptyGroup hup2 hup4 hchoice hclosed hcap hmbox helig hhit hhook hforward
            hclass hbad hdecim hrate hstalls),
          fun hstalls => classified_parts (classify_queues hup2 hup4 hchoice hclosed hcap helig hhit hhook hforward hclass hbad
            hdecim hrate hstalls)⟩⟩
  case refine_2 =>
    intro e q rest hyard hcopy hvoter hqueue hrerun hstalls hmbox
    refine ⟨enqueueCopy_abandons hup2 hup4 hyard hcopy hvoter hqueue hrerun hstalls hmbox,
      fun hrunning hagree halloc hmode hfree hsize => ?_⟩
    obtain ⟨t, hexec, hleft, hstall, hothers, hcopies⟩ := enqueueCopy_fills hup2 hup4 hyard hcopy hvoter hqueue hrerun hstalls hmbox
      ⟨hup4, halloc, hrunning, hagree, hmode, hsize, hfree⟩
    refine ⟨t, hexec, hleft, ?_, hothers, ?_, hcopies⟩
    · rw [hstall, ← copyRecord_length]
      rfl
    · rw [hstall, ← copyRecord_length]
      rfl
  case refine_3 =>
    intro hasked hcopy hwaits hmode
    obtain ⟨hactive, hback, hswaps, hflag⟩ := swapTables_shows s
    exact ⟨swapTables s, routerSwap_swaps hup2 hup4 hasked hcopy hwaits hmode, hactive, hback, hswaps, hflag, swapTables_rest s,
      fun _ _ => swapTables_sameAction, swapTables_keeps s⟩
  case refine_4 =>
    intro hcopy hrun hwaits
    obtain ⟨hrecords, hgroups⟩ := levelTables_copies s
    exact ⟨levelTables s, routerCopybackDone_levels hcopy hrun hwaits, on_set_zero s F.router_COPYBACK (by decide) (by decide) 0,
      levelTables_active s, rfl, keepsRegsBut_set s F.router_COPYBACK 0 0 List.mem_cons_self (by decide) (by decide), hrecords, hgroups⟩

end Sys2Proof.Machine
end

section
/-! PROOF. What a record offered to a stall leaves of the voter (R203, R219 to R228): the sentences before the judges and the copies
that wait. -/

namespace Sys2Proof.Machine

/-- From `z` to `s` the sentences before the judges and the voter's queue stand. -/
structure VotesStand (z s : State) : Prop where
  ballots : s.ballots = z.ballots
  voterQ : s.voterQ = z.voterQ

theorem VotesStand.refl (s : State) : VotesStand s s := ⟨rfl, rfl⟩

theorem VotesStand.trans {s t u : State} (h : VotesStand s t) (k : VotesStand t u) : VotesStand s u :=
  ⟨k.ballots.trans h.ballots, k.voterQ.trans h.voterQ⟩

theorem votesStand_set (s : State) (f : Field) (i v : Nat) : VotesStand s (s.set f i v) := ⟨rfl, rfl⟩

theorem votesStand_putStall (s : State) (q : Nat) (x : Stall) : VotesStand s (s.putStall q x) := ⟨rfl, rfl⟩

theorem votesStand_markGone (s : State) (q : Nat) : VotesStand s (markGone s q) := ⟨rfl, rfl⟩

theorem votesStand_raise (s : State) (fl ev : Field) (i bit e : Nat) : VotesStand s (raise s fl ev i bit e) := by
  rw [raise_rest]
  exact ⟨rfl, rfl⟩

theorem votesStand_wmCheck (s : State) (q before : Nat) : VotesStand s (wmCheck s q before) := by
  rw [wmCheck_rest]
  exact ⟨rfl, rfl⟩

theorem votesStand_stallPut (s : State) (q : Nat) (rec : List Byte) : VotesStand s (stallPut s q rec) := by
  rw [stallPut_rest]
  exact ⟨rfl, rfl⟩

/-- A loss counted and flagged at a stall. -/
theorem votesStand_lost (s : State) (q bit : Nat) : VotesStand s (raiseStall (s.inc F.stall_LOST q) q bit) :=
  (votesStand_set s F.stall_LOST q _).trans (votesStand_raise _ _ _ _ _ _)

theorem votesStand_discardOldest (s : State) (q : Nat) : VotesStand s (discardOldest s q) := by
  unfold discardOldest
  dsimp only
  split
  · exact VotesStand.refl s
  · exact (votesStand_putStall s q _).trans ((votesStand_lost _ q _).trans (votesStand_wmCheck _ q _))

theorem votesStand_discardFor (s : State) (q n k : Nat) : VotesStand s (discardFor s q n k) := by
  induction k generalizing s with
  | zero => exact VotesStand.refl s
  | succ k ih =>
    unfold discardFor
    split
    · exact (votesStand_discardOldest s q).trans (ih _)
    · exact VotesStand.refl s

theorem votesStand_makeRoom (s : State) (q n : Nat) : VotesStand s (makeRoom s q n) := by
  have hroom := votesStand_discardFor s q n (s.stall q).lens.length
  unfold makeRoom
  dsimp only
  split
  · exact hroom
  · exact hroom.trans ((votesStand_putStall _ q _).trans ((votesStand_set _ F.stall_OVTK q _).trans
      ((votesStand_set _ F.stall_OFFS q 0).trans ((votesStand_raise _ _ _ _ _ _).trans (votesStand_markGone _ q)))))

theorem votesStand_comparePtrs {s : State} {q : Nat} {f : State → State} (hf : VotesStand s (f s)) :
    VotesStand s (comparePtrs s q f) := by
  unfold comparePtrs startReset
  split
  · exact hf
  · dsimp only
    split
    · exact ⟨rfl, rfl⟩
    · exact ⟨rfl, rfl⟩

theorem votesStand_stallOffer (s : State) (q : Nat) (rec : List Byte) : VotesStand s (stallOffer s q rec) := by
  unfold stallOffer
  split_ifs
  · exact VotesStand.refl s
  · exact votesStand_lost s q _
  · exact VotesStand.refl s
  · exact votesStand_lost s q _
  · exact votesStand_lost s q _
  · exact votesStand_comparePtrs ((votesStand_set s F.stall_GRANTED q _).trans (votesStand_stallPut _ q rec))
  · exact votesStand_comparePtrs ((votesStand_makeRoom s q _).trans (votesStand_stallPut _ q rec))

end Sys2Proof.Machine
end

section
/-! PROOF. The voter's registers (R195, R206, R209): what counting, flagging and logging a vote moves, and the settings it leaves. -/

namespace Sys2Proof.Machine

/-! ### Steps of the voter's registers -/

/-- The sentences before the judges and the voter's queue stand, and of the voter's registers all but those of the fields listed. -/
structure VoterStep (fs : List Field) (s t : State) : Prop where
  votes : VotesStand s t
  reg : ∀ r : RegAddr, r.blk = .vote → (∀ f ∈ fs, f.off % 65536 ≠ r.off % 65536) → t.reg r = s.reg r

theorem VoterStep.refl (fs : List Field) (s : State) : VoterStep fs s s := ⟨VotesStand.refl s, fun _ _ _ => rfl⟩

section

variable {fs : List Field} {s t u : State}

theorem VoterStep.get (h : VoterStep fs s t) (g : Field) (hg : g.blk = .vote) (hfs : ∀ f ∈ fs, f.off % 65536 ≠ g.off % 65536) :
    t.get g 0 = s.get g 0 := get_of_reg (h.reg (g.addr 0) hg hfs)

theorem VoterStep.trans (h : VoterStep fs s t) (k : VoterStep fs t u) : VoterStep fs s u :=
  ⟨h.votes.trans k.votes, fun r hr hfs => (k.reg r hr hfs).trans (h.reg r hr hfs)⟩

theorem VoterStep.mono {gs : List Field} (h : VoterStep fs s t) (hsub : fs ⊆ gs) : VoterStep gs s t :=
  ⟨h.votes, fun r hr hgs => h.reg r hr fun f hf => hgs f (hsub hf)⟩

end

theorem voterStep_set {fs : List Field} (s : State) {f : Field} (v : Nat) (hf : f ∈ fs) : VoterStep fs s (s.set f 0 v) :=
  ⟨votesStand_set s f 0 v, fun r _ hfs => reg_set_off s f 0 v r.blk r.inst r.off (hfs f hf).symm⟩

theorem raiseVote_step (s : State) (bit : Nat) : VoterStep [F.vote_FLAGS] s (raiseVote s bit) := by
  refine ⟨votesStand_raise s _ _ _ _ _, fun r hr hfs => ?_⟩
  rw [raiseVote, raise_reg]
  split
  · rfl
  · exact (voterStep_set s _ List.mem_cons_self).reg r hr hfs

theorem raiseVote_latches (s : State) {bit : Nat} (hbit : bit < 8) : ((raiseVote s bit).get F.vote_FLAGS 0).testBit bit = true :=
  flagged_testBit (raise_flagged s F.vote_FLAGS F.vote_EVEN 0 bit _ (by decide) hbit (by decide))

theorem logVote_step (s : State) (x : Sentence) (prim : Verdict) (ws : List (Nat × VoteWord)) (outcome : Nat) :
    VoterStep [] s (logVote s x prim ws outcome) :=
  ⟨votesStand_stallOffer s 241 _, fun r hr _ => besideStalls_stallOffer (BesideStalls.refl s) 241 _ r (by rw [hr]; decide)⟩

theorem ringShow_voter (s : State) (src : Nat) : VoterStep [] s (ringShow s src) := by
  refine ⟨?_, fun r hr _ => ringShow_reg s src (Or.inl (by rw [hr]; decide))⟩
  have honly := ringShow_only s src
  unfold regsOnly at honly
  rw [honly]
  exact ⟨rfl, rfl⟩

/-! ### Dissent scores (R195) -/

/-- Two judges' scores share no bit of their register. -/
theorem scoreField_apart {j k : Nat} (hj : j < 3) (hk : k < 3) (hne : j ≠ k) :
    (scoreField j).lo + (scoreField j).width ≤ (scoreField k).lo ∨ (scoreField k).lo + (scoreField k).width ≤ (scoreField j).lo := by
  have hall : ∀ j < 3, ∀ k < 3, j ≠ k → (scoreField j).lo + (scoreField j).width ≤ (scoreField k).lo ∨
      (scoreField k).lo + (scoreField k).width ≤ (scoreField j).lo := by decide
  exact hall j hj k hk hne

theorem scoreField_width (j : Nat) : (scoreField j).width = 4 := by
  unfold scoreField
  split <;> rfl

theorem set_score_step (s : State) (j v : Nat) : VoterStep [F.vote_SCORE_0] s (s.set (scoreField j) 0 v) := by
  obtain ⟨-, hoff, -⟩ := scoreField_whole j
  refine ⟨votesStand_set s _ 0 v, fun r _ hfs => reg_set_off s _ 0 v r.blk r.inst r.off ?_⟩
  rw [hoff]
  exact (hfs _ List.mem_cons_self).symm

theorem get_set_score_ne (s : State) {j k : Nat} (hj : j < 3) (hk : k < 3) (hne : j ≠ k) (v : Nat) :
    (s.set (scoreField j) 0 v).get (scoreField k) 0 = s.get (scoreField k) 0 := by
  obtain ⟨hblk, hoff, -⟩ := scoreField_whole j
  obtain ⟨hblk', hoff', hfits⟩ := scoreField_whole k
  exact State.get_set_beside s _ _ 0 v (hblk.trans hblk'.symm) (hoff.trans hoff'.symm) hfits (scoreField_apart hj hk hne)

/-- A judge's score rises by 1 and holds at 15. -/
theorem scoreUp_score (s : State) (j : Nat) : (scoreUp s j).get (scoreField j) 0 = min 15 (s.get (scoreField j) 0 + 1) := by
  obtain ⟨-, -, hfits⟩ := scoreField_whole j
  have hself := State.get_set_self s (scoreField j) hfits 0 (min 15 (judgeScore s j + 1))
  rw [scoreField_width] at hself
  exact hself.trans (Nat.mod_eq_of_lt (by omega))

/-! ### Runs of majority votes (R195) -/

theorem majorityVote_step (s : State) (j : Nat) : VoterStep [F.vote_SCORE_0] s (majorityVote s j) := by
  unfold majorityVote
  dsimp only
  split
  · exact ⟨⟨rfl, rfl⟩, fun _ _ _ => rfl⟩
  · exact (set_score_step s j _).trans ⟨⟨rfl, rfl⟩, fun _ _ _ => rfl⟩

/-- A vote in the majority leaves the other judges' scores. -/
theorem majorityVote_others (s : State) {j k : Nat} (hj : j < 3) (hk : k < 3) (hne : j ≠ k) :
    (majorityVote s j).get (scoreField k) 0 = s.get (scoreField k) 0 := by
  unfold majorityVote
  dsimp only
  split
  · rfl
  · exact get_set_score_ne s hj hk hne _

/-- A judge outside the majority begins its run again. -/
def runBegins (s : State) (w : Nat × VoteWord) : State := { s with agreeRun := tput s.agreeRun w.1 0 0 }

/-- What a vote moves of the judges' runs: those in the majority go on, the others begin again. -/
def runsCounted (s : State) (ws : List (Nat × VoteWord)) : State :=
  (ws.filter (fun w => !(majority ws).contains w)).foldl runBegins ((majority ws).foldl (fun t w => majorityVote t w.1) s)

/-- What every step of counting the runs keeps, counting them keeps. -/
theorem runsCounted_keeps {R : State → State → Prop} (hrefl : ∀ s, R s s) (htrans : ∀ s t u, R s t → R t u → R s u)
    {ws : List (Nat × VoteWord)} (hagree : ∀ t, ∀ w ∈ majority ws, R t (majorityVote t w.1)) (hbegin : ∀ t w, R t (runBegins t w))
    (s : State) : R s (runsCounted s ws) := by
  have hfold : ∀ (f : State → Nat × VoteWord → State) (l : List (Nat × VoteWord)), (∀ t, ∀ w ∈ l, R t (f t w)) →
      ∀ u, R u (l.foldl f u) := by
    intro f l
    induction l with
    | nil => exact fun _ u => hrefl u
    | cons w l ih =>
      exact fun hf u => htrans _ _ _ (hf u w List.mem_cons_self) (ih (fun t v hv => hf t v (List.mem_cons_of_mem w hv)) _)
  exact htrans _ _ _ (hfold _ _ hagree s) (hfold _ _ (fun t w _ => hbegin t w) _)

theorem runsCounted_step (s : State) (ws : List (Nat × VoteWord)) : VoterStep [F.vote_SCORE_0] s (runsCounted s ws) :=
  runsCounted_keeps (R := VoterStep [F.vote_SCORE_0]) (VoterStep.refl _) (fun _ _ _ => VoterStep.trans)
    (fun t w _ => majorityVote_step t w.1) (fun _ _ => ⟨⟨rfl, rfl⟩, fun _ _ _ => rfl⟩) s

/-- A judge outside the majority keeps its score while the runs are counted. -/
theorem runsCounted_score (s : State) {ws : List (Nat × VoteWord)} {j : Nat} (hj : j < 3)
    (hws : ∀ w ∈ majority ws, w.1 < 3 ∧ w.1 ≠ j) : (runsCounted s ws).get (scoreField j) 0 = s.get (scoreField j) 0 :=
  runsCounted_keeps (R := fun s t => t.get (scoreField j) 0 = s.get (scoreField j) 0) (fun _ => rfl) (fun _ _ _ h k => k.trans h)
    (fun t w hw => majorityVote_others t (hws w hw).1 hj (hws w hw).2) (fun _ _ => rfl) s

/-- Counting the runs leaves the router's queue and the stalls. -/
theorem runsCounted_queues (s : State) (ws : List (Nat × VoteWord)) :
    (runsCounted s ws).routerQ = s.routerQ ∧ (runsCounted s ws).stalls = s.stalls := by
  refine runsCounted_keeps (R := fun s t => t.routerQ = s.routerQ ∧ t.stalls = s.stalls) (fun _ => ⟨rfl, rfl⟩)
    (fun _ _ _ h k => ⟨k.1.trans h.1, k.2.trans h.2⟩) (fun t w _ => ?_) (fun _ _ => ⟨rfl, rfl⟩) s
  unfold majorityVote
  dsimp only
  split <;> exact ⟨rfl, rfl⟩

/-! ### Overrides that a type names (R199) -/

/-- What leaves the voter's settings leaves the override that a sentence's type names. -/
theorem VoterStep.overrideOf {fs : List Field} {s t : State} (h : VoterStep fs s t)
    (hfs : ∀ f ∈ fs, 0 < f.off % 65536 ∧ f.off % 65536 < 0x40) (x : Sentence) : overrideOf t x = overrideOf s x := by
  have hreg : ∀ o, o = 0 ∨ (0x40 ≤ o ∧ o < 65536) → t.reg ⟨.vote, 0, o⟩ = s.reg ⟨.vote, 0, o⟩ := fun o ho =>
    h.reg _ rfl fun f hf => by
      have := hfs f hf
      dsimp only
      omega
  have henable : t.get F.vote_OVR_EN 0 = s.get F.vote_OVR_EN 0 := get_of_reg (hreg 0 (Or.inl rfl))
  unfold Machine.overrideOf
  dsimp only
  rw [henable, List.filter_congr]
  intro i hi
  have hi4 : i < 4 := List.mem_range.1 hi
  rw [hreg (0x40 + 8 * i) (Or.inr (by omega)), hreg (0x44 + 8 * i) (Or.inr (by omega))]

end Sys2Proof.Machine
end

section
/-! PROOF. VOTE (R192, R193, R195, R208, R209): the words of three judges, their majority, and the three ends of a vote. -/

namespace Sys2Proof.Machine

/-! ### Words and majorities (R192) -/

/-- The words of three judges that all give `base`. -/
def allAgree (base : VoteWord) : List (Nat × VoteWord) := [(0, base), (1, base), (2, base)]

/-- The words of three judges of which `j` gives `w` and the others `base`. -/
def wordsBut (base : VoteWord) (j : Nat) (w : VoteWord) : List (Nat × VoteWord) :=
  [0, 1, 2].map (fun k => (k, if k = j then w else base))

theorem judgeWords_agree (base : VoteWord) : judgeWords [0, 1, 2] base [] = allAgree base := rfl

theorem judgeWords_oneUpset (base : VoteWord) {j : Nat} (hj : j < 3) (w : VoteWord) :
    judgeWords [0, 1, 2] base [(j, w)] = wordsBut base j (trimWord w) := by
  interval_cases j <;> rfl

theorem judgeWords_twoUpset (base v w : VoteWord) :
    judgeWords [0, 1, 2] base [(0, v), (1, w)] = [(0, trimWord v), (1, trimWord w), (2, base)] := rfl

theorem majority_agree (base : VoteWord) : majority (allAgree base) = allAgree base := by
  simp [majority, allAgree]

theorem loneDissenter_agree (base : VoteWord) : loneDissenter (allAgree base) = none := by
  rw [loneDissenter, majority_agree]
  rfl

/-- Two equal words are a majority of three. -/
theorem majority_wordsBut {base w : VoteWord} (hne : w ≠ base) {j : Nat} (hj : j < 3) :
    majority (wordsBut base j w) = ([0, 1, 2].filter (fun k => k != j)).map (fun k => (k, base)) := by
  interval_cases j <;> simp [majority, wordsBut, hne.symm]

/-- The majority's judges are not the dissenter. -/
theorem mem_majority_wordsBut {base w : VoteWord} (hne : w ≠ base) {j : Nat} (hj : j < 3) {v : Nat × VoteWord}
    (hv : v ∈ majority (wordsBut base j w)) : v.1 < 3 ∧ v.1 ≠ j := by
  rw [majority_wordsBut hne hj] at hv
  obtain ⟨k, hk, rfl⟩ := List.mem_map.1 hv
  obtain ⟨hjudge, hother⟩ := List.mem_filter.1 hk
  have hlt : ∀ i ∈ [0, 1, 2], i < 3 := by decide
  exact ⟨hlt k hjudge, bne_iff_ne.1 hother⟩

theorem loneDissenter_wordsBut {base w : VoteWord} (hne : w ≠ base) {j : Nat} (hj : j < 3) :
    loneDissenter (wordsBut base j w) = some j := by
  rw [loneDissenter, majority_wordsBut hne hj]
  interval_cases j <;> simp [wordsBut, hne]

theorem majority_wordsBut_head {base w : VoteWord} (hne : w ≠ base) {j : Nat} (hj : j < 3) :
    ∃ k more, majority (wordsBut base j w) = (k, base) :: more := by
  rw [majority_wordsBut hne hj]
  interval_cases j <;> exact ⟨_, _, rfl⟩

theorem mask_agree (base : VoteWord) : maskOf ((majority (allAgree base)).map (·.1)) = 7 := by
  rw [majority_agree]
  show maskOf [0, 1, 2] = 7
  decide

/-- AGREE shows every judge but the dissenter. -/
theorem mask_wordsBut {base w : VoteWord} (hne : w ≠ base) {j : Nat} (hj : j < 3) :
    maskOf ((majority (wordsBut base j w)).map (·.1)) = 7 - 2 ^ j := by
  rw [majority_wordsBut hne hj, List.map_map]
  show maskOf (([0, 1, 2].filter (fun k => k != j)).map id) = 7 - 2 ^ j
  interval_cases j <;> decide

/-- Three different words have no majority. -/
theorem majority_apart {u v w : VoteWord} (huv : u ≠ v) (huw : u ≠ w) (hvw : v ≠ w) : majority [(0, u), (1, v), (2, w)] = [] := by
  simp [majority, huv, huw, hvw, huv.symm, huw.symm, hvw.symm]

theorem loneDissenter_apart {u v w : VoteWord} (huv : u ≠ v) (huw : u ≠ w) (hvw : v ≠ w) :
    loneDissenter [(0, u), (1, v), (2, w)] = none := by
  rw [loneDissenter, majority_apart huv huw hvw]
  rfl

/-! ### Counters and flags of a vote -/

/-- What a lone dissent counts and flags, and the dissenter's score (R195). -/
def dissentCounted (s : State) (j : Nat) : State := raiseVote ((scoreUp s j).inc F.vote_DISSENTS 0) Bit.vtDissent

/-- What a vote without a majority counts and flags (R193). -/
def noMajorityCounted (s : State) : State := raiseVote (s.inc F.vote_NO_MAJORITY 0) Bit.vtNoMajority

theorem countVote_agree {s : State} {ws : List (Nat × VoteWord)} (hall : ws.length = 3) (hlone : loneDissenter ws = none) :
    countVote s ws 0 = runsCounted s ws := by
  simp only [countVote, hall, hlone]
  rfl

theorem countVote_dissent {s : State} {ws : List (Nat × VoteWord)} {j : Nat} (hall : ws.length = 3)
    (hlone : loneDissenter ws = some j) : countVote s ws 0 = dissentCounted (runsCounted s ws) j := by
  simp only [countVote, hall, hlone]
  rfl

theorem countVote_noMajority {s : State} {ws : List (Nat × VoteWord)} (hall : ws.length = 3) (hlone : loneDissenter ws = none) :
    countVote s ws 1 = noMajorityCounted (runsCounted s ws) := by
  simp only [countVote, hall, hlone]
  rfl

theorem dissentCounted_step (s : State) (j : Nat) :
    VoterStep [F.vote_SCORE_0, F.vote_DISSENTS, F.vote_FLAGS] s (dissentCounted s j) :=
  ((set_score_step s j _).mono (by simp)).trans
    ((voterStep_set _ _ (by simp)).trans ((raiseVote_step _ _).mono (by simp)))

theorem dissentCounted_dissents (s : State) (j : Nat) :
    (dissentCounted s j).get F.vote_DISSENTS 0 = min (s.get F.vote_DISSENTS 0 + 1) 0xFFFFFFFF := by
  rw [dissentCounted, (raiseVote_step _ _).get F.vote_DISSENTS rfl (by decide), State.get_inc _ F.vote_DISSENTS (by decide),
    scoreUp, (set_score_step s j _).get F.vote_DISSENTS rfl (by decide)]
  rfl

theorem dissentCounted_score (s : State) (j : Nat) :
    (dissentCounted s j).get (scoreField j) 0 = min 15 (s.get (scoreField j) 0 + 1) := by
  obtain ⟨hblk, hoff, -⟩ := scoreField_whole j
  rw [dissentCounted, (raiseVote_step _ _).get (scoreField j) hblk (by rw [hoff]; decide),
    get_inc_off _ F.vote_DISSENTS (scoreField j) 0 0 (by rw [hoff]; decide), scoreUp_score]

theorem noMajorityCounted_step (s : State) : VoterStep [F.vote_NO_MAJORITY, F.vote_FLAGS] s (noMajorityCounted s) :=
  (voterStep_set _ _ (by simp)).trans ((raiseVote_step _ _).mono (by simp))

theorem noMajorityCounted_counts (s : State) :
    (noMajorityCounted s).get F.vote_NO_MAJORITY 0 = min (s.get F.vote_NO_MAJORITY 0 + 1) 0xFFFFFFFF :=
  ((raiseVote_step _ _).get F.vote_NO_MAJORITY rfl (by decide)).trans (State.get_inc s F.vote_NO_MAJORITY (by decide) 0)

/-- With SUSPECT_N 0 no judge is marked (R195). -/
theorem suspectCheck_never {s : State} (h : s.get F.vote_SUSPECT_N 0 = 0) (j : Nat) : suspectCheck s j = s := by
  simp [suspectCheck, h]

/-! ### A vote on a class-0 sentence (R193) -/

/-- The first sentence before the judges is sound, the primary matched it and forwarded it in class 0 to some stall, without a hook, no
override has its type, all three judges vote and none can become suspect. -/
structure ClassZeroVote (s : State) (b : Ballot) (rest : List Ballot) (c : Captured) : Prop where
  waits : s.ballots = b :: rest
  kept : b.dropped = false
  captured : b.sent.cap = some c
  sound : b.sent.bad = false
  noMailbox : b.sent.mbox = none
  hit : c.verdict.miss = false
  forward : c.verdict.forward = true
  classZero : c.verdict.cls = 0
  noHook : c.verdict.hookKind = 0
  noOverride : overrideOf s b.sent = none
  someStall : c.stalls ≠ []
  allIn : s.get F.vote_IN 0 = 7
  noSuspect : s.get F.vote_SUSPECT_N 0 = 0

/-- All three judges vote. -/
theorem presentJudges_all {s : State} (h : s.get F.vote_IN 0 = 7) (x : Sentence) : presentJudges s x = [0, 1, 2] := by
  rw [presentJudges, judgesIn, h]
  exact List.filter_eq_self.2 fun j hj => by
    have : j < 3 := List.mem_range.1 hj
    interval_cases j <;> rfl

/-- The state in which the first sentence has left the judges. -/
def ballotTaken (s : State) (rest : List Ballot) : State := { s with ballots := rest }

/-- A vote accepted with outcome 0, counted, and logged where a judge dissents alone (R195, R204). -/
def voteNoted (s : State) (b : Ballot) (c : Captured) (ws : List (Nat × VoteWord)) : State :=
  match loneDissenter ws with
  | none => runsCounted s ws
  | some j => logVote (dissentCounted (runsCounted s ws) j) b.sent c.verdict ws 0

theorem voteNoted_step (s : State) (b : Ballot) (c : Captured) (ws : List (Nat × VoteWord)) :
    VoterStep [F.vote_SCORE_0, F.vote_DISSENTS, F.vote_FLAGS] s (voteNoted s b c ws) := by
  have hruns : VoterStep [F.vote_SCORE_0, F.vote_DISSENTS, F.vote_FLAGS] s (runsCounted s ws) :=
    (runsCounted_step s ws).mono (by simp)
  unfold voteNoted
  split
  · exact hruns
  · exact hruns.trans ((dissentCounted_step _ _).trans ((logVote_step _ _ _ _ _).mono (by simp)))

/-- What an accepted sentence leaves in `t`, where the vote has been counted and logged: VOTED, and its place in the queue. -/
def accepted (t : State) (b : Ballot) (c : Captured) (agree : Nat) : State :=
  { t.inc F.vote_VOTED 0 with
    voterQ := t.voterQ ++ [{ sent := b.sent, verdict := c.verdict, agree := agree, stalls := c.stalls }] }

theorem accepted_get (t : State) (b : Ballot) (c : Captured) (agree : Nat) (g : Field) (hg : g.blk = .vote)
    (hoff : F.vote_VOTED.off % 65536 ≠ g.off % 65536) : (accepted t b c agree).get g 0 = t.get g 0 :=
  (voterStep_set (fs := [F.vote_VOTED]) t _ List.mem_cons_self).get g hg (by simpa using hoff)

theorem accepted_voted (t : State) (b : Ballot) (c : Captured) (agree : Nat) :
    (accepted t b c agree).get F.vote_VOTED 0 = min (t.get F.vote_VOTED 0 + 1) 0xFFFFFFFF :=
  State.get_inc t F.vote_VOTED (by decide) 0

/-- The sentence leaves the judges, is queued behind those accepted before it, and VOTED counts it (R193, R203, R209). -/
theorem accepted_noted (s : State) (b : Ballot) (rest : List Ballot) (c : Captured) (ws : List (Nat × VoteWord)) (agree : Nat) :
    (accepted (voteNoted (ballotTaken s rest) b c ws) b c agree).ballots = rest ∧
      (accepted (voteNoted (ballotTaken s rest) b c ws) b c agree).voterQ =
        s.voterQ ++ [{ sent := b.sent, verdict := c.verdict, agree := agree, stalls := c.stalls }] ∧
      (accepted (voteNoted (ballotTaken s rest) b c ws) b c agree).get F.vote_VOTED 0 =
        min (s.get F.vote_VOTED 0 + 1) 0xFFFFFFFF := by
  have hnoted := voteNoted_step (ballotTaken s rest) b c ws
  refine ⟨hnoted.votes.ballots, congrArg (· ++ _) hnoted.votes.voterQ, ?_⟩
  rw [accepted_voted, hnoted.get F.vote_VOTED rfl (by decide)]
  rfl

section

variable {s : State} {b : Ballot} {rest : List Ballot} {c : Captured} (h : ClassZeroVote s b rest c)
include h

theorem ClassZeroVote.override_none {fs : List Field} {t : State} (hstep : VoterStep fs (ballotTaken s rest) t)
    (hfs : ∀ f ∈ fs, 0 < f.off % 65536 ∧ f.off % 65536 < 0x40) : overrideOf t b.sent = none :=
  (hstep.overrideOf hfs b.sent).trans h.noOverride

/-- A majority for the primary's own result accepts the sentence (R193). -/
theorem ClassZeroVote.outcome_accepted :
    voteOutcome b c.verdict (some (voteWord b.sent c.verdict)) = (true, 0) := by
  have hverdict : wordVerdict (voteWord b.sent c.verdict) = c.verdict := rfl
  have hgood : ((voteWord b.sent c.verdict).miss || (voteWord b.sent c.verdict).bad || !(voteWord b.sent c.verdict).forward ||
      (voteWord b.sent c.verdict).cls != 0) = false := by
    simp [voteWord, h.sound, h.hit, h.forward, h.classZero]
  simp [voteOutcome, hverdict, hgood, h.kept]

theorem ClassZeroVote.acceptVote_queues {t : State} (hnone : overrideOf t b.sent = none) (agree : Nat) :
    acceptVote t b.sent c (voteWord b.sent c.verdict) agree false = accepted t b c agree := by
  have hstill : overrideOf (t.inc F.vote_VOTED 0) b.sent = none :=
    ((voterStep_set (fs := [F.vote_VOTED]) t _ List.mem_cons_self).overrideOf (by decide) b.sent).trans hnone
  have hhook : (voteWord b.sent c.verdict).hookKind = 0 := h.noHook
  have hgroup : (voteWord b.sent c.verdict).group = c.verdict.group := rfl
  simp only [acceptVote, hhook, hgroup, runOverride, hstill, beq_self_eq_true, if_true, List.isEmpty_iff, h.someStall, if_false]
  rfl

/-- A majority for the primary's own result: the vote is counted, a lone dissent logged, and the sentence queued. -/
theorem ClassZeroVote.takeVote_accepts {upset ws more : List (Nat × VoteWord)} {k : Nat}
    (hws : judgeWords [0, 1, 2] (voteWord b.sent c.verdict) upset = ws) (hall : ws.length = 3)
    (hmajority : majority ws = (k, voteWord b.sent c.verdict) :: more) {agree : Nat}
    (hmask : maskOf ((majority ws).map (·.1)) = agree) :
    takeVote s upset = accepted (voteNoted (ballotTaken s rest) b c ws) b c agree := by
  have hpresent : presentJudges (ballotTaken s rest) b.sent = [0, 1, 2] := presentJudges_all h.allIn b.sent
  have hnoted := voteNoted_step (ballotTaken s rest) b c ws
  have hnever : ∀ j, suspectCheck (voteNoted (ballotTaken s rest) b c ws) j = voteNoted (ballotTaken s rest) b c ws :=
    suspectCheck_never ((hnoted.get F.vote_SUSPECT_N rfl (by decide)).trans h.noSuspect)
  rw [← hmask, ← h.acceptVote_queues (h.override_none hnoted (by decide))]
  cases hlone : loneDissenter ws with
  | none =>
    simp only [voteNoted, hlone, ballotTaken] at hpresent hnever ⊢
    simp [takeVote, h.waits, h.captured, h.kept, hpresent, hws, hall, hmajority, h.outcome_accepted, hlone,
      countVote_agree hall hlone]
  | some j =>
    simp only [voteNoted, hlone, ballotTaken] at hpresent hnever ⊢
    simp [takeVote, h.waits, h.captured, h.kept, hpresent, hws, hall, hmajority, h.outcome_accepted, hlone,
      countVote_dissent hall hlone, hnever]

/-- Without a majority the vote is counted and logged, and the sentence leaves its bytes (R193). -/
theorem ClassZeroVote.takeVote_noMajority {upset ws : List (Nat × VoteWord)}
    (hws : judgeWords [0, 1, 2] (voteWord b.sent c.verdict) upset = ws) (hall : ws.length = 3) (hmajority : majority ws = [])
    (hlone : loneDissenter ws = none) :
    takeVote s upset =
      ringShow (logVote (noMajorityCounted (runsCounted (ballotTaken s rest) ws)) b.sent c.verdict ws 1) b.sent.source := by
  have hpresent : presentJudges (ballotTaken s rest) b.sent = [0, 1, 2] := presentJudges_all h.allIn b.sent
  have hout : voteOutcome b c.verdict none = (false, 1) := rfl
  simp only [ballotTaken] at hpresent ⊢
  simp [takeVote, h.waits, h.captured, h.kept, hpresent, hws, hmajority, hout, hlone, countVote_noMajority hall hlone,
    freeSentence_plain _ h.noMailbox]

end

/-! ### VOTE -/

section

variable {s : State} (hup2 : s.shedUp 2 = true) (hup3 : s.shedUp 3 = true) (hup4 : s.shedUp 4 = true)
include hup2 hup3 hup4

theorem vote_exec (upset : List (Nat × VoteWord)) : exec (.vote upset) s = .next (takeVote s upset) := by
  rw [exec, execVote, upstream, hup2, hup3, hup4]
  rfl

theorem vote_nothing (hnone : s.ballots = []) (upset : List (Nat × VoteWord)) : exec (.vote upset) s = .next s := by
  rw [vote_exec hup2 hup3 hup4, takeVote, hnone]

variable {b : Ballot} {rest : List Ballot} {c : Captured} (h : ClassZeroVote s b rest c)
include h

theorem vote_agrees : ∃ t, exec (.vote []) s = .next t ∧ t.ballots = rest ∧
    t.voterQ = s.voterQ ++ [{ sent := b.sent, verdict := c.verdict, agree := 7, stalls := c.stalls }] ∧
    t.routerQ = s.routerQ ∧ t.stalls = s.stalls ∧ t.get F.vote_VOTED 0 = min (s.get F.vote_VOTED 0 + 1) 0xFFFFFFFF ∧
    t.get F.vote_DISSENTS 0 = s.get F.vote_DISSENTS 0 ∧ t.get F.vote_FLAGS 0 = s.get F.vote_FLAGS 0 := by
  let base := voteWord b.sent c.verdict
  have htake := h.takeVote_accepts (judgeWords_agree base) rfl (majority_agree base) (mask_agree base)
  obtain ⟨hballots, hqueue, hvoted⟩ := accepted_noted s b rest c (allAgree base) 7
  have hruns : voteNoted (ballotTaken s rest) b c (allAgree base) = runsCounted (ballotTaken s rest) (allAgree base) := by
    rw [voteNoted, loneDissenter_agree]
  obtain ⟨hrouter, hstalls⟩ := runsCounted_queues (ballotTaken s rest) (allAgree base)
  have hstep := runsCounted_step (ballotTaken s rest) (allAgree base)
  refine ⟨_, (vote_exec hup2 hup3 hup4 []).trans (congrArg _ htake), hballots, hqueue, ?_, ?_, hvoted, ?_, ?_⟩
  · rw [hruns]
    exact hrouter
  · rw [hruns]
    exact hstalls
  · rw [accepted_get _ _ _ _ F.vote_DISSENTS rfl (by decide), hruns]
    exact hstep.get F.vote_DISSENTS rfl (by decide)
  · rw [accepted_get _ _ _ _ F.vote_FLAGS rfl (by decide), hruns]
    exact hstep.get F.vote_FLAGS rfl (by decide)

theorem vote_dissents {j : Nat} {w : VoteWord} (hj : j < 3) (hne : trimWord w ≠ voteWord b.sent c.verdict) :
    ∃ t, exec (.vote [(j, w)]) s = .next t ∧ t.ballots = rest ∧
      t.voterQ = s.voterQ ++ [{ sent := b.sent, verdict := c.verdict, agree := 7 - 2 ^ j, stalls := c.stalls }] ∧
      t.get F.vote_VOTED 0 = min (s.get F.vote_VOTED 0 + 1) 0xFFFFFFFF ∧
      t.get F.vote_DISSENTS 0 = min (s.get F.vote_DISSENTS 0 + 1) 0xFFFFFFFF ∧ (t.get F.vote_FLAGS 0).testBit 0 = true ∧
      t.get (scoreField j) 0 = min 15 (s.get (scoreField j) 0 + 1) := by
  let base := voteWord b.sent c.verdict
  let ws := wordsBut base j (trimWord w)
  obtain ⟨k, more, hhead⟩ := majority_wordsBut_head hne hj
  have htake := h.takeVote_accepts (judgeWords_oneUpset base hj w) rfl hhead (mask_wordsBut hne hj)
  obtain ⟨hballots, hqueue, hvoted⟩ := accepted_noted s b rest c ws (7 - 2 ^ j)
  let u := runsCounted (ballotTaken s rest) ws
  have hnoted : voteNoted (ballotTaken s rest) b c ws = logVote (dissentCounted u j) b.sent c.verdict ws 0 := by
    rw [voteNoted, loneDissenter_wordsBut hne hj]
  have hget : ∀ g : Field, g.blk = .vote → F.vote_VOTED.off % 65536 ≠ g.off % 65536 →
      (accepted (voteNoted (ballotTaken s rest) b c ws) b c (7 - 2 ^ j)).get g 0 = (dissentCounted u j).get g 0 :=
    fun g hg hoff => by
      rw [accepted_get _ _ _ _ g hg hoff, hnoted]
      exact (logVote_step _ _ _ _ _).get g hg (by simp)
  obtain ⟨hblk, hoff, -⟩ := scoreField_whole j
  refine ⟨_, (vote_exec hup2 hup3 hup4 _).trans (congrArg _ htake), hballots, hqueue, hvoted, ?_, ?_, ?_⟩
  · rw [hget F.vote_DISSENTS rfl (by decide), dissentCounted_dissents,
      (runsCounted_step (ballotTaken s rest) ws).get F.vote_DISSENTS rfl (by decide)]
    rfl
  · rw [hget F.vote_FLAGS rfl (by decide)]
    exact raiseVote_latches _ (by decide)
  · rw [hget (scoreField j) hblk (by rw [hoff]; decide), dissentCounted_score, runsCounted_score (ballotTaken s rest) hj]
    · rfl
    · exact fun _ hv => mem_majority_wordsBut hne hj hv

theorem vote_noMajority {v w : VoteWord} (hv : trimWord v ≠ voteWord b.sent c.verdict)
    (hw : trimWord w ≠ voteWord b.sent c.verdict) (hvw : trimWord v ≠ trimWord w) :
    ∃ t, exec (.vote [(0, v), (1, w)]) s = .next t ∧ t.ballots = rest ∧ t.voterQ = s.voterQ ∧
      t.get F.vote_VOTED 0 = s.get F.vote_VOTED 0 ∧ t.get F.vote_NO_MAJORITY 0 = min (s.get F.vote_NO_MAJORITY 0 + 1) 0xFFFFFFFF ∧
      (t.get F.vote_FLAGS 0).testBit 2 = true := by
  let ws := [(0, trimWord v), (1, trimWord w), (2, voteWord b.sent c.verdict)]
  have htake := h.takeVote_noMajority (judgeWords_twoUpset _ v w) rfl (majority_apart hvw hv hw) (loneDissenter_apart hvw hv hw)
  have hruns := runsCounted_step (ballotTaken s rest) ws
  have hcount := noMajorityCounted_step (runsCounted (ballotTaken s rest) ws)
  have hafter := (logVote_step (noMajorityCounted (runsCounted (ballotTaken s rest) ws)) b.sent c.verdict ws 1).trans
    (ringShow_voter _ b.sent.source)
  have hvotes := hruns.votes.trans (hcount.votes.trans hafter.votes)
  refine ⟨_, (vote_exec hup2 hup3 hup4 _).trans (congrArg _ htake), hvotes.ballots, hvotes.voterQ, ?_, ?_, ?_⟩
  · rw [hafter.get F.vote_VOTED rfl (by simp), hcount.get F.vote_VOTED rfl (by decide), hruns.get F.vote_VOTED rfl (by decide)]
    rfl
  · rw [hafter.get F.vote_NO_MAJORITY rfl (by simp), noMajorityCounted_counts, hruns.get F.vote_NO_MAJORITY rfl (by decide)]
    rfl
  · rw [hafter.get F.vote_FLAGS rfl (by simp)]
    exact raiseVote_latches _ (by decide)

end

end Sys2Proof.Machine
end

section
/-! PROOF. JUDGE_IN_COMPLETE (R195, R197, R206): the judge that was out votes again once nothing from before its return remains. -/

namespace Sys2Proof.Machine

/-! ### The registers of a judge that has joined -/

/-- The flag and the log leave the voter's registers but FLAGS. -/
theorem judgeJoined_get (s : State) (f : Field) (hf : f.blk = .vote) (ho : F.vote_FLAGS.off % 65536 ≠ f.off % 65536) :
    (judgeJoined s).get f 0 = (judgeBack s).get f 0 := by
  rw [judgeJoined_eq, get_logJudge _ _ 5 _ f hf ho]
  exact State.get_congr rfl f 0

theorem judgeJoined_in (s : State) (hj : s.get F.vote_OUT_JUDGE 0 < 3) :
    (judgeJoined s).get F.vote_IN 0 = s.get F.vote_IN 0 ||| 2 ^ s.get F.vote_OUT_JUDGE 0 := by
  have hlt : s.get F.vote_IN 0 ||| 2 ^ s.get F.vote_OUT_JUDGE 0 < 2 ^ 3 :=
    Nat.or_lt_two_pow (get_lt s F.vote_IN 0) (Nat.pow_lt_pow_right (by decide) hj)
  rw [judgeJoined_get s F.vote_IN rfl (by decide), judgeBack_get s F.vote_IN rfl rfl (by decide) (by decide), judgeJoins,
    State.get_set_beside _ F.vote_PENDING_IN F.vote_IN 0 0 rfl rfl (by decide) (by decide),
    State.get_set_beside _ F.vote_DEGRADED F.vote_IN 0 0 rfl rfl (by decide) (by decide),
    State.get_set_beside _ F.vote_OUT_JUDGE F.vote_IN 0 3 rfl rfl (by decide) (by decide)]
  exact (State.get_set_self s F.vote_IN (by decide) 0 _).trans (Nat.mod_eq_of_lt hlt)

theorem judgeJoined_degraded (s : State) : (judgeJoined s).on F.vote_DEGRADED 0 = false := by
  rw [State.on, judgeJoined_get s F.vote_DEGRADED rfl (by decide), judgeBack_get s F.vote_DEGRADED rfl rfl (by decide) (by decide),
    judgeJoins, State.get_set_beside _ F.vote_PENDING_IN F.vote_DEGRADED 0 0 rfl rfl (by decide) (by decide)]
  exact State.on_setB _ F.vote_DEGRADED (by decide) (by decide) 0 false

/-- The judge that joins is suspect no more, and no other mark moves. -/
theorem judgeJoined_suspect {s : State} (hj : s.get F.vote_OUT_JUDGE 0 < 3) (k : Nat) :
    ((judgeJoined s).get F.vote_SUSPECT 0).testBit k =
      ((s.get F.vote_SUSPECT 0).testBit k && decide (k < 3) && decide (k ≠ s.get F.vote_OUT_JUDGE 0)) := by
  have hstill : (judgeJoins s).get F.vote_SUSPECT 0 = s.get F.vote_SUSPECT 0 := by
    rw [judgeJoins, State.get_set_beside _ F.vote_PENDING_IN F.vote_SUSPECT 0 0 rfl rfl (by decide) (by decide),
      State.get_set_beside _ F.vote_DEGRADED F.vote_SUSPECT 0 0 rfl rfl (by decide) (by decide),
      State.get_set_beside _ F.vote_OUT_JUDGE F.vote_SUSPECT 0 3 rfl rfl (by decide) (by decide),
      State.get_set_beside _ F.vote_IN F.vote_SUSPECT 0 _ rfl rfl (by decide) (by decide)]
  have hmark : (judgeBack s).get F.vote_SUSPECT 0 = (s.get F.vote_SUSPECT 0 &&& (7 - 2 ^ s.get F.vote_OUT_JUDGE 0)) % 2 ^ 3 := by
    rw [← hstill]
    exact State.get_set_self _ F.vote_SUSPECT (by decide) 0 _
  rw [judgeJoined_get s F.vote_SUSPECT rfl (by decide), hmark, Nat.testBit_mod_two_pow, Nat.testBit_and, testBit_judges_but hj]
  cases decide (k < 3) <;> simp

/-- With AUTO_OUT 0, or no other judge suspect, firmware takes no judge out after the return. -/
theorem judgeJoined_autoOut {s : State} (hj : s.get F.vote_OUT_JUDGE 0 < 3)
    (hquiet : s.on F.vote_AUTO_OUT 0 = false ∨
      ∀ k, k < 3 → k ≠ s.get F.vote_OUT_JUDGE 0 → (s.get F.vote_SUSPECT 0).testBit k = false) :
    autoOut (judgeJoined s) = judgeJoined s := by
  obtain ⟨-, -, -, -, hauto⟩ := judgeJoined_returns s hj
  refine autoOut_idle (hquiet.imp hauto.trans fun hclear => Nat.eq_of_testBit_eq fun k => ?_)
  rw [judgeJoined_suspect hj, Nat.zero_testBit]
  by_cases hk : k < 3 ∧ k ≠ s.get F.vote_OUT_JUDGE 0
  · rw [hclear k hk.1 hk.2, Bool.false_and, Bool.false_and]
  · simp only [Bool.and_assoc, ← Bool.decide_and, decide_eq_false hk, Bool.and_false]

/-! ### JUDGE_IN_COMPLETE -/

section

variable {s : State} (hup : s.shedUp 3 = true) (hpending : s.on F.vote_PENDING_IN 0 = true)
include hup hpending

theorem judgeInComplete_waits (hleft : preRemains s = true) : exec .judgeInComplete s = .next s := by
  rw [exec, execJudgeInComplete, hup, hpending, hleft]
  rfl

theorem judgeInComplete_joins (hnone : preRemains s = false) (hj : s.get F.vote_OUT_JUDGE 0 < 3)
    (hquiet : s.on F.vote_AUTO_OUT 0 = false ∨
      ∀ k, k < 3 → k ≠ s.get F.vote_OUT_JUDGE 0 → (s.get F.vote_SUSPECT 0).testBit k = false) :
    exec .judgeInComplete s = .next (judgeJoined s) := by
  rw [exec, execJudgeInComplete, hup, hpending, hnone, judgeJoined_autoOut hj hquiet]
  rfl

end

end Sys2Proof.Machine
end

section
/-! PROOF. OVERRIDE_APPLY (R201, R363): the next word of a lane's queue taken, and the override state it leaves. -/

namespace Sys2Proof.Machine

theorem encLane_putEnc_self (s : State) (n : Nat) (x : EncLane) : (s.putEnc n x).encLane n = x := tget_tput_self _ _ _ _

theorem encLane_putEnc_ne (s : State) {n k : Nat} (x : EncLane) (h : k ≠ n) : (s.putEnc n x).encLane k = s.encLane k :=
  tget_tput_ne _ h _ _ _

/-- A lane's next word has left its queue and its override state is `new`; beside that the lane's own output may have changed. -/
structure OverrideTaken (s : State) (n : Nat) (rest : List Nat) (new : Nat) (t : State) : Prop where
  only : t = { s with regs := t.regs, enc := t.enc, drawn := t.drawn }
  regs : t.regs = (s.set F.enc_OVR n new).regs
  queue : (t.encLane n).ovrQ = rest
  others : ∀ k, k ≠ n → t.encLane k = s.encLane k

/-- The word taken and the override state written, the lane's output not yet changed. -/
def overrideEntered (s : State) (n : Nat) (rest : List Nat) (new : Nat) : State :=
  (s.putEnc n { s.encLane n with ovrQ := rest }).set F.enc_OVR n new

theorem overrideEntered_taken (s : State) (n : Nat) (rest : List Nat) (new : Nat) :
    OverrideTaken s n rest new (overrideEntered s n rest new) :=
  ⟨rfl, rfl, congrArg EncLane.ovrQ (encLane_putEnc_self s n _), fun _ hk => encLane_putEnc_ne s _ hk⟩

section

variable {s t : State} {n : Nat} {rest : List Nat} {new : Nat} (h : OverrideTaken s n rest new t)
include h

/-- The lane's output may change as long as its queue stands. -/
theorem OverrideTaken.putEnc {x : EncLane} (hx : x.ovrQ = (t.encLane n).ovrQ) : OverrideTaken s n rest new (t.putEnc n x) := by
  refine ⟨?_, h.regs, ?_, fun k hk => (encLane_putEnc_ne t x hk).trans (h.others k hk)⟩
  · rw [h.only]
    rfl
  · rw [encLane_putEnc_self, hx]
    exact h.queue

theorem OverrideTaken.ovr (hnew : new < 4) : t.get F.enc_OVR n = new :=
  (State.get_congr h.regs F.enc_OVR n).trans ((State.get_set_self s F.enc_OVR (by decide) n new).trans (Nat.mod_eq_of_lt hnew))

theorem OverrideTaken.keeps (hn : n < 65536) : keepsRegsBut [(F.enc_OVR, n)] s t :=
  keepsRegsBut_trans (keepsRegsBut_set s F.enc_OVR n new List.mem_cons_self hn (by decide)) (keepsRegsBut_of_regs h.regs)

end

/-! ### PWM outputs (R363) -/

/-- What a new override state does at once to the output of a PWM lane. -/
def pwmOverridden (t : State) (n old new : Nat) : State :=
  let u := if old == 0 && new != 0 then keepPipeline t n else t
  if new == 1 && old != 1 then egressPwm u n
  else if new == 2 then u.putEnc n { u.encLane n with h := 0, active := false, shown := 2 }
  else u

theorem OverrideTaken.pwm {s t : State} {n new : Nat} {rest : List Nat} (h : OverrideTaken s n rest new t) (old now : Nat) :
    OverrideTaken s n rest new (pwmOverridden t n old now) := by
  have hkept : OverrideTaken s n rest new (if old == 0 && now != 0 then keepPipeline t n else t) := by
    split
    · exact h.putEnc rfl
    · exact h
  unfold pwmOverridden
  dsimp only
  generalize (if old == 0 && now != 0 then keepPipeline t n else t) = u at hkept ⊢
  split_ifs
  · exact hkept.putEnc rfl
  · exact hkept.putEnc rfl
  · exact hkept

theorem pwmOverridden_blackout (t : State) (n old : Nat) :
    ((pwmOverridden t n old 2).encLane n).h = 0 ∧ ((pwmOverridden t n old 2).encLane n).active = false := by
  have hdark : ∃ u, pwmOverridden t n old 2 = State.putEnc u n { u.encLane n with h := 0, active := false, shown := 2 } := ⟨_, rfl⟩
  obtain ⟨u, hu⟩ := hdark
  rw [hu, encLane_putEnc_self]
  exact ⟨rfl, rfl⟩

/-! ### The state after a word (R201) -/

/-- EGRESS_FULL holds against BLACKOUT and HOLD while it is latched. -/
def egressHolds (s : State) (n w : Nat) : Prop := s.get F.enc_OVR n = 1 ∧ (w = 2 ∨ w = 3) ∧ s.on F.vote_EGRESS_LATCH 0 = true

theorem overrideNext_held {s : State} {n w : Nat} (h : egressHolds s n w) : overrideNext s n w = 1 := by
  obtain ⟨hfull, hword, hlatch⟩ := h
  simp [overrideNext, hfull, hword, hlatch]

theorem overrideNext_free {s : State} {n w : Nat} (h : ¬ egressHolds s n w) : overrideNext s n w = w % 4 := by
  refine if_neg fun hheld => h ?_
  simpa [egressHolds, and_assoc] using hheld

theorem overrideNext_lt (s : State) (n w : Nat) : overrideNext s n w < 4 := by
  by_cases h : egressHolds s n w
  · rw [overrideNext_held h]
    decide
  · rw [overrideNext_free h]
    exact Nat.mod_lt _ (by decide)

/-! ### OVERRIDE_APPLY -/

section

variable {s : State} {n w : Nat} {rest : List Nat} (hqueue : (s.encLane n).ovrQ = w :: rest)
include hqueue

/-- A lane in no pixel or PWM mode drops the word. -/
theorem applyOverride_dropped (hmode : pixelMode (encMode s n) = false) :
    applyOverride s n false = s.putEnc n { s.encLane n with ovrQ := rest } := by
  simp [applyOverride, hqueue, hmode]

theorem applyOverride_eq (hmode : pixelMode (encMode s n) = true) : applyOverride s n false =
    if encMode s n == 8 then
      pwmOverridden (overrideEntered s n rest (overrideNext s n w)) n (s.get F.enc_OVR n) (overrideNext s n w)
    else overrideEntered s n rest (overrideNext s n w) := by
  simp only [applyOverride, hqueue, hmode, Bool.not_true, Bool.false_eq_true, if_false]
  rfl

theorem applyOverride_taken (hmode : pixelMode (encMode s n) = true) :
    OverrideTaken s n rest (overrideNext s n w) (applyOverride s n false) := by
  rw [applyOverride_eq hqueue hmode]
  split
  · exact (overrideEntered_taken s n rest _).pwm _ _
  · exact overrideEntered_taken s n rest _

/-- BLACKOUT takes a PWM lane's output down at once. -/
theorem applyOverride_blackout (hmode : encMode s n = 8) (hnew : overrideNext s n w = 2) :
    ((applyOverride s n false).encLane n).h = 0 ∧ ((applyOverride s n false).encLane n).active = false := by
  rw [applyOverride_eq hqueue (by rw [hmode]; rfl), hmode, hnew]
  exact pwmOverridden_blackout _ n _

variable (hpixel : s.part.hasPixel = true) (hup : s.shedUp 5 = true)
include hpixel hup

omit hqueue in
theorem overrideApply_exec : exec (.overrideApply n false) s = .next (applyOverride s n false) := by
  rw [exec, execOverrideApply, hpixel, hup]
  rfl

theorem overrideApply_drops (hmode : pixelMode (encMode s n) = false) : ∃ t, exec (.overrideApply n false) s = .next t ∧
    t = { s with enc := t.enc } ∧ t.encLane n = { s.encLane n with ovrQ := rest } := by
  refine ⟨s.putEnc n { s.encLane n with ovrQ := rest }, ?_, rfl, encLane_putEnc_self s n _⟩
  rw [overrideApply_exec hpixel hup, applyOverride_dropped hqueue hmode]

theorem overrideApply_enters (hn : n < 96) (hmode : pixelMode (encMode s n) = true) :
    ∃ t, exec (.overrideApply n false) s = .next t ∧ t = { s with regs := t.regs, enc := t.enc, drawn := t.drawn } ∧
      (egressHolds s n w → t.get F.enc_OVR n = 1) ∧ (¬ egressHolds s n w → t.get F.enc_OVR n = w % 4) ∧
      (t.encLane n).ovrQ = rest ∧ (∀ k, k ≠ n → t.encLane k = s.encLane k) ∧ keepsRegsBut [(F.enc_OVR, n)] s t ∧
      (encMode s n = 8 → w % 4 = 2 → t.get F.enc_OVR n = 2 → (t.encLane n).h = 0 ∧ (t.encLane n).active = false) := by
  have htaken := applyOverride_taken hqueue hmode
  have hovr := htaken.ovr (overrideNext_lt s n w)
  exact ⟨_, overrideApply_exec hpixel hup, htaken.only, fun hheld => hovr.trans (overrideNext_held hheld),
    fun hfree => hovr.trans (overrideNext_free hfree), htaken.queue, htaken.others, htaken.keeps (by omega),
    fun hpwm _ hdark => applyOverride_blackout hqueue hpwm (hovr.symm.trans hdark)⟩

end

end Sys2Proof.Machine
end

section
/-! PROOF. The voter and the overrides (R189 to R209, R363): the parts of the statement. -/

namespace Sys2Proof.Machine

/-- Settles O50: a vote of three judges ends agreed, with a lone dissent or without a majority; a judge's return by the registers it
leaves; an override by the word that the lane takes. -/
theorem votesNeedAMajorityOfTheJudges : Obligations.VotesNeedAMajorityOfTheJudges := by
  intro s hup2 hup3 hup4
  refine ⟨fun u hnone => vote_nothing hup2 hup3 hup4 hnone u, ?_, judgeInComplete_waits hup3, ?_, ?_⟩
  case refine_1 =>
    intro b rest c hwaits hkept hcap hbad hmbox hhit hforward hclass hhook _ _ _ hovr hstalls hin hsuspect
    have hvote : ClassZeroVote s b rest c :=
      ⟨hwaits, hkept, hcap, hbad, hmbox, hhit, hforward, hclass, hhook, hovr, hstalls, hin, hsuspect⟩
    exact ⟨vote_agrees hup2 hup3 hup4 hvote, fun _ _ => vote_dissents hup2 hup3 hup4 hvote,
      fun _ _ => vote_noMajority hup2 hup3 hup4 hvote⟩
  case refine_2 =>
    intro hpending hnone hj hquiet
    obtain ⟨-, hout, hdone, hscore, -⟩ := judgeJoined_returns s hj
    refine ⟨judgeJoined s, judgeInComplete_joins hup3 hpending hnone hj hquiet, judgeJoined_in s hj, hout, judgeJoined_degraded s,
      hdone, hscore, ?_, logJudge_flag _ (by decide) 5 _⟩
    rw [judgeJoined_suspect hj, decide_eq_false (not_not.2 rfl), Bool.and_false]
  case refine_3 =>
    intro n w rest hn hpixel hup5 hqueue
    exact ⟨overrideApply_drops hqueue hpixel hup5, overrideApply_enters hqueue hpixel hup5 hn⟩

end Sys2Proof.Machine
end
